-- ==== Sys2Proof/Word.lean ====
section
/-!
DEFINITION. The byte and byte-string types of the module, and their plainest arithmetic.
Multi-byte fields are little-endian (01 R10), so a field is read as a number from its lowest byte up.
-/
namespace Sys2Proof

/-- One byte. -/
abbrev Byte := BitVec 8

/-- A string of bytes: a command entry, an extended block, a record. -/
abbrev Bytes := List Byte

/-- The little-endian number of `n` bytes from place `off`; a byte beyond the end counts as 0 (01 R10). -/
def rdLE (b : Bytes) (off : Nat) : Nat → Nat
  | 0 => 0
  | n + 1 => (b.getD off 0).toNat + 256 * rdLE b (off + 1) n

/-- The `n` little-endian bytes of a number, its low-order bytes (01 R10). -/
def wrLE : Nat → Nat → Bytes
  | 0, _ => []
  | n + 1, v => BitVec.ofNat 8 v :: wrLE n (v / 256)

@[simp] theorem wrLE_length (n v : Nat) : (wrLE n v).length = n := by
  induction n generalizing v with
  | zero => rfl
  | succ n ih => simp [wrLE, ih]

/-- Bit `i` of a number. -/
def natBit (v i : Nat) : Bool := v / 2 ^ i % 2 == 1

/-- Bits `lo` to `lo + n - 1` of a number. -/
def natBits (v lo n : Nat) : Nat := v / 2 ^ lo % 2 ^ n

/-- A bit as a number. -/
def bit01 (b : Bool) : Nat := if b then 1 else 0

/-- The two's-complement reading of a `w`-bit field. -/
def signedOf (w v : Nat) : Int := if v < 2 ^ (w - 1) then (v : Int) else (v : Int) - 2 ^ w

/-- The two's-complement pattern of an integer in `w` bits. -/
def patternOf (w : Nat) (v : Int) : Nat := (v % (2 ^ w : Int)).toNat

/-- A count that saturates at `top`. -/
def satAdd (top a b : Nat) : Nat := if a + b ≤ top then a + b else top

/-- The largest 64-bit count. -/
def max64 : Nat := 2 ^ 64 - 1

/-- Division rounded up; a zero divisor answers 0. -/
def ceilDiv (a b : Nat) : Nat := (a + b - 1) / b

/-- `a` rounded up to a multiple of `m`. -/
def roundUp (a m : Nat) : Nat := ceilDiv a m * m

end Sys2Proof
end

