-- ==== Sys2Proof/Syntax.lean ====
section
/-!
DEFINITION. The commands and happenings the module takes from outside: one constructor for each row of the spec's table of
operations and events. `t` is the Beam moment, in units of 2^-16 ns, at which the step comes about. A Ranrok command (02 to
17) carries the ring that held its entry and the 64 bytes of that entry (11 R321); its extended block lies in the HDM
window. The other operands are what reaches the module from outside in that step: a register's new value, a packet's
fields, a measurement. An operand of type Unit stands where nothing more comes from outside: the state gives what the row needs.
-/
namespace Sys2Proof

/-- What an Announce carries beside its data set (02 R46, Table 2.3): the interval it announces, and the SMPTE ST 2059-2 management TLV where
the master has sent one. -/
structure AnnounceInfo where
  logAnnounce : Int
  tlv : Option Bytes
  deriving DecidableEq, Repr

/-- 10 MHz in has returned (02 R59): the moment, and its frequency measured against the Beam, in ppb. -/
structure TenMhzReturn where
  t : Nat
  ppb : Int
  deriving DecidableEq, Repr

/-- A vector that a part of a block is predicted with (05 R134): the reference's frame, the sample column just right of the part, the AFE candidate that the
vector comes from, at the channel's picture size, and the vector coded; vectors in quarter samples. -/
structure BlockPred where
  ref : Nat
  edge : Nat
  candX : Int
  candY : Int
  x : Int
  y : Int
  deriving DecidableEq, Repr

/-- A block that a PE delivers to the bitstream unit (05 R150; 06 R183): the bits of its tile column's part of the row after it, the PE, whether it lies in the
right tile column (05 R137), its vectors, and the block columns whose samples its intra prediction uses; a block without vectors is intra. -/
structure CodedBlock where
  bits : Nat
  pe : Nat
  right : Bool
  preds : List BlockPred
  around : List Nat
  deriving DecidableEq, Repr

/-- What RCT firmware has written for a frame before its first row mark (06 R180, R181): QP, TARGET_BITS, rct_ceiling, and the bits of its headers without
captions. -/
structure RctWrite where
  qp : Nat
  target : Nat
  ceiling : Nat
  headerBits : Nat
  deriving DecidableEq, Repr

/-- What the engines measured of a rendition's picture (Table 5.11): QP average in 8.8, lowest and highest, and the squared errors of luma and chroma. -/
structure Quality where
  qpAvg : Nat
  qpMin : Nat
  qpMax : Nat
  sseY : Nat
  sseC : Nat
  deriving DecidableEq, Repr

/-- A motion-field block as the AFE measured it (Table 5.12). -/
structure MotionBlock where
  x0 : Int
  y0 : Int
  x1 : Int
  y1 : Int
  sad : Nat
  deriving DecidableEq, Repr

/-- A complexity region as the AFE measured it (Table 5.13). -/
structure Region where
  satd : Nat
  activity : Nat
  intra : Nat
  inter : Nat
  deriving DecidableEq, Repr

/-- An uncorrected SRAM error (01 R26): the syndrome, and for a PE of a rod the rows that it was working on (rendition, frame, row). -/
structure SramHit where
  syndrome : Nat
  rows : List (Nat × Nat × Nat)
  deriving DecidableEq, Repr

/-- A sample position of a video line: Y', Cb and Cr (03 R70). In a line of 4:2:2 both positions of a pair hold the pair's chroma, and in a picture of 4:2:0
both lines of a pair do. -/
structure Pix where
  y : Nat
  cb : Nat
  cr : Nat
  deriving DecidableEq, Repr

/-- Samples of a line as an ingest packet brings them, in its flow's depth (03 R76): the line, the first position, and what the positions hold. -/
structure SampleRun where
  line : Nat
  first : Nat
  pix : List Pix
  deriving DecidableEq, Repr

/-- The profiles that a stream may signal (03 R70, R90), and whether AES3 data is linear PCM (14 R424). -/
inductive Profile where
  | xsMain | xsHigh | avcHigh10 | avcHigh422 | hevcMain | hevcMain10 | hevcMain422 | vvcMain10 | vvcMain444 | av1Main | av1Professional | aes3Pcm | aes3Data | other
  deriving DecidableEq, Repr

/-- What a stream of KIND 1 to 4 signals of itself (03 R90, R98), or of KIND 6 by its profile alone (14 R424): coding (Table 3.10), profile, level times ten, size, sampling and depth. -/
structure StreamSig where
  coding : Nat
  profile : Profile
  level : Nat
  width : Nat
  height : Nat
  sampling : Nat
  depth : Nat
  deriving DecidableEq, Repr

/-- A picture as its decoder has it (03 R92, R94): its lines, the areas (line, first position, count) that failed to decode, the lines (first, count) that each of
its packets carried, and the caption data of its stream. -/
structure DecodedPicture where
  lines : List (List Pix)
  lost : List (Nat × Nat × Nat)
  packets : List (Nat × Nat)
  t35 : Bytes
  deriving DecidableEq, Repr

/-- What the host has stored before it writes a tail word (03 R84): descriptors, and the bytes of frames and trailers, by address. -/
structure HostStores where
  descs : List Bytes
  data : List (Nat × Bytes)
  deriving DecidableEq, Repr

/-- A step of the module. -/
inductive Instr where
  /-- R351. Writes the 512-byte interface record, with versions, deadlines and the opcode map, to an HDM offset. -/
  | ranrokInfoGet (t : Nat) (ring : Fin 4) (entry : Bytes)
  /-- R352. Changes nothing; its final record marks that every earlier final of its ring has been decided. -/
  | ranrokNop (t : Nat) (ring : Fin 4) (entry : Bytes)
  /-- R454. Requests one of the allowed mode transitions, optionally starting a mask of channels or naming a drain's next mode. -/
  | modeSet (t : Nat) (ring : Fin 4) (entry : Bytes)
  /-- R461. Schedules or cancels a live start at START_TIME and chooses the deepest rest mode that can still wake in time. -/
  | scheduledStartSet (t : Nat) (ring : Fin 4) (entry : Bytes)
  /-- R464. Opens, replaces or ends a quiet window in which islands may rest deeper. -/
  | quietWindowSet (t : Nat) (ring : Fin 4) (entry : Bytes)
  /-- R471. Writes the device status record (mode, throttle, power, temperatures, islands) to an HDM offset. -/
  | deviceStatusGet (t : Nat) (ring : Fin 4) (entry : Bytes)
  /-- R470. Lowers or restores the warning and throttle thresholds of one sensor. -/
  | thermalLimitSet (t : Nat) (ring : Fin 4) (entry : Bytes)
  /-- R160. Creates or changes a channel record; only some fields may change while the channel is live. -/
  | channelSet (t : Nat) (ring : Fin 4) (entry : Bytes)
  /-- R158. Admits and starts a DEFINED channel at the first suitable tick, with IDR first pictures. -/
  | channelStart (t : Nat) (ring : Fin 4) (entry : Bytes)
  /-- R159. Stops a channel at a frame boundary; the last frame completes and launches, and the channel then returns to DEFINED. -/
  | channelStop (t : Nat) (ring : Fin 4) (entry : Bytes)
  /-- R167. Removes a DEFINED channel and its renditions. -/
  | channelClear (t : Nat) (ring : Fin 4) (entry : Bytes)
  /-- R160. Creates or changes a rendition record, with admission when its channel is live. -/
  | renditionSet (t : Nat) (ring : Fin 4) (entry : Bytes)
  /-- R160. Removes a rendition and its service; on a live channel it codes its last picture before the frame of effect. -/
  | renditionClear (t : Nat) (ring : Fin 4) (entry : Bytes)
  /-- R152. Stages a channel's engine slot mask on one of its rods after the group check of R151. -/
  | slotmaskSet (t : Nat) (ring : Fin 4) (entry : Bytes)
  /-- R149. Re-homes a live channel on named rods at a frame boundary after admission. -/
  | channelMove (t : Nat) (ring : Fin 4) (entry : Bytes)
  /-- R161. Makes the picture of the frame of effect an IDR or AV1 key frame. -/
  | renditionIdr (t : Nat) (ring : Fin 4) (entry : Bytes)
  /-- R167. Writes a rendition's status record, including DMIN, S and the ratios. -/
  | renditionStatusGet (t : Nat) (ring : Fin 4) (entry : Bytes)
  /-- R167. Writes a rod's status record. -/
  | rodStatusGet (t : Nat) (ring : Fin 4) (entry : Bytes)
  /-- R97. Creates or changes an ingest flow record from an extended block. -/
  | ingestFlowSet (t : Nat) (ring : Fin 4) (entry : Bytes)
  /-- R97. Removes an unbound ingest flow record. -/
  | ingestFlowClear (t : Nat) (ring : Fin 4) (entry : Bytes)
  /-- R98. Binds a channel's video source, ancillary flow, slate and fill parameters, and puts the channel in freeze on a source change. -/
  | ingestBind (t : Nat) (ring : Fin 4) (entry : Bytes)
  /-- R84. Sets a channel's host frame descriptor ring. -/
  | hostringSet (t : Nat) (ring : Fin 4) (entry : Bytes)
  /-- R99. Copies one frame from the HDM window into the slate store. -/
  | slateLoad (t : Nat) (ring : Fin 4) (entry : Bytes)
  /-- R100. Writes a flow status record to an HDM offset. -/
  | ingestStatusGet (t : Nat) (ring : Fin 4) (entry : Bytes)
  /-- R132. Replaces the whole L1–L6 configuration, checked under R115 and flattened where needed. -/
  | compLayersSet (t : Nat) (ring : Fin 4) (entry : Bytes)
  /-- R132. Replaces one layer's record. -/
  | compLayerUpdate (t : Nat) (ring : Fin 4) (entry : Bytes)
  /-- R108. Re-flattens a channel's static layers from their current surfaces. -/
  | compReflatten (t : Nat) (ring : Fin 4) (entry : Bytes)
  /-- R120. Sets a channel's confidence output mode, proxy ring or clean-programme output. -/
  | compConfidenceSet (t : Nat) (ring : Fin 4) (entry : Bytes)
  /-- R124. Registers an operator key under an owner-signed block. -/
  | sealKeyRegister (t : Nat) (ring : Fin 4) (entry : Bytes)
  /-- R124. Revokes an operator key under an owner-signed block. -/
  | sealKeyRevoke (t : Nat) (ring : Fin 4) (entry : Bytes)
  /-- R126. Verifies a signed sealed asset and stores it in two interleave groups. -/
  | sealAssetLoad (t : Nat) (ring : Fin 4) (entry : Bytes)
  /-- R127. Verifies a signed activation of a sealed asset over a channel mask and a time window. -/
  | sealActivate (t : Nat) (ring : Fin 4) (entry : Bytes)
  /-- R128. Verifies a signed clear that ends earlier activations on a channel mask from EFFECT. -/
  | sealClear (t : Nat) (ring : Fin 4) (entry : Bytes)
  /-- R125. The security core finishes verifying a signed block and the command is answered. -/
  | sealBlockVerified (t : Nat) (checked : Unit)
  /-- R233. Creates or changes a rendition's service, with launch-store and journal checks. -/
  | serviceSet (t : Nat) (ring : Fin 4) (entry : Bytes)
  /-- R233. Removes a service that has no enabled subscribers. -/
  | serviceClear (t : Nat) (ring : Fin 4) (entry : Bytes)
  /-- R219. Creates or changes a subscriber at a frame boundary, with the port-rate check of R230. -/
  | subscriberSet (t : Nat) (ring : Fin 4) (entry : Bytes)
  /-- R219. Removes a subscriber at a frame boundary. -/
  | subscriberClear (t : Nat) (ring : Fin 4) (entry : Bytes)
  /-- R229. Writes an SRTP master key into the idle slot with an EFFECT time. -/
  | subscriberKeySet (t : Nat) (ring : Fin 4) (entry : Bytes)
  /-- R231. Sets a clean-programme output's addressing and format. -/
  | programmeOutSet (t : Nat) (ring : Fin 4) (entry : Bytes)
  /-- R233. Writes a service status record. -/
  | serviceStatusGet (t : Nat) (ring : Fin 4) (entry : Bytes)
  /-- R233. Writes a subscriber status record. -/
  | subscriberStatusGet (t : Nat) (ring : Fin 4) (entry : Bytes)
  /-- R240. Sets a port's LAUNCH_SLACK_NS. -/
  | portSchedSet (t : Nat) (ring : Fin 4) (entry : Bytes)
  /-- R246. Adds, changes or removes a token-bucket shaper on a scheduler node. -/
  | shaperSet (t : Nat) (ring : Fin 4) (entry : Bytes)
  /-- R237. Sets a node's DWRR quantum. -/
  | dwrrSet (t : Nat) (ring : Fin 4) (entry : Bytes)
  /-- R250. Accepts a pending gate list and fixes its start time, discarding any earlier pending list. -/
  | gateListSet (t : Nat) (ring : Fin 4) (entry : Bytes)
  /-- R251. Discards a port's pending gate list. -/
  | gateListCancel (t : Nat) (ring : Fin 4) (entry : Bytes)
  /-- R253. Sets an ingress policer, with its buckets starting full. -/
  | policerSet (t : Nat) (ring : Fin 4) (entry : Bytes)
  /-- R259. Sets, enables or disables a host transmit queue; disabling flushes descriptors not yet fetched. -/
  | hostqTxSet (t : Nat) (ring : Fin 4) (entry : Bytes)
  /-- R261. Sets, enables or disables a host receive queue. -/
  | hostqRxSet (t : Nat) (ring : Fin 4) (entry : Bytes)
  /-- R257. Sets a receive filter. -/
  | rxFilterSet (t : Nat) (ring : Fin 4) (entry : Bytes)
  /-- R261. Writes a port scheduler status record. -/
  | schedStatusGet (t : Nat) (ring : Fin 4) (entry : Bytes)
  /-- R44. Sets the servo parameters, which apply at the next servo update. -/
  | timeServoSet (t : Nat) (ring : Fin 4) (entry : Bytes)
  /-- R41. Sets a PTP domain's parameters; a change of the selected domain's settings invalidates it. -/
  | timeDomainSet (t : Nat) (ring : Fin 4) (entry : Bytes)
  /-- R48. Sets AUTO or forces a time source. -/
  | timeSourceSelect (t : Nat) (ring : Fin 4) (entry : Bytes)
  /-- R56. Writes a port's latencies for one rate and its link asymmetry. -/
  | timeAsymSet (t : Nat) (ring : Fin 4) (entry : Bytes)
  /-- R65. Steps the Beam by an amount or to a time, at once or at a stated time. -/
  | timeStep (t : Nat) (ring : Fin 4) (entry : Bytes)
  /-- R60. Sets a capture unit's source, releases it and clears MISSED. -/
  | timeCaptureSet (t : Nat) (ring : Fin 4) (entry : Bytes)
  /-- R60. Makes a command capture on a unit whose source is command. -/
  | timeCaptureNow (t : Nat) (ring : Fin 4) (entry : Bytes)
  /-- R61. Arms a one-shot or periodic trigger slot with an action. -/
  | timeTriggerSet (t : Nat) (ring : Fin 4) (entry : Bytes)
  /-- R61. Disarms a trigger slot. -/
  | timeTriggerClear (t : Nat) (ring : Fin 4) (entry : Bytes)
  /-- R58. Sets 1PPS and 10 MHz input and output options. -/
  | timeRefioSet (t : Nat) (ring : Fin 4) (entry : Bytes)
  /-- R266. Sets the port layout of a cage; its ports go down and train. -/
  | cageSet (t : Nat) (ring : Fin 4) (entry : Bytes)
  /-- R271. Sets a port's address, direction, FEC, MTU and enable. -/
  | portSet (t : Nat) (ring : Fin 4) (entry : Bytes)
  /-- R273. Selects the network PLL source and the ESMC settings. -/
  | synceSet (t : Nat) (ring : Fin 4) (entry : Bytes)
  /-- R276. Sets a lane's pattern generator, checker, loopback and error injection, or ends the test. -/
  | laneTestSet (t : Nat) (ring : Fin 4) (entry : Bytes)
  /-- R280. Recalibrates every lane of a port and retrains it. -/
  | laneRecal (t : Nat) (ring : Fin 4) (entry : Bytes)
  /-- R284. Runs pattern tests on host lanes in MAINTAIN; the link drops and then retrains. -/
  | hostlaneTest (t : Nat) (ring : Fin 4) (entry : Bytes)
  /-- R286. Writes a port status record. -/
  | portStatusGet (t : Nat) (ring : Fin 4) (entry : Bytes)
  /-- R286. Writes a network or host lane status record. -/
  | laneStatusGet (t : Nat) (ring : Fin 4) (entry : Bytes)
  /-- R378. Retires an interleave group by draining it or at once. -/
  | memGroupRetire (t : Nat) (ring : Fin 4) (entry : Bytes)
  /-- R379. Retrains every channel of a group that is out of service. -/
  | memGroupRetrain (t : Nat) (ring : Fin 4) (entry : Bytes)
  /-- R379. Runs a March test over a group that is out of service. -/
  | memGroupTest (t : Nat) (ring : Fin 4) (entry : Bytes)
  /-- R380. Returns a tested group to service. -/
  | memGroupRestore (t : Nat) (ring : Fin 4) (entry : Bytes)
  /-- R358. Sets a group's interleave grain. -/
  | memGrainSet (t : Nat) (ring : Fin 4) (entry : Bytes)
  /-- R373. Writes a DRAM channel's diagnostic record. -/
  | memChannelDiagGet (t : Nat) (ring : Fin 4) (entry : Bytes)
  /-- R382. Writes a group status record. -/
  | memStatusGet (t : Nat) (ring : Fin 4) (entry : Bytes)
  /-- R399. Runs the energy test and opens a write session with a granted cache size. -/
  | journalSessionOpen (t : Nat) (ring : Fin 4) (entry : Bytes)
  /-- R414. Flushes the cache and closes the write session. -/
  | journalSessionClose (t : Nat) (ring : Fin 4) (entry : Bytes)
  /-- R384. Sets a service's journal class and retention. -/
  | journalServiceSet (t : Nat) (ring : Fin 4) (entry : Bytes)
  /-- R388. Pins a time range of a service's records under a mark. -/
  | journalMarkPin (t : Nat) (ring : Fin 4) (entry : Bytes)
  /-- R388. Releases a pin mark. -/
  | journalMarkRelease (t : Nat) (ring : Fin 4) (entry : Bytes)
  /-- R406. Starts replaying a source's committed records to a target service. -/
  | journalReplayStart (t : Nat) (ring : Fin 4) (entry : Bytes)
  /-- R408. Stops a replay at once or at a time. -/
  | journalReplayStop (t : Nat) (ring : Fin 4) (entry : Bytes)
  /-- R409. Exports a source's committed records into the HDM window. -/
  | journalExport (t : Nat) (ring : Fin 4) (entry : Bytes)
  /-- R400. Runs the hold-up energy test and regrants the cache size. -/
  | energyTest (t : Nat) (ring : Fin 4) (entry : Bytes)
  /-- R414. Writes a journal or service journal status record. -/
  | journalStatusGet (t : Nat) (ring : Fin 4) (entry : Bytes)
  /-- R412. Starts a COMPUTE or VERIFY run, or a release, on a host check context. -/
  | checkContextSet (t : Nat) (ring : Fin 4) (entry : Bytes)
  /-- R411. Writes a check context record once its run has ended. -/
  | checkContextGet (t : Nat) (ring : Fin 4) (entry : Bytes)
  /-- R431. Sets an audio port's role, format, rate and output routing. -/
  | audioPortSet (t : Nat) (ring : Fin 4) (entry : Bytes)
  /-- R425. Creates, changes or removes an audio source made of stereo pairs. -/
  | audioSourceSet (t : Nat) (ring : Fin 4) (entry : Bytes)
  /-- R428. Sets a source's gain, PCM depth and AAC bandwidth. -/
  | audioEncoderSet (t : Nat) (ring : Fin 4) (entry : Bytes)
  /-- R431. Writes a port or source audio status record. -/
  | audioStatusGet (t : Nat) (ring : Fin 4) (entry : Bytes)
  /-- R450. Sets enable, route and vector for a range of event sources. -/
  | eventRouteSet (t : Nat) (ring : Fin 4) (entry : Bytes)
  /-- R436. Sets the event log ring. -/
  | eventLogSet (t : Nat) (ring : Fin 4) (entry : Bytes)
  /-- R451. Sets a word queue's producer and enable. -/
  | wqueueSet (t : Nat) (ring : Fin 4) (entry : Bytes)
  /-- R446. Flushes a word queue up to the producer's next END. -/
  | wqueueFlush (t : Nat) (ring : Fin 4) (entry : Bytes)
  /-- R475. Returns, drains or takes a unit out of service. -/
  | unitServiceSet (t : Nat) (ring : Fin 4) (entry : Bytes)
  /-- R479. Verifies a signed image and writes it into its kind's inactive slot. -/
  | fwImageStage (t : Nat) (ring : Fin 4) (entry : Bytes)
  /-- R479. Activates the staged image of a kind, with the update path of that kind. -/
  | fwActivate (t : Nat) (ring : Fin 4) (entry : Bytes)
  /-- R485. Runs memory or analogue self-test on a unit or on the whole module. -/
  | selftestRun (t : Nat) (ring : Fin 4) (entry : Bytes)
  /-- R488. Writes one of the last 8 self-test result records. -/
  | selftestResultGet (t : Nat) (ring : Fin 4) (entry : Bytes)
  /-- R475. Writes a unit status record. -/
  | unitStatusGet (t : Nat) (ring : Fin 4) (entry : Bytes)
  /-- R492. Copies the kept diagnostic state into the HDM window. -/
  | diagExport (t : Nat) (ring : Fin 4) (entry : Bytes)
  /-- R314. Runs a Ranrok command carried in an MCTP type 0x7E message and returns its completion. -/
  | mctpVendorMessage (t : Nat) (entry : Bytes)
  /-- R313. Answers a PLDM sensor read over MCTP. -/
  | pldmSensorRequest (t : Nat) (sensor : Nat)
  /-- R312. Answers an MCTP control message. -/
  | mctpControlMessage (t : Nat) (code : Nat)
  /-- R304. Takes a DOE data object and answers it for a supported protocol. -/
  | doeRequest (t : Nat) (vendor type : Nat)
  /-- R305, R491. The security core answers an SPDM request over DOE or MCTP: its code, and the session's number with the request's Param2. -/
  | spdmRequest (t : Nat) (mctp : Bool) (code : Nat) (session : Nat × Nat)
  /-- R306. Establishes, refreshes or ends an IDE stream key in a secured session. -/
  | ideKmRequest (t : Nat) (session : Nat) (cxl : Bool) (action : Fin 3)
  /-- R320. The module takes the head entry of a ring, checks it and answers it. -/
  | cmdEntryTake (t : Nat) (estimates : List Nat) (hint : Nat)
  /-- R328. A held unit frees and the waiting command runs. -/
  | unitReleased (t : Nat)
  /-- R318. A write of CRn_TAIL posts entries, stamped with its Beam time. -/
  | cmdRingDoorbell (t : Nat) (ring : Fin 4) (tail : BitVec 32)
  /-- R319. A write of CRn_CFG changes the ring's enable or size. -/
  | ringCfgWrite (t : Nat) (ring : Fin 4) (value : BitVec 64)
  /-- R326. Writing 1 to BUSY_STOP restarts a stopped ring. -/
  | busyStopClear (t : Nat) (ring : Fin 4)
  /-- R338. Host software reports consumed completion records. -/
  | cqReadWrite (t : Nat) (value : BitVec 32)
  /-- R338. A write of CQ_BASE or CQ_CFG sets the completion ring, ignored while slots are held. -/
  | cqConfigWrite (t : Nat) (cfg : Bool) (value : BitVec 64)
  /-- R66. A read of LATCHn_LO captures the whole Beam time word. -/
  | timeLatchRead (t : Nat) (latch : Fin 4)
  /-- R60. Writing 1 to FULL releases a capture unit. -/
  | captureRelease (t : Nat) (unit : Fin 8)
  /-- R258. A write of TXQq_TAIL posts transmit descriptors. -/
  | hostqTxDoorbell (t : Nat) (queue : Fin 64) (tail : BitVec 32) (descs : List Bytes)
  /-- R258. A write of RXQq_TAIL posts receive descriptors. -/
  | hostqRxDoorbell (t : Nat) (queue : Fin 64) (tail : BitVec 32) (descs : List Bytes)
  /-- R434. A W1C of EVTs_STATUS or PENDING_SUMMARY clears PENDING or REPEAT. -/
  | eventPendingClear (t : Nat) (summary : Bool) (index : Fin 512) (value : BitVec 64)
  /-- R442. A 64-bit read of the alias returns a tally and clears it with its carry bit. -/
  | tallySnapshotClear (t : Nat) (index : Fin 896)
  /-- R444. A 64-bit read of WQq_DATA pops one word, or returns 0 and sets POP_EMPTY. -/
  | wqDataPop (t : Nat) (queue : Fin 64)
  /-- R16. A BAR0 access of unsupported size or alignment completes without effect and raises E437. -/
  | bar0BadAccess (t : Nat) (offset : Nat)
  /-- R13. A write to any BAR0 register without a row of its own acts by its access code. -/
  | registerWrite (t : Nat) (offset : Nat) (value : BitVec 64) (wide : Bool)
  /-- R302. A host read of the window, returning poison for errors or retired quarters. -/
  | hdmWindowRead (t : Nat) (offset bytes : Nat)
  /-- R302. A host write to the window, merged, poisoned or discarded as the rules state. -/
  | hdmWindowWrite (t : Nat) (offset : Nat) (data : Bytes)
  /-- R291. A host write to a tail word invalidates the held line, and the module fetches descriptors. -/
  | snoopInvalidate (t : Nat) (channel : Fin 64) (tail : BitVec 64) (stores : HostStores)
  /-- R310. Host sets Bus Master Enable; DMA resumes and pending MSI-X vectors send. -/
  | busMasterEnable (t : Nat) (on : Bool)
  /-- R303. Unmasking a pending vector sends one message. -/
  | msixUnmask (t : Nat) (vector : Fin 256) (masked func : Bool)
  /-- R294. Entering D3hot stops DMA and MSI-X; returning to D0 restores them. -/
  | powerStateChange (t : Nat) (d3hot : Bool)
  /-- R45. A domain's estimator takes a Sync and its delay exchange and computes an offset. -/
  | syncReceived (t : Nat) (domain : Fin 2) (port : Fin 32) (logSync : Int) (sec1 sub1 t2 t3 sec4 sub4 : Nat)
  /-- R511. Every FILTER_N Syncs, or each external second, the servo updates its frequency adjustment. -/
  | servoUpdate (t : Nat) (domain : Fin 2)
  /-- R41. A qualifying Announce makes a domain valid, moves its active port or reveals a grandmaster change. -/
  | announceReceived (t : Nat) (domain : Fin 2) (port : Fin 32) (clockClass gm rank : Nat) (info : AnnounceInfo)
  /-- R47. A port's announce timeout passes; the domain moves port or becomes invalid. -/
  | announceTimeout (t : Nat) (domain : Fin 2) (port : Fin 32)
  /-- R48. The preferred revertive domain has been valid for REVERT_HOLD_S and is selected. -/
  | revertHoldExpiry (t : Nat)
  /-- R67. HOLD_SEC exceeds 3600 s and E273 is raised. -/
  | holdoverHour (t : Nat)
  /-- R59. A 1PPS in edge is measured against the Beam second. -/
  | ppsInEdge (t : Nat) (edge : Nat)
  /-- R59. No 1PPS in edge arrives within 1 s ± 1 µs; E264. -/
  | ppsInLoss (t : Nat)
  /-- R59. 10 MHz in leaves ±10 ppm or stops for 1 µs; E265. -/
  | tenMhzInLoss (t : Nat)
  /-- R60. A capture source event stores the Beam time or counts as missed. -/
  | captureEvent (t : Nat) (source edge : Nat)
  /-- R61. Beam time reaches a trigger's time and its action runs. -/
  | triggerFire (t : Nat) (slot : Fin 16)
  /-- R65. A step with a time selector is applied at its moment and all pending times move. -/
  | timeStepApply (t : Nat)
  /-- R25. The coding-die time copy loses lock; floor triggers move 1 µs earlier; E270. -/
  | timeCopyLockLoss (t : Nat)
  /-- R25. The coding-die time copy regains lock. -/
  | timeCopyLockReturn (t : Nat)
  /-- R62. A channel's frame tick: capture start of a frame, seal windows compared. -/
  | frameTick (t : Nat) (channel : Fin 64)
  /-- R33. 500 µs before a tick, staged changes become active and finals of commands marked C are written. -/
  | commitPoint (t : Nat) (channel : Fin 64)
  /-- R72. An ingest packet is merged, de-duplicated, assigned to a frame and written into the row ring. -/
  | ingestPacketReceived (t : Nat) (flow : Fin 256) (legB : Bool) (seq : Fin 65536) (rtp : BitVec 32) (bits : Nat) (runs : List SampleRun) (pcr : Option Nat) (sig : Option StreamSig)
  /-- R73. A flow or leg delivers nothing for LOS_MS; E352 or E354. -/
  | legLosTimeout (t : Nat) (flow : Fin 256) (legB : Bool)
  /-- R73. Pair skew beyond the fill lag for 1 s raises E356. -/
  | pairSkewExceeded (t : Nat) (flow : Fin 256)
  /-- R76. At a line's fill point the compositor takes it, filling missing samples, and composites it. -/
  | lineFillPoint (t : Nat) (channel : Fin 64) (line : Unit) (sizes : List Nat) (full : List (Fin 32))
  /-- R81. After FREEZE_MS the fill source changes to the slate; E359. -/
  | freezeTimeout (t : Nat) (channel : Fin 64)
  /-- R86. The CRC check read of a host frame ends; a mismatch makes it missing. -/
  | hostFrameCheckDone (t : Nat) (channel : Fin 64) (frame : Unit)
  /-- R92. A decoder finishes a picture and writes its lines, concealing as faults require. -/
  | decoderPictureDone (t : Nat) (flow : Fin 256) (stamp bits : Nat) (rap clean refers : Bool) (fault : Fin 5) (sig : StreamSig) (picture : DecodedPicture)
  /-- R94. An ST 2110-40 packet is attached to its frame's pictures or dropped. -/
  | ancPacketReceived (t : Nat) (flow : Fin 256) (rtp : BitVec 32) (did sdid : Byte) (data : Bytes)
  /-- R112. A flatten ends; the command lands at the next commit point. -/
  | flattenDone (t : Nat) (channel : Fin 64) (planes : Unit)
  /-- R63. A row's last line is staged or its fill point passes, and the rod starts the row. -/
  | rowMark (t : Nat) (rendition : Fin 512) (plan : Option RctWrite)
  /-- R183. A block reaches the bitstream unit and the row's bits are checked against its cap. -/
  | peBlockDelivered (t : Nat) (rendition : Fin 512) (frame row : Nat) (block : CodedBlock)
  /-- R182. A row ends and the guard credits its unused cap. -/
  | rowCoded (t : Nat) (rendition : Fin 512) (frame row bits : Nat)
  /-- R177. At the floor trigger the floor coder completes any unfinished blocks. -/
  | floorTrigger (t : Nat) (rendition : Fin 512) (frame row bits : Nat)
  /-- R170. At a row's deadline the coded row is complete and enters the sender occupancy. -/
  | rowDeadline (t : Nat) (rendition : Fin 512) (frame row : Nat)
  /-- R164. A frame's statistics slot is written, or dropped if the ring is full. -/
  | statsSlotDue (t : Nat) (channel : Fin 64) (scene : Fin 16) (changeRow : Nat) (quality : List (Nat × Quality)) (dram : List (Nat × Nat))
      (stored : List (Nat × List Nat)) (mf : List MotionBlock) (cx : List Region)
  /-- R193. A shadow copy completes and replaces the previous shadow. -/
  | shadowCopyDone (t : Nat) (rendition : Fin 512)
  /-- R198. A PE faults, is isolated and its rows are floor-coded. -/
  | peFault (t : Nat) (rod : Fin 24) (pe : Fin 7) (rows : List (Nat × Nat × Nat))
  /-- R199. An AFE, RCT, FLC or BU faults and the rod runs its cover path. -/
  | engineFault (t : Nat) (rod : Fin 24) (engine : Fin 5)
  /-- R241. A payload unit reaches the packetiser and is packetised, journalled and placed. -/
  | payloadUnitArrival (t : Nat) (rendition : Fin 512) (frame row : Nat) (units tables : List Bytes)
  /-- R238. Copies whose nominal time is 250 µs away are placed in the port's launch calendar. -/
  | calendarEntry (t : Nat) (port : Fin 32)
  /-- R243. At its placed time a copy is encrypted and put on the wire. -/
  | copyLaunch (t : Nat) (port : Fin 32)
  /-- R227. An audio frame becomes ready and joins a row or gets its own launch. -/
  | audioFrameReady (t : Nat) (service : Fin 512) (stream : Fin 4) (capture : Nat) (payload : Bytes)
  /-- R236. The scheduler starts a non-TC6 frame that passes gate, guard and shapers. -/
  | portFrameStart (t : Nat) (port : Fin 32)
  /-- R250. A pending gate list takes over at its start time; E486. -/
  | gateListTakeover (t : Nat) (port : Fin 32)
  /-- R248. A gate interval ends and the next entry's gates apply. -/
  | gateEntryChange (t : Nat) (port : Fin 32)
  /-- R249. A frame that waited a whole cycle without room is dropped; E488. -/
  | gateCycleDrop (t : Nat) (port : Fin 32) (node : Nat)
  /-- R252. A received non-media frame is filtered, policed and delivered. -/
  | rxFrameReceived (t : Nat) (port : Fin 32) (frame : Bytes)
  /-- R268. A port gains its locks and reaches UP. -/
  | portUp (t : Nat) (port : Fin 32)
  /-- R270. A received local or remote fault takes a duplex port to FAULT. -/
  | faultReceived (t : Nat) (port : Fin 32) (remote : Bool)
  /-- R269. An optical module is inserted or removed. -/
  | opticsChange (t : Nat) (cage : Fin 4) (inserted : Bool) (cmis milliwatts : Nat) (temp : Int)
  /-- R285. A lane loses signal or CDR lock while its port is UP. -/
  | laneSignalLoss (t : Nat) (lane : Fin 32) (cdr : Bool)
  /-- R285. A lane's pre-FEC ratio passes DEGRADE over 1 s. -/
  | laneDegrade (t : Nat) (lane : Fin 32)
  /-- R275. A pattern checker locks after 64 matching symbols. -/
  | checkerLock (t : Nat) (lane : Fin 32)
  /-- R275. A checker loses lock after 64 errored symbols. -/
  | checkerLockLost (t : Nat) (lane : Fin 32) (errors : Nat)
  /-- R280. A recalibrated port is not UP after 1 s. -/
  | recalTimeout (t : Nat)
  /-- R284. DURATION_MS passes and the host link retrains. -/
  | hostlaneTestEnd (t : Nat) (results : List (Nat × Nat))
  /-- R274. An ESMC information PDU is sent once per second. -/
  | esmcPduSend (t : Nat)
  /-- R279. Each lane's eye measurement refreshes every 100 ms. -/
  | eyeRefresh (t : Nat) (lane : Fin 32) (h0 h1 h2 v0 v1 v2 errors symbols : Nat)
  /-- R308. PERST# resets the host link. -/
  | perstAssert (t : Nat)
  /-- R310. PERST# is released and the link trains. -/
  | perstRelease (t : Nat)
  /-- R308. A hot reset resets the host link. -/
  | hotReset (t : Nat)
  /-- R308. The port above disables or re-enables the link. -/
  | linkDisable (t : Nat) (disable : Bool)
  /-- R308. A function-level reset resets the host-link state without retraining. -/
  | flr (t : Nat)
  /-- R308. A CXL Reset resets the host link. -/
  | cxlReset (t : Nat)
  /-- R308. The link leaves L0 without a reset. -/
  | linkLoss (t : Nat)
  /-- R283. The 100 MHz reference is lost, causing a link loss. -/
  | referenceClockLoss (t : Nat)
  /-- R310. The link returns to L0; held records are written; E433. -/
  | linkUp (t : Nat) (mode width : Nat)
  /-- R287. A Recovery retrain changes the width; E434 and E435 may follow. -/
  | linkRetrain (t : Nat) (width : Nat)
  /-- R307. An IDE integrity failure ends every stream and resets the link. -/
  | ideIntegrityFailure (t : Nat) (stream : Nat)
  /-- R316. More than 1000 link replays in 1 s raise E443. -/
  | linkReplayStorm (t : Nat) (count : Nat)
  /-- R338. The host refuses a DMA write; the slot counts as written. -/
  | dmaWriteRefused (t : Nat) (old : Bytes)
  /-- R316. A CXL.cache request is refused or times out; E438. -/
  | cxlCacheRefused (t : Nat) (channel : Fin 64)
  /-- R344. Management firmware restarts by watchdog, fault or command. -/
  | mgmtRestartBegin (t : Nat) (cause : Fin 4) (hint : Nat)
  /-- R344. Management firmware runs again and takes entries; interrupted commands are decided INTERNAL. -/
  | mgmtRestartEnd (t : Nat)
  /-- R481. A new image fails to come up in time and the previous slot is restored. -/
  | fwActivateFallback (t : Nat)
  /-- R482. The security core restarts. -/
  | secRestartBegin (t : Nat) (commanded : Bool)
  /-- R482. The security core runs again with a new alias key. -/
  | secRestartEnd (t : Nat)
  /-- R480. A rod finishes loading new RCT firmware and becomes a spare. -/
  | rodUpdateStepDone (t : Nat) (rod : Fin 24)
  /-- R22. A bridge transfer fails its CRC and is replayed. -/
  | dieBridgeCrcFail (t replays : Nat)
  /-- R26. A single-bit SRAM error is corrected and counted. -/
  | sramCorrectedError (t unit : Nat) (coding : Bool)
  /-- R473. An uncorrected SRAM error is handled by its store. -/
  | sramUncorrectedError (t : Nat) (store : Fin 11) (place item : Nat) (hit : SramHit)
  /-- R465. A PLL loses lock and its domain's consequence follows. -/
  | pllLockLoss (t : Nat) (domain : Fin 18) (place : Nat)
  /-- R492. A die supply rail is out of range for 10 µs. -/
  | supplyRailFault (t : Nat)
  /-- R372. An uncorrectable burst outside the window freezes its controller. -/
  | dramUncorrectableRead (t : Nat) (group : Fin 4) (address requester requesterId syndrome : Nat) (history : List Nat)
  /-- R372. An illegal command or unrequested read data freezes the controller. -/
  | dramCommandError (t : Nat) (channel : Fin 32) (rule : Fin 11) (bank page slot requester requesterId address : Nat) (history : List Nat)
  /-- R374. Within 20 µs the frozen channel's group is retired and its contents recover. -/
  | groupRetirement (t : Nat) (group : Fin 4)
  /-- R378. A draining group holds nothing referenced and goes out of service. -/
  | groupDrainDone (t : Nat) (group : Fin 4)
  /-- R365. A corrected read is written back and counted; E329 above 64 in 1 s. -/
  | dramCorrection (t : Nat) (group : Fin 4) (address : Nat)
  /-- R365. The patrol scrub reads in-service bursts on its 24-hour cycle. -/
  | patrolScrub (t bursts : Nat)
  /-- R363. A bank's per-bank refresh falls due and is placed. -/
  | refreshDue (t : Nat) (channel : Fin 32) (bank : Fin 16) (placed : Nat)
  /-- R364. Every 32 ms the controller measures WCK2DQ drift and adjusts delays. -/
  | wck2dqTrack (t : Nat) (channel : Fin 32) (training : Bytes)
  /-- R391. A batch closes at 50 ms or 32 MiB and is programmed with its COMMIT record. -/
  | batchCommit (t : Nat)
  /-- R391. A batch's pages verify and its records are committed. -/
  | batchProgrammed (t : Nat) (batch : Nat) (wear : Fin 101)
  /-- R393. A block fails program or erase, is retired, and its data rewritten. -/
  | nandProgramFail (t : Nat) (fc : Fin 8) (block : Nat) (spareLow : Unit)
  /-- R395. A block with committed data is scrubbed on its 7-day cycle. -/
  | journalScrub (t : Nat) (fc : Fin 8) (block stage soft : Nat) (half : Bool) (bad : List (Nat × Nat × Bool × Bytes))
  /-- R400. Every 24 h the energy test repeats and the cache is regranted. -/
  | periodicEnergyTest (t : Nat)
  /-- R402. When the cache has room after losses, a GAP record is written; E342. -/
  | gapRecordWrite (t : Nat)
  /-- R401. Both 12 V inputs fail; live blocks stop and the cache is flushed on hold-up energy. -/
  | powerLoss (t held : Nat) (vaux : Bool)
  /-- R408. A replay reaches TO or the end of committed records; E347. -/
  | replayEnd (t : Nat) (slot : Fin 16)
  /-- R412. A check context run ends, with VERIFY compared; E472 on mismatch. -/
  | checkRunDone (t : Nat) (context : Fin 64)
  /-- R419. A slave port's clock is lost and the port mutes. -/
  | audioClockLoss (t : Nat) (port : Fin 8) (rateChange : Bool)
  /-- R420. Two WS periods are measured and the rate accepted or refused. -/
  | audioRateMeasured (t : Nat) (port : Fin 8) (hz : Nat)
  /-- R420. After 64 stable frames the port requests unmute. -/
  | audioRelock (t : Nat) (port : Fin 8)
  /-- R421. A channel finds its zero crossing and a pending change takes effect. -/
  | zeroCrossing (t : Nat) (source : Bool) (n : Fin 256) (pair : Fin 4) (right : Bool)
  /-- R421. No crossing within ZC_TIMEOUT_MS; the channel switches through a ramp. -/
  | zcTimeout (t : Nat) (source : Bool) (n : Fin 256) (pair : Fin 4) (right : Bool)
  /-- R423. A slave FIFO runs empty and a stereo frame is repeated. -/
  | fifoUnderrun (t : Nat) (port : Fin 8)
  /-- R423. A slave FIFO runs full and a stereo frame is dropped. -/
  | fifoOverrun (t : Nat) (port : Fin 8)
  /-- R424. A flow packet missing when due is replaced by zeros; E427. -/
  | audioPacketMissing (t : Nat) (flow : Fin 256)
  /-- R433. An event source occurs: tally, PENDING, log record and vector. -/
  | eventOccurrence (t : Nat) (source : Fin 512) (detail : BitVec 64)
  /-- R437. The held E020 record is written as soon as the ring has room. -/
  | eventLogHeldWrite (t : Nat)
  /-- R445. A producer tap pushes an item into a word queue, or drops it whole. -/
  | wqItemPush (t : Nat) (queue : Fin 64) (words : List (BitVec 64)) (last : Bool)
  /-- R447. No END arrives within 1 ms and the flush is forced; E449. -/
  | wqFlushForced (t : Nat) (queue : Fin 64)
  /-- R448. Duplicate queue pointers disagree and the queue is reset; E448. -/
  | wqPointerMismatch (t : Nat) (queue : Fin 64)
  /-- R455. A mode transition ends; E001 and the MODE_SET's final. -/
  | modeTransitionDone (t : Nat)
  /-- R458. Every channel is DEFINED and the cache programmed; the module enters NEXT_MODE. -/
  | drainDone (t : Nat)
  /-- R461. The wake timer fires and the module leaves its rest mode; E002. -/
  | scheduledWake (t : Nat)
  /-- R462. At START_TIME the live mode holds and masked channels start or fail. -/
  | scheduledStartTime (t : Nat)
  /-- R463. An idle island enters the deepest sleep state that wakes in time. -/
  | islandIdle (t : Nat) (island : Fin 40) (next : Option Nat)
  /-- R463. An island wakes for a known or unknown event. -/
  | islandWake (t : Nat) (island : Fin 40)
  /-- R469. Every 1 ms sensors are compared with thresholds and actions taken. -/
  | thermalSample (t : Nat) (temps : List Int)
  /-- R467. The governor revises PE duty against the power cap or current limits. -/
  | powerGovernorTick (t edgeMw auxMw edgeMa auxMa duty : Nat)
  /-- R497. The auxiliary input becomes present, low or lost. -/
  | auxInputChange (t : Nat) (condition : Fin 3)
  /-- R500. The edge +12 V becomes low, lost or returns. -/
  | edge12vChange (t : Nat) (condition : Fin 3)
  /-- R500. Every 10 ms a further load is shed while the auxiliary input is over its limit. -/
  | shedStep (t : Nat)
  /-- R500. The input is still over 12.5 A 100 ms after the last shed; HOLD cause 7. -/
  | shedHoldTimeout (t : Nat)
  /-- R500. The edge +3.3 V falls below range and the host link is lost. -/
  | edge3v3Low (t : Nat)
  /-- R498. The hold-up bank reaches full charge. -/
  | holdupCharged (t : Nat)
  /-- R504. Power-up reaches its next BOOT_STAGE. -/
  | powerUpStage (t stage error failed : Nat) (ident : List Nat)
  /-- R59. 10 MHz in returns within ±10 ppm and EXT_10M_OK is set again, so the external reference or 10 MHz holdover can become valid. -/
  | tenMhzInPresent (back : TenMhzReturn)
  /-- R58. At each Beam second boundary 1PPS out and 10 MHz out edges are driven and staged PPS width, offset and output enables take effect. -/
  | beamSecondBoundary (t : Nat)
  /-- R55. At each LOG_DELAYREQ interval a domain sends a Delay_Req in TC7 and timestamps its departure t3. -/
  | delayReqSend (t : Nat) (domain : Fin 2)
  /-- R71. The I/O die repeats unsolicited IGMPv3 or MLDv2 reports from the membership table. -/
  | membershipReportRepeat (t : Nat)
  /-- R270. A duplex port in FAULT stops receiving local or remote fault sequences and leaves FAULT. -/
  | faultCleared (t : Nat) (port : Fin 32)
  /-- R280. The last lane of a recalibrating port finishes calibration and the port moves from RECAL to TRAINING. -/
  | laneCalibrationDone (t : Nat)
  /-- R379. Training of a group ends, its command is decided with the failed-channel mask, E321 is raised and the group returns to out of service. -/
  | memGroupRetrainDone (t : Nat) (group : Fin 4) (mask : Fin 256) (trained : List (Bytes × Bytes))
  /-- R379. A March test over a group ends, its failing-burst count is decided, E322 is raised and the group returns to out of service. -/
  | memGroupTestDone (t : Nat) (group : Fin 4) (failing : Nat)
  /-- R380. Check slots are written, the group goes from returning to in service with every extent free, plans are recomputed, bare channels are placed and E323 is raised. -/
  | memGroupRestoreDone (t : Nat) (group : Fin 4)
  /-- R398. The hold-up discharge test ends, U is measured, E339 is raised and the cache is granted, regranted or the session refused or closed. -/
  | energyTestDone (t : Nat) (millijoules microfarads : Nat)
  /-- R409. An export finishes writing its records and header into the window, its final is decided and E348 is raised. -/
  | journalExportDone (t : Nat)
  /-- R492. A diagnostic export finishes, its final is decided and E502 is raised. -/
  | diagExportDone (t : Nat) (data : Bytes)
  /-- R479. The security core finishes writing and verifying a staged image (`good`: Caernos' signature holds), the slot is written or refused with E497, and E012 is raised. -/
  | fwImageStageDone (t : Nat) (good : Bool)
  /-- R485. A self-test run ends, the unit returns from testing to out of service, the result record is kept, E014 and E496 are raised and the final is decided. -/
  | selftestDone (t : Nat) (units : Nat) (fails : List (Nat × Nat × Nat × Int × Int × Int))
  /-- R477. A returning unit finishes initialisation, goes in service, and a rod takes the spare or serving role. -/
  | unitReturnDone (t : Nat) (unit : Nat)
  /-- R484. No spare with all seven PEs is free within 10 s of a held rod update, so the update ends with BAD_STATE, detail 0x0C0B. -/
  | rodUpdateSpareTimeout (t : Nat)
  /-- R464. Beam time reaches a quiet window's FROM or TO and islands with unknown events may rest deeper or are capped at Doze again. -/
  | quietWindowEdge (t : Nat)
  deriving DecidableEq, Repr

end Sys2Proof
end

