-- ==== Sys2Proof/Decode.lean ====
section
/-!
DEFINITION. The words of the table of operations. Its rows have no bits: the module's operations are not encoded words but commands in
rings (11 R321), accesses and happenings, so no word spells one. The 64-byte entry of a Ranrok command is read by its meaning (11 Table 11.10).
-/
namespace Sys2Proof

/-- The command that a word spells by the table's bits: none, since no row has bits. -/
def decodeTableWord (_nbits _w : Nat) : Option Instr := none

end Sys2Proof
end

