-- ==== Sys2Proof/Config.lean ====
section
/-!
DEFINITION. What the spec leaves open as a value: constants without a body, so that nothing can lean on a number.
`free` is applied to a counter that the state holds and every use advances, so each use is a value of its own.
-/
namespace Sys2Proof.Config

/-- A free value of `w` bits (assumption 3). The step applies it to the state's counter of free values. -/
opaque free : (w : Nat) → Nat → BitVec w

/-- What the level of a codec's own standard allows, by subject: 0 picture size in samples, 1 samples per second, 2 kb/s, 3 buffer bits (R138;
assumption 4). The spec does not give the tables. -/
opaque levelLimit : (codec level subject : Nat) → Nat

/-- What level 6.2 allows at least, since the renditions of 06 Table 6.1 are admitted (R136, R186; assumption 4, DEDUCED): HEVC 2160p60 at 20 Mb/s and VVC
8K120 at 120 Mb/s, with their buffers. -/
def levelLeast (codec subject : Nat) : Nat :=
  match codec, subject with
  | 1, 0 => 8294400
  | 1, 1 => 497664000
  | 1, 2 => 20000
  | 1, 3 => 52600
  | 2, 0 => 33177600
  | 2, 1 => 3981312000
  | 2, 2 => 120000
  | 2, 3 => 157512
  | _, _ => 0

/-- A level allows a value of a subject. -/
def levelAllows (codec level subject value : Nat) : Bool :=
  (level == 62 && Nat.ble value (levelLeast codec subject)) || Nat.ble value (levelLimit codec level subject)

/-- The value a module's calibration gives a port's ingress (`false`) or egress (`true`) latency at a rate, within
Table 2.20, in 2^-16 ns above the table's least value (R56; assumption 5). -/
opaque latencyAbove : (egress : Bool) → (port rate : Nat) → BitVec 32

/-- The number that E327 gives an item kind (12 Table 12.9 names the field and no code; assumption 16): 0 slates, 1 management data. -/
opaque itemKind : Nat → BitVec 16

/-- The postponement limit of per-bank refresh, in refreshes (12 R363 takes it from JESD209-5C; assumption 17). -/
opaque refreshLimit : Nat

/-- The numbers that E440 gives an IDE stream (`true`: CXL.cachemem) and its state (`true`: established) (10 Table 10.16 names the
fields and no codes; assumption 18). -/
opaque ideStream : Bool → BitVec 16
opaque ideState : Bool → BitVec 16

/-- The number that an event's detail gives a thing which the spec names and does not number (assumption 19). The first argument is the
event source; the second tells the things apart: E004 0 coding die, 1 I/O die; E006 0 edge, 1 auxiliary; E010 the stores in the order of
17 Table 17.2; E013 and E019 0 begin, 1 end; E501 the layer of security firmware. -/
opaque code : (source thing : Nat) → BitVec 16

/-- Caernos's vendor ID (10 R294 does not give its number; assumption 240). -/
opaque vendorId : BitVec 16

/-- How far below the buffer the largest value lies that a codec's syntax can express (06 R178; assumption 194). -/
opaque bufferShort : (codec buffer : Nat) → BitVec 16

/-- The bits that an ITU-T T.35 message takes in a picture's header (03 R94; assumption 195). -/
opaque t35Bits : (codec : Nat) → List (BitVec 8) → BitVec 12

/-- The caption distribution packet that CEA-608 data is wrapped in, and one that holds padding only (03 R94, R95; assumption 195). -/
opaque wrap608 : List (BitVec 8) → List (BitVec 8)
opaque padding : List (BitVec 8)

/-! ### Packets (07; assumptions 224 to 231) -/

/-- The transport_stream_id of a service's PAT (07 R210; assumption 226). -/
opaque streamId : (service : Nat) → BitVec 16

/-- The SSRC and payload type of a service's FEC streams (07 R222; assumption 227). -/
opaque fecSsrc : (service : Nat) → (row : Bool) → BitVec 32
opaque fecType : (row : Bool) → BitVec 7

/-- The Identification and Don't Fragment bit of an IPv4 header, the Flow Label of an IPv6 header, and whether UDP over IPv4 carries a checksum (07 R206;
assumption 228), by subscriber and packet. -/
opaque ipIdent : (sub packet : Nat) → BitVec 16
opaque dontFragment : Bool
opaque flowLabel : (sub : Nat) → BitVec 20
opaque udpSum : Bool

/-- The module's base MAC address (09 Table 9.10; assumption 228). -/
opaque baseMac : BitVec 48

/-- An AAC-LC frame of silence (14 R427; assumption 231). -/
opaque silentAac : (kbps : Nat) → List (BitVec 8)

/-- The journal's key, which the security core derives from the module's fused secret (13 R396; assumption 236). -/
opaque journalKey : BitVec 512

/-- The SHA-384 digests of the boot ROM and of the image of each kind with which a module leaves Caernos (17 R491; assumption 237). -/
opaque bootRom : BitVec 384
opaque factoryImage : (kind : Nat) → BitVec 384

/-! ### Samples (03 R70, R98; 04 R103, R104, R116, R118, R121; assumptions 207 to 209) -/

/-- Which way a tie goes, and which way a quotient is rounded that the spec does not round. -/
opaque tieUp : Nat → Bool
opaque roundsUp : Int → Nat → Bool

/-- The filters from 4:4:4 to 4:2:2, of ingest or of the compositor, from a line's chroma, at a pair; the filter that doubles a line's chroma vertically, at a line
and a pair, Cb or Cr; the filter from 4:2:2 to 4:4:4 at 16 bits, at a position; and the filter from 4:2:2 to 4:2:0, from a column, at a pair of lines. -/
opaque chroma422 : (ingest : Bool) → List Nat → Nat → BitVec 10
opaque chromaDouble : (place : List Nat) → (pair : Nat) → (red : Bool) → Nat → BitVec 10
opaque chroma444 : List Nat → Nat → BitVec 16
opaque chroma420 : List Nat → Nat → BitVec 10

/-- The transfer functions of ITU-R BT.709, BT.2020 and BT.2100 (0 SDR, 1 HLG at 1000 cd/m², 2 PQ) on R'G'B' in 1/65535, and their inverses: light in 1/65536 of
SDR 100 %, or of 1 cd/m²; and the soft knee above 90 %. -/
opaque eotf : (tcs : Nat) → Int × Int × Int → Int × Int × Int
opaque oetf : (tcs : Nat) → Int × Int × Int → Int × Int × Int
opaque knee : Int → Int

/-- The polyphase filters, by filter and phase, on the samples under their taps; the pre-decimation; and the filter of the proxy. -/
opaque polyphase : (filter phase : Nat) → List Nat → BitVec 16
opaque decimate : List Nat → BitVec 16
opaque proxyDown : List Nat → BitVec 10

end Sys2Proof.Config
end

