-- ==== Sys2Proof/Machine/Tab.lean ====
section
/-!
DEFINITION. Tables: sparse data by number, and the byte memories, both as sorted lists.
A table holds the records a command has created; a memory holds the bytes that differ from what an unlisted
address reads as (0, assumption 1).
-/
namespace Sys2Proof.Machine

/-- A table from numbers (handles, instance numbers) to records, sorted by number. -/
abbrev Tab (α : Type) := List (Nat × α)

/-- The record under `k`, if there is one. -/
def Tab.find {α : Type} (k : Nat) : Tab α → Option α
  | [] => none
  | (j, v) :: r => if j = k then some v else Tab.find k r

/-- The record under `k`, or `dflt` where the table lists none. -/
def Tab.read {α : Type} (t : Tab α) (k : Nat) (dflt : α) : α := (Tab.find k t).getD dflt

/-- The table with `v` under `k`. -/
def Tab.put {α : Type} (k : Nat) (v : α) : Tab α → Tab α
  | [] => [(k, v)]
  | (j, w) :: r => if k < j then (k, v) :: (j, w) :: r else if j = k then (k, v) :: r else (j, w) :: Tab.put k v r

/-- The table without `k`. -/
def Tab.del {α : Type} (k : Nat) (t : Tab α) : Tab α := t.filter (fun p => p.1 != k)

/-- The table with the record under `k` (or `dflt`) changed by `f`. -/
def Tab.upd {α : Type} (t : Tab α) (k : Nat) (dflt : α) (f : α → α) : Tab α := Tab.put k (f (Tab.read t k dflt)) t

/-- The table with every record changed by `f`. -/
def Tab.mapVals {α : Type} (f : Nat → α → α) (t : Tab α) : Tab α := t.map (fun p => (p.1, f p.1 p.2))

/-- A byte memory: cells by address, strictly rising, none equal to what an unlisted address reads as. -/
abbrev Mem := List Host.Cell

/-- What an address that lists no cell reads as (assumption 1: DESIGN CHOICE). -/
def memDefault : Byte := 0

/-- The byte at an address. -/
def memRead (m : Mem) (a : Nat) : Byte := Tab.read m a memDefault

/-- The memory with `b` at `a`, in canonical form. -/
def memWrite (m : Mem) (a : Nat) (b : Byte) : Mem := if b = memDefault then Tab.del a m else Tab.put a b m

/-- `n` bytes from an address up. -/
def memBytes (m : Mem) (a : Nat) : Nat → Bytes
  | 0 => []
  | n + 1 => memRead m a :: memBytes m (a + 1) n

/-- The memory with a string of bytes written from an address up. -/
def memStore (m : Mem) (a : Nat) : Bytes → Mem
  | [] => m
  | b :: r => memStore (memWrite m a b) (a + 1) r

/-- Addresses strictly rising from above `lo`, and no cell holds the unlisted value. -/
def memWfFrom : Option Nat → Mem → Bool
  | _, [] => true
  | lo, (a, b) :: r => (match lo with | none => true | some l => decide (l < a)) && (b != memDefault) && memWfFrom (some a) r

/-- The canonical form of a memory. -/
def Memory.wf (m : Mem) : Bool := memWfFrom none m

/-- The cells of a memory outside the addresses `lo` to `hi - 1` (what a quarter loses). -/
def memDrop (m : Mem) (lo hi : Nat) : Mem := m.filter (fun c => c.1 < lo || hi ≤ c.1)

end Sys2Proof.Machine
end

