-- ==== Sys2Proof/Machine/BusState.lean ====
section
/-!
DEFINITION. The state of the memories the commands reach, of MSI-X, of the event block and of the word queues.
Every structure holds plain data; every table lists only what differs from the record its reader defaults to.
-/
namespace Sys2Proof.Machine

/-- The byte memories: the HDM window (R298), the command SRAM (R317), and what the module and the host have written
in host memory (Table 10.2). `poison` lists the window bursts that hold an uncorrectable error (R302), `cmdBad` the 32-bit words of CMDSRAM whose ECC cannot be
corrected (11 R322). -/
structure MemState where
  hdm : Mem
  poison : List Nat
  cmdsram : Mem
  cmdBad : List Nat
  host : Mem
  deriving DecidableEq, Repr

/-- MSI-X (R303): 256 vectors. `sent` lists the messages sent, oldest first, by vector. `open_` says that Bus Master Enable is
set, the function is in D0 and the link is up, so that a trigger may send. -/
structure MsixState where
  mask : BitVec 256
  funcMask : Bool
  pending : BitVec 256
  sent : List Nat
  open_ : Bool
  deriving DecidableEq, Repr

/-- One event source's registers (Tables 15.4 and 15.5) and its record count (Table 15.6). -/
structure EvSrc where
  pending : Bool
  rpt : Bool
  lastDetail : Nat
  vector : Nat
  route : Nat
  enable : Bool
  seq : Nat
  lostBefore : Bool
  deriving DecidableEq, Repr

/-- Power-up: ENABLE 1, ROUTE 2 (Table 15.5). -/
def EvSrc.reset : EvSrc := ⟨false, false, 0, 0, 2, true, 0, false⟩

/-- An event record (Table 15.6); `time` is Beam time in 2^-16 ns. -/
structure EvRec where
  source : Nat
  lost : Bool
  seq : Nat
  detail : Nat
  time : Nat
  deriving DecidableEq, Repr

/-- The event log ring (R436 to R438). `wrote` says that a record has been written since the last drop, so that the
next drop raises E020; `windex` is WRITE_INDEX; `held` is the one E020 record that waits for room. -/
structure EvLog where
  offset : Nat
  log2 : Nat
  windex : Nat
  enable : Bool
  irq : Bool
  vector : Nat
  full : Bool
  wrote : Bool
  held : Option EvRec
  lostToQuarter : Bool
  deriving DecidableEq, Repr

/-- The event block: sources, log ring, tallies and their carry bits (R432 to R442), and what was passed to firmware. -/
structure EventState where
  src : Tab EvSrc
  log : EvLog
  tally : Tab Nat
  carry : Tab Bool
  toFirmware : Nat
  deriving DecidableEq, Repr

/-- An as-run entry (R390, Table 13.3); `time` is the Beam time of occurrence. -/
structure AsRunRec where
  channel : Nat
  entry : Nat
  tag : Nat
  frame : Nat
  detail : Nat
  time : Nat
  deriving DecidableEq, Repr

/-- The two logs of the journal, in order of occurrence (R389); `eventsOut` and `asRunOut` count the entries that newer ones have overwritten (R383). -/
structure LogState where
  events : List EvRec
  asRun : List AsRunRec
  eventsOut : Nat
  asRunOut : Nat
  deriving DecidableEq, Repr

/-- Where a command came from: a place in a ring, or the MCTP path (R314). -/
inductive Origin where
  | ring (r : Nat) (seq : Nat)
  | mctp
  deriving DecidableEq, Repr

/-- A word in a producer's tap, with its END sideband (R443). -/
structure TapWord where
  word : BitVec 64
  last : Bool
  deriving DecidableEq, Repr

/-- One word queue (R443 to R451). `seen` is how many stored words the consumer's side sees (class X may lag by up to
3); `midItem` says that the producer has begun an item and not ended it, `dropItem` that the tap is dropping it whole;
`flushCmd` lists the commands (with their tags) whose finals wait for END. -/
structure WordQueue where
  words : List (BitVec 64)
  seen : Nat
  tap : List TapWord
  producer : Nat
  arg : Nat
  arg2 : Nat
  enabled : Bool
  pushed : Nat
  dropped : Nat
  resets : Nat
  discarding : Bool
  popEmpty : Bool
  resetSeen : Bool
  flushing : Bool
  flushCount : Nat
  flushAt : Nat
  flushCmd : List (Origin × Nat)
  midItem : Bool
  dropItem : Bool
  lastE450 : Option Nat
  deriving DecidableEq, Repr

/-- A queue at power-up (Table 15.13). -/
def WordQueue.reset : WordQueue :=
  { words := [], seen := 0, tap := [], producer := 0, arg := 0, arg2 := 0, enabled := false, pushed := 0, dropped := 0,
    resets := 0, discarding := false, popEmpty := false, resetSeen := false, flushing := false, flushCount := 0,
    flushAt := 0, flushCmd := [], midItem := false, dropItem := false, lastE450 := none }

/-- The 64 word queues. -/
structure WqState where
  queues : Tab WordQueue
  deriving DecidableEq, Repr

/-- Memories at power-up: nothing listed. -/
def MemState.reset : MemState := ⟨[], [], [], [], []⟩

/-- MSI-X at power-up: every vector masked and nothing pending (assumption 2). -/
def MsixState.reset : MsixState := ⟨BitVec.allOnes 256, false, 0, [], false⟩

/-- The event block at power-up: no log ring, every tally 0. -/
def EventState.reset : EventState := ⟨[], ⟨0, 0, 0, false, false, 0, false, false, none, false⟩, [], [], 0⟩

/-- The journal's logs at power-up of a new module: empty. -/
def LogState.reset : LogState := ⟨[], [], 0, 0⟩

/-- The word queues at power-up. -/
def WqState.reset : WqState := ⟨[]⟩

end Sys2Proof.Machine
end

