-- ==== Sys2Proof/Machine/Occur.lean ====
section
/-!
DEFINITION. What an occurrence of an event source does in the event block (R432 to R442), MSI-X triggers (R303), and
how words pass through a word queue (R443 to R449). All of it works on the parts of the state the event block reaches,
gathered in `EvPort`.
-/
namespace Sys2Proof.Machine

/-- The bytes of a time word (Table 2.1): seconds, nanoseconds, fraction, two reserved bytes, low-order byte first. -/
def timeWordBytes (t : Nat) : Bytes :=
  wrLE 2 0 ++ wrLE 2 (t % 65536) ++ wrLE 4 (t / 65536 % 1000000000) ++ wrLE 8 (t / 65536 / 1000000000)

/-! ### The journal's logs (13 R383, R389) -/

/-- The entries of 80 bytes that one log holds: half of the log area of 448 GB (assumption 244). -/
def logEntries : Nat := 448000000000 / 160

/-- A circular log takes an entry: the oldest is overwritten where it is full. -/
def circular {α : Type} (l : List α) (a : α) : List α := (if l.length < logEntries then l else l.drop 1) ++ [a]

def LogState.addEvent (r : EvRec) (x : LogState) : LogState :=
  { x with events := circular x.events r, eventsOut := x.eventsOut + bit01 (Nat.ble logEntries x.events.length) }

def LogState.addAsRun (r : AsRunRec) (x : LogState) : LogState :=
  { x with asRun := circular x.asRun r, asRunOut := x.asRunOut + bit01 (Nat.ble logEntries x.asRun.length) }

/-- The parts of the state that an occurrence reaches. `quarter q` says that window quarter `q` is in service. -/
structure EvPort where
  events : EventState
  mem : MemState
  msix : MsixState
  wq : WqState
  logs : LogState
  free : Nat

/-- A trigger of a vector (R303): it sends when nothing stands against it, else it pends. -/
def msixTrigger (v : Nat) (m : MsixState) : MsixState :=
  if m.open_ && !m.funcMask && !m.mask.getLsbD v then { m with sent := m.sent ++ [v] }
  else { m with pending := m.pending ||| (1#256 <<< v) }

/-- Every pending vector that may send sends, in ascending order (R303). -/
def msixDrain (m : MsixState) : MsixState :=
  if m.open_ && !m.funcMask then
    let ready := m.pending &&& ~~~m.mask
    { m with pending := m.pending &&& m.mask, sent := m.sent ++ (List.range 256).filter (fun v => ready.getLsbD v) }
  else m

/-- The number of a device tally's index (R439). -/
def dtIndex (k : Nat) : Nat := 512 + k

/-- Tally `k` counts one (R439); at the largest value it sticks and sets its carry bit. -/
def tallyInc (k : Nat) (e : EventState) : EventState :=
  if Tab.read e.tally k 0 < max64 then { e with tally := Tab.upd e.tally k 0 (· + 1) }
  else { e with carry := Tab.put k true e.carry }

/-- Tally `k` is about to stick, so the increment raises E031 (R439). -/
def tallySticks (k : Nat) (e : EventState) : Bool := Tab.read e.tally k 0 == max64 && !Tab.read e.carry k false

/-- READ_INDEX of a ring whose control area lies at `off` (R514). -/
def readIndex (m : MemState) (off : Nat) : Nat := rdLE (memBytes m.hdm (off + 64) 8) 0 8

/-- A ring is full (R514). -/
def ringFull (windex rindex entries : Nat) : Bool := (windex + 2 ^ 64 - rindex) % 2 ^ 64 ≥ entries

/-- The 32 bytes of an event record (Table 15.6). -/
def evRecBytes (r : EvRec) : Bytes :=
  wrLE 2 r.source ++ wrLE 1 (bit01 r.lost) ++ wrLE 1 0 ++ wrLE 4 r.seq ++ wrLE 8 r.detail ++ timeWordBytes r.time

/-- The event log ring has no room (R437). -/
def logFull (p : EvPort) : Bool :=
  ringFull p.events.log.windex (readIndex p.mem p.events.log.offset) (2 ^ p.events.log.log2)

/-- A record is written to the event log ring, and WRITE_INDEX after it (R436), with the interrupt of R438. -/
def logWrite (r : EvRec) (p : EvPort) : EvPort :=
  let l := p.events.log
  let w := l.windex
  let hdm := memStore (memStore p.mem.hdm (l.offset + 4096 + 32 * (w % 2 ^ l.log2)) (evRecBytes r)) l.offset (wrLE 8 (w + 1))
  { p with
    mem := { p.mem with hdm := hdm }
    events := { p.events with
      log := { l with windex := (w + 1) % 2 ^ 64, full := false, wrote := true, lostToQuarter := false }
      src := Tab.upd p.events.src r.source EvSrc.reset (fun s => { s with lostBefore := false }) }
    msix := if l.irq then msixTrigger l.vector p.msix else p.msix }

/-- The held E020 record is written when the ring has room (R437). -/
def logHeld (p : EvPort) : EvPort :=
  match p.events.log.held with
  | none => p
  | some r => if logFull p then p
    else logWrite r { p with events := { p.events with log := { p.events.log with held := none } } }

/-- A record due at a full ring (R437): it is dropped and counted in DT7, but the record of E020 is held. -/
def logDrop (r : EvRec) (p : EvPort) : EvPort :=
  if r.source = 20 then
    { p with events := { p.events with log := { p.events.log with held := some r, full := true } } }
  else
    let e := tallyInc (dtIndex 7) p.events
    { p with events := { e with
        log := { e.log with full := true, wrote := false }
        src := Tab.upd e.src r.source EvSrc.reset (fun s => { s with lostBefore := true }) } }

/-- A record is due at the event log ring (R433 step 3, R436 to R438). -/
def logRecord (quarter : Nat → Bool) (r : EvRec) (p : EvPort) : EvPort :=
  if !p.events.log.enable then p
  else if !quarter (p.events.log.offset / 2 ^ 32) then
    { p with events := { p.events with
        log := { p.events.log with lostToQuarter := true }
        src := Tab.upd p.events.src r.source EvSrc.reset (fun s => { s with lostBefore := true }) } }
  else
    let p := logHeld p
    if logFull p then logDrop r p else logWrite r p

/-- What a record due raises besides (R437, R439, R301). -/
def logFollow (quarter : Nat → Bool) (r : EvRec) (p : EvPort) : List (Nat × Nat) :=
  if !p.events.log.enable then []
  else if !quarter (p.events.log.offset / 2 ^ 32) then
    if p.events.log.lostToQuarter then [] else [(436, p.events.log.offset)]
  else
    let p := logHeld p
    if logFull p && r.source != 20 then
      (if p.events.log.wrote then [(20, 0)] else []) ++
      (if tallySticks (dtIndex 7) p.events then [(31, dtIndex 7)] else [])
    else []

/-! ### Word queues -/

/-- The depth of queue `q` (R443). -/
def wqDepth (q : Nat) : Nat := if q < 32 then 512 else 256

/-- How far a class X side lags, at most 3 words (R443): a free value. Class S does not lag. -/
def wqLag (q free : Nat) : Nat := if q < 32 then 0 else (Config.free 2 free).toNat

/-- Words pass from the tap into the queue while its producer's side sees room (R445), and become visible to the
consumer's side (R443). -/
def wqDrain (q free : Nat) (w : WordQueue) : WordQueue :=
  let room := wqDepth q - (w.words.length + wqLag q free)
  let moved := w.tap.take room
  let words := w.words ++ moved.map (·.word)
  { w with
    words := words
    tap := w.tap.drop room
    pushed := satAdd max64 w.pushed moved.length
    seen := Nat.max w.seen (words.length - wqLag q (free + 1)) }

/-- The tap holds eight items (R445). -/
def tapFull (w : WordQueue) : Bool := 8 ≤ (w.tap.filter (·.last)).length

/-- One word from the producer (R445 to R448): discarded while the queue flushes or discards, dropped with its item
when the tap had no room at the item's start, else put into the tap. -/
def wqTake (x : TapWord) (w : WordQueue) : WordQueue :=
  if w.discarding then { w with discarding := !x.last, midItem := !x.last, dropItem := false }
  else if w.flushing then { w with flushCount := w.flushCount + 1, flushing := !x.last, midItem := !x.last, dropItem := false }
  else if w.dropItem then { w with dropItem := !x.last, midItem := !x.last }
  else if !w.midItem && tapFull w then
    { w with dropItem := !x.last, midItem := !x.last, dropped := satAdd max64 w.dropped 1 }
  else { w with tap := w.tap ++ [x], midItem := !x.last }

/-- A producer's words enter a queue (R445). A queue that is not enabled has no tap; one that still discards sees the END of the item in hand (R451). -/
def wqFeed (q free : Nat) (xs : List TapWord) (w : WordQueue) : WordQueue :=
  if w.enabled then wqDrain q free (xs.foldl (fun w x => wqTake x w) w)
  else if w.discarding && xs.any (·.last) then { w with discarding := false, midItem := false, dropItem := false }
  else w

/-- The words of an item, the last one with END. -/
def itemWords : List (BitVec 64) → List TapWord
  | [] => []
  | [a] => [⟨a, true⟩]
  | a :: r => ⟨a, false⟩ :: itemWords r

/-- The four words of an event record (Table 15.10, EVENT_MIRROR). -/
def evRecWords (r : EvRec) : List (BitVec 64) :=
  let b := evRecBytes r
  [BitVec.ofNat 64 (rdLE b 0 8), BitVec.ofNat 64 (rdLE b 8 8), BitVec.ofNat 64 (rdLE b 16 8), BitVec.ofNat 64 (rdLE b 24 8)]

/-- Every enabled queue whose producer is `producer` and whose instance `mine` accepts takes the item. -/
def wqItem (producer : Nat) (mine : WordQueue → Bool) (ws : List (BitVec 64)) (free : Nat) (x : WqState) : WqState :=
  { x with queues := Tab.mapVals (fun q w =>
      if w.enabled && w.producer == producer && mine w then wqFeed q (free + 2 * q) (itemWords ws) w else w) x.queues }

/-- Queues whose tap dropped an item just now and whose E450 is due (once per second at most, R445). -/
def wqDrops (now : Nat) (old new : WqState) : List (Nat × Nat) :=
  new.queues.filterMap (fun (q, w) =>
    let o := Tab.read old.queues q WordQueue.reset
    if o.dropped < w.dropped && (match w.lastE450 with | none => true | some t => t + 65536000000000 ≤ now) then
      some (450, q + 65536 * (w.dropped - o.dropped)) else none)

/-- The queues with E450 marked raised at `now`. -/
def wqMark (now : Nat) (evs : List (Nat × Nat)) (x : WqState) : WqState :=
  { x with queues := Tab.mapVals (fun q w => if evs.any (fun e => e.2 % 65536 == q) then { w with lastE450 := some now } else w) x.queues }

/-! ### An occurrence -/

/-- One occurrence of source `n` with its detail at Beam time `now` (R433, steps 1 to 4), its record in the journal's
event log (R389), and what it raises besides. A number from 512 up is not a source: it counts a device tally (R440). -/
def occur (quarter : Nat → Bool) (now n detail : Nat) (p : EvPort) : EvPort × List (Nat × Nat) :=
  if 512 ≤ n then
    ({ p with events := tallyInc n p.events }, if tallySticks n p.events then [(31, n)] else [])
  else
  let sticks := if tallySticks n p.events then [(31, n)] else []
  let e := tallyInc n p.events
  let s := Tab.read e.src n EvSrc.reset
  if s.enable && s.route < 2 then
    let s' := { s with pending := true, rpt := s.rpt || s.pending, lastDetail := detail % 2 ^ 32, seq := (s.seq + 1) % 2 ^ 32 }
    let r : EvRec := ⟨n, s.lostBefore, s'.seq, detail, now⟩
    let p1 := { p with events := { e with src := Tab.put n s' e.src }, logs := p.logs.addEvent r }
    let follow := logFollow quarter r p1
    let p2 := logRecord quarter r p1
    let p3 := { p2 with
      msix := if s.route = 0 && !s.pending then msixTrigger s.vector p2.msix else p2.msix
      events := { p2.events with toFirmware := p2.events.toFirmware + (if s.route = 1 then 1 else 0) } }
    let wq1 := wqItem 1 (fun w => w.arg ≤ n && n ≤ w.arg2) (evRecWords r) p3.free p3.wq
    let drops := wqDrops now p3.wq wq1
    ({ p3 with wq := wqMark now drops wq1, free := p3.free + 128 }, sticks ++ follow ++ drops)
  else
    ({ p with events := e, logs := p.logs.addEvent ⟨n, s.lostBefore, s.seq, detail, now⟩ }, sticks)

/-- Occurrences in order, each followed by what it raises (at most `fuel` in all: each kind of follow-up is raised once
for its cause, so a handful suffice). -/
def occurAll (quarter : Nat → Bool) (now : Nat) : Nat → List (Nat × Nat) → EvPort → EvPort
  | 0, _, p => p
  | _, [], p => p
  | fuel + 1, (n, detail) :: rest, p =>
    let r := occur quarter now n detail p
    occurAll quarter now fuel (r.2 ++ rest) r.1

/-- Detail values packed little-endian (R435): (bytes, value) in the order listed, in 8 bytes. -/
def packDetail : List (Nat × Nat) → Nat
  | [] => 0
  | (n, v) :: r => (v % 2 ^ (8 * n) + 2 ^ (8 * n) * packDetail r) % 2 ^ 64

end Sys2Proof.Machine
end

