-- ==== Sys2Proof/Machine/RanrokState.lean ====
section
/-!
DEFINITION. The state of the Ranrok command interface (chapter 11): rings, completion ring, the commands that are
staged for a frame, waiting for a unit or at work.
-/
namespace Sys2Proof.Machine

/-- A completion record (Table 11.11). `effTime` is the time of effect in 2^-16 ns; `frame` is none where no frame
applies (all ones). -/
structure CRec where
  tag : Nat
  status : Nat
  ring : Nat
  interim : Bool
  detail : Nat
  frame : Option Nat
  effTime : Nat
  deriving DecidableEq, Repr

/-- An entry that has been taken and whose final record has not yet been written (R336). `writes` is false once a
host-link reset has ended its record's way to the host (R309). `interim` says that its ACCEPTED slot is still
reserved, `ack` is that record once the answer is given and until it is written; `stamp` its posting stamp until it is answered
(none where its posting is not known). -/
structure Taken where
  seq : Nat
  tag : Nat
  irq : Bool
  ackSlot : Bool
  writes : Bool
  ack : Option CRec
  final : Option CRec
  stamp : Option Nat
  deriving DecidableEq, Repr

/-- One command ring's registers and account (Tables 11.2 to 11.4). `stamps` holds the posting stamp of each entry
posted and not yet taken, by index; `qtimeRecent` the moments and queue times (ns) of the answers of the last second; `order` the taken entries in posting order; `results` the 16 result slots. -/
structure Ring where
  enable : Bool
  log2 : Nat
  tail : Nat
  head : Nat
  errorCode : Nat
  error : Bool
  busyStop : Bool
  busyHint : Nat
  cqWait : Bool
  taken : Nat
  done : Nat
  busy : Nat
  qtimeSum : Nat
  qtimeRecent : List (Nat × Nat)
  qtimeMax : Nat
  stamps : Tab Nat
  results : Tab CRec
  order : List Taken
  deriving DecidableEq, Repr

/-- A ring at the end of power-up: ENABLE 1, SIZE 256 (R319). -/
def Ring.reset : Ring :=
  { enable := true, log2 := 8, tail := 0, head := 0, errorCode := 0, error := false, busyStop := false, busyHint := 0,
    cqWait := false, taken := 0, done := 0, busy := 0, qtimeSum := 0, qtimeRecent := [], qtimeMax := 0,
    stamps := [], results := [], order := [] }

/-- A record waiting to be written to the completion ring, and whether its entry set IRQ. -/
structure HeldRec where
  recd : CRec
  irq : Bool
  deriving DecidableEq, Repr

/-- The completion ring (Tables 11.5 to 11.7, R338, R339). `count` is the number of records since it was enabled. -/
structure CompRing where
  base : Nat
  enable : Bool
  log2 : Nat
  irqMode : Nat
  vector : Nat
  written : Nat
  consumed : Nat
  count : Nat
  errorCode : Nat
  error : Bool
  held : List HeldRec
  lastStall : Option Nat
  deriving DecidableEq, Repr

/-- The completion ring at power-up and after a host-link reset (R347). -/
def CompRing.reset : CompRing :=
  { base := 0, enable := false, log2 := 0, irqMode := 0, vector := 0, written := 0, consumed := 0, count := 0,
    errorCode := 0, error := false, held := [], lastStall := none }

/-- A command in the form every meaning reads it: where it came from, its 64-byte entry, its extended block (empty
where it has none), and the Beam time it is answered at. -/
structure Ctx where
  origin : Origin
  entry : Bytes
  block : Bytes
  now : Nat
  deriving DecidableEq, Repr

/-- A change written to the staged copy (R330): it lands at the commit point of `frame` of `channel`, and `flat` names the flatten it waits
for (04 R112). -/
structure Staged where
  op : Nat
  ctx : Ctx
  channel : Nat
  frame : Nat
  status : Nat
  detail : Nat
  flat : Option Nat
  deriving DecidableEq, Repr

/-- A command marked D at work, or one waiting (R328). `due` is the moment its work ends where the spec gives one. -/
structure Work where
  op : Nat
  ctx : Ctx
  unit : Nat
  due : Option Nat
  deriving DecidableEq, Repr

/-- The response of the MCTP path last given (R312 to R315), for SPDM with the measurement blocks it returns (17 R491). -/
inductive MctpReply where
  | record (r : CRec)
  | sensor (value : Int) (warning critical : Option Int)
  | unavailable
  | control
  | spdm (blocks : List (Nat × Bytes))
  | badState
  deriving DecidableEq, Repr

/-- The Ranrok command interface. `staged` is in the order taken (R334); `waiting` holds the commands that wait for a
unit, in that order; `works` the commands marked D at work; `mctpOpen` says that a command of the MCTP path is not decided yet. -/
structure RanrokState where
  rings : Tab Ring
  cq : CompRing
  staged : List Staged
  waiting : List Work
  works : List Work
  mgmtUp : Bool
  mgmtUpSince : Nat
  restartBegan : Nat
  restarts : Nat
  restartCause : Nat
  restartMs : Nat
  lastBusy : Option Nat
  mctpReply : Option MctpReply
  mctpCount : Nat
  mctpOpen : Bool
  deriving DecidableEq, Repr

/-- The interface at power-up: rings at reset, management firmware not yet running (R504). -/
def RanrokState.reset : RanrokState :=
  { rings := [], cq := CompRing.reset, staged := [], waiting := [], works := [], mgmtUp := false, mgmtUpSince := 0,
    restartBegan := 0, restarts := 0, restartCause := 0, restartMs := 0, lastBusy := none, mctpReply := none,
    mctpCount := 0, mctpOpen := false }

/-- The registers of ring `r`. -/
def RanrokState.ring (x : RanrokState) (r : Nat) : Ring := Tab.read x.rings r Ring.reset

end Sys2Proof.Machine
end

