-- ==== Sys2Proof/Machine/TimeState.lean ====
section
/-!
DEFINITION. The state of the Beam and of network time (chapter 2). Times and offsets are in units of 2^-16 ns.
-/
namespace Sys2Proof.Machine

/-- One nanosecond, one microsecond, one millisecond and one second in units of 2^-16 ns. -/
def nsec : Nat := 65536
def usec : Nat := 65536000
def msec : Nat := 65536000000
def second : Nat := 65536000000000

/-- Servo states (Table 2.2). -/
inductive ServoState where
  | free | acquire | locked | slewing | holdover | external
  deriving DecidableEq, Repr

/-- The code of a servo state (Table 2.2). -/
def ServoState.code : ServoState → Nat
  | .free => 0 | .acquire => 1 | .locked => 2 | .slewing => 3 | .holdover => 4 | .external => 5

/-- The record of TIME_SERVO_SET (Table 2.13). -/
structure ServoSet where
  kp : Nat
  ki : Nat
  lockNs : Nat
  lockCount : Nat
  slewPpb : Nat
  freqLimit : Nat
  stepNs : Nat
  holdAvgS : Nat
  filterN : Nat
  deriving DecidableEq, Repr

/-- The defaults of Table 2.13 (R513). -/
def ServoSet.dflt : ServoSet := ⟨0x4000, 0x400, 50, 16, 50, 10000, 1000000, 300, 8⟩

/-- The record of TIME_DOMAIN_SET (Table 2.14). -/
structure DomainSet where
  number : Nat
  transport : Nat
  delayMode : Nat
  announceTimeout : Nat
  logDelayReq : Int
  classLimit : Nat
  priority : Nat
  enable : Bool
  revertive : Bool
  vlanTag : Bool
  portMask : Nat
  vlanId : Nat
  pcp : Nat
  dscp : Nat
  revertHoldS : Nat
  deriving DecidableEq, Repr

/-- Domain settings at the end of power-up (R513). -/
def DomainSet.dflt (priority : Nat) : DomainSet :=
  ⟨127, 0, 0, 3, -3, 187, priority, false, false, false, 0, 0, 0, 0, 60⟩

/-- A port's latest Announce in a domain. `rank` is its place in the best master clock order (lower is better), which
IEEE 1588 computes from the message's data set. -/
structure Announcer where
  last : Nat
  clockClass : Nat
  gm : Nat
  rank : Nat
  logAnnounce : Int
  deriving DecidableEq, Repr

/-- A time in a PTP message: its 48-bit seconds, and its nanoseconds in units of 2^-16 ns (R39). -/
structure PtpTime where
  sec : Nat
  sub : Nat
  deriving DecidableEq, Repr

/-- A PTP domain: settings, validity, its ports' masters, and its estimator's window (R41, R45, R47). `offset` is the offset
of the last Sync, `est` the last estimate that the estimator passed on since it began with its present grandmaster. `lastReq` is
the origin time of the last Delay_Req and `delayReqAt` the moment at which it departed. `meta_` is the SMPTE ST 2059-2
synchronisation metadata last read (Table 2.3). -/
structure Domain where
  set : DomainSet
  valid : Bool
  active : Option Nat
  masters : Tab Announcer
  gm : Nat
  offset : Int
  est : Option Int
  count : Nat
  best : Option (Int × Int)
  logSync : Int
  validSince : Nat
  delayReqAt : Nat
  lastReq : PtpTime
  meta_ : Bytes
  deriving DecidableEq, Repr

/-- A domain at the end of power-up (R513). -/
def Domain.reset (priority : Nat) : Domain :=
  { set := DomainSet.dflt priority, valid := false, active := none, masters := [], gm := 0, offset := 0, est := none,
    count := 0, best := none, logSync := -3, validSince := 0, delayReqAt := 0, lastReq := ⟨0, 0⟩, meta_ := [] }

/-- A capture unit (R60, Tables 2.7, 2.9, 2.18). -/
structure CaptureUnit where
  source : Nat
  edge : Nat
  event : Bool
  time : Nat
  capSource : Nat
  capState : Nat
  full : Bool
  missed : Nat
  deriving DecidableEq, Repr

/-- A capture unit with no source (R513). -/
def CaptureUnit.reset : CaptureUnit := ⟨0, 0, false, 0, 0, 0, false, 0⟩

/-- An armed trigger slot (R61, Table 2.19); `left` is the firings that remain, none for unlimited. -/
structure Trigger where
  action : Nat
  arg : Nat
  periodic : Bool
  next : Nat
  period : Nat
  left : Option Nat
  deriving DecidableEq, Repr

/-- A latched read of Beam time (R66). -/
structure Latch where
  time : Nat
  servo : Nat
  deriving DecidableEq, Repr

/-- The record of TIME_REFIO_SET. -/
structure RefIo where
  ppsWidth : Nat
  ppsOutOffset : Int
  ppsOutEn : Bool
  tenOutEn : Bool
  extRefEn : Bool
  extHold : Bool
  freeOut : Bool
  ppsInOffset : Int
  deriving DecidableEq, Repr

/-- Reference inputs and outputs at the end of power-up (R513). -/
def RefIo.reset : RefIo := ⟨100000000, 0, false, false, false, false, false, 0⟩

/-- A commanded step that waits for its moment (R65). -/
structure PendingStep where
  due : Nat
  absolute : Bool
  amount : Int
  target : Nat
  force : Bool
  deriving DecidableEq, Repr

/-- The Beam, its servo, domains, captures, triggers, latches and reference inputs and outputs.
`hold` is how long the Beam still holds its count after a negative correction (R40). `corr` is a correction of at most
10 ns that the next update removes (R49). `assess` asks for the phase to be assessed afresh at the next update (R49, R54,
R65), and `forced` says that this assessment slews whatever the size (R49, R53, R54). `slewFrom` and `slewAt` give the
remaining slew at a moment. `history` holds the adjustments of the last HOLD_AVG_S seconds of lock, newest first, each with
how long it was in force; the adjustment in force now began at `segAt` (R52). `srcMode` is TIME_SOURCE_SELECT's MODE. `tenRate`
is the frequency of 10 MHz in, as an adjustment of the oscillator in ppb (R59). `ppsRise` and `ppsFall` are the edges of
1PPS out for the present second (R58). `aonFrom` is the time that the AON wake counter started from, in KEEP (R43), and
`keepPort` the port that keeps PTP in TIMEKEEP. `line` is the frequency of the network lanes' transmit clocks against the oscillator, in
2^-16 ppb, `lineFrom` the moment up to which it has moved, and `lineFollows` says that they follow the Beam (09 R273). -/
structure TimeState where
  beam : Nat
  hold : Nat
  servo : ServoState
  integ : Rat
  adj : Rat
  set : ServoSet
  nextSet : Option ServoSet
  lockRun : Nat
  needStep : Bool
  corr : Option Int
  assess : Bool
  forced : Bool
  slewFrom : Int
  slewAt : Nat
  clampOn : Bool
  clamps : Nat
  history : List (Nat × Rat)
  segAt : Nat
  sel : Nat
  srcMode : Nat
  stepPending : Bool
  holdSince : Nat
  holdHour : Bool
  domA : Domain
  domB : Domain
  refio : RefIo
  refioNext : Option RefIo
  ppsOk : Bool
  ppsLast : Nat
  ppsMeas : Int
  tenOk : Bool
  tenRate : Rat
  ppsOut : Bool
  tenOut : Bool
  ppsRise : Nat
  ppsFall : Nat
  aonFrom : Option Nat
  keepPort : Option Nat
  line : Int
  lineFrom : Nat
  lineFollows : Bool
  copyLocked : Bool
  caps : Tab CaptureUnit
  trigs : Tab Trigger
  latches : Tab Latch
  lat : Tab Nat
  asym : Tab Int
  steps : List PendingStep
  deriving DecidableEq, Repr

/-- Time at power-up: state FREE, the configuration of R513; the Beam at 0 (assumption 6). -/
def TimeState.reset : TimeState :=
  { beam := 0, hold := 0, servo := .free, integ := 0, adj := 0, set := ServoSet.dflt, nextSet := none, lockRun := 0,
    needStep := true, corr := none, assess := false, forced := false, slewFrom := 0, slewAt := 0, clampOn := false,
    clamps := 0, history := [], segAt := 0, sel := 3, srcMode := 0, stepPending := false, holdSince := 0, holdHour := false,
    domA := Domain.reset 0, domB := Domain.reset 1, refio := RefIo.reset, refioNext := none, ppsOk := false,
    ppsLast := 0, ppsMeas := 0, tenOk := false, tenRate := 0, ppsOut := false, tenOut := false, ppsRise := 0, ppsFall := 0, aonFrom := none,
    keepPort := none, line := 0, lineFrom := 0, lineFollows := false, copyLocked := true, caps := [],
    trigs := [], latches := [], lat := [], asym := [], steps := [] }

/-- The domain of a handle: 0 is A, 1 is B. -/
def TimeState.dom (t : TimeState) (k : Nat) : Domain := if k = 0 then t.domA else t.domB

/-- The state with a domain changed. -/
def TimeState.setDom (t : TimeState) (k : Nat) (x : Domain) : TimeState :=
  if k = 0 then { t with domA := x } else { t with domB := x }

end Sys2Proof.Machine
end

