-- ==== Sys2Proof/Machine/LinkState.lean ====
section
/-!
DEFINITION. The state of the host link, its sessions, and the IDENT registers (chapter 10).
-/
namespace Sys2Proof.Machine

/-- What the module and the images it booted give the IDENT registers (Tables 10.6 and 10.7). -/
structure Ident where
  serial : Nat
  ranrokMajor : Nat
  ranrokMinor : Nat
  moduleRev : Nat
  dieRev : Nat
  mgmtVersion : Nat
  secVersion : Nat
  secSlot : Nat
  mgmtSlot : Nat
  deriving DecidableEq, Repr

/-- The answer last given to a host read or a message: data, poison (CXL.mem) or completer abort (BAR4). -/
structure HostReply where
  data : Bytes
  poison : Bool
  abort : Bool
  deriving DecidableEq, Repr

/-- A DOE response last given (R304): the protocol answered, for SPDM with the measurement blocks it returns (17 R491: index and digest); the CDAT's
DSLBIS gives a latency in ns and a bandwidth in bytes per second. -/
inductive DoeReply where
  | discovery
  | spdm (blocks : List (Nat × Bytes))
  | secured
  | cdat (latencyNs bandwidth : Nat)
  deriving DecidableEq, Repr

/-- An open SPDM session (R305): its number, and whether it runs over MCTP rather than DOE. -/
structure SpdmSession where
  id : Nat
  mctp : Bool
  deriving DecidableEq, Repr

/-- The host link (R287 to R311). `heartbeat` is how long management firmware had run before it last came up (Table 10.5). `training` is none, or the moment by which the link reaches L0 (R310). -/
structure LinkState where
  up : Bool
  mode : Nat
  width : Nat
  bme : Bool
  d3hot : Bool
  perst : Bool
  disabled : Bool
  training : Option Nat
  hostResets : Nat
  lastReset : Nat
  sessions : List SpdmSession
  nextSession : Nat
  ideCm : Bool
  ideIo : Bool
  ident : Ident
  bootStage : Nat
  bootError : Nat
  rescue : Bool
  measured : Bool
  bootEnd : Option Nat
  uptime : Nat
  heartbeat : Nat
  secUp : Bool
  secRestartEnd : Nat
  reply : HostReply
  doe : Option DoeReply
  spdmCount : Nat
  lastE444 : Option Nat
  replays : Nat
  refClock : Bool
  deriving DecidableEq, Repr

/-- The link at power-up: down, never trained; IDENT not yet read from the module (assumption 7). -/
def LinkState.reset : LinkState :=
  { up := false, mode := 0, width := 0, bme := false, d3hot := false, perst := true, disabled := false,
    training := none, hostResets := 0, lastReset := 0, sessions := [], nextSession := 1, ideCm := false, ideIo := false,
    ident := ⟨0, 1, 0, 0, 0, 0, 0, 0, 0⟩, bootStage := 1, bootError := 0, rescue := false, measured := false,
    bootEnd := none, uptime := 0, heartbeat := 0, secUp := false, secRestartEnd := 0, reply := ⟨[], false, false⟩,
    doe := none, spdmCount := 0, lastE444 := none, replays := 0, refClock := true }

end Sys2Proof.Machine
end

