-- ==== Sys2Proof/Machine/CodingState.lean ====
section
/-!
DEFINITION. The state of channels, renditions and rods (chapters 5 and 6).
-/
namespace Sys2Proof.Machine

/-- A line of a picture. -/
abbrev VLine := List Pix

/-- A channel record (Table 5.16). -/
structure ChannelRec where
  width : Nat
  height : Nat
  rateNum : Nat
  rateDen : Nat
  sampling : Nat
  colorimetry : Nat
  tcs : Nat
  hostIndependent : Bool
  freeRun : Bool
  spanAllowed : Bool
  motionField : Bool
  complexityMap : Bool
  align : Nat
  homeA : Nat
  homeB : Nat
  homeGroup : Nat
  statsSlots : Nat
  statsOffset : Nat
  deriving DecidableEq, Repr

/-- No record: every field 0 (an IDLE channel has none). -/
def ChannelRec.none : ChannelRec := ⟨0, 0, 0, 0, 0, 0, 0, false, false, false, false, false, 0, 255, 255, 255, 0, 0⟩

/-- Channel states (Table 5.9). -/
inductive ChannelState where
  | idle | defined | live | stopping
  deriving DecidableEq, Repr

/-- A statistics or proxy ring's account: its WRITE_INDEX, the slots dropped since the last written, and whether the loss to
a retired quarter has been reported (R301). `rd` is the READ_INDEX of a ring whose control area a newer ring has taken (R162). -/
structure RingAcct where
  windex : Nat
  dropped : Nat
  lostToQuarter : Bool
  rd : Option Nat
  deriving DecidableEq, Repr

def RingAcct.reset : RingAcct := ⟨0, 0, false, none⟩

/-- A channel. `next` is the next frame to tick; `committed` counts the frames whose commit point has passed, and `grid` is
the tick number (R62) of frame `committed`; `ticks` holds the ticks of committed frames, moved by forced steps (R65).
`rodB` is 255 on one rod. `stop` is the first frame that is not coded (R159); `lossStop` asks for the stop of R311.
`prior` holds the statistics rings that frames before a change still
use, oldest first (R162): the frame of effect, the record, its account; `remask` lists the rods on which the mask changes at the next commit point (R198);
`planned` is the commanded move that firmware has arranged for it (rods a and b and its masks there, R515; 16 R457, 17 R475), and the frames before `floorTo` that are
not yet coded stay without PEs (16 R468). -/
structure Channel where
  recd : ChannelRec
  state : ChannelState
  grid : Nat
  next : Nat
  committed : Nat
  lastTick : Nat
  ticks : Tab Nat
  stop : Option Nat
  lossStop : Bool
  rodA : Nat
  rodB : Nat
  maskA : Nat
  maskB : Nat
  stats : RingAcct
  prior : List (Nat × ChannelRec × RingAcct)
  degraded : Bool
  remask : List Nat
  planned : Option (Nat × Nat × Nat × Nat)
  floorTo : Nat
  deriving DecidableEq, Repr

/-- An IDLE channel. -/
def Channel.reset : Channel :=
  { recd := ChannelRec.none, state := .idle, grid := 0, next := 0, committed := 0, lastTick := 0, ticks := [],
    stop := Option.none, lossStop := false, rodA := 255, rodB := 255, maskA := 0, maskB := 0,
    stats := RingAcct.reset, prior := [], degraded := false,
    remask := [], planned := Option.none, floorTo := 0 }

/-- A rendition record (Table 5.17). -/
structure RendRec where
  channel : Nat
  echoOf : Nat
  codec : Nat
  profile : Nat
  level : Nat
  preset : Nat
  width : Nat
  height : Nat
  cropX : Nat
  cropY : Nat
  cropW : Nat
  cropH : Nat
  chroma : Nat
  depth : Nat
  ltTest : Bool
  refs : Nat
  rateKbps : Nat
  delay : Nat
  refresh : Nat
  shadow : Nat
  pool : Nat
  qpMin : Nat
  qpMax : Nat
  deriving DecidableEq, Repr

/-- What RCT firmware writes for a picture (R181), with its header bits (R180). -/
structure RctPlan where
  qp : Nat
  target : Nat
  ceiling : Nat
  headerBits : Nat
  deriving DecidableEq, Repr

/-- The first cause that floored a row (R184). -/
inductive FloorCause where
  | fault | budget | late
  deriving DecidableEq, Repr

/-- A restart point (R183): the bits of a tile column's part of the row after a block, the PE that delivered it, and the references it uses. -/
structure Point where
  bits : Nat
  pe : Nat
  refs : List Nat
  deriving DecidableEq, Repr

/-- Where a block's reconstruction comes from (R173, R176): a PE, the compressed tiles of a reference, predicted samples, or nothing, since a copy's
reference reads as poison. -/
inductive Recon where
  | coded | copy (ref : Nat) | flat | lost
  deriving DecidableEq, Repr

/-- A row being coded: its cap (R182), the blocks that the PEs have delivered in its tile column, or in the left and the right one of a split
rendition (R137), newest first; its bits once ended, the first cause that floored a block, its reference list (R192, R201), whether that reads as
poison, and the reconstruction of its blocks once it is complete (R176). -/
structure RowState where
  cap : Nat
  points : List Point
  right : List Point
  bits : Option Nat
  cause : Option FloorCause
  entered : Bool
  refs : List Nat
  poison : Bool
  recon : List Recon
  deriving DecidableEq, Repr

/-- A part of the syntax that goes with a picture (R156, Tables 5.8, 6.3 and 6.5): parameter sets or an AV1 sequence header with their colour and HRD, the
picture or frame header with its picture count, reference marking and lists, SEI and metadata. -/
inductive HeadPart where
  | paramSets (codec profile level width height chroma depth : Nat)
  | colour (colorimetry tcs : Nat)
  | hrd (codec rateKbps buffer : Nat) (lowDelay unitPerRow : Bool)
  | picture (idr : Bool) (order : Nat)
  | refLists (short long : List Nat)
  | filterStop (block : Nat)
  | bufferingPeriod
  | pictureTiming
  | recoveryPoint (count : Nat) (exact : Bool)
  | gdr (count : Nat)
  | refreshMeta (data : Bytes)
  | t35 (obu : Bool) (did sdid : Nat) (data : Bytes)
  | captionPadding (obu : Bool)
  deriving DecidableEq, Repr

/-- A picture of a rendition being coded, as its summary record (Table 5.11) will report it. `recd`, `delay` (D in 10 ns),
the rods, masks and bitstream units are the configuration of its own frame (R33, R35, R152, R200); `split` is the first block of the right tile
column (R137), `refs` its reference list, newest first and long-term last (R192), `heads` its headers (R156); `planned` says that its first row mark has come; `lost` that no reconstruction is written for
what is left of it, so that it is floor-coded and never a reference (R202; 12 R376); `reported` that its statistics slot is over. -/
structure Picture where
  recd : RendRec
  delay : Nat
  rodA : Nat
  rodB : Nat
  maskA : Nat
  maskB : Nat
  buA : Nat
  buB : Nat
  split : Option Nat
  refs : List Nat
  long : List Nat
  heads : List HeadPart
  planned : Bool
  kind : Nat
  refreshPos : Nat
  intra : Bool
  plan : RctPlan
  ceiling : Nat
  left : Int
  allFloor : Bool
  rows : Tab RowState
  state : Nat
  hrdBits : Nat
  lost : Bool
  reported : Bool
  deriving DecidableEq, Repr

/-- The reference pool of a rendition (Table 6.6), by frame index: short-term newest first, the long-term reference, the
one it replaces while its shadow is copied, the shadow (frame, group), the copy in progress (frame, frames left), and
the pictures marked unused because their reconstruction was lost (R176). -/
structure RefPool where
  short : List Nat
  long : Option Nat
  oldLong : Option Nat
  shadow : Option (Nat × Nat)
  copying : Option (Nat × Nat)
  spoiled : List Nat
  fromShadow : Bool
  deriving DecidableEq, Repr

def RefPool.reset : RefPool := ⟨[], none, none, none, none, [], false⟩

/-- Why a rendition is on a recovery path (R195), and the frame at which the path ends, where it is known. -/
structure RecoveryPath where
  kind : Nat
  ends : Option Nat
  deriving DecidableEq, Repr

/-- A rendition. `occ` is the sender occupancy V (R179) in units of 1 / (65536 × 10^6) bit at Beam time `occAt`.
`dInForce` is D in 10 ns units. `start` and `stop` are its first frame, and the first frame without it. `shareA` and `shareB` are the beads that it holds on
its channel's rods (R147), `buA` and `buB` its units there (255: none). `template` is the header template of its last picture (R157); `captions` are those that wait
for a later picture (R180), and `capSeen` says how many of a frame's have been taken up. `stored` is the stored size of its reference pictures (12 R368); `lines` holds
the lines handed to its rods, in its own sampling, by frame and line (04 R118). -/
structure Rendition where
  recd : RendRec
  live : Bool
  start : Nat
  stop : Option Nat
  dInForce : Nat
  shareA : Nat
  shareB : Nat
  buA : Nat
  buB : Nat
  pictures : Nat
  floorRows : Nat
  idrCount : Nat
  rctLateCount : Nat
  trafficMax : Nat
  idrAt : Option Nat
  cycleStart : Nat
  occ : Nat
  occAt : Nat
  lastPlan : RctPlan
  pics : Tab Picture
  pool : RefPool
  paths : List RecoveryPath
  template : List HeadPart
  captions : List (Nat × Nat × Bytes)
  capSeen : Nat × Nat
  stored : Tab Nat
  lines : Tab (Tab VLine)
  deriving DecidableEq, Repr

/-- A rendition as RENDITION_SET creates it. -/
def Rendition.ofRec (r : RendRec) : Rendition :=
  { recd := r, live := false, start := 0, stop := none, dInForce := 0, shareA := 0, shareB := 0, buA := 255, buB := 255, pictures := 0,
    floorRows := 0, idrCount := 0, rctLateCount := 0, trafficMax := 0, idrAt := none, cycleStart := 0, occ := 0,
    occAt := 0, lastPlan := ⟨0, 0, 0, 0⟩, pics := [], pool := RefPool.reset, paths := [],
    template := [], captions := [], capSeen := (0, 0), stored := [], lines := [] }

/-- A rod (Table 5.20). `engines` holds the failed engines other than PEs by their number in Table 17.4 (7 RCT, 8 AFE, 9
BU0, 10 BU1, 11 FLC); `handFrom` is the moment from which a faulted rod's channels hand over, `handTo` the spare
that takes them, and `handMasks` the masks that they take there (R515). -/
structure Rod where
  service : Nat
  role : Nat
  pe : Nat
  clockMhz : Nat
  rowsCoded : Nat
  rowsFloor : Nat
  sramCorrected : Nat
  rctLate : Nat
  lastFloor : Option Nat
  engines : List Nat
  handFrom : Option Nat
  handTo : Option Nat
  handMasks : Tab Nat
  deriving DecidableEq, Repr

/-- A rod at the end of power-up: in service and off, with seven PEs (Tables 1.4 and 16.5, assumption 8). -/
def Rod.reset : Rod :=
  { service := 0, role := 2, pe := 0x7F, clockMhz := 1800, rowsCoded := 0, rowsFloor := 0, sramCorrected := 0,
    rctLate := 0, lastFloor := none, engines := [], handFrom := none, handTo := none, handMasks := [] }

/-- Channels, renditions and rods. -/
structure CodingState where
  channels : Tab Channel
  rends : Tab Rendition
  rods : Tab Rod
  deriving DecidableEq, Repr

/-- No records. -/
def CodingState.reset : CodingState := ⟨[], [], []⟩

/-- Channel `c`. -/
def CodingState.chan (x : CodingState) (c : Nat) : Channel := Tab.read x.channels c Channel.reset

/-- Rod `n`. -/
def CodingState.rod (x : CodingState) (n : Nat) : Rod := Tab.read x.rods n Rod.reset

end Sys2Proof.Machine
end

