-- ==== Sys2Proof/Machine/VideoState.lean ====
section
/-!
DEFINITION. The state of ingest and contribution decode (chapter 3) and of the compositor and sealed layer (chapter 4).
-/
namespace Sys2Proof.Machine

/-- A pixel of a flat plane (04 R109): Y'CbCr and alpha at 10 bits, premultiplied. -/
structure PlanePix where
  y : Nat
  cb : Nat
  cr : Nat
  a : Nat
  deriving DecidableEq, Repr

/-- An ingest flow record (Table 3.10); `audio` holds bytes 80 to 127 of KIND 5 and 6 (chapter 14). -/
structure FlowRec where
  kind : Nat
  enable : Bool
  legB : Bool
  ipv6 : Bool
  sourceSpecific : Bool
  vlan : Bool
  fromHost : Bool
  portA : Nat
  portB : Nat
  udpA : Nat
  udpB : Nat
  groupA : Nat
  sourceA : Nat
  groupB : Nat
  sourceB : Nat
  vlanA : Nat
  vlanB : Nat
  pt : Nat
  hostq : Nat
  losMs : Nat
  width : Nat
  height : Nat
  rateNum : Nat
  rateDen : Nat
  sampling : Nat
  depth : Nat
  colorimetry : Nat
  tcs : Nat
  coding : Nat
  cpbBits : Nat
  maxKbps : Nat
  audio : Bytes
  deriving DecidableEq, Repr

/-- One leg of a flow: the moment of its last packet, whether it is lost (R73), the packets it delivered. -/
structure Leg where
  last : Nat
  lost : Bool
  packets : Nat
  deriving DecidableEq, Repr

/-- A leg from a moment on: LOS_MS counts from then. -/
def Leg.from_ (t : Nat) : Leg := ⟨t, false, 0⟩

/-- An ingest flow. `decoder` is the DX or XD number that holds it (R88); `seqs` the sequence numbers taken in
the last second, with their arrival and whether leg B brought them, `top` the newest taken, `holes` those passed over, with the moment
(R72); `was` the records that packets of earlier frames still meet, each with the capture time from which it no longer holds (R97; 01 R33);
`good` is the most recent correctly decoded picture (Table 3.6); `dropped` the RTP capture time of the frame last dropped (R75); `unfit` says that E370 has been raised; `concealed` holds why the output is concealed
(Table 3.6), as a mask: bit 0 a missing reference, bit 1 a slice, bit 2 skipped pictures; `cpb` the bits in its coded-picture buffer (R89); `pcr` the Beam less the
stream's PCR (R91); `refsGone` says that its references went with a group (12 Table 12.5); `capture` the capture time of an audio flow's last packet (R417); the counters are those of Table 3.14. -/
structure Flow where
  recd : FlowRec
  was : List (Int × FlowRec)
  decoder : Option Nat
  legA : Leg
  legB : Leg
  lost : Bool
  seqs : List (Nat × Nat × Bool)
  top : Option Nat
  holes : List (Nat × Nat)
  dropped : Option Int
  unfit : Bool
  lostMerged : Nat
  duplicates : Nat
  lateDiscard : Nat
  linesFilled : Nat
  missing : Nat
  framesDropped : Nat
  concealedPics : Nat
  decodeErrors : Nat
  lateLines : Nat
  skew : Int
  skewSince : Option Nat
  skewTold : Bool
  rtpOffset : Int
  lags : List (Nat × Nat)
  concealed : Nat
  behind : Bool
  cpb : Nat
  pcr : Option Int
  capture : Option Nat
  ancDropped : Nat
  refsGone : Bool
  good : List VLine
  deriving DecidableEq, Repr

/-- A flow as INGEST_FLOW_SET creates it. -/
def Flow.ofRec (now : Nat) (r : FlowRec) : Flow :=
  { recd := r, was := [], decoder := none, legA := Leg.from_ now, legB := Leg.from_ now, lost := false, seqs := [], top := none, holes := [],
    dropped := none, unfit := false, lostMerged := 0, duplicates := 0, lateDiscard := 0, linesFilled := 0, missing := 0,
    framesDropped := 0, concealedPics := 0, decodeErrors := 0, lateLines := 0, skew := 0, skewSince := none, skewTold := false,
    rtpOffset := 0, lags := [], concealed := 0, behind := false, cpb := 0, pcr := none, capture := none, ancDropped := 0, refsGone := false, good := [] }

/-- The parameters of INGEST_BIND (Table 3.11). -/
structure BindRec where
  source : Nat
  holdUntilRap : Bool
  ancValid : Bool
  videoIf : Nat
  ancIf : Nat
  returnFrames : Nat
  fillLagNs : Nat
  freezeMs : Nat
  slate : Nat
  deriving DecidableEq, Repr

/-- What the compositor shows (R81): live video, the previous-frame store, or the slate. -/
inductive FillMode where
  | live | freeze | slate
  deriving DecidableEq, Repr

/-- A source line in a row ring: the sample ranges that have arrived (first, count), the samples at 10 bits, and whether its decoded picture is
marked concealed. -/
structure RingLine where
  ranges : List (Nat × Nat)
  pix : VLine
  concealed : Bool
  deriving DecidableEq, Repr

/-- A frame being filled: its source's capture time (none: no source frame is assigned, R75), the lines in the ring, the number of
the next line to take, the lines filled so far, whether any line was received, whether its picture is concealed, the OR of its row
flags (Table 3.3), what it shows, whether E357 and E369 have been raised for it, and its ancillary packets (DID, SDID, bytes; R94). -/
structure SourceFrame where
  capture : Option Int
  lines : Tab RingLine
  nextLine : Nat
  filled : Nat
  received : Bool
  concealed : Bool
  flags : Nat
  shown : FillMode
  toldFill : Bool
  toldXs : Bool
  anc : List (Nat × Nat × Bytes)
  deriving DecidableEq, Repr

/-- A frame of which nothing has arrived. -/
def SourceFrame.empty : SourceFrame :=
  { capture := none, lines := [], nextLine := 0, filled := 0, received := false, concealed := false, flags := 0, shown := .live,
    toldFill := false, toldXs := false, anc := [] }

/-- A frame is shown in freeze or slate: that is its mode, or none of the lines taken of it was received (R81). -/
def SourceFrame.still (x : SourceFrame) : Bool := x.shown != .live || (x.nextLine != 0 && !x.received)

/-- The captions that a frame's pictures carry: none of its own, padding only, where it is shown in freeze or slate (R95). -/
def SourceFrame.captions (x : SourceFrame) : List (Nat × Nat × Bytes) := if x.still then [] else x.anc

/-- A host frame descriptor as fetched (Table 3.5): when it came, whether the module has begun to read its frame, and what the check of its
trailer gave (R85, R86). -/
structure HostDesc where
  frame : Nat
  luma : Nat
  chroma : Nat
  pitchY : Nat
  pitchC : Nat
  format : Nat
  crc : Bool
  bad : Bool
  crcAddr : Nat
  index : Nat
  came : Nat
  begun : Bool
  checked : Option Bool
  deriving DecidableEq, Repr

/-- A host frame ring (R84, Table 3.12); `head` is the next descriptor to fetch, `lineHeld` the tail word's line held in
Shared state (R291); `queue` the descriptors fetched and not written back. -/
structure HostRing where
  addr : Nat
  tailAddr : Nat
  entries : Nat
  crcRequired : Bool
  noTrailer : Bool
  enabled : Bool
  head : Nat
  lineHeld : Bool
  queue : List HostDesc
  deriving DecidableEq, Repr

/-- The anchor of a transport stream (R91): the picture's PTS, its frame, and the Beam less PCR of that moment. -/
structure TsAnchor where
  pts : Nat
  frame : Nat
  pcr : Int
  deriving DecidableEq, Repr

/-- A channel's ingest side: its binding (`was`: those of earlier frames, R33), the ring grant in lines and bytes and the host read
charge in bytes per second (R78, R292), what is shown and since when, the frames at which a new source puts the channel in freeze
(R83), the frame from which the slate replaces the store, the run of complete frames (R82), its frames in flight, whether the previous
frame had a filled line (E357), the previous-frame store by line (R79; black where it lists none, 12 Table 12.5), the host frame ring, whether E371 has been
raised since binding, and the anchors of transport streams by flow. `nextFrame` is the frame whose lines are being taken. -/
structure Binding where
  recd : Option BindRec
  was : List (Nat × Option BindRec)
  ringLines : Nat
  ringBytes : Nat
  charge : Nat
  mode : FillMode
  freezeTick : Nat
  switches : List Nat
  slateFrom : Option Nat
  run : Nat
  nextFrame : Nat
  frames : Tab SourceFrame
  lastFilled : Bool
  store : Tab VLine
  host : Option HostRing
  ancTold : Bool
  anchors : Tab TsAnchor
  deriving DecidableEq, Repr

def Binding.reset : Binding :=
  { recd := none, was := [], ringLines := 0, ringBytes := 0, charge := 0, mode := .live, freezeTick := 0, switches := [], slateFrom := none,
    run := 0, nextFrame := 0, frames := [], lastFilled := false, store := [], host := none, ancTold := false, anchors := [] }

/-- The binding as its channel starts: live, or the slate where it has no source (Table 3.11). -/
def Binding.start (b : Binding) : Binding :=
  { b with
    was := [], freezeTick := 0, switches := [], slateFrom := none, run := 0, nextFrame := 0, frames := [], lastFilled := false, store := [], anchors := []
    mode := match b.recd with
      | some r => if r.source = 2 then .slate else .live
      | none => .live }

/-- A slate in the store (R99): its size and format, and the image's bytes as copied. -/
structure Slate where
  width : Nat
  height : Nat
  format : Nat
  pitch : Nat
  image : Bytes
  deriving DecidableEq, Repr

/-- A membership (R71): port, IPv6 or not, group, source where the join is source-specific, and the VLAN of its flow where it has one. -/
structure Member where
  port : Nat
  ipv6 : Bool
  group : Nat
  source : Option Nat
  vlan : Option Nat
  deriving DecidableEq, Repr

/-- What a membership report says of a membership (R71): it stands, it begins, it ends. -/
inductive Report where
  | current | join | leave
  deriving DecidableEq, Repr

/-- Ingest flows, bindings by channel, slates (`shown`: the image each channel showing one has taken up, R99), the number of membership reports made, and the latest
of them (R71). -/
structure IngestState where
  flows : Tab Flow
  binds : Tab Binding
  slates : Tab Slate
  shown : Tab Slate
  reports : Nat
  said : List (Member × Report)
  deriving DecidableEq, Repr

def IngestState.reset : IngestState := ⟨[], [], [], [], 0, []⟩

def IngestState.bind (x : IngestState) (c : Nat) : Binding := Tab.read x.binds c Binding.reset

def IngestState.setFlow (n : Nat) (v : Flow) (x : IngestState) : IngestState := { x with flows := Tab.put n v x.flows }

def IngestState.setBind (c : Nat) (v : Binding) (x : IngestState) : IngestState := { x with binds := Tab.put c v x.binds }

/-- A layer record (Table 4.6). -/
structure Layer where
  enable : Bool
  isStatic : Bool
  format : Nat
  colour : Nat
  z : Nat
  surface : Nat
  pitch : Nat
  srcX : Nat
  srcY : Nat
  srcW : Nat
  srcH : Nat
  dstX : Int
  dstY : Int
  dstW : Nat
  dstH : Nat
  alpha : Nat
  decim : Nat
  deriving DecidableEq, Repr

/-- A layer that is off. -/
def Layer.off : Layer := ⟨false, false, 0, 0, 1, 0, 0, 0, 0, 1, 1, 0, 0, 1, 1, 0, 0⟩

/-- A flat plane (R109): the static layers it holds, its Z position, the directory entries it uses, its tiles that hold a pixel with alpha above 0 (in raster order
across the picture, 64 × 16 pixels each), and the line from
which it is transparent after a poisoned read (R119). -/
structure FlatPlane where
  layers : List Nat
  z : Nat
  entries : Nat
  tiles : Tab (List PlanePix)
  poisonFrom : Option Nat
  deriving DecidableEq, Repr

/-- A flatten under way (R112, R113): its number on the channel, when it began, whether a later command has asked for the newest
configuration, whether it builds the planes in force again in a new home (R119), and the commands of a channel that is not live that wait for it. -/
structure Flatten where
  gen : Nat
  began : Nat
  again : Bool
  rebuild : Bool
  waits : List (Nat × Ctx)
  deriving DecidableEq, Repr

/-- COMP_CONFIDENCE_SET's record (Table 4.7). -/
structure Confidence where
  mode : Nat
  slots : Nat
  outHandle : Nat
  ringOffset : Nat
  deriving DecidableEq, Repr

/-- What the compositor last put out for a channel: frame, line, the video's flags, the graphics drawn from bottom to top
(1 to 6; a plane by its layers), what L7 drew there: asset, image, and horizontal place (R101, R127), and the samples. -/
structure LineOut where
  frame : Nat
  line : Nat
  flags : Nat
  layers : List Nat
  sealed : Option (Nat × Nat × Int)
  pix : VLine
  deriving DecidableEq, Repr

/-- A channel's compositor. `was` and `planesWas` hold the layers and planes of earlier frames (R33); `flatGen` numbers the flattens,
`ready` holds the planes of finished ones until they land (the flatten's number, the planes, whether it built them again); `lines` holds the lines of the present
frame as composited; `prior` holds the confidence records that frames before a change still use,
oldest first, with their WRITE_INDEX; `dropNow` says that the present frame has lost confidence lines, `dropping` that the last one did; `poisonFrame`
is the last frame that raised E386; `sealDrawn` that L7 was drawn in the present frame. -/
structure Comp where
  layers : Tab Layer
  was : List (Nat × Tab Layer)
  planes : List FlatPlane
  planesWas : List (Nat × List FlatPlane)
  flatten : Option Flatten
  flatGen : Nat
  ready : List (Nat × List FlatPlane × Bool)
  conf : Confidence
  prior : List (Nat × Confidence × RingAcct)
  proxy : RingAcct
  planesLost : Bool
  dropNow : Bool
  dropping : Bool
  poisonFrame : Option Nat
  sealDrawn : Bool
  out : LineOut
  lines : Tab VLine
  deriving DecidableEq, Repr

def Comp.reset : Comp :=
  { layers := [], was := [], planes := [], planesWas := [], flatten := none, flatGen := 0, ready := [], conf := ⟨0, 0, 0, 0⟩, prior := [],
    proxy := RingAcct.reset, planesLost := false, dropNow := false, dropping := false, poisonFrame := none, sealDrawn := false, out := ⟨0, 0, 0, [], none, []⟩, lines := [] }

/-- The compositor as its channel starts. -/
def Comp.start (x : Comp) : Comp :=
  { x with was := [], planesWas := [], prior := [], dropNow := false, dropping := false, poisonFrame := none, sealDrawn := false, out := ⟨0, 0, 0, [], none, []⟩, lines := [] }

/-- An operator key (R124): the public key and the last SEQ accepted. -/
structure OpKey where
  pub : Bytes
  seq : Nat
  deriving DecidableEq, Repr

/-- A sealed asset (R126): size, colour, images, its two groups, and its images' bytes in order. -/
structure Asset where
  width : Nat
  height : Nat
  colour : Nat
  images : Nat
  groupA : Nat
  groupB : Nat
  pixels : Bytes
  deriving DecidableEq, Repr

/-- An activation on a channel: the frame at which it started there, whether it has ended, and the time from which a clear ends it. -/
structure ActChan where
  started : Option Nat
  ended : Bool
  clearFrom : Option Nat
  deriving DecidableEq, Repr

def ActChan.reset : ActChan := ⟨none, false, none⟩

/-- A seal activation (R127, Table 4.8), in order of acceptance; `accepted` is the moment of that. -/
structure Activation where
  accepted : Nat
  asset : Nat
  key : Nat
  mode : Nat
  mask : Nat
  winStart : Nat
  winEnd : Nat
  dstX : Int
  dstY : Int
  speed : Int
  crawlWidth : Nat
  chans : Tab ActChan
  deriving DecidableEq, Repr

/-- A signed block at the security core (R125). -/
structure SealJob where
  op : Nat
  ctx : Ctx
  deriving DecidableEq, Repr

/-- A final that waits for the next commit point of a channel (R337): its status and detail, and the frame and time of effect. -/
structure SealWait where
  channel : Nat
  ctx : Ctx
  status : Nat
  detail : Nat
  frame : Nat
  eff : Nat
  deriving DecidableEq, Repr

/-- Layers, planes, confidence outputs, keys, assets and activations; `clears` the channels and times of clears to come. -/
structure CompState where
  chans : Tab Comp
  keys : Tab OpKey
  ownerSeq : Nat
  assets : Tab Asset
  acts : List Activation
  clears : List (Nat × Nat)
  jobs : List SealJob
  waits : List SealWait
  deriving DecidableEq, Repr

def CompState.reset : CompState := ⟨[], [], 0, [], [], [], [], []⟩

def CompState.setChan (c : Nat) (v : Comp) (x : CompState) : CompState := { x with chans := Tab.put c v x.chans }

def CompState.chan (x : CompState) (c : Nat) : Comp := Tab.read x.chans c Comp.reset

end Sys2Proof.Machine
end

