-- ==== Sys2Proof/Machine/PlatformState.lean ====
section
/-!
DEFINITION. The state of the DRAM subsystem (chapter 12), of modes, clocks and power (chapter 16).
-/
namespace Sys2Proof.Machine

/-- An interleave group (Tables 12.8 and 12.13). `service` is its state's code; `retrained` and `tested` are the TESTS bits, `ready` says that
a passing test has followed a passing retrain (R380); `drainBy` is the moment a drain must end, `retire` the retirement that is under way
(frozen channel or 255, cause; R374), `testFails` the errors seen during a test (R377). -/
structure Group where
  service : Nat
  grainLog2 : Nat
  retrained : Bool
  tested : Bool
  ready : Bool
  bytes : Nat
  attributed : Nat
  corrected : Nat
  uncorrectable : Nat
  poisonReads : Nat
  discarded : Nat
  retirements : Nat
  lastRetire : Nat
  loadPermille : Nat
  drainBy : Option Nat
  retire : Option (Nat × Nat)
  testFails : Nat
  deriving DecidableEq, Repr

/-- A group before its channels are trained: out of service (R504 stage 0x06; assumption 9). -/
def Group.reset : Group :=
  { service := 2, grainLog2 := 12, retrained := false, tested := false, ready := false, bytes := 0, attributed := 0, corrected := 0,
    uncorrectable := 0, poisonReads := 0, discarded := 0, retirements := 0, lastRetire := 0, loadPermille := 0,
    drainBy := none, retire := none, testFails := 0 }

/-- A DRAM channel's controller (Table 12.12). `history` holds its last 64 commands, newest first; `recent` the moments of
corrections in the last second, `windowErrs` those of window errors (R365, R372); `owed` the refreshes each bank owes;
`training` the delays as trained and as WCK2DQ tracking has moved them (R364). -/
structure DramChannel where
  cause : Nat
  rule : Nat
  bank : Nat
  page : Nat
  slot : Nat
  requester : Nat
  syndrome : Nat
  requesterId : Nat
  address : Nat
  freezeTime : Nat
  corrected : Nat
  history : List Nat
  modeRegs : Bytes
  training : Bytes
  recent : List Nat
  warned : Bool
  windowErrs : List Nat
  owed : Tab Nat
  deriving DecidableEq, Repr

def DramChannel.reset : DramChannel :=
  { cause := 0, rule := 0, bank := 0, page := 0, slot := 0, requester := 0, syndrome := 0, requesterId := 0,
    address := 2 ^ 64 - 1, freezeTime := 0, corrected := 0, history := [], modeRegs := [], training := [], recent := [],
    warned := false, windowErrs := [], owed := [] }

/-- Where a channel's working set lies (R369 to R376): home group, extents, the re-home plan of each group in service
(none: no place), and whether it runs bare. `moved` tells of a move whose E324 waits for a row mark (old group, first frame in the new
home; R375), `draining` of the group that older references are still read from, and the first frame that is not (R378). -/
structure Placement where
  home : Nat
  extents : Nat
  plan : Option Nat
  bare : Bool
  moved : Option (Nat × Nat)
  draining : Option (Nat × Nat)
  deriving DecidableEq, Repr

/-- A rendition's shadow: its group and extents (R370). -/
structure ShadowPlace where
  group : Nat
  extents : Nat
  deriving DecidableEq, Repr

/-- The two groups that hold a module-store item (R360). -/
structure Copies where
  a : Nat
  b : Nat
  deriving DecidableEq, Repr

/-- The DRAM subsystem: `slates` and `mgmt` say which groups hold the copies of slates and of management data (R360), `scrubPos` how far
the patrol scrub has come. -/
structure DramState where
  groups : Tab Group
  chans : Tab DramChannel
  places : Tab Placement
  shadows : Tab ShadowPlace
  slates : Tab Copies
  mgmt : Copies
  scrubPos : Nat
  deriving DecidableEq, Repr

def DramState.reset : DramState := ⟨[], [], [], [], [], ⟨0, 1⟩, 0⟩

def DramState.group (x : DramState) (g : Nat) : Group := Tab.read x.groups g Group.reset

def DramState.chan (x : DramState) (c : Nat) : DramChannel := Tab.read x.chans c DramChannel.reset

/-- Mode codes (Table 16.1). -/
def mOff : Nat := 0
def mKeep : Nat := 1
def mTimekeep : Nat := 2
def mArmed : Nat := 3
def mFrugal : Nat := 4
def mBalanced : Nat := 5
def mGuarded : Nat := 6
def mDense : Nat := 7
def mDrain : Nat := 8
def mMaintain : Nat := 9
def mHold : Nat := 10
def mRescue : Nat := 11

/-- A transition under way (R455): the command that asked for it, its destination, the moment it takes effect, the mode
after a drain (0: it is no drain), the channels to start (R456), and the status and detail of its final. -/
structure Transition where
  ctx : Option Ctx
  target : Nat
  effect : Nat
  nextMode : Nat
  startMask : Nat
  status : Nat
  detail : Nat
  deriving DecidableEq, Repr

/-- The scheduled start (R461): `woken` says that its wake moment has come, `owed` that the move to its rest mode waits for a transition. -/
structure Schedule where
  mode : Nat
  deepest : Nat
  mask : Nat
  start : Nat
  rest : Nat
  wakeAt : Nat
  woken : Bool
  owed : Bool
  deriving DecidableEq, Repr

/-- The end of a transition that came while management firmware restarted (R460): its command, the old and the new mode, the status and
detail of its final, and its moment of effect. -/
structure LateEnd where
  ctx : Option Ctx
  old : Nat
  new : Nat
  status : Nat
  detail : Nat
  eff : Nat
  deriving DecidableEq, Repr

/-- Island sleep states (Table 16.4). -/
inductive Sleep where
  | awake | nap | doze | sleep | off
  deriving DecidableEq, Repr

/-- Modes, islands, throttles, temperatures and power (R452 to R471, Table 16.14). Islands are numbered: 0 to 23 the rods, 24
to 27 DX0 to DX3, 28 to 31 XD0 to XD3, 32 the flattener, 33 the copy engine, 34 and 35 the audio cores, 36 to 39 the
management cores. `limits` holds the lowered thresholds by sensor (warning, throttle); `over` the thresholds passed, by
sensor: bit 0 warning, 1 throttle, 2 duty, 3 trip. `temps` are in 1/256 °C. `unlocked` lists the PLLs out of lock (domain, instance). -/
structure ModeState where
  mode : Nat
  transition : Option Transition
  late : List LateEnd
  schedule : Option Schedule
  quiet : Option (Nat × Nat)
  islands : Tab Sleep
  throttleCoding : Nat
  throttleIo : Nat
  nandLimit : Bool
  governor : Bool
  floorOnly : Bool
  duty : Nat
  dutyMs : Nat
  floorOnlyMs : Nat
  auxPresent : Bool
  inputMw : Nat
  edgeMw : Nat
  auxMw : Nat
  edgeMa : Nat
  auxMa : Nat
  temps : Tab Int
  limits : Tab (Nat × Nat)
  ovr : Tab Nat
  unlocked : List (Nat × Nat)
  holdCause : Nat
  deriving DecidableEq, Repr

/-- Modes at power-up: OFF until power-up completes (assumption 10). -/
def ModeState.reset : ModeState :=
  { mode := mOff, transition := none, late := [], schedule := none, quiet := none, islands := [], throttleCoding := 0,
    throttleIo := 0, nandLimit := false, governor := false, floorOnly := false, duty := 1000, dutyMs := 0,
    floorOnlyMs := 0, auxPresent := false, inputMw := 0, edgeMw := 0, auxMw := 0, edgeMa := 0, auxMa := 0, temps := [],
    limits := [], ovr := [], unlocked := [], holdCause := 0 }

end Sys2Proof.Machine
end

