-- ==== Sys2Proof/Machine/OutputState.lean ====
section
/-!
DEFINITION. The state of services, subscribers and clean-programme outputs (chapter 7).
-/
namespace Sys2Proof.Machine

/-- An audio entry of a service (Table 7.7). -/
structure AudioEntry where
  source : Nat
  coding : Nat
  channels : Nat
  pid : Nat
  pt : Nat
  ssrc : Nat
  kbps : Nat
  deriving DecidableEq, Repr

/-- A service record (Table 7.6). -/
structure ServiceRec where
  format : Nat
  enable : Bool
  colFec : Bool
  fixed7 : Bool
  journal : Bool
  rowFec : Bool
  payloadMax : Nat
  pt : Nat
  fecL : Nat
  fecD : Nat
  ssrc : Nat
  pace : Nat
  ptsOffset : Nat
  program : Nat
  pmtPid : Nat
  videoPid : Nat
  audio : List AudioEntry
  deriving DecidableEq, Repr

/-- The FEC matrix in progress (R222 to R225): the parameters it runs under, the subscribers that received its first packet, and the
RTP packets it has taken. -/
structure FecMatrix where
  col : Bool
  row : Bool
  l : Nat
  d : Nat
  takers : List Nat
  packets : List Bytes
  deriving DecidableEq, Repr

/-- A service. `lastPat` and `lastPcr` are those of R210, `cc` the continuity counters by PID; `row` is the last row
packetised (frame, row), `audioTs` the audio frames of FORMAT 0 that wait for a row (ready time, TS packets); `peaks` are the paces of the last second's rows, with
their moments, but for those that a later row reached (R216). `was` holds the records of earlier frames, each with the first frame it no longer governs (R33, R219); `gone` says that it has been cleared, while
frames before the clear still launch. -/
structure Service where
  recd : ServiceRec
  was : List (Nat × ServiceRec)
  gone : Bool
  nextSeq : Nat
  audioSeq : Tab Nat
  fecSeq : Tab Nat
  packets : Nat
  bytes : Nat
  fecPackets : Nat
  audioPackets : Nat
  lateDrops : Nat
  peaks : List (Nat × Nat)
  lastLaunch : Nat
  lastE480 : Option Nat
  matrix : FecMatrix
  lastPat : Option Nat
  lastPcr : Option Nat
  cc : Tab Nat
  row : Nat × Nat
  audioTs : List (Nat × List Bytes)
  deriving DecidableEq, Repr

/-- A service as SERVICE_SET creates it. -/
def Service.ofRec (r : ServiceRec) : Service :=
  { recd := r, was := [], gone := false, nextSeq := 0, audioSeq := [], fecSeq := [], packets := 0, bytes := 0, fecPackets := 0, audioPackets := 0,
    lateDrops := 0, peaks := [], lastLaunch := 0, lastE480 := none,
    matrix := ⟨r.colFec, r.rowFec, r.fecL, r.fecD, [], []⟩, lastPat := none, lastPcr := none, cc := [],
    row := (0, 0), audioTs := [] }

/-- A subscriber record (Table 7.8). -/
structure SubRec where
  service : Nat
  port : Nat
  enable : Bool
  ipv6 : Bool
  vlan : Bool
  srtp : Bool
  ssrcOverride : Bool
  fec : Bool
  dstMac : Nat
  vlanId : Nat
  pcp : Nat
  dscp : Nat
  ttl : Nat
  dstAddr : Nat
  srcAddr : Nat
  dstUdp : Nat
  srcUdp : Nat
  ssrc : Nat
  skewNs : Nat
  deriving DecidableEq, Repr

/-- An SRTP key slot (Table 7.9). `used` says that a key has been written. -/
structure KeySlot where
  used : Bool
  suite : Nat
  mkiLen : Nat
  mki : Nat
  key : Bytes
  salt : Bytes
  deriving DecidableEq, Repr

def KeySlot.empty : KeySlot := ⟨false, 0, 0, 0, [], []⟩

/-- A subscriber. `inUse` is the key slot in use; `effect` the pending switch (slot, time, R229); `roc` counts the wraps of its service's sequence number, `lastSeq` being
the service and number of its last packet; `others` holds count and number of its audio and FEC streams. `order` holds launch and end of the last packet of
each stream (R219). `was` and `gone` are as a service's, but that each record's first frame not governed is one of that record's own service. -/
structure Subscriber where
  recd : SubRec
  was : List (Nat × SubRec)
  gone : Bool
  slot0 : KeySlot
  slot1 : KeySlot
  inUse : Nat
  effect : Option (Nat × Nat)
  packetsKey : Nat
  roc : Nat
  lastSeq : Option (Nat × Nat)
  others : Tab (Nat × Nat)
  firstLaunch : Option Nat
  order : Tab (Nat × Nat)
  sent : Nat
  dropped : Nat
  lastE481 : Option Nat
  told46 : Bool
  deriving DecidableEq, Repr

def Subscriber.ofRec (r : SubRec) : Subscriber :=
  { recd := r, was := [], gone := false, slot0 := KeySlot.empty, slot1 := KeySlot.empty, inUse := 0, effect := none, packetsKey := 0, roc := 0,
    lastSeq := none, others := [], firstLaunch := none, order := [], sent := 0, dropped := 0, lastE481 := none,
    told46 := false }

/-- The record that governs frame `f`. -/
def recAt {α : Type} (was : List (Nat × α)) (now : α) (f : Nat) : α :=
  match was.find? (fun e => f < e.1) with
  | some e => e.2
  | none => now

/-- The record that governs a packet of service `n` and frame `f` for a subscriber (R219): the first that still governed that frame of that service, or the one in
force. -/
def Subscriber.recFor (n f : Nat) (x : Subscriber) : SubRec := match x.was.find? (fun e => e.2.service == n && Nat.blt f e.1) with
  | some e => e.2
  | none => x.recd

/-- A clean-programme output's record (64 bytes, chapter 7). -/
structure ProgOut where
  enable : Bool
  ipv6 : Bool
  vlan : Bool
  legB : Bool
  portA : Nat
  portB : Nat
  packing : Nat
  pt : Nat
  sender : Nat
  vlanA : Nat
  vlanB : Nat
  dstUdpA : Nat
  dstUdpB : Nat
  dscp : Nat
  dstA : Nat
  dstB : Nat
  ssrc : Nat
  srcUdp : Nat
  deriving DecidableEq, Repr

/-- Services, subscribers, clean-programme outputs, and what each output sent and dropped. -/
structure OutputState where
  services : Tab Service
  subs : Tab Subscriber
  progs : Tab ProgOut
  progSent : Tab Nat
  progDropped : Tab Nat
  deriving DecidableEq, Repr

def OutputState.reset : OutputState := ⟨[], [], [], [], []⟩

/-- The state with service `n` set. -/
def OutputState.setSvc (n : Nat) (v : Service) (x : OutputState) : OutputState := { x with services := Tab.put n v x.services }

/-- The state with subscriber `n` set. -/
def OutputState.setSub (n : Nat) (v : Subscriber) (x : OutputState) : OutputState := { x with subs := Tab.put n v x.subs }

end Sys2Proof.Machine
end

