-- ==== Sys2Proof/Machine/SchedState.lean ====
section
/-!
DEFINITION. The state of the port schedulers (chapter 8) and of the lanes and ports (chapter 9).
-/
namespace Sys2Proof.Machine

/-- What a calendar copy carries (R238): 0 media, 1 column FEC, 2 row FEC; 3 a host TC6 frame. `base` is its packet's own launch time; `sent` holds the subscriber's
record that governs it and its RTP packet (none: a host frame). -/
structure Copy where
  nominal : Nat
  service : Nat
  sub : Nat
  kind : Nat
  seq : Nat
  bytes : Nat
  audio : Bool
  base : Nat
  sent : Option (SubRec × Bytes)
  deriving DecidableEq, Repr

/-- A copy placed in a port's launch calendar (R239). -/
structure Placed where
  copy : Copy
  placed : Nat
  finish : Nat
  deriving DecidableEq, Repr

/-- A token bucket on a node (R245). `tokens` are in 2^-16 bytes at `at_`. -/
structure Shaper where
  rate : Nat
  burst : Nat
  tokens : Int
  at_ : Nat
  deriving DecidableEq, Repr

/-- A gate list (R248): its entries (interval in ns, gates), cycle in ns, and its start. -/
structure GateList where
  start : Nat
  cycleNs : Nat
  entries : List (Nat × Nat)
  deriving DecidableEq, Repr

/-- A policer (R253): KIND, rates, sizes, and the two buckets in 2^-16 bytes at `at_`. -/
structure Policer where
  kind : Nat
  cir : Nat
  pir : Nat
  cbs : Nat
  ebs : Nat
  tc : Nat
  te : Nat
  at_ : Nat
  deriving DecidableEq, Repr

def Policer.off : Policer := ⟨0, 0, 0, 0, 0, 0, 0, 0⟩

/-- A frame of the module's own that waits at a node for its class (TC7, TC5, TC4), with its bytes. `ready` is when it came or, later, became the first of its node;
`tag` is 1 or 2 for a Delay_Req of domain A or B. -/
structure Waiting where
  cls : Nat
  node : Nat
  bytes : Nat
  ready : Nat
  tag : Nat
  deriving DecidableEq, Repr

/-- One port's scheduler (Tables 8.13 and 8.19). `wire` is the last frame of a subscriber or of a host queue that it sent, from destination MAC address to the end of
payload. `guarded` lists the nodes whose head frame has been counted in GUARD_HOLDS, `disps` the displacements of the last second in ns, with their moments, but
for those that a later one reached (Table 8.19). -/
structure PortSched where
  slackNs : Nat
  calendar : List Placed
  lastEnd : Nat
  due : List Copy
  copies : Nat
  displaced : Nat
  slackDrops : Nat
  guardHolds : Nat
  redDrops : Nat
  yellowDrops : Nat
  disps : List (Nat × Nat)
  lastE484 : Option Nat
  lastE485 : Option Nat
  lastRed : Option Nat
  oper : Option GateList
  pend : Option GateList
  entry : Nat
  cycles : Nat
  policers : Tab Policer
  waiting : List Waiting
  busyUntil : Nat
  guarded : List Nat
  wire : Bytes
  deriving DecidableEq, Repr

def PortSched.reset : PortSched :=
  { slackNs := 20000, calendar := [], lastEnd := 0, due := [], copies := 0, displaced := 0, slackDrops := 0,
    guardHolds := 0, redDrops := 0, yellowDrops := 0, disps := [], lastE484 := none, lastE485 := none,
    lastRed := none, oper := none, pend := none, entry := 0, cycles := 0, policers := [], waiting := [], busyUntil := 0, guarded := [], wire := [] }

/-- A host transmit queue (Tables 8.9, 8.10, 8.17). `fetched` counts the descriptors fetched, `eligible` those a trigger has
released (R256), `since` is when its head frame became the next to go (R249). -/
structure TxQueue where
  addr : Nat
  entries : Nat
  enable : Bool
  hold : Bool
  port : Nat
  cls : Nat
  group : Nat
  tail : Nat
  head : Nat
  fetched : Nat
  eligible : Nat
  sent : Nat
  dropped : Nat
  errorCode : Nat
  error : Bool
  flushing : Bool
  lastTime : Nat
  since : Nat
  done : List (Nat × Nat × Nat)
  deriving DecidableEq, Repr

def TxQueue.reset : TxQueue :=
  { addr := 0, entries := 64, enable := false, hold := false, port := 0, cls := 0, group := 0, tail := 0, head := 0,
    fetched := 0, eligible := 0, sent := 0, dropped := 0, errorCode := 0, error := false, flushing := false,
    lastTime := 0, since := 0, done := [] }

/-- The distance from index `a` on to index `b` of free-running 32-bit counts (R258). -/
def idxAhead (a b : Nat) : Nat := (b + 2 ^ 32 - a) % 2 ^ 32

/-- The next descriptor a queue may fetch: eligible and not yet fetched, of an enabled queue. -/
def TxQueue.next (g : TxQueue) : Option Nat := if g.enable && idxAhead g.fetched g.eligible != 0 then some g.fetched else none

/-- A transmit queue after a change: another head frame waits from now on. -/
def TxQueue.after (now : Nat) (old g : TxQueue) : TxQueue := if g.next == old.next then g else { g with since := now }

/-- A host receive queue. `seen` counts the descriptors written back since HEAD was 0. -/
structure RxQueue where
  addr : Nat
  entries : Nat
  enable : Bool
  tail : Nat
  head : Nat
  seen : Nat
  received : Nat
  dropped : Nat
  errorCode : Nat
  error : Bool
  lastE491 : Option Nat
  deriving DecidableEq, Repr

def RxQueue.reset : RxQueue :=
  { addr := 0, entries := 64, enable := false, tail := 0, head := 0, seen := 0, received := 0, dropped := 0,
    errorCode := 0, error := false, lastE491 := none }

/-- A receive filter (Table 8.18). -/
structure RxFilter where
  portMask : Nat
  matches_ : Nat
  proto : Nat
  etherType : Nat
  vlanId : Nat
  queue : Nat
  policer : Nat
  udpLo : Nat
  udpHi : Nat
  dstAddr : Nat
  deriving DecidableEq, Repr

/-- The schedulers, the node tables (Table 8.2) and the host packet queues. `turns` holds the node each rotation last served. `toFirmware` counts the frames given to
management firmware, `nodeDrops` each node's dropped frames (R249). -/
structure SchedState where
  ports : Tab PortSched
  shapers : Tab Shaper
  quanta : Tab Nat
  deficits : Tab Nat
  turns : Tab Nat
  nodeDrops : Tab Nat
  tx : Tab TxQueue
  rx : Tab RxQueue
  filters : Tab RxFilter
  toFirmware : Nat
  deriving DecidableEq, Repr

def SchedState.reset : SchedState := ⟨[], [], [], [], [], [], [], [], [], 0⟩

def SchedState.port (x : SchedState) (p : Nat) : PortSched := Tab.read x.ports p PortSched.reset

/-- PORT_SET's record (Table 9.10). -/
structure PortRec where
  mac : Nat
  direction : Nat
  enable : Bool
  rsFec : Bool
  mtu : Nat
  degrade : Nat
  v4Prefix : Nat
  ipv4 : Nat
  ipv6 : Nat
  v6Prefix : Nat
  deriving DecidableEq, Repr

/-- A port's settings before PORT_SET: duplex, enabled (its lanes train once CAGE_SET makes it, assumption 12), MTU 9216. -/
def PortRec.dflt : PortRec := ⟨0, 0, true, false, 9216, 0, 0, 0, 0, 0⟩

/-- A port: its settings, its state (Table 9.3), what its transceiver reports, and its counts (Table 9.13). -/
structure Port where
  recd : PortRec
  state : Nat
  optics : Bool
  cmis : Nat
  opticsTemp : Int
  framesTx : Nat
  framesRx : Nat
  fcsErrors : Nat
  oversize : Nat
  pauseRx : Nat
  fecCorrected : Nat
  fecUncorrected : Nat
  linkDowns : Nat
  lastUp : Nat
  localFault : Bool
  remoteFault : Bool
  deriving DecidableEq, Repr

def Port.reset : Port :=
  { recd := PortRec.dflt, state := 0, optics := false, cmis := 0, opticsTemp := 0, framesTx := 0, framesRx := 0,
    fcsErrors := 0, oversize := 0, pauseRx := 0, fecCorrected := 0, fecUncorrected := 0, linkDowns := 0, lastUp := 0,
    localFault := false, remoteFault := false }

/-- LANE_TEST_SET's record (Table 9.12). -/
structure LaneTest where
  mode : Nat
  pattern : Nat
  rate : Nat
  half : Nat
  inject : Nat
  mission : Bool
  burst : Nat
  interval : Nat
  deriving DecidableEq, Repr

def LaneTest.off : LaneTest := ⟨0, 0, 0, 0, 0, false, 0, 0⟩

/-- A lane (Table 9.13): 0 to 31 the network lanes, 32 to 47 the host lanes. `bits` and `errors` count up to `lockedAt`. -/
structure Lane where
  test : LaneTest
  signal : Bool
  cdr : Bool
  locked : Bool
  lockedAt : Nat
  lockLost : Bool
  recal : Bool
  bits : Nat
  errors : Nat
  symbolErrors : Nat
  recals : Nat
  eyeH : Nat × Nat × Nat
  eyeV : Nat × Nat × Nat
  lastRecal : Nat
  ssc : Nat
  deriving DecidableEq, Repr

def Lane.reset : Lane :=
  { test := LaneTest.off, signal := false, cdr := false, locked := false, lockedAt := 0, lockLost := false, recal := false, bits := 0,
    errors := 0, symbolErrors := 0, recals := 0, eyeH := (0, 0, 0), eyeV := (0, 0, 0), lastRecal := 0, ssc := 0 }

/-- HOSTLANE_TEST under way. -/
structure HostTest where
  mask : Nat
  pattern : Nat
  speed : Nat
  ends : Nat
  deriving DecidableEq, Repr

/-- SYNCE_SET's record (Table 9.11), and the SSM code last sent. -/
structure SyncE where
  mode : Nat
  ssmLocked : Nat
  ssmHold : Nat
  mask : Nat
  lastSsm : Nat
  pdus : Nat
  deriving DecidableEq, Repr

/-- Cages (the eight slot codes of each, lowest lane first), ports, lanes, SyncE and the recalibration running (port, the
lanes still to do). -/
structure LanesState where
  cages : Tab (List Nat)
  ports : Tab Port
  lanes : Tab Lane
  synce : SyncE
  recal : Option (Nat × List Nat)
  hostTest : Option HostTest
  recalDone : Bool
  deriving DecidableEq, Repr

/-- Every lane asleep; the oscillator clocks the lanes. -/
def LanesState.reset : LanesState := ⟨[], [], [], ⟨0, 0, 0, 0, 15, 0⟩, none, none, false⟩

def LanesState.port (x : LanesState) (p : Nat) : Port := Tab.read x.ports p Port.reset

def LanesState.lane (x : LanesState) (l : Nat) : Lane := Tab.read x.lanes l Lane.reset

/-- The slot code of lane `l`. -/
def LanesState.slot (x : LanesState) (l : Nat) : Nat := (Tab.read x.cages (l / 8) []).getD (l % 8) 0

/-- The lanes of a port type (Table 9.2). -/
def typeLanes (code : Nat) : Nat :=
  if code = 1 || code = 3 then 8 else if code = 2 || code = 5 then 4 else if code = 4 || code = 7 then 2
  else if code = 6 || code = 8 || code = 9 then 1 else 0

/-- The port rate of a type in kb/s (Table 9.2). -/
def typeKbps (code : Nat) : Nat :=
  if code = 1 then 800000000 else if code = 2 || code = 3 then 400000000 else if code = 4 || code = 5 then 200000000
  else if code = 6 || code = 7 then 100000000 else if code = 8 then 25000000 else if code = 9 then 10000000 else 0

/-- The lane rate code of a type (Tables 9.1 and 9.2). -/
def typeRate (code : Nat) : Nat :=
  if code = 3 || code = 5 || code = 7 then 1 else if code = 8 then 2 else if code = 9 then 3 else 0

/-- Port `p` exists: its lane begins a block of its type (R263). -/
def LanesState.exists_ (x : LanesState) (p : Nat) : Bool :=
  let c := x.slot p
  p < 32 && typeLanes c != 0 && p % typeLanes c == 0

/-- The port that lane `l` belongs to. -/
def LanesState.portOf (x : LanesState) (l : Nat) : Nat :=
  let w := typeLanes (x.slot l)
  if w = 0 then l else l / w * w

/-- The port is UP (Table 9.3). -/
def LanesState.isUp (x : LanesState) (p : Nat) : Bool := x.exists_ p && (x.port p).state == 2

/-- The port's rate in kb/s. -/
def LanesState.kbps (x : LanesState) (p : Nat) : Nat := typeKbps (x.slot p)

end Sys2Proof.Machine
end

