-- ==== Sys2Proof/Machine/JournalState.lean ====
section
/-!
DEFINITION. The state of the journal and the check units (chapter 13) and of the audio ports and cores (chapter 14).
-/
namespace Sys2Proof.Machine

/-- A journal record (Table 13.2). `lost` and `cause` are those of a GAP record; `committed` says that its batch has been
programmed and verified, `batch` which batch holds it; `bad` is how its check values read: 0 match, 1 mismatch, 2 mismatch
with sound codewords (R405). -/
structure JRec where
  kind : Nat
  flags : Nat
  source : Nat
  seq : Nat
  time : Nat
  payload : Bytes
  lost : Nat
  cause : Nat
  committed : Bool
  batch : Nat
  bad : Nat
  deriving DecidableEq, Repr

/-- A service's side of the journal (R384, Tables 13.10 and 13.14). -/
structure JService where
  cls : Nat
  retainS : Nat
  seq : Nat
  notJournalled : Nat
  lost : Nat
  pendingLost : Nat
  pendingCause : Nat
  mismatch : Nat
  suspect : Nat
  deriving DecidableEq, Repr

/-- CLASS 0 with 60 s (R384). -/
def JService.reset : JService := ⟨0, 60, 0, 0, 0, 0, 2, 0, 0⟩

/-- A mark (R388). -/
structure Mark where
  source : Nat
  from_ : Nat
  to_ : Nat
  deriving DecidableEq, Repr

/-- A replay (R406 to R408): its next record is the first of its source with SEQ at least `nextSeq`; `told` says that E346 has been raised. -/
structure Replay where
  source : Nat
  target : Nat
  from_ : Nat
  to_ : Nat
  start : Nat
  shift : Nat
  charge : Nat
  stopAt : Option Nat
  nextSeq : Nat
  told : Bool
  deriving DecidableEq, Repr

/-- A TLC block of the NAND (R393 to R396): its erase count, how often and when it was last read since it was programmed, whether it is in the bad-block table, the
batches it holds codewords of, the codewords programmed, and each codeword's logical address and encrypted data. -/
structure NandBlock where
  erases : Nat
  reads : Nat
  lastRead : Nat
  bad : Bool
  batches : List Nat
  used : Nat
  data : List (Nat × Bytes)
  deriving DecidableEq, Repr

/-- A block that has never been programmed. -/
def NandBlock.fresh : NandBlock := ⟨0, 0, 0, false, [], 0, []⟩

/-- The journal (Table 13.14). `nand` holds the TLC blocks that have been programmed or are bad, `filling` the block being filled, and `nextAddress` the logical address of
the next codeword. `session` is 0 closed, 1 open, 2 closing, and `closing` the cause of E337 a closing session will
give; `cacheMib` is the cache granted, `wanted` the CACHE_MIB of the open; `batches` holds the bytes in the cache by batch, `batch` the
number of the batch being formed, `batchAt` its first record's moment; `lossFlush` the bytes flushed and the records discarded at
a power loss, told at the next power-up; `stopped` is 0 while the write path runs, and else a mask of what has
stopped it: bit 0 CD15 (16 Table 16.6), bit 1 the NAND trip (16 R469), bit 2 the shed of 18 R500. -/
structure JournalState where
  session : Nat
  closing : Nat
  cacheMib : Nat
  wanted : Nat
  energyMj : Nat
  capUf : Nat
  wear : Nat
  staging : Nat
  bytesWritten : Nat
  grownBad : Nat
  softDecodes : Nat
  mismatch : Nat
  suspect : Nat
  lastTest : Nat
  testing : Bool
  recs : List JRec
  services : Tab JService
  marks : Tab Mark
  replays : Tab Replay
  batches : Tab Nat
  batch : Nat
  batchAt : Option Nat
  spareLow : Bool
  wornOut : Bool
  mounted : Bool
  lossFlush : Option (Nat × Nat)
  scrubbed : Nat
  relocations : Nat
  stopped : Nat
  nand : Tab NandBlock
  filling : Option Nat
  nextAddress : Nat
  deriving DecidableEq, Repr

/-- The journal of a new module: no session, unworn, no usable-energy test yet. -/
def JournalState.reset : JournalState :=
  { session := 0, closing := 0, cacheMib := 0, wanted := 0, energyMj := 0, capUf := 0, wear := 100, staging := 255, bytesWritten := 0,
    grownBad := 0, softDecodes := 0, mismatch := 0, suspect := 0, lastTest := 0, testing := false, recs := [],
    services := [], marks := [], replays := [], batches := [], batch := 0, batchAt := none, spareLow := false, wornOut := false, mounted := false, lossFlush := none, scrubbed := 0,
    relocations := 0, stopped := 0, nand := [], filling := none, nextAddress := 0 }

/-- A check context (Table 13.15). `owner` is 0 host, 1 host frame ring, 2 journal; `get` lists the CHECK_CONTEXT_GETs that
wait for its run. -/
structure CheckCtx where
  poly : Nat
  mode : Nat
  state : Nat
  owner : Nat
  channel : Nat
  running : Nat
  bytes : Nat
  offset : Nat
  length : Nat
  expect : Nat
  deriving DecidableEq, Repr

/-- A context at reset, by its place (R411). -/
def CheckCtx.reset (k : Nat) : CheckCtx :=
  { poly := 0, mode := 0, state := 0, owner := if 48 ≤ k && k < 56 then 2 else 0, channel := 0, running := 0, bytes := 0,
    offset := 0, length := 0, expect := 0 }

/-- The 64 check-unit contexts. -/
structure CheckState where
  ctxs : Tab CheckCtx
  deriving DecidableEq, Repr

def CheckState.reset : CheckState := ⟨[]⟩

def CheckState.ctx (x : CheckState) (k : Nat) : CheckCtx := Tab.read x.ctxs k (CheckCtx.reset k)

/-- AUDIO_PORT_SET's record (Table 14.7). -/
structure APortRec where
  enable : Bool
  master : Bool
  output : Bool
  mute : Bool
  format : Nat
  wordBits : Nat
  zcMs : Nat
  rateHz : Nat
  source : Nat
  pair : Nat
  delayUs : Nat
  deriving DecidableEq, Repr

def APortRec.off : APortRec := ⟨false, false, false, false, 0, 24, 10, 48000, 0, 0, 1000⟩

/-- A switch that waits for a channel's zero crossing (R421): the state it goes to, and its timeout. -/
structure ZcWait where
  on : Bool
  due : Nat
  deriving DecidableEq, Repr

/-- An audio port. `state` is Table 14.9's code; `leftOn` and `rightOn` say that a channel carries sound; `waitL` and `waitR` the switches that
wait; `next` is the record to apply once the port has stopped (R431), `retell` says that E416 cause 3 is owed after a re-lock. -/
structure APort where
  recd : APortRec
  state : Nat
  leftOn : Bool
  rightOn : Bool
  waitL : Option ZcWait
  waitR : Option ZcWait
  next : Option APortRec
  measured : Nat
  stable : Nat
  retell : Bool
  clockLosses : Nat
  inserted : Nat
  dropped : Nat
  zcTimeouts : Nat
  zeroFrames : Nat
  lastE5 : Option Nat
  lastE6 : Option Nat
  deriving DecidableEq, Repr

def APort.reset : APort :=
  { recd := APortRec.off, state := 0, leftOn := false, rightOn := false, waitL := none, waitR := none, next := none, measured := 0, stable := 0,
    retell := false, clockLosses := 0, inserted := 0, dropped := 0, zcTimeouts := 0, zeroFrames := 0, lastE5 := none, lastE6 := none }

/-- A pair of an audio source: KIND, FIRST_CH and INPUT (Table 14.8), and whether its input is lost. -/
structure Pair where
  kind : Nat
  first : Nat
  input : Nat
  lost : Bool
  deriving DecidableEq, Repr

/-- A pair's change of input that waits for a zero crossing of each channel (R421): the pair it becomes, the timeout, and the channels that have switched. -/
structure PairWait where
  pair : Nat
  into : Pair
  due : Nat
  leftDone : Bool
  rightDone : Bool
  deriving DecidableEq, Repr

/-- An audio source and its encoder settings (Table 14.8, R428); `coded`, `late` and `losses` are the counts of Table 14.9. -/
structure ASource where
  pairs : List Pair
  rateHz : Nat
  core : Nat
  gainCb : Int
  pcmBits : Nat
  aacBw : Nat
  coded : Nat
  late : Nat
  losses : Nat
  waits : List PairWait
  deriving DecidableEq, Repr

def ASource.reset : ASource :=
  { pairs := [], rateHz := 48000, core := 0, gainCb := 0, pcmBits := 24, aacBw := 0, coded := 0, late := 0, losses := 0, waits := [] }

/-- The audio ports and sources. -/
structure AudioState where
  ports : Tab APort
  sources : Tab ASource
  deriving DecidableEq, Repr

def AudioState.reset : AudioState := ⟨[], []⟩

def AudioState.port (x : AudioState) (n : Nat) : APort := Tab.read x.ports n APort.reset

end Sys2Proof.Machine
end

