-- ==== Sys2Proof/Machine/ServiceState.lean ====
section
/-!
DEFINITION. The state of units in service, firmware images, self-test, identity (chapter 17) and of the supplies
(chapter 18).
-/
namespace Sys2Proof.Machine

/-- A unit's service record (Table 17.14), for the units of Table 17.4 other than rods and DRAM groups, whose service
states lie with them. -/
structure UnitRec where
  service : Nat
  memPassed : Bool
  anaPassed : Bool
  cause : Nat
  changes : Nat
  faults : Nat
  corrected : Nat
  lastChange : Nat
  image : Nat
  deriving DecidableEq, Repr

def UnitRec.reset : UnitRec := ⟨0, false, false, 0, 0, 0, 0, 0, 0⟩

/-- An image in a slot (R479): VERSION, SEC_VERSION, and for KIND 2 its RANROK_MAJOR. -/
structure Image where
  version : Nat
  secVersion : Nat
  major : Nat
  digest : Bytes
  deriving DecidableEq, Repr

/-- The two slots of a kind, the one that is active, and whether the other holds a staged image; the version floor. -/
structure ImageKind where
  slotA : Image
  slotB : Image
  active : Nat
  staged : Bool
  floor : Nat
  deriving DecidableEq, Repr

def ImageKind.reset : ImageKind := ⟨⟨0, 0, 1, []⟩, ⟨0, 0, 1, []⟩, 0, false, 0⟩

/-- The image in a slot, and the slots with one replaced. -/
def ImageKind.slot (k : ImageKind) (n : Nat) : Image := if n = 0 then k.slotA else k.slotB
def ImageKind.setSlot (n : Nat) (i : Image) (k : ImageKind) : ImageKind := if n = 0 then { k with slotA := i } else { k with slotB := i }

/-- The image that runs, and the one that is staged. -/
def ImageKind.running (k : ImageKind) : Image := k.slot k.active
def ImageKind.other (k : ImageKind) : Image := k.slot (1 - k.active)

/-- A unit that drains (R476): the unit, its command, and the channels that have to leave it, each with the frame from which it has left
(none: not yet). -/
structure Drain where
  unit : Nat
  ctx : Option Ctx
  waits : List (Nat × Option Nat)
  deriving DecidableEq, Repr

/-- A rod update under way (R480): its command, when it begins, the rods still to update, the rod that loads the image, the rod whose channels
are handed over, with those channels as in a drain, and the moment from which it waits for a spare (R484). -/
structure RodUpdate where
  ctx : Ctx
  begins : Nat
  left : List Nat
  loading : Option Nat
  old : Option Nat
  waits : List (Nat × Option Nat)
  waitFrom : Option Nat
  deriving DecidableEq, Repr

/-- An activation of management or security firmware (R481, R482): its kind, its command while that is undecided, the moment from which the restart may
begin, whether it has begun, whether the previous slot has been restored, when the new image came up, and COMMIT_FLOOR. -/
structure Activating where
  kind : Nat
  ctx : Option Ctx
  began : Nat
  restarted : Bool
  fellBack : Bool
  upAt : Option Nat
  commitFloor : Bool
  deriving DecidableEq, Repr

/-- A failure entry of a self-test (R487). -/
structure TestFail where
  unit : Nat
  check : Nat
  outcome : Nat
  measured : Int
  lo : Int
  hi : Int
  deriving DecidableEq, Repr

/-- The result record of a self-test run (R488). -/
structure TestRun where
  run : Nat
  level : Nat
  algorithm : Nat
  result : Nat
  target : Nat
  units : Nat
  failures : Nat
  entries : List TestFail
  start : Nat
  finish : Nat
  deriving DecidableEq, Repr

/-- Units, images, self-test and identity. `lastRuns` holds the last eight runs, newest first; `testing` the run under
way; `rodImage` the slot of the RCT image each rod runs, `audioImage` that of the audio core firmware each channel started with (Table 17.5);
`secFails` the moments of failed restarts (R492), `drains` the units that drain, `sramSyndromes` (store, syndrome) and `bridgeLog` (replays by
moment) what HOLD keeps for diagnosis, `bootFallback` the kinds of image that fell back during the present power-up (R483), `bridgeReplays` the die-bridge tally and `bridgeRecent` its replays of the last millisecond. -/
structure ServState where
  units : Tab UnitRec
  images : Tab ImageKind
  update : Option RodUpdate
  drains : List Drain
  activating : Option Activating
  rodImage : Tab Nat
  audioImage : Tab Nat
  lastRuns : List TestRun
  testing : Option TestRun
  nextRun : Nat
  ownerChain : Bytes
  ownerKey : Bytes
  aliasCount : Nat
  lifecycle : Nat
  secFails : List Nat
  bridgeReplays : Nat
  bridgeRecent : List Nat
  bridgeFault : Bool
  sramSyndromes : List (Nat × Nat)
  bridgeLog : List Nat
  bootFallback : List Nat
  deriving DecidableEq, Repr

def ServState.reset : ServState :=
  { units := [], images := [], update := none, drains := [], activating := none, rodImage := [], audioImage := [], lastRuns := [],
    testing := none, nextRun := 0, ownerChain := [], ownerKey := [], aliasCount := 0, lifecycle := 0, secFails := [],
    bridgeReplays := 0, bridgeRecent := [], bridgeFault := false, sramSyndromes := [], bridgeLog := [],
    bootFallback := [] }

def ServState.unit (x : ServState) (u : Nat) : UnitRec := Tab.read x.units u UnitRec.reset

def ServState.image (x : ServState) (k : Nat) : ImageKind := Tab.read x.images k ImageKind.reset

/-- The supplies (R497 to R501): a 12 V input's condition is 0 within range, 1 low, 2 lost, 3 not yet connected. `shed` counts the shed steps
taken, `shedAt` the moment of the last; `bankFull` says that the hold-up bank has charged. -/
structure PhysState where
  edge12 : Nat
  aux12 : Nat
  shed : Nat
  shedAt : Nat
  bankFull : Bool
  wake : Bool
  powerLost : Bool
  deriving DecidableEq, Repr

/-- Power on: the edge supply within range, no auxiliary input. -/
def PhysState.reset : PhysState := ⟨0, 3, 0, 0, false, false, false⟩

end Sys2Proof.Machine
end

