-- ==== Sys2Proof/Machine/State.lean ====
section
/-!
DEFINITION. The state of the module: `Device` holds everything the spec gives it, `State` adds the queue of the commands
that wait; the reasons a step can stop; and the state right after reset, the start of power-up stage 0x01 (18 R504).
-/
namespace Sys2Proof.Machine

/-- The configuration that KEEP's entry saves to the journal (16 R453): the records that commands have set, with the slates and
sealed assets. It is read back at a later power-up (18 R504). -/
structure Saved where
  code : CodingState
  ingest : IngestState
  comp : CompState
  out : OutputState
  sched : SchedState
  lanes : LanesState
  audio : AudioState
  time : TimeState
  events : EventState
  wq : WqState
  services : Tab JService
  slates : Tab Copies
  limits : Tab (Nat × Nat)
  deriving DecidableEq, Repr

/-- The module. `free` counts the free values used so far (assumption 3); it is the model's own field. -/
structure Device where
  mem : MemState
  msix : MsixState
  events : EventState
  logs : LogState
  wq : WqState
  rk : RanrokState
  time : TimeState
  link : LinkState
  code : CodingState
  ingest : IngestState
  comp : CompState
  dram : DramState
  modes : ModeState
  out : OutputState
  sched : SchedState
  lanes : LanesState
  journal : JournalState
  checks : CheckState
  audio : AudioState
  serv : ServState
  phys : PhysState
  saved : Option Saved
  free : Nat
  deriving DecidableEq, Repr

/-- The module at the start of power-up. -/
def Device.reset : Device :=
  { mem := MemState.reset, msix := MsixState.reset, events := EventState.reset, logs := LogState.reset,
    wq := WqState.reset, rk := RanrokState.reset, time := TimeState.reset, link := LinkState.reset,
    code := CodingState.reset, ingest := IngestState.reset, comp := CompState.reset, dram := DramState.reset,
    modes := ModeState.reset, out := OutputState.reset, sched := SchedState.reset, lanes := LanesState.reset,
    journal := JournalState.reset, checks := CheckState.reset, audio := AudioState.reset, serv := ServState.reset,
    phys := PhysState.reset, saved := none, free := 0 }

/-- The module and the commands that wait for it, first in, first out. -/
structure State where
  dev : Device
  pending : List Instr
  deriving DecidableEq, Repr

/-- Why a step stops with a fault. -/
inductive Fault where
  /-- HDM_WINDOW_READ and HDM_WINDOW_WRITE raise it for an access that does not lie within the 16 GiB of the window
  (10 R298). Safe: the model stops where the spec says that no such address exists. -/
  | outsideWindow (offset : Nat)
  deriving DecidableEq, Repr

/-- Why a step is refused. -/
inductive Refusal where
  /-- A command whose meaning has not been written yet; raised by exec alone. Safe. -/
  | notModelled (mnemonic : String)
  deriving DecidableEq, Repr

/-- The machine right after reset: the module at the start of power-up, and no command waiting. -/
def State.reset : State := { dev := Device.reset, pending := [] }

end Sys2Proof.Machine
end

