-- ==== Sys2Proof/Machine/TimeOps.lean ====
section
/-!
DEFINITION. What the Beam, its servo and its domains do (R38 to R67, R511, R512): functions from a time state to a time
state and the events raised. `live` says that a channel is LIVE or STOPPING, so that autonomous steps are barred (R42).
-/
namespace Sys2Proof.Machine

/-- A time state and the events raised, (source, detail). -/
abbrev TimeOut := TimeState × List (Nat × Nat)

/-- Ten nanoseconds (R49). -/
def slewDone : Int := 10 * 65536

/-- FREQ_ADJ, in 2^-16 ppb (Table 2.6). -/
def TimeState.freqAdj (x : TimeState) : Int := (x.adj * 65536).floor

/-- The frequency of the lanes' transmit clocks at a moment, and the moment up to which it has moved (09 R273): towards 0, or in MODE 1 towards FREQ_ADJ, by
no more than 1 ppm in a second, which is 2^-16 ppb in 15.26 ns. -/
def TimeState.lineMove (t : Nat) (x : TimeState) : Int × Nat :=
  let way : Int := (if x.lineFollows then x.freqAdj else 0) - x.line
  let n := (t - x.lineFrom) / 1000000
  if way.natAbs ≤ n then (x.line + way, Nat.max x.lineFrom t) else (x.line + way.sign * n, x.lineFrom + n * 1000000)

/-- Beam time runs on to `t` (never back, R40). A held count is released by the run. -/
def TimeState.advance (t : Nat) (x : TimeState) : TimeState :=
  { x with beam := Nat.max x.beam t, hold := if t ≤ x.beam then x.hold else 0, line := (x.lineMove t).1, lineFrom := (x.lineMove t).2 }

/-- The source `s` is valid (R41): domain A, domain B, the external reference, the oscillator. -/
def TimeState.srcValid (x : TimeState) (s : Nat) : Bool :=
  if s = 0 then x.domA.valid
  else if s = 1 then x.domB.valid
  else if s = 2 then x.refio.extRefEn && x.ppsOk && x.tenOk
  else true

/-- The Beam's offset against a source, Beam time minus source time, where it has one: a domain's last estimate (R45), or the
1PPS in measurement with its sign reversed (R511). -/
def TimeState.srcOffset (x : TimeState) (s : Nat) : Option Int :=
  if s = 0 then x.domA.est else if s = 1 then x.domB.est else if s = 2 then some (-x.ppsMeas) else none

/-- The preferred domain: the one of lower PRIORITY. -/
def TimeState.preferred (x : TimeState) : Nat := if x.domA.set.priority ≤ x.domB.set.priority then 0 else 1

/-- The first valid source in the order of R41. -/
def TimeState.autoSource (x : TimeState) : Nat :=
  let first := if x.sel < 2 then x.sel else x.preferred
  if x.srcValid first then first
  else if x.srcValid (1 - first) then 1 - first
  else if x.srcValid 2 then 2 else 3

/-- The source to use under TIME_SOURCE_SELECT's MODE (Table 2.15): a forced source while it is valid, else R41. -/
def TimeState.wantSource (x : TimeState) : Nat :=
  if x.srcMode = 1 && x.srcValid 0 then 0
  else if x.srcMode = 2 && x.srcValid 1 then 1
  else if x.srcMode = 3 then 3
  else if x.srcMode = 4 && x.srcValid 2 then 2
  else x.autoSource

/-- The servo state that a removed phase difference leads to: EXTERNAL for the external reference (R49). -/
def lockedState (s : Nat) : ServoState := if s = 2 then .external else .locked

/-- The adjustment is clamped at FREQ_LIMIT_PPB; E271 comes once while the clamp is active (R44). -/
def TimeState.setAdj (adj : Rat) (x : TimeState) : TimeOut :=
  let lim : Rat := x.set.freqLimit
  if lim < adj || adj < -lim then
    ({ x with adj := if 0 ≤ adj then lim else -lim, clampOn := true }, if x.clampOn then [] else [(271, 0)])
  else ({ x with adj := adj, clampOn := false }, [])

/-- The frequency that a slew toward source `s` departs from: the tracked frequency, or on the external reference that of
10 MHz in (R49, R511). -/
def TimeState.slewBase (s : Nat) (x : TimeState) : Rat := if s = 2 then x.tenRate else x.integ

/-- The phase against source `s` is taken up (R49): a correction at the next update, or a slew at SLEW_PPB. -/
def TimeState.slewOrLock (s : Nat) (d : Int) (x : TimeState) : TimeOut :=
  let y := { x with sel := s, stepPending := false, assess := false, forced := false, needStep := false }
  if d.natAbs ≤ slewDone.natAbs then ({ y with servo := lockedState s, corr := some d, slewFrom := 0 }, [])
  else { y with servo := .slewing, corr := none, slewFrom := d, slewAt := x.beam }.setAdj (x.slewBase s - (d.sign : Rat) * x.set.slewPpb)

/-- The difference that remains at Beam time `now` (R49): in a slew it nears 0 by SLEW_PPB, one ns per second for each ppb; in FREE
it is held (R54); and a correction is still to come. -/
def TimeState.slewRemain (x : TimeState) (now : Nat) : Int :=
  match x.servo with
  | .slewing =>
    let gone : Int := (x.set.slewPpb * (now - x.slewAt) / 1000000000 : Nat)
    if x.slewFrom < 0 then min 0 (x.slewFrom + gone) else max 0 (x.slewFrom - gone)
  | .locked | .external => x.corr.getD 0
  | .free => if x.stepPending then x.slewFrom else 0
  | _ => 0

/-- The newest stretches of a lock history, `room` long in all. -/
def lastOf : Nat → List (Nat × Rat) → List (Nat × Rat)
  | _, [] => []
  | room, (d, a) :: r => if room ≤ d then (if room = 0 then [] else [(room, a)]) else (d, a) :: lastOf (room - d) r

/-- The stretch since the adjustment last changed enters the lock history (R52), which keeps HOLD_AVG_S seconds of LOCKED and EXTERNAL operation. -/
def TimeState.noteLock (x : TimeState) : TimeState :=
  let y := { x with segAt := x.beam }
  match x.servo with
  | .locked | .external =>
    if x.beam ≤ x.segAt then y else { y with history := lastOf (x.set.holdAvgS * second) ((x.beam - x.segAt, x.adj) :: x.history) }
  | _ => y

/-- The average frequency adjustment of the lock history (R52); with no history the tracked frequency stands for it (assumption 178). -/
def TimeState.holdRate (x : TimeState) : Rat :=
  let total := (x.history.map (·.1)).sum
  if total = 0 then x.integ else (x.history.map (fun h => (h.1 : Rat) * h.2)).sum / (total : Rat)

/-- Holdover's adjustment: the average (R52), or the rate of 10 MHz in where EXT_10M_HOLD is set and 10 MHz in is present (R59). -/
def TimeState.holdAdj (x : TimeState) : Rat := if x.refio.extHold && x.tenOk then x.tenRate else x.holdRate

/-- Holdover follows a change of its rate's source (R59). -/
def TimeState.rehold (x : TimeState) : TimeState := if x.servo = .holdover then { x with adj := x.holdAdj } else x

/-- Holdover is entered (R52): the oscillator is the source now. The lock history is complete. -/
def TimeState.enterHoldover (x : TimeState) : TimeState :=
  { x with sel := 3, servo := .holdover, adj := x.holdAdj, holdSince := x.beam, holdHour := false, corr := none,
           slewFrom := 0, lockRun := 0, assess := false, forced := false }

/-- STEP_NS in units of 2^-16 ns. -/
def TimeState.stepLimit (x : TimeState) : Nat := x.set.stepNs * 65536

/-- A slew in progress is dropped: the tracked frequency alone is left (R50, R65). -/
def TimeState.dropSlew (x : TimeState) : TimeState :=
  if x.servo = .slewing then { x with servo := lockedState x.sel, adj := x.integ, slewFrom := 0 } else { x with corr := none, slewFrom := 0 }

/-- A switchover from a source that was tracked (R49, R50). Where the new source has no estimate yet, or the Beam is to step (R42), its next
update assesses the phase. -/
def TimeState.switchTo (live : Bool) (s : Nat) (x : TimeState) : TimeOut :=
  let wait := { x.dropSlew with sel := s, servo := lockedState s, assess := true, forced := true }
  match x.srcOffset s with
  | none => (wait, [(258, 0)])
  | some d => if !live && x.stepLimit < d.natAbs then (wait, [(258, 0)])
    else
      let r := x.slewOrLock s d
      (r.1, (258, 0) :: r.2)

/-- Holdover ends on source `s` with phase `d` against it (R53). -/
def TimeState.leaveHoldover (s : Nat) (d : Int) (x : TimeState) : TimeOut :=
  let r := x.slewOrLock s d
  (r.1, [(261, 0), (258, 0)] ++ r.2)

/-- A source becomes valid in holdover (R53): decided on its estimate, or at its next update where it has none yet, where the Beam is to step or
where a commanded step is assessed there (R65). -/
def TimeState.fromHoldover (live forced : Bool) (s : Nat) (x : TimeState) : TimeOut :=
  if x.stepPending && !forced then (x, [])
  else
    let wait := { x with assess := true, forced := x.forced || forced }
    if x.assess then (wait, [])
    else match x.srcOffset s with
    | none => (wait, [])
    | some d =>
      if x.stepLimit < d.natAbs && !live then (wait, [])
      else if x.stepLimit < d.natAbs && !forced then ({ x with stepPending := true }, [(262, 0)])
      else x.leaveHoldover s d

/-- A source becomes valid, or another is chosen, in FREE (R42, R54). -/
def TimeState.fromFree (live forced : Bool) (s : Nat) (x : TimeState) : TimeOut :=
  let e := if s = x.sel then [] else [(258, 0)]
  if !live then ({ x with sel := s, servo := .acquire, needStep := true, lockRun := 0, stepPending := false, assess := false, forced := false }, e)
  else match (if forced && x.stepPending then x.srcOffset s else none) with
  | some d =>
    let r := x.slewOrLock s d
    (r.1, e ++ r.2)
  | none => ({ x with sel := s, assess := true, forced := forced && x.stepPending }, e)

/-- Another source is taken: the oscillator where there is no other (R41, R48, R52; assumption 180). -/
def TimeState.takeSource (live forced : Bool) (s : Nat) (x0 : TimeState) : TimeOut :=
  let x := x0.noteLock
  if s = x.sel then (x0, [])
  else if s = 3 then
    match x.servo with
    | .locked | .slewing | .external => (x.enterHoldover, [(258, 0), (260, 0)])
    | .acquire => ({ x with sel := 3, servo := .free, adj := 0, needStep := true, lockRun := 0, assess := false, forced := false }, [(258, 0)])
    | .free => ({ x with sel := 3, assess := false, forced := false }, [(258, 0)])
    | .holdover => ({ x with sel := 3 }, [])
  else match x.servo with
    | .free => x.fromFree live forced s
    | .acquire => ({ x with sel := s, lockRun := 0, needStep := true }, [(258, 0)])
    | .holdover => x.fromHoldover live forced s
    | .locked | .slewing | .external => x.switchTo live s

/-- The source is chosen again after a change of validity (R41, R48). -/
def TimeState.reselect (live : Bool) (x : TimeState) : TimeOut := x.takeSource live false x.wantSource

/-- What follows a time state's change of validity, its own events first (R51). -/
def TimeState.thenReselect (live : Bool) (o : TimeOut) : TimeOut :=
  let r := o.1.reselect live
  (r.1, o.2 ++ r.2)

/-! ### Domains -/

/-- A new estimator window (R47). -/
def Domain.restart (x : Domain) : Domain := { x with count := 0, best := none }

/-- The estimator begins with another grandmaster: its window restarts, and it has passed nothing on yet (R47, R42). -/
def Domain.fresh (x : Domain) : Domain := { x.restart with est := none }

/-- The best master of a domain: the least rank, the lowest port among equals. -/
def bestMaster : Tab Announcer → Option (Nat × Announcer)
  | [] => none
  | (p, a) :: r => match bestMaster r with
    | none => some (p, a)
    | some (q, b) => if b.rank < a.rank then some (q, b) else some (p, a)

/-- The domain follows its best master (R41, R47): its active port and grandmaster, or invalid with none. An invalid domain becomes valid only
by a qualifying Announce that it receives (`heard`). -/
def Domain.settle (now : Nat) (heard : Bool) (x : Domain) : Domain :=
  let best := bestMaster (x.masters.filter (fun m => m.2.clockClass ≤ x.set.classLimit))
  match if x.valid || heard then best else none with
  | none => if x.valid then { x.fresh with valid := false, active := none } else x
  | some (p, a) =>
    let y := if !(x.valid && x.gm == a.gm) then x.fresh else if x.active == some p then x else x.restart
    { y with valid := true, active := some p, gm := a.gm, validSince := if x.valid then x.validSince else now }

/-- A change of a domain's masters, with the events of validity and grandmaster (R47, R67). A new grandmaster of the selected domain ends a
slew: the phase against it is assessed at the next update, as R512 assesses a jump (R47, R50). -/
def TimeState.settleOne (heard : Bool) (k : Nat) (y : Domain) (x : TimeState) : TimeOut :=
  let z := y.settle x.beam heard
  let lost := if (x.dom k).valid && !z.valid then [(256 + k, 0)] else []
  let gmc := (x.dom k).valid && z.valid && (x.dom k).gm != z.gm
  let x1 := if gmc && x.sel == k then x.noteLock.dropSlew else x
  (x1.setDom k z, lost ++ (if gmc then [(266 + k, z.gm)] else []))

/-- One domain's masters have changed; the source is chosen again (R41). -/
def TimeState.settleDom (live heard : Bool) (k : Nat) (y : Domain) (x : TimeState) : TimeOut :=
  TimeState.thenReselect live (x.settleOne heard k y)

/-- An Announce is received on port `p` (R41, R47). It counts where the domain is enabled and the port is one of its ports and UP, and qualifies
where its clockClass is within CLASS_LIMIT. -/
def TimeState.announce (live portUp : Bool) (k p cls gm rank : Nat) (logAnn : Int) (x : TimeState) : TimeOut :=
  let d := x.dom k
  if d.set.enable && portUp && natBit d.set.portMask p then
    x.settleDom live (cls ≤ d.set.classLimit) k { d with masters := Tab.put p ⟨x.beam, cls, gm, rank, logAnn⟩ d.masters }
  else (x, [])

/-- Two to a signed power, times seconds, in 2^-16 ns. -/
def logSeconds (l : Int) : Nat := if 0 ≤ l then second * 2 ^ l.toNat else second / 2 ^ l.natAbs

/-- A master's announce timeout has passed (R47). -/
def Domain.over (now : Nat) (x : Domain) (a : Announcer) : Bool := a.last + x.set.announceTimeout * logSeconds a.logAnnounce ≤ now

/-- A domain without the masters whose announce timeout has passed. -/
def Domain.dropOver (now : Nat) (x : Domain) : Domain := { x with masters := x.masters.filter (fun m => !x.over now m.2) }

/-- Domain `k` leaves its master on port `p` for another (R47). -/
def TimeState.leavePort (live : Bool) (k p : Nat) (x : TimeState) : TimeOut :=
  x.settleDom live false k { x.dom k with masters := Tab.del p (x.dom k).masters }

/-- Announce timeouts have passed (R47). Both domains drop what has timed out, so that a loss of both is one change of source (R51). -/
def TimeState.announceLost (live : Bool) (x : TimeState) : TimeOut :=
  let a := x.settleOne false 0 (x.domA.dropOver x.beam)
  let b := a.1.settleOne false 1 (a.1.domB.dropOver x.beam)
  TimeState.thenReselect live (b.1, a.2 ++ b.2)

/-- The 48-bit seconds of a received time extended to the value nearest to the Beam (R39). -/
def extendSeconds (beam sec48 : Nat) : Nat :=
  let b := beam / second
  let base := b / 2 ^ 48 * 2 ^ 48 + sec48 % 2 ^ 48
  if base + 2 ^ 47 < b then base + 2 ^ 48
  else if b + 2 ^ 47 < base && 2 ^ 48 ≤ base then base - 2 ^ 48 else base

/-- The time a received PTP time stands for (R39). -/
def PtpTime.extend (beam : Nat) (t : PtpTime) : Int := (extendSeconds beam t.sec * second + t.sub : Nat)

/-- The time that a message sent at a Beam time carries: the lower 48 bits of its seconds (R39). -/
def PtpTime.sent (beam : Nat) : PtpTime := ⟨beam / second % 2 ^ 48, beam % second⟩

/-- The offset and mean delay that a Sync and its delay exchange give (R55). -/
def ptpOffset (t1 t2 t3 t4 ing egr asym : Int) : Int × Int :=
  let t2' := t2 - ing
  let t3' := t3 + egr
  let mean := ((t2' - t1) + (t4 - t3')) / 2
  ((t2' - t1) - mean - asym, t2' - t1)

/-- The estimator of a domain hears Syncs on this port: the active one or, while the domain is invalid, any of its ports (R45). -/
def Domain.hears (p : Nat) (d : Domain) : Bool :=
  match d.active with
  | some q => p == q
  | none => natBit d.set.portMask p

/-- A Sync and its delay exchange reach domain `k` (R45). The domain's offset is that of its last Sync (assumption 179). -/
def TimeState.sync (k p : Nat) (logSync : Int) (t1 t4 : PtpTime) (t2 t3 ing egr asym : Int) (x : TimeState) : TimeState :=
  let d := x.dom k
  if d.set.enable && d.hears p then
    let r := ptpOffset (t1.extend x.beam) t2 t3 (t4.extend x.beam) ing egr asym
    let keep := match d.best with
      | none => true
      | some (m, _) => r.2 < m
    x.setDom k { d with offset := r.1, count := d.count + 1, logSync := logSync, best := if keep then some (r.2, r.1) else d.best }
  else x

/-! ### The servo -/

/-- A moment moved by a step. -/
def moved (δ : Int) (t : Nat) : Nat := ((t : Int) + δ).toNat

/-- A domain after a step of the Beam (assumption 182): its offsets follow, its window restarts, and its past moments keep their distance. -/
def Domain.step (δ : Int) (x : Domain) : Domain :=
  { x with
    offset := x.offset + δ, est := x.est.map (· + δ), count := 0, best := none
    masters := Tab.mapVals (fun _ a => { a with last := moved δ a.last }) x.masters
    validSince := moved δ x.validSince
    delayReqAt := moved δ x.delayReqAt }

/-- The Beam steps by `d` (R42, R65): the offsets follow it, and the intervals that the Beam times go on. -/
def TimeState.stepBy (d : Int) (x : TimeState) : TimeState :=
  { x with
    beam := moved d x.beam, hold := 0
    domA := x.domA.step d
    domB := x.domB.step d
    ppsMeas := x.ppsMeas - d
    ppsLast := moved d x.ppsLast
    ppsRise := moved d x.ppsRise
    ppsFall := moved d x.ppsFall
    slewAt := moved d x.slewAt
    segAt := moved d x.segAt, lineFrom := moved d x.lineFrom
    holdSince := moved d x.holdSince }

/-- A correction that removes a phase of `o` (R40): forward at once, back by holding the count. -/
def TimeState.correct (o : Int) (x : TimeState) : TimeState :=
  if o ≤ 0 then { x with beam := x.beam + o.natAbs } else { x with hold := x.hold + o.natAbs }

/-- The nominal interval between updates from source `s`, in seconds (R511). -/
def TimeState.interval (s : Nat) (x : TimeState) : Rat :=
  if s = 2 then 1
  else
    let l := (x.dom s).logSync
    if 0 ≤ l then (x.set.filterN * 2 ^ l.toNat : Nat) else (x.set.filterN : Rat) / (2 ^ l.natAbs : Nat)

/-- The loop's output (R511): where it is clamped, the change to `integ` is undone. -/
def TimeState.setRate (integ adj : Rat) (x : TimeState) : TimeOut :=
  let r := x.setAdj adj
  if r.1.clampOn then r else ({ r.1 with integ := integ }, r.2)

/-- An update whose adjustment is clamped counts in DT1 (R44). -/
def TimeState.counted (o : TimeOut) : TimeOut :=
  if o.1.clampOn then ({ o.1 with clamps := o.1.clamps + 1 }, (dtIndex 1, 0) :: o.2) else o

/-- An offset in ns as a real number. -/
def nsOf (o : Int) : Rat := (o : Rat) / 65536

/-- A 16.16 gain as a real number (Table 2.13). -/
def gain (k : Nat) : Rat := (k : Rat) / 65536

/-- The loop of R511 in LOCKED, ACQUIRE and EXTERNAL. -/
def TimeState.loop (s : Nat) (o : Int) (x : TimeState) : TimeOut :=
  let tu := x.interval s
  let integ := x.integ - gain x.set.ki * nsOf o / tu
  TimeState.counted (x.setRate integ (integ - gain x.set.kp * nsOf o / tu))

/-- The loop of R511 in SLEWING with `rem` remaining; `ppb` is 0 under R54. On the external reference the rate is that of 10 MHz in (R49). -/
def TimeState.slewLoop (s : Nat) (o rem : Int) (ppb : Nat) (x : TimeState) : TimeOut :=
  let tu := x.interval s
  let integ := x.integ - gain x.set.ki * nsOf (o - rem) / tu
  TimeState.counted (x.setRate integ ((if s = 2 then x.tenRate else integ) - (rem.sign : Rat) * ppb))

/-- The phase is taken up at an update (R49, R512): the adjustment of the state entered is computed there (R511). -/
def TimeState.takePhase (s : Nat) (o : Int) (x : TimeState) : TimeOut := TimeState.counted (x.slewOrLock s o)

/-- An offset beyond STEP_NS with a channel live: holdover with STEP_PENDING (R512). -/
def TimeState.holdStep (x : TimeState) : TimeOut := ({ x.enterHoldover with stepPending := true }, [(258, 0), (260, 0), (262, 0)])

/-- An offset beyond STEP_NS with a channel live before lock: FREE at the source's rate, with STEP_PENDING (R54). -/
def TimeState.freeHold (s : Nat) (o : Int) (x : TimeState) : TimeOut :=
  let r := { x with servo := .free, stepPending := true, assess := false, forced := false, slewFrom := o, slewAt := x.beam }.slewLoop s o o 0
  (r.1, r.2 ++ [(262, 0)])

/-- The first lock's step (R42). -/
def TimeState.lockStep (o : Int) (x : TimeState) : TimeState :=
  { x.stepBy (-o) with servo := .acquire, stepPending := false, assess := false, forced := false, needStep := false, lockRun := 0 }

/-- An update in FREE, with a source selected (R42, R54). -/
def TimeState.updateFree (live : Bool) (s : Nat) (o : Int) (x : TimeState) : TimeOut :=
  if !live && (x.stepPending || x.assess) then (x.lockStep o, [])
  else if x.assess && x.forced then x.takePhase s o
  else if x.stepPending then
    let y := if x.assess then { x with slewFrom := o, slewAt := x.beam, assess := false } else x
    y.slewLoop s o y.slewFrom 0
  else if x.assess then
    if x.stepLimit < o.natAbs then x.freeHold s o else ({ x with servo := .acquire, needStep := false, lockRun := 0 }, [])
  else (x, [])

/-- An update in ACQUIRE (R42, R54, R65). -/
def TimeState.updateAcquire (live : Bool) (s : Nat) (o : Int) (x : TimeState) : TimeOut :=
  let big := x.stepLimit < o.natAbs
  if !live && (x.needStep || big) then (x.lockStep o, [])
  else if x.needStep || x.assess || big then
    if big && !x.forced then x.freeHold s o else x.takePhase s o
  else
    let run := if o.natAbs ≤ x.set.lockNs * 65536 then x.lockRun + 1 else 0
    let r := { x with lockRun := run }.loop s o
    if x.set.lockCount ≤ run then ({ r.1 with servo := lockedState s, segAt := x.beam }, r.2) else r

/-- The remaining slew at an update: on the external reference it is measured against 1PPS in (R49). -/
def TimeState.slewNow (s : Nat) (o : Int) (x : TimeState) : Int := if s = 2 then o else x.slewRemain x.beam

/-- An update in SLEWING (R49, R511): the slew ends with E259, or goes on. -/
def TimeState.updateSlewing (s : Nat) (o : Int) (x : TimeState) : TimeOut :=
  let rem := x.slewNow s o
  if rem.natAbs ≤ slewDone.natAbs then
    let r := { x.correct rem with servo := lockedState s, slewFrom := 0, segAt := x.beam }.loop s (o - rem)
    (r.1, (259, 0) :: r.2)
  else { x with slewFrom := rem, slewAt := x.beam }.slewLoop s o rem x.set.slewPpb

/-- An update in LOCKED or EXTERNAL (R42, R49, R511, R512, R65). -/
def TimeState.updateLocked (live : Bool) (s : Nat) (o : Int) (x : TimeState) : TimeOut :=
  let y := match x.corr with
    | none => x
    | some c => { x.correct c with corr := none }
  let o' := o - x.corr.getD 0
  if x.stepLimit < o'.natAbs && !(live && x.forced) then
    if live then y.holdStep else ({ y.stepBy (-o') with assess := false, forced := false }, [])
  else if o'.natAbs ≤ x.set.lockNs * 65536 && !x.assess then y.loop s o'
  else y.takePhase s o'

/-- An update from a source for which holdover waits (R53, R65). -/
def TimeState.updateHoldover (live : Bool) (s : Nat) (o : Int) (x : TimeState) : TimeOut :=
  let big := x.stepLimit < o.natAbs
  if !live && (x.stepPending || x.assess) && big then (x.stepBy (-o)).leaveHoldover s 0
  else if (!live && x.stepPending) || (x.assess && (x.forced || !big)) then
    let r := x.leaveHoldover s o
    TimeState.counted r
  else if x.assess then ({ x with stepPending := true, assess := false }, [(262, 0)])
  else (x, [])

/-- One servo update from the selected source `s` with offset `o` (R42, R49, R54, R511, R512, R65). -/
def TimeState.updateBy (live : Bool) (s : Nat) (o : Int) (x0 : TimeState) : TimeOut :=
  let x := x0.noteLock
  match x.servo with
  | .free => x.updateFree live s o
  | .acquire => x.updateAcquire live s o
  | .slewing => x.updateSlewing s o
  | .locked | .external => x.updateLocked live s o
  | .holdover => x.updateHoldover live s o

/-- A new record applies (R44): the slew so far stays as it was made. -/
def TimeState.applySet (x : TimeState) : TimeState :=
  match x.nextSet with
  | none => x
  | some r => { x with set := r, nextSet := none, slewFrom := if x.servo = .slewing then x.slewRemain x.beam else x.slewFrom, slewAt := x.beam }

/-- The estimate of source `s` is a servo update (R511): the source is selected, or holdover waits for it (R53). -/
def TimeState.updates (s : Nat) (x : TimeState) : Bool :=
  s == x.sel || (x.servo == .holdover && (x.stepPending || x.assess) && s == x.wantSource)

/-- Source `s` passes on an estimate: the estimator's window restarts (R45); at a servo update (R511) a new record applies first (R44). -/
def TimeState.servoUpdate (live : Bool) (s : Nat) (x : TimeState) : TimeOut :=
  let x := if x.updates s then x.applySet else x
  let o := if s < 2 then (match (x.dom s).best with | some (_, o) => o | none => (x.dom s).offset) else (x.srcOffset s).getD 0
  let x := if s < 2 then x.setDom s { (x.dom s).restart with est := some o } else x
  if x.updates s then x.updateBy live s o else (x, [])

/-! ### References, captures and triggers -/

/-- A 1PPS in edge at `edge` (R59). One outside 1 s ± 1 µs of the edge before it is a loss; the edge after it makes 1PPS in present again. -/
def TimeState.ppsEdge (live : Bool) (edge : Nat) (x : TimeState) : TimeOut :=
  let e : Int := (edge : Int) - x.refio.ppsInOffset * 65536
  let near : Int := (e + (second / 2 : Nat)) / (second : Int) * (second : Int)
  let lost := x.ppsOk && (edge + usec < x.ppsLast + second || x.ppsLast + second + usec < edge)
  let x := { x with ppsOk := !lost, ppsLast := edge, ppsMeas := e - near }
  TimeState.thenReselect live (x, if lost then [(264, 0)] else [])

/-- The moment `at_` of a capture is kept by a unit (R60), with its events. -/
def TimeState.capture (at_ u source : Nat) (x : TimeState) : TimeOut :=
  let c := Tab.read x.caps u CaptureUnit.reset
  if c.full then
    ({ x with caps := Tab.put u { c with missed := satAdd (2 ^ 32 - 1) c.missed 1 } x.caps }, if c.missed = 0 then [(269, u)] else [])
  else
    ({ x with caps := Tab.put u { c with full := true, time := at_, capSource := source, capState := x.servo.code } x.caps },
     if c.event then [(268, u)] else [])

/-- A happening of a capture source reaches every unit that has it (R60, Table 2.18): `edge` is 1 gained, 2 lost. -/
def TimeState.captureAll (at_ source edge : Nat) (x : TimeState) : TimeOut :=
  (List.range 8).foldl (fun o u =>
    let c := Tab.read o.1.caps u CaptureUnit.reset
    if c.source = source && (source < 0x20 || c.edge = 0 || c.edge = edge) then
      let r := o.1.capture at_ u source
      (r.1, o.2 ++ r.2)
    else o) (x, [])

/-- A trigger after a firing (R61): the next period, or disarmed. -/
def Trigger.after (t : Trigger) : Option Trigger :=
  if !t.periodic then none
  else match t.left with
    | none => some { t with next := t.next + t.period }
    | some n => if n ≤ 1 then none else some { t with next := t.next + t.period, left := some (n - 1) }

/-- The first firing used when the stated time is past or less than 2 µs ahead (R61). -/
def firstFiring (now time period : Nat) (periodic : Bool) : Nat :=
  if now + 2 * usec ≤ time then time
  else if periodic then time + ceilDiv (now + 2 * usec - time) period * period
  else now + 2 * usec

/-- A slot fires before another that is due as well: the earlier nanosecond first, and in slot order within one (R61). -/
def firesFirst (slot : Nat) (g : Trigger) (trigs : Tab Trigger) : Bool :=
  trigs.all (fun e => e.1 == slot || g.next / nsec < e.2.next / nsec || (g.next / nsec == e.2.next / nsec && slot < e.1))

/-- A commanded step (R65): STEP_PENDING and any slew are cleared, and the phase is assessed at the next update. -/
def TimeState.commandStep (d : Int) (x : TimeState) : TimeState :=
  { (x.noteLock.dropSlew.stepBy d) with stepPending := false, corr := none, assess := true, forced := false }

/-- Every armed trigger moves by a step (R65). -/
def TimeState.moveTriggers (d : Int) (x : TimeState) : TimeState :=
  { x with trigs := Tab.mapVals (fun _ t => { t with next := ((t.next : Int) + d).toNat }) x.trigs }

/-- 1PPS out and 10 MHz out follow the Beam in every state but FREE, and there with FREE_OUT (R58). -/
def TimeState.drive (x : TimeState) : TimeState :=
  let follow := x.servo != .free || x.refio.freeOut
  { x with ppsOut := x.refio.ppsOutEn && follow, tenOut := x.refio.tenOutEn && follow }

/-- At a Beam second boundary the staged reference outputs take effect, and 1PPS out's edges are set (R58): PPS_OUT_OFFSET after the boundary, or before the
next one where it is negative, and PPS_WIDTH_NS wide. -/
def TimeState.secondBoundary (x : TimeState) : TimeState :=
  let r := x.refioNext.getD x.refio
  let from_ := if 0 ≤ r.ppsOutOffset then x.beam else x.beam + second
  let rise := moved (r.ppsOutOffset * 65536) from_
  { x with refio := r, refioNext := none, ppsRise := rise, ppsFall := rise + r.ppsWidth * nsec }.drive

/-- The level of 1PPS out at a moment (R58). -/
def TimeState.ppsLevel (x : TimeState) (now : Nat) : Bool := x.ppsOut && x.ppsRise ≤ now && now < x.ppsFall

/-- A rising edge of 10 MHz out falls on a moment: every 100 ns, one of them with the edge of 1PPS out (R58). -/
def TimeState.tenEdge (x : TimeState) (now : Nat) : Bool :=
  x.tenOut && ((now : Int) - x.ppsRise) % (100 * nsec : Nat) == 0

end Sys2Proof.Machine
end

