-- ==== Sys2Proof/Machine/Ops.lean ====
section
/-!
DEFINITION. The shared operations on the module: time and events, the window and host memory, the grid of frame ticks, and
the completion of Ranrok commands (chapter 11).
-/
namespace Sys2Proof.Machine

/-! ### Time and events -/

/-- Beam time. -/
def Device.now (d : Device) : Nat := d.time.beam

/-- Beam time runs on to `t` (never back, 02 R40), and the uptime with it. -/
def Device.at_ (t : Nat) (d : Device) : Device :=
  { d with time := d.time.advance t, link := { d.link with uptime := d.link.uptime + (t - d.time.beam) } }

/-- Group `g` holds its contents: it is in service or draining (12 R374, Table 12.8). -/
def Device.groupUp (d : Device) (g : Nat) : Bool := g < 4 && decide ((d.dram.group g).service < 2)

/-- Events raised, in order (15 R433). -/
def Device.raise (evs : List (Nat × Nat)) (d : Device) : Device :=
  let p := occurAll d.groupUp d.now (16 + 8 * evs.length) evs ⟨d.events, d.mem, d.msix, d.wq, d.logs, d.free⟩
  { d with events := p.events, mem := p.mem, msix := p.msix, wq := p.wq, logs := p.logs, free := p.free }

/-- A vector is triggered (10 R303). -/
def Device.trigger (v : Nat) (d : Device) : Device := { d with msix := msixTrigger v d.msix }

/-- A free value of `w` bits (assumption 3). -/
def Device.freeVal (w : Nat) (d : Device) : Nat := (Config.free w d.free).toNat

/-- The free value is used up. -/
def Device.useFree (d : Device) : Device := { d with free := d.free + 1 }

/-- An as-run entry (13 R389, Table 13.3). -/
def Device.asRun (channel entry tag frame detail : Nat) (d : Device) : Device :=
  { d with logs := d.logs.addAsRun ⟨channel, entry, tag, frame, detail, d.now⟩ }

/-- The bytes of a time word (02 Table 2.1) at a Beam time, and the time a word names in whole units. -/
def timeOfWord (b : Bytes) (off : Nat) : Nat := (rdLE b (off + 8) 8 * 1000000000 + rdLE b (off + 4) 4) * 65536 + rdLE b (off + 2) 2

/-- A time word is well formed: NANOSECONDS below 10^9 and its reserved bits 0 (02 R38). -/
def timeWordOk (b : Bytes) (off : Nat) : Bool := rdLE b (off + 4) 4 < 1000000000 && rdLE b off 2 == 0

/-- How long management firmware has run since power-up (10 Table 10.5). -/
def Device.beats (d : Device) : Nat := d.link.heartbeat + (if d.rk.mgmtUp then d.now - d.rk.mgmtUpSince else 0)

/-- Management firmware stops running. -/
def Device.mgmtStop (d : Device) : Device := { d with link := { d.link with heartbeat := d.beats }, rk := { d.rk with mgmtUp := false } }

/-! ### The window and host memory -/

/-- The size of the HDM window (10 R298). -/
def windowBytes : Nat := 2 ^ 34

/-- Every quarter that the bytes from `off` touch is in service. -/
def Device.rangeUp (d : Device) (off n : Nat) : Bool :=
  (List.range 4).all (fun q => !(off < (q + 1) * 2 ^ 32 && q * 2 ^ 32 < off + n) || d.groupUp q)

/-- The bursts wholly covered by a write lose their poison (10 R302). -/
def clearPoison (off n : Nat) (p : List Nat) : List Nat := p.filter (fun b => !(off ≤ 64 * b && 64 * b + 64 ≤ off + n))

/-- A burst of the range holds poison, or a quarter of it is out of service (10 R301, R302). -/
def Device.poisoned (d : Device) (off n : Nat) : Bool :=
  !d.rangeUp off n || d.mem.poison.any (fun b => 64 * b < off + n && off < 64 * b + 64)

/-- RESCUE has no window: its offsets are host addresses (17 R493). -/
def Device.rescue (d : Device) : Bool := d.modes.mode == mRescue

/-- What a command reads at an offset. -/
def Device.readAt (d : Device) (off n : Nat) : Bytes := if d.rescue then memBytes d.mem.host off n else memBytes d.mem.hdm off n

/-- The module writes bytes at an offset: discarded in a retired quarter (10 R301). -/
def MemState.write (rescue up : Bool) (off : Nat) (b : Bytes) (m : MemState) : MemState :=
  if rescue then { m with host := memStore m.host off b }
  else if up then { m with hdm := memStore m.hdm off b, poison := clearPoison off b.length m.poison }
  else m

/-- The module writes bytes at a window offset. -/
def Device.writeAt (off : Nat) (b : Bytes) (d : Device) : Device :=
  { d with mem := d.mem.write d.rescue (d.rangeUp off b.length) off b }

/-- A ring's indices become 0 (05 R162; 15 R436). -/
def Device.zeroIndices (off : Nat) (d : Device) : Device := (d.writeAt off (wrLE 8 0)).writeAt (off + 64) (wrLE 8 0)

/-- The module writes host memory by DMA. -/
def Device.dma (addr : Nat) (b : Bytes) (d : Device) : Device := { d with mem := { d.mem with host := memStore d.mem.host addr b } }

/-- DMA is possible: the link is up and Bus Master Enable is set (10 R303, R310). -/
def Device.dmaUp (d : Device) : Bool := d.link.up && d.link.bme && !d.link.d3hot

/-! ### Frame ticks -/

/-- One second in the numerator of a frame period: den × this / num is T (02 R62). -/
def tickUnits (r : ChannelRec) : Nat := r.rateDen * second

/-- Tick `k` of the channel's grid (02 R62). -/
def gridTick (r : ChannelRec) (k : Nat) : Nat := r.align + k * tickUnits r / r.rateNum

/-- The first tick number whose tick is at or after `x` (02 R62). -/
def gridFirst (r : ChannelRec) (x : Nat) : Nat := ceilDiv ((x - r.align) * r.rateNum) (tickUnits r)

/-- The frame period T, rounded down to 2^-16 ns. -/
def framePeriod (r : ChannelRec) : Nat := tickUnits r / r.rateNum

/-- 500 µs: a commit point lies this long before its tick (01 R33). -/
def commitLead : Nat := 500 * usec

/-- The tick of frame `f` (02 R62, R65). -/
def Channel.tickOf (c : Channel) (f : Nat) : Nat :=
  if f < c.committed then Tab.read c.ticks f c.lastTick else gridTick c.recd (c.grid + (f - c.committed))

/-- The first frame whose commit point follows `now`. -/
def Channel.firstOpen (c : Channel) (now : Nat) : Nat := c.committed + (gridFirst c.recd (now + commitLead + 1) - c.grid)

/-- The first frame whose tick is at or after `x`. -/
def Channel.frameAt (c : Channel) (x : Nat) : Nat :=
  match c.ticks.filter (fun p => p.1 < c.committed && x ≤ p.2) with
  | p :: _ => p.1
  | [] => c.committed + (gridFirst c.recd x - c.grid)

/-- The channel is LIVE or STOPPING. -/
def Channel.running (c : Channel) : Bool := c.state == .live || c.state == .stopping

/-- Some channel is LIVE or STOPPING. -/
def Device.anyLive (d : Device) : Bool := d.code.channels.any (fun p => p.2.running)

def Device.chan (d : Device) (c : Nat) : Channel := d.code.chan c

def Device.setChan (c : Nat) (x : Channel) (d : Device) : Device :=
  { d with code := { d.code with channels := Tab.put c x d.code.channels } }

/-- The lowest-numbered live channel of a list. -/
def Device.lowestLive (d : Device) (cs : List Nat) : Option Nat :=
  (cs.filter (fun c => (d.chan c).running)).foldl (fun o c => match o with
    | none => some c
    | some b => some (Nat.min b c)) none

/-! ### Command entries -/

/-- Statuses (11 Table 11.12). -/
def stOk : Nat := 0
def stAccepted : Nat := 1
def stBusy : Nat := 0x101
def stNoBeads : Nat := 0x102
def stBadParam : Nat := 0x103
def stBadState : Nat := 0x104
def stLinebuf : Nat := 0x105
def stSealed : Nat := 0x106
def stLate : Nat := 0x107
def stStartedAt : Nat := 0x108
def stEnergy : Nat := 0x109
def stNotSupported : Nat := 0x10A
def stInternal : Nat := 0x1FF

/-- The fields of an entry (11 Table 11.10). -/
def Ctx.opcode (c : Ctx) : Nat := rdLE c.entry 0 2
def Ctx.flags (c : Ctx) : Nat := rdLE c.entry 2 2
def Ctx.tag (c : Ctx) : Nat := rdLE c.entry 4 4
def Ctx.handle (c : Ctx) : Nat := rdLE c.entry 8 2
def Ctx.effect (c : Ctx) : Nat := rdLE c.entry 10 1
def Ctx.effectNs (c : Ctx) : Nat := rdLE c.entry 12 4
def Ctx.effectValue (c : Ctx) : Nat := rdLE c.entry 16 8

/-- The time a time selector names (11 Table 11.10), in 2^-16 ns. -/
def Ctx.effectTime (c : Ctx) : Nat := (c.effectValue * 1000000000 + c.effectNs) * 65536

/-- `n` bytes of PARAMS at an offset. -/
def Ctx.p (c : Ctx) (off n : Nat) : Nat := rdLE c.entry (24 + off) n

/-- `n` bytes of the extended block at an offset. -/
def Ctx.b (c : Ctx) (off n : Nat) : Nat := rdLE c.block off n

/-- The PARAMS. -/
def Ctx.params (c : Ctx) : Bytes := (List.range 40).map (fun i => c.entry.getD (24 + i) 0)

/-- Every byte of each range (offset, count) is 0. -/
def zerosIn (b : Bytes) (rs : List (Nat × Nat)) : Bool := rs.all (fun r => rdLE b r.1 r.2 == 0)

/-- Which selectors an opcode accepts (11 Table 11.14). -/
inductive Sel where
  | i | it | ift
  deriving DecidableEq, Repr

def Sel.accepts (s : Sel) (effect : Nat) : Bool :=
  match s with
  | .i => effect == 0
  | .it => effect == 0 || effect == 2
  | .ift => effect < 3

/-- When an opcode's final is decided (11 Table 11.14). -/
inductive When where
  | answer | commit | done
  deriving DecidableEq, Repr

/-- A refusal: a status and its detail. -/
abbrev Refused := Option (Nat × Nat)

/-- What running a command did: the module after it, and its final's status and detail, or none while its work goes on; the
moment of effect where it is not the present. -/
structure Done where
  dev : Device
  final : Option (Nat × Nat)
  eff : Option Nat

/-- A command done with OK. -/
def Done.ok (d : Device) : Done := ⟨d, some (stOk, 0), none⟩

/-- A command done with OK and a detail. -/
def Done.okDetail (k : Nat) (d : Device) : Done := ⟨d, some (stOk, k), none⟩

/-- A command refused: `d` is the module unchanged. -/
def Done.refuse (s k : Nat) (d : Device) : Done := ⟨d, some (s, k), none⟩

/-- A command whose work goes on. -/
def Done.goesOn (d : Device) : Done := ⟨d, none, none⟩

/-- What the chapter of a command says of it. `block` gives the size of its extended block from the block's first 128 bytes;
`reserved` lists the reserved ranges of PARAMS (without a block) or of the block. `check` is asked on the configuration with
everything staged applied; `chan` names the live channel of the target; `unit` is the unit it must hold (R328);
`flat` says that it causes a flatten of its channel (04 R112), `held` that the security core answers it later (R327). -/
structure CmdSpec where
  op : Nat
  block : Option (Bytes → Nat) := none
  align : Nat := 64
  sel : Sel := .i
  when_ : When := .answer
  cr0 : Bool := false
  reserved : List (Nat × Nat) := []
  check : Ctx → Device → Refused := fun _ _ => none
  chan : Ctx → Device → Option Nat := fun _ _ => none
  unit : Ctx → Device → Option Nat := fun _ _ => none
  flat : Ctx → Device → Bool := fun _ _ => false
  held : Bool := false
  apply : Ctx → Device → Done

/-- The first refusal of a list of checks, in order. -/
def firstRefusal : List (Bool × Nat × Nat) → Refused
  | [] => none
  | (bad, s, k) :: r => if bad then some (s, k) else firstRefusal r

/-- The entry's own checks, before the command's (11 R321 to R323, R329). `ring` is none over MCTP. -/
def entryCheck (sp : CmdSpec) (ring : Option Nat) (c : Ctx) : Refused :=
  firstRefusal [
    (8 ≤ c.flags || rdLE c.entry 11 1 != 0 || 3 ≤ c.effect || 1000000000 ≤ c.effectNs
      || (c.effect != 2 && c.effectNs != 0) || (c.effect == 0 && c.effectValue != 0), stBadParam, 0),
    (ring == some 0 && !sp.cr0, stBadParam, 5),
    (natBit c.flags 0 != sp.block.isSome, stBadParam, 4),
    (!sp.sel.accepts c.effect, stBadParam, 1)]

/-- Where an entry says its block lies (11 R322): offset and bytes. -/
def blockOff (e : Bytes) : Nat := rdLE e 24 8
def blockLen (e : Bytes) : Nat := rdLE e 32 4

/-- The block's checks (11 R322); over MCTP the block follows in the message and needs none of them but its size. -/
def blockCheck (sp : CmdSpec) (d : Device) (mctp : Bool) (c : Ctx) : Refused :=
  match sp.block with
  | none => if zerosIn c.params sp.reserved then none else some (stBadParam, 0)
  | some size =>
    firstRefusal [
      (!mctp && rdLE c.entry 36 8 + rdLE c.entry 44 8 + rdLE c.entry 52 8 + rdLE c.entry 60 4 != 0, stBadParam, 0),
      (!mctp && (blockOff c.entry % sp.align != 0 || (!d.rescue && windowBytes < blockOff c.entry + blockLen c.entry)), stBadParam, 4),
      (!mctp && !d.rescue && d.poisoned (blockOff c.entry) (blockLen c.entry), stBadParam, 3),
      (c.block.length != size (c.block.take 128), stBadParam, 4),
      (!zerosIn c.block sp.reserved, stBadParam, 0)]

/-- The block of an entry as the module reads it: BLOCK_BYTES bytes, or nothing where they differ from the block's size. -/
def Device.fetchBlock (sp : CmdSpec) (e : Bytes) (d : Device) : Bytes :=
  match sp.block with
  | none => []
  | some size => if size (d.readAt (blockOff e) 128) = blockLen e then d.readAt (blockOff e) (blockLen e) else []

/-! ### Records -/

/-- The 32 bytes of a completion record (11 Table 11.11). -/
def recBytes (phase : Bool) (r : CRec) : Bytes :=
  wrLE 4 r.tag ++ wrLE 2 r.status ++ wrLE 2 (r.ring + 4 * bit01 r.interim + 8 * bit01 phase) ++ wrLE 4 r.detail ++
  wrLE 4 (r.effTime / 65536 % 1000000000) ++ wrLE 8 (r.frame.getD (2 ^ 64 - 1)) ++ wrLE 8 (r.effTime / second)

/-- What writing records reaches. -/
structure CqPort where
  host : Mem
  cq : CompRing
  msix : MsixState

/-- The completion ring holds a valid setting (11 Table 11.7, ACTIVE but for Bus Master Enable). -/
def CompRing.valid (q : CompRing) : Bool := q.enable && 6 ≤ q.log2 && q.log2 ≤ 16

/-- The entries of the completion ring. -/
def CompRing.entries (q : CompRing) : Nat := 2 ^ q.log2

/-- A record triggers the ring's vector (11 R340). -/
def CompRing.irqFor (q : CompRing) (h : HeldRec) : Bool :=
  q.irqMode == 2 || (q.irqMode == 1 && (h.irq || 0x101 ≤ h.recd.status))

/-- One record is written in its place, and the vector triggered after it (11 R338, R340). -/
def CqPort.write (h : HeldRec) (p : CqPort) : CqPort :=
  let q := p.cq
  let k := q.count
  { host := memStore p.host (q.base + 32 * (k % q.entries)) (recBytes (k / q.entries % 2 == 0) h.recd)
    cq := { q with count := k + 1, written := (q.written + 1) % 2 ^ 32 }
    msix := if q.irqFor h then msixTrigger q.vector p.msix else p.msix }

/-- A record is written, or held while the way to the host is shut (11 R339). -/
def CqPort.put (ready : Bool) (p : CqPort) (h : HeldRec) : CqPort :=
  if ready && p.cq.held.isEmpty then p.write h else { p with cq := { p.cq with held := p.cq.held ++ [h] } }

/-- The held records are written, in order (11 R339, 10 R308). -/
def CqPort.drain (p : CqPort) : CqPort :=
  p.cq.held.foldl (fun p h => p.write h) { p with cq := { p.cq with held := [] } }

/-- Records go to the completion ring in order. -/
def Device.putRecords (hs : List HeldRec) (d : Device) : Device :=
  let p := hs.foldl (CqPort.put d.dmaUp) ⟨d.mem.host, d.rk.cq, d.msix⟩
  { d with mem := { d.mem with host := p.host }, rk := { d.rk with cq := p.cq }, msix := p.msix }

/-- Held records are written once DMA is possible. -/
def Device.drainRecords (d : Device) : Device :=
  if d.dmaUp then
    let p := CqPort.drain ⟨d.mem.host, d.rk.cq, d.msix⟩
    { d with mem := { d.mem with host := p.host }, rk := { d.rk with cq := p.cq }, msix := p.msix }
  else d

/-- The slots an entry still reserves (11 R339). -/
def Taken.slots (x : Taken) : Nat := if x.writes then 1 + bit01 x.ackSlot else 0

/-- CQ_HELD: slots reserved and not yet written. -/
def RanrokState.cqHeld (x : RanrokState) : Nat :=
  x.cq.held.length + ((List.range 4).map (fun r => ((x.ring r).order.map Taken.slots).sum)).sum

/-- Free slots of the completion ring (11 R339). -/
def RanrokState.cqFree (x : RanrokState) : Nat :=
  x.cq.entries - ((x.cq.written + 2 ^ 32 - x.cq.consumed) % 2 ^ 32 + x.cqHeld)

/-- ACCEPTED records that may be written now, in posting order (11 R336). -/
def takeAcks : List Taken → List Taken × List HeldRec
  | [] => ([], [])
  | x :: xs =>
    if !x.ackSlot then
      let r := takeAcks xs
      (x :: r.1, r.2)
    else match x.ack with
      | none => (x :: xs, [])
      | some a =>
        let r := takeAcks xs
        ({ x with ackSlot := false, ack := none } :: r.1, (if x.writes then [⟨a, x.irq⟩] else []) ++ r.2)

/-- Finals that may be written now: those before which every final of the ring has been decided (11 R336). -/
def takeFinals : List Taken → List Taken × List (Taken × CRec)
  | [] => ([], [])
  | x :: xs => match x.final with
    | none => (x :: xs, [])
    | some f =>
      let r := takeFinals xs
      (r.1, (x, f) :: r.2)

/-- A decided final goes into its result slot and is counted (11 R348). -/
def Ring.conclude (g : Ring) (f : CRec) : Ring :=
  { g with results := Tab.put (g.done % 16) f g.results, done := satAdd max64 g.done 1 }

/-- The records of ring `r` that are due are written, and its finals counted (11 R336, R348). -/
def Device.flushRing (r : Nat) (d : Device) : Device :=
  let g := d.rk.ring r
  let a := takeAcks g.order
  let f := takeFinals a.1
  let g' := f.2.foldl (fun g x => g.conclude x.2) { g with order := f.1 }
  let hs := a.2 ++ (f.2.filter (fun x => x.1.writes)).map (fun x => (⟨x.2, x.1.irq⟩ : HeldRec))
  { d with rk := { d.rk with rings := Tab.put r g' d.rk.rings } }.putRecords hs

/-- An answer's queue time is counted (11 R324, R325, Table 11.2): from the posting stamp to the answer, in ns. -/
def Ring.account (now stamp : Nat) (g : Ring) : Ring :=
  let q := (now - stamp) / 65536
  let recent := g.qtimeRecent.filter (fun p => now < p.1 + second)
  { g with qtimeSum := satAdd max64 g.qtimeSum q, qtimeMax := Nat.max g.qtimeMax q, qtimeRecent := recent ++ [(now, q)] }

/-- The taken entry `seq` is answered: its queue time is counted once. -/
def Ring.answered (now seq : Nat) (g : Ring) : Ring :=
  match (g.order.find? (fun x => x.seq == seq)).bind (·.stamp) with
  | none => g
  | some st => { g.account now st with order := g.order.map (fun x => if x.seq = seq then { x with stamp := none } else x) }

/-- The taken entry with number `seq` changes. -/
def Ring.updTaken (g : Ring) (seq : Nat) (f : Taken → Taken) : Ring :=
  { g with order := g.order.map (fun x => if x.seq = seq then f x else x) }

/-- Details of two and of three values, packed under 15 R435: two bytes for a number or code, the last value the rest. -/
def det2 (a b : Nat) : Nat := a % 65536 + 65536 * (b % 2 ^ 48)
def det3 (a b c : Nat) : Nat := a % 65536 + 65536 * (b % 65536) + 2 ^ 32 * (c % 2 ^ 32)

/-- A BUSY answer on a ring (11 R326, R343, Table 11.16): it is counted, and the ring stops with its hint and E016, where it has not stopped
already. -/
def Device.busyAnswer (r hint : Nat) (d : Device) : Device :=
  let g := d.rk.ring r
  let g' : Ring := { g with busy := satAdd max64 g.busy 1, busyStop := true, busyHint := hint }
  let rk' : RanrokState := { d.rk with rings := Tab.put r g' d.rk.rings, lastBusy := some d.now }
  { d with rk := rk' }.raise (if g.busyStop then [] else [(16, det2 r hint)])

/-- A command is decided (11 R336, R337): its final record, written in its turn. -/
def Device.decideFinal (o : Origin) (tag status detail : Nat) (frame : Option Nat) (eff : Nat) (d : Device) : Device :=
  match o with
  | .mctp => { d with rk := { d.rk with mctpOpen := false, mctpReply := some (.record ⟨tag, status, 0, false, detail, frame, eff⟩) } }
  | .ring r seq =>
    let g := ((d.rk.ring r).answered d.now seq).updTaken seq (fun x =>
      { x with ackSlot := x.ackSlot && x.ack.isSome, final := some ⟨x.tag, status, r, false, detail, frame, eff⟩ })
    { d with rk := { d.rk with rings := Tab.put r g d.rk.rings } }.flushRing r

/-- A command is decided; BUSY also stops its ring (11 R326). -/
def Device.decide (o : Origin) (tag status detail : Nat) (frame : Option Nat) (eff : Nat) (d : Device) : Device :=
  match o with
  | .mctp => d.decideFinal o tag status detail frame eff
  | .ring r _ =>
    let d1 := d.decideFinal o tag status detail frame eff
    if status = stBusy then d1.busyAnswer r detail else d1

/-- A command is answered, its final to come (11 R336). -/
def Device.accept (o : Origin) (frame : Option Nat) (eff : Nat) (d : Device) : Device :=
  match o with
  | .mctp => d
  | .ring r seq =>
    let g := ((d.rk.ring r).answered d.now seq).updTaken seq (fun x =>
      if x.ackSlot then { x with ack := some ⟨x.tag, stAccepted, r, true, 0, frame, eff⟩ } else x)
    { d with rk := { d.rk with rings := Tab.put r g d.rk.rings } }.flushRing r

/-- A command is decided from its context. -/
def Device.decideCtx (c : Ctx) (status detail : Nat) (frame : Option Nat) (eff : Nat) (d : Device) : Device :=
  d.decide c.origin c.tag status detail frame eff

/-- The outcome of a run is recorded: its final, or, while its work goes on, its answer. -/
def Done.settle (c : Ctx) (r : Done) : Device :=
  match r.final with
  | some (s, k) => r.dev.decideCtx c s k none (r.eff.getD c.now)
  | none => r.dev.accept c.origin none (r.eff.getD c.now)

/-! ### Commands at frame boundaries -/

/-- The last frame of effect among the commands staged for a channel (11 R334). -/
def RanrokState.lastStaged (x : RanrokState) (ch : Nat) : Nat :=
  (x.staged.filter (fun s => s.channel == ch)).foldl (fun m s => Nat.max m s.frame) 0

/-- The frame a command asks for: none with the immediate selector (11 R330). -/
def Ctx.asked (c : Ctx) (ch : Channel) : Option Nat :=
  if c.effect = 1 then some c.effectValue else if c.effect = 2 then some (ch.frameAt c.effectTime) else none

/-- The frame of effect with its status and detail (11 R330, R334). `least` is the first frame the command can reach. -/
def Ctx.frameOfEffect (c : Ctx) (ch : Channel) (least last : Nat) : Nat × Nat × Nat :=
  match c.asked ch with
  | none => (Nat.max least last, stOk, 0)
  | some f =>
    let g := Nat.max f (Nat.max least last)
    if g = f then (f, stOk, 0) else (g, stLate, Nat.min (g - f) (2 ^ 32 - 1))

/-- Two seconds: how far ahead a frame may be named (11 R333). -/
def horizon : Nat := 2 * second

/-- The frame named has its commit point beyond the horizon (11 R333). -/
def Ctx.beyond (c : Ctx) (ch : Channel) (now : Nat) : Bool :=
  match c.asked ch with
  | none => false
  | some f => now + horizon + commitLead < ch.tickOf f

/-- A flatten of a channel is asked for (04 R112, R113): it begins, or the one under way starts again when it ends. -/
def Comp.askFlatten (now : Nat) (waits : List (Nat × Ctx)) (x : Comp) : Comp :=
  match x.flatten with
  | some f => { x with flatten := some { f with again := true, waits := f.waits ++ waits } }
  | none => { x with flatGen := x.flatGen + 1, flatten := some ⟨x.flatGen + 1, now, false, false, waits⟩ }

def Device.compChan (c : Nat) (d : Device) : Comp := d.comp.chan c

def Device.setComp (c : Nat) (x : Comp) (d : Device) : Device := { d with comp := d.comp.setChan c x }

/-- The number of the flatten that a command taken now waits for: while planes in force are built again, the one after it. -/
def Flatten.target (f : Flatten) : Nat := f.gen + bit01 f.rebuild

/-- A change that cannot take effect before frame `f`: LATE_APPLIED where it named a frame (11 R334). -/
def Staged.delayTo (f : Nat) (s : Staged) : Staged :=
  if f ≤ s.frame then s
  else if s.ctx.effect != 0 then { s with frame := f, status := stLate, detail := s.detail + (f - s.frame) }
  else { s with frame := f }

/-- The changes that share a flatten take effect at one frame (04 R113), that of the last taken; what was taken between them keeps its place (11 R334;
assumption 219). -/
def joinFlat (ch g : Nat) (l : List Staged) : List Staged :=
  let f := (l.getLast?.map (·.frame)).getD 0
  let mine (s : Staged) : Bool := s.channel == ch && s.flat == some g
  l.takeWhile (fun s => !mine s) ++ (l.dropWhile (fun s => !mine s)).map (fun s => if s.channel = ch then s.delayTo f else s)

/-- A flatten of channel `c` is asked for. -/
def Device.askFlatten (c : Nat) (waits : List (Nat × Ctx)) (d : Device) : Device := d.setComp c ((d.compChan c).askFlatten d.now waits)

/-- A change is written to the staged copy (11 R330). -/
def Device.stage (op : Nat) (c : Ctx) (ch least : Nat) (flat : Option Nat) (d : Device) : Device :=
  let x := d.chan ch
  let r := c.frameOfEffect x least (d.rk.lastStaged ch)
  let s : Staged := ⟨op, c, ch, r.1, r.2.1, r.2.2, flat⟩
  { d with rk := { d.rk with staged := d.rk.staged ++ [s] } }.accept c.origin (some r.1) (x.tickOf r.1)

/-- The mode as a unit (16 R455). -/
def uMode : Nat := 3

/-- A unit is held by a command at work (11 R328); the mode also while a transition or a rod update runs (16 R455;
17 R484), the image store (2) while a rod update runs (17 R479). -/
def Device.unitHeld (u : Nat) (d : Device) : Bool :=
  d.rk.works.any (fun w => w.unit == u) || (u == uMode && (d.modes.transition.isSome || d.serv.update.isSome)) || (u == 2 && d.serv.update.isSome)

/-- A command waits for its unit (11 R328). -/
def Device.waitUnit (op u : Nat) (c : Ctx) (d : Device) : Device :=
  { d with rk := { d.rk with waiting := d.rk.waiting ++ [(⟨op, c, u, none⟩ : Work)] } }.accept c.origin none c.now

/-- A command's work begins. -/
def Device.beginWork (op : Nat) (c : Ctx) (unit : Nat) (due : Option Nat) (d : Device) : Device :=
  { d with rk := { d.rk with works := d.rk.works ++ [(⟨op, c, unit, due⟩ : Work)] } }

/-- The first work of an opcode that `ok` accepts, and the rest. -/
def takeWork (ok : Work → Bool) : List Work → Option (Work × List Work)
  | [] => none
  | w :: r => if ok w then some (w, r) else match takeWork ok r with
    | none => none
    | some (x, r') => some (x, w :: r')

/-- A checked command runs (11 R328 to R332): at its answer, at a commit point, or while its work lasts. -/
def CmdSpec.runChecked (sp : CmdSpec) (c : Ctx) (d : Device) : Device :=
  match sp.when_ with
  | .commit =>
    match sp.chan c d with
    | none =>
      if c.effect != 0 then d.decideCtx c stBadState 1 none c.now
      else if sp.flat c d then (d.askFlatten c.handle [(sp.op, c)]).accept c.origin none c.now
      else (sp.apply c d).settle c
    | some ch =>
      if c.beyond (d.chan ch) c.now then d.decideCtx c stBadParam 2 none c.now
      else if sp.flat c d then
        let d1 := d.askFlatten ch []
        let g := (((d1.compChan ch).flatten.map Flatten.target)).getD 0
        let d2 := d1.stage sp.op c ch ((d.chan ch).firstOpen c.now) (some g)
        { d2 with rk := { d2.rk with staged := joinFlat ch g d2.rk.staged } }
      else d.stage sp.op c ch ((d.chan ch).firstOpen c.now) none
  | _ =>
    if sp.held then (sp.apply c d).dev
    else match sp.unit c d with
    | none => (sp.apply c d).settle c
    | some u => if d.unitHeld u then d.waitUnit sp.op u c else (sp.apply c d).settle c

/-- A command is checked and run (11 R321 to R334). `ahead` is the module with everything staged applied, which the checks
look at. -/
def CmdSpec.run (sp : CmdSpec) (ahead : Device → Device) (ring : Option Nat) (c : Ctx) (d : Device) : Device :=
  match entryCheck sp ring c with
  | some (s, k) => d.decideCtx c s k none c.now
  | none => match blockCheck sp d ring.isNone c with
    | some (s, k) => d.decideCtx c s k none c.now
    | none => match sp.check c (ahead d) with
      | some (s, k) => d.decideCtx c s k none c.now
      | none => sp.runChecked c d

/-- An entry is taken from ring `r` (11 R320, R339): its account, and its reserved slots while the completion ring can
reserve them. -/
def Device.takeEntry (r : Nat) (e : Bytes) (stamp : Option Nat) (d : Device) : Device :=
  let g := d.rk.ring r
  let fl := rdLE e 2 2
  let writes := d.rk.cq.valid && d.link.bme
  let x : Taken := ⟨g.taken, rdLE e 4 4, natBit fl 2, natBit fl 1, writes, none, none, stamp⟩
  { d with rk := { d.rk with rings := Tab.put r { g with order := g.order ++ [x], taken := g.taken + 1 } d.rk.rings } }

/-- A status command's target is out of range: PARAMS 0 holds an 8-byte, 64-byte-aligned window offset (10 R301), for a record of
`n` bytes. -/
def targetBad (n : Nat) (c : Ctx) (d : Device) : Bool := c.p 0 8 % 64 != 0 || (!d.rescue && windowBytes < c.p 0 8 + n)

/-- The check of that target: its range, and that its quarter is in service (10 R301). -/
def targetCheck (n : Nat) (c : Ctx) (d : Device) : Refused :=
  if targetBad n c d then some (stBadParam, 0)
  else if !d.rescue && !d.rangeUp (c.p 0 8) n then some (stBadState, 6) else none

/-- A status command writes its record and completes. -/
def writeRecord (b : Bytes) (c : Ctx) (d : Device) : Done := Done.ok (d.writeAt (c.p 0 8) b)

/-- The first refusal of two checks. -/
def orElse (a b : Refused) : Refused := match a with
  | some x => some x
  | none => b

/-- A record: fields (bytes, value) in order, each little-endian. -/
def fields : List (Nat × Nat) → Bytes
  | [] => []
  | (n, v) :: r => wrLE n v ++ fields r

/-- Bad parameters, where the condition holds. -/
def badParam (b : Bool) : Refused := if b then some (stBadParam, 0) else none

/-- A state that does not allow the command, where the condition holds. -/
def badState (b : Bool) (k : Nat) : Refused := if b then some (stBadState, k) else none

/-- The first refusal of a list of checks. -/
def firstOf : List Refused → Refused
  | [] => none
  | a :: r => orElse a (firstOf r)

/-- µs from the time asked to the time used, saturating (11 Table 11.12). -/
def usMoved (asked used : Nat) : Nat := Nat.min ((used - asked) / usec) (2 ^ 32 - 1)

/-! ### Details and service states -/

/-- A unit's account of a change of its service state (17 Table 17.14): passes count only since it last went out of service. -/
def UnitRec.moved (now old new cause : Nat) (x : UnitRec) : UnitRec :=
  let fresh := new == 2 && old < 2
  { x with
    service := new
    changes := satAdd max64 x.changes 1
    lastChange := now
    memPassed := x.memPassed && !fresh
    anaPassed := x.anaPassed && !fresh
    cause := if new = 2 && (fresh || 2 ≤ cause) then cause else x.cause
    faults := if new = 2 && 2 ≤ cause && cause != 5 then satAdd max64 x.faults 1 else x.faults }

/-- A unit's service state has changed (17 R475): its account, and E011. The causes are those of 17 Table 17.14. -/
def Device.noteUnit (u old new cause : Nat) (d : Device) : Device :=
  if old = new then d
  else { d with serv := { d.serv with units := Tab.put u ((d.serv.unit u).moved d.now old new cause) d.serv.units } }.raise [(11, det3 u old new)]

/-! ### Word queues -/

/-- A producer's item reaches the queues it feeds (15 R445): dropped items raise E450, at most once a second. -/
def Device.feed (producer : Nat) (mine : WordQueue → Bool) (ws : List (BitVec 64)) (d : Device) : Device :=
  let wq1 := wqItem producer mine ws d.free d.wq
  let drops := wqDrops d.now d.wq wq1
  { d with wq := wqMark d.now drops wq1, free := d.free + 128 }.raise drops

/-- A 64-bit word of a number. -/
def word64 (n : Nat) : BitVec 64 := BitVec.ofNat 64 n

/-! ### Check values (13 R410) -/

/-- One bit of a reflected CRC. -/
def crcBit (poly r : Nat) : Nat := if r % 2 = 1 then Nat.xor (r / 2) poly else r / 2

/-- One byte of a reflected CRC. -/
def crcByte (poly r : Nat) (b : Byte) : Nat :=
  let x := Nat.xor r b.toNat
  crcBit poly (crcBit poly (crcBit poly (crcBit poly (crcBit poly (crcBit poly (crcBit poly (crcBit poly x)))))))

/-- The polynomials of 13 Table 13.8, reflected. -/
def crcPoly (k : Nat) : Nat := if k = 0 then 0x82F63B78 else if k = 1 then 0xEDB88320 else 0xC96C5795D7870F42

/-- The initial value, and the final XOR, of each. -/
def crcOnes (k : Nat) : Nat := if k < 2 then 2 ^ 32 - 1 else 2 ^ 64 - 1

/-- RUNNING after more bytes. -/
def crcRun (k running : Nat) (b : Bytes) : Nat := b.foldl (crcByte (crcPoly k)) running

/-- The value of a check. -/
def crcValue (k running : Nat) : Nat := Nat.xor running (crcOnes k)

/-- The CRC-32C of a string. -/
def crc32c (b : Bytes) : Nat := crcValue 0 (crcRun 0 (crcOnes 0) b)

end Sys2Proof.Machine
end

