-- ==== Sys2Proof/Machine/Time.lean ====
section
/-!
DEFINITION. Time (chapter 2): the time commands 0x0601 to 0x060A, and what the servo, the domains, the references, the
captures and the triggers do. A happening whose condition does not hold, or whose moment has not come, changes nothing but
Beam time (assumption 11).
-/
namespace Sys2Proof.Machine

/-- CAPn_LO and CAPn_HI (Table 2.7). -/
def CaptureUnit.words (c : CaptureUnit) : List (BitVec 64) :=
  [word64 (c.capState + 8 * c.capSource + 65536 * (c.time % 65536) + 2 ^ 32 * (c.time / 65536 % 1000000000)), word64 (c.time / second)]

/-- Captures just made go to the word queues of producer CAPTURE (15 Table 15.10). -/
def Device.feedCaptures (old : Tab CaptureUnit) (d : Device) : Device :=
  (List.range 8).foldl (fun d u =>
    let c := Tab.read d.time.caps u CaptureUnit.reset
    if c.full && !(Tab.read old u CaptureUnit.reset).full then d.feed 4 (fun w => w.arg == u) c.words else d) d

/-- A time function is applied, the reference outputs follow it (R58), its events are raised, and its captures fed to word queues. -/
def Device.withTime (o : TimeOut) (d : Device) : Device := ({ d with time := o.1.drive }.raise o.2).feedCaptures d.time.caps

/-- The time state changes with no event. -/
def Device.setTime (x : TimeState) (d : Device) : Device := { d with time := x }

/-- A port number that is not the first lane of a configured port does not exist (09 R263). -/
def portCheck (p : Nat) (d : Device) : Refused :=
  orElse (badParam (32 ≤ p)) (badState (!d.lanes.exists_ p) 0)

/-- The bits set in a 32-bit mask. -/
def maskBits (m : Nat) : List Nat := (List.range 32).filter (natBit m)

/-- Sets the handle must equal 0. -/
def handleZero (c : Ctx) : Refused := badParam (c.handle != 0)

/-! ### Latencies (R55, R56) -/

/-- The calibrated latency of a port at a lane rate, in 2^-16 ns, within Table 2.20: least, most in ns. -/
def latencyRange (egress rsFec : Bool) (rate : Nat) : Nat × Nat :=
  match rate, egress with
  | 0, false => (95, 130) | 0, true => (20, 40)
  | 1, false => (150, 205) | 1, true => (30, 60)
  | 2, false => if rsFec then (250, 340) else (60, 95)
  | 2, true => (45, 80)
  | _, false => (60, 95)
  | _, true => (50, 85)

/-- The calibrated value (assumption 5): the part above the least is the module's own. -/
def calibrated (egress rsFec : Bool) (port rate : Nat) : Nat :=
  let r := latencyRange egress rsFec rate
  r.1 * 65536 + (Config.latencyAbove egress port (rate + if rsFec then 4 else 0)).toNat % ((r.2 - r.1) * 65536 + 1)

/-- The key of a latency in the table of written values: port, rate and direction. -/
def latKey (egress : Bool) (port rate : Nat) : Nat := 8 * port + 2 * rate + bit01 egress

/-- The latency in force (R55). -/
def Device.latency (egress : Bool) (port rate : Nat) (d : Device) : Nat :=
  Tab.read d.time.lat (latKey egress port rate) (calibrated egress (d.lanes.port port).recd.rsFec port rate)

/-- The domains that use a port restart their windows (R55, Table 2.16). -/
def TimeState.restartPort (p : Nat) (x : TimeState) : TimeState :=
  let f := fun (m : Domain) => if natBit m.set.portMask p then m.restart else m
  { x with domA := f x.domA, domB := f x.domB }

/-! ### Commands -/

/-- TIME_SERVO_SET's record (Table 2.13). -/
def parseServo (c : Ctx) : ServoSet :=
  ⟨c.p 0 4, c.p 4 4, c.p 8 4, c.p 12 2, c.p 14 2, c.p 16 4, c.p 20 4, c.p 24 2, c.p 26 2⟩

/-- A value within bounds. -/
def within (lo hi v : Nat) : Bool := lo ≤ v && v ≤ hi

/-- A field outside its range in Table 2.13. -/
def ServoSet.bad (r : ServoSet) : Bool :=
  !(within 0x100 0x10000 r.kp && within 0x10 0x8000 r.ki && within 1 10000 r.lockNs && within 4 1024 r.lockCount
    && within 1 50 r.slewPpb && within 100 50000 r.freqLimit && within 1000 1000000000 r.stepNs && within 1 3600 r.holdAvgS
    && within 1 64 r.filterN)

/-- TIME_SERVO_SET: the record applies at the next servo update (R44). -/
def timeServoSet : CmdSpec where
  op := 0x0601
  reserved := [(28, 12)]
  check c _ := orElse (handleZero c) (badParam (parseServo c).bad)
  apply c d := Done.ok (d.setTime { d.time with nextSet := some (parseServo c) })

/-- TIME_DOMAIN_SET's record (Table 2.14). -/
def parseDomain (c : Ctx) : DomainSet :=
  { number := c.p 0 1, transport := c.p 1 1, delayMode := c.p 2 1, announceTimeout := c.p 3 1,
    logDelayReq := signedOf 8 (c.p 4 1), classLimit := c.p 5 1, priority := c.p 6 1, enable := natBit (c.p 7 1) 0,
    revertive := natBit (c.p 7 1) 1, vlanTag := natBit (c.p 7 1) 2, portMask := c.p 8 4, vlanId := c.p 12 2, pcp := c.p 14 1,
    dscp := c.p 15 1, revertHoldS := c.p 16 2 }

/-- A field outside its range in Table 2.14; `other` is the other domain's PRIORITY. -/
def DomainSet.bad (r : DomainSet) (flags other : Nat) : Bool :=
  !(r.number ≤ 127 && r.transport ≤ 2 && r.delayMode ≤ 1 && within 2 10 r.announceTimeout
    && (-7 ≤ r.logDelayReq && r.logDelayReq ≤ 5) && r.priority ≤ 1 && r.priority != other && flags < 8
    && within 1 4 (maskBits r.portMask).length && (!r.vlanTag || within 1 4094 r.vlanId) && r.pcp ≤ 7 && r.dscp ≤ 63
    && within 1 3600 r.revertHoldS)

/-- A change of number, transport or ports invalidates the domain until its next Announce (Table 2.14, R41). -/
def DomainSet.moves (a b : DomainSet) : Bool :=
  a.number != b.number || a.transport != b.transport || a.portMask != b.portMask || !b.enable

/-- TIME_DOMAIN_SET (R41, R48, 09 R272). -/
def timeDomainSet : CmdSpec where
  op := 0x0602
  reserved := [(18, 22)]
  check c d :=
    let r := parseDomain c
    firstOf [
      badParam (2 ≤ c.handle || r.bad (c.p 7 1) (d.time.dom (1 - c.handle)).set.priority),
      badState ((maskBits r.portMask).any (fun p => !d.lanes.exists_ p)) 0,
      badParam ((maskBits r.portMask).any (fun p => (d.lanes.port p).recd.direction != 0))]
  apply c d :=
    let r := parseDomain c
    let m := d.time.dom c.handle
    let m' := { m with set := r, masters := if m.set.moves r then [] else m.masters }
    Done.ok (d.withTime (d.time.settleDom d.anyLive false c.handle m'))

/-- TIME_SOURCE_SELECT: a forced source that is not valid is refused (R68). -/
def forcedInvalid (x : TimeState) (mode : Nat) : Bool :=
  (mode == 1 && !x.srcValid 0) || (mode == 2 && !x.srcValid 1) || (mode == 4 && !x.srcValid 2)
    || (mode == 3 && (x.servo == .free || x.servo == .acquire))

/-- The source is selected by command (R48, R53, R54). -/
def TimeState.select (live : Bool) (mode : Nat) (x : TimeState) : TimeOut :=
  let y := { x with srcMode := mode }
  let forced := mode = 1 || mode = 2 || mode = 4
  let s := y.wantSource
  if forced && y.stepPending && s = y.sel && y.servo == .free then y.noteLock.fromFree live true s
  else y.takeSource live forced s

/-- TIME_SOURCE_SELECT (Table 2.15). -/
def timeSourceSelect : CmdSpec where
  op := 0x0603
  cr0 := true
  reserved := [(1, 39)]
  check c d := firstOf [handleZero c, badParam (5 ≤ c.p 0 1), badState (forcedInvalid d.time (c.p 0 1)) 0]
  apply c d := Done.ok (d.withTime (d.time.select d.anyLive (c.p 0 1)))

/-- TIME_ASYM_SET (Table 2.16). -/
def timeAsymSet : CmdSpec where
  op := 0x0604
  reserved := [(2, 2), (16, 24)]
  check c d := orElse (badParam (32 ≤ c.handle || 4 ≤ c.p 0 1 || 4 ≤ c.p 1 1 || 65535 * 65536 < c.p 4 4)) (portCheck c.handle d)
  apply c d :=
    let p := c.handle
    let lat := if natBit (c.p 1 1) 0 then
        Tab.put (latKey false p (c.p 0 1)) (c.p 4 4) (Tab.put (latKey true p (c.p 0 1)) (c.p 8 4) d.time.lat)
      else d.time.lat
    let asym := if natBit (c.p 1 1) 1 then Tab.put p (signedOf 32 (c.p 12 4)) d.time.asym else d.time.asym
    Done.ok (d.setTime ({ d.time with lat := lat, asym := asym }.restartPort p))

/-! ### Commanded steps (R65) -/

/-- A channel's ticks after a step: committed frames move, the later ones take the grid again (R65). The first of them takes the first tick of the grid at
least one period after the tick before it, and so does frame 0 of a channel whose frames have no commit point passed yet (assumption 184). -/
def Channel.step (δ : Int) (c : Channel) : Channel :=
  let last := moved δ (c.tickOf (c.committed - 1))
  { c with
    ticks := Tab.mapVals (fun _ t => moved δ t) c.ticks
    lastTick := moved δ c.lastTick
    grid := if c.running then gridFirst c.recd (last + ceilDiv (tickUnits c.recd) c.recd.rateNum) else c.grid }

/-- A port's launches after a step. -/
def PortSched.step (δ : Int) (p : PortSched) : PortSched :=
  let f := fun (x : Copy) => { x with nominal := moved δ x.nominal, base := moved δ x.base }
  { p with
    calendar := p.calendar.map (fun x => ⟨f x.copy, moved δ x.placed, moved δ x.finish⟩)
    due := p.due.map f
    lastEnd := moved δ p.lastEnd, disps := p.disps.map (fun e => (moved δ e.1, e.2)) }

/-- A service's moments after a step: its last launch, its tables' and PCR's intervals, its paces, and the audio that waits for a row. -/
def Service.step (δ : Int) (s : Service) : Service :=
  { s with
    lastLaunch := moved δ s.lastLaunch, lastPat := s.lastPat.map (moved δ), lastPcr := s.lastPcr.map (moved δ)
    audioTs := s.audioTs.map (fun a => (moved δ a.1, a.2)), peaks := s.peaks.map (fun p => (moved δ p.1, p.2)) }

/-- A subscriber's launches after a step. -/
def Subscriber.step (δ : Int) (x : Subscriber) : Subscriber := { x with order := Tab.mapVals (fun _ o => (moved δ o.1, moved δ o.2)) x.order }

/-- A replay's launches after a step: its start, its shift and its stop. -/
def Replay.step (δ : Int) (r : Replay) : Replay :=
  { r with start := moved δ r.start, shift := moved δ r.shift, stopAt := r.stopAt.map (moved δ) }

/-- Everything pending moves with a forced step (R65): ticks, launches of rows, sound, copies and replays, occupancy, triggers and wake timers. -/
def Device.movePending (δ : Int) (d : Device) : Device :=
  { d with
    time := d.time.moveTriggers δ
    code := { d.code with
      channels := Tab.mapVals (fun _ c => c.step δ) d.code.channels
      rends := Tab.mapVals (fun _ r => { r with occAt := moved δ r.occAt }) d.code.rends
      rods := Tab.mapVals (fun _ r => { r with handFrom := r.handFrom.map (moved δ) }) d.code.rods }
    out := { d.out with services := Tab.mapVals (fun _ s => s.step δ) d.out.services, subs := Tab.mapVals (fun _ x => x.step δ) d.out.subs }
    journal := { d.journal with replays := Tab.mapVals (fun _ r => r.step δ) d.journal.replays }
    sched := { d.sched with ports := Tab.mapVals (fun _ p => p.step δ) d.sched.ports }
    modes := { d.modes with schedule := d.modes.schedule.map (fun s => { s with start := moved δ s.start, wakeAt := moved δ s.wakeAt }) } }

/-- A step as commanded is applied (R65): with FORCE, everything pending moves by the same amount. -/
def Device.applyStep (s : PendingStep) (d : Device) : Device :=
  let δ : Int := if s.absolute then (s.target : Int) - d.time.beam else s.amount
  let d1 := d.setTime (d.time.commandStep δ)
  let d2 := if s.force then d1.movePending δ else d1
  d2.raise [(263, 0)]

/-- TIME_STEP's parameters (Table 2.17); `due` is its moment. -/
def parseStep (c : Ctx) (due : Nat) : PendingStep :=
  ⟨due, c.p 0 1 == 1, signedOf 64 (c.p 8 8), timeOfWord c.entry 40, natBit (c.p 1 1) 0⟩

/-- TIME_STEP. A moment already past is applied at acceptance, STARTED_AT (R65). -/
def timeStep : CmdSpec where
  op := 0x0605
  cr0 := true
  sel := .it
  reserved := [(2, 6), (32, 8)]
  check c d := firstOf [handleZero c,
    badParam (2 ≤ c.p 0 1 || 2 ≤ c.p 1 1 || (c.p 0 1 == 1 && c.p 8 8 != 0) || (c.p 0 1 == 0 && rdLE c.entry 40 16 != 0)
      || (c.p 0 1 == 1 && !timeWordOk c.entry 40)),
    badState (d.anyLive && !natBit (c.p 1 1) 0) 0]
  apply c d :=
    if c.effect = 2 then
      if d.now < c.effectTime then
        ⟨d.setTime { d.time with steps := d.time.steps ++ [parseStep c c.effectTime] }, some (stOk, 0), some c.effectTime⟩
      else ⟨d.applyStep (parseStep c d.now), some (stStartedAt, usMoved c.effectTime d.now), some d.now⟩
    else ⟨d.applyStep (parseStep c d.now), some (stOk, 0), some d.now⟩

/-! ### Captures and triggers -/

/-- The capture sources of Table 2.18. -/
def capSourceOk (s : Nat) : Bool := s ≤ 2 || within 0x20 0x5F s || s == 0xFE

/-- TIME_CAPTURE_SET releases the unit and clears MISSED. -/
def timeCaptureSet : CmdSpec where
  op := 0x0606
  reserved := [(3, 37)]
  check c _ := badParam (8 ≤ c.handle || !capSourceOk (c.p 0 1) || 3 ≤ c.p 1 1 || 2 ≤ c.p 2 1)
  apply c d := Done.ok (d.setTime { d.time with caps := Tab.upd d.time.caps c.handle CaptureUnit.reset (fun u =>
    { u with source := c.p 0 1, edge := c.p 1 1, event := natBit (c.p 2 1) 0, full := false, missed := 0 }) })

/-- The source of a capture unit. -/
def TimeState.capSrc (x : TimeState) (u : Nat) : Nat := (Tab.read x.caps u CaptureUnit.reset).source

/-- TIME_CAPTURE_NOW: a unit whose source is not command is refused (R68). -/
def timeCaptureNow : CmdSpec where
  op := 0x0607
  cr0 := true
  reserved := [(0, 40)]
  check c d := orElse (badParam (8 ≤ c.handle)) (badState (d.time.capSrc c.handle != 0xFE) 0)
  apply c d := Done.ok (d.withTime (d.time.capture d.now c.handle 0xFE))

/-- TIME_TRIGGER_SET's first time is past or less than 2 µs ahead (R61). -/
def triggerLate (c : Ctx) (now : Nat) : Bool := timeOfWord c.entry 32 < now + 2 * usec

/-- TIME_TRIGGER_SET (Table 2.19, R61, R68). -/
def timeTriggerSet : CmdSpec where
  op := 0x0608
  reserved := [(4, 4)]
  check c d :=
    let a := c.p 0 1
    firstOf [
      badParam (16 ≤ c.handle || !within 1 3 a || 4 ≤ c.p 1 1 || (a == 2 && 64 ≤ c.p 2 2) || (a == 3 && 8 ≤ c.p 2 2)
        || !timeWordOk c.entry 32 || (natBit (c.p 1 1) 1 && !within 1000 1000000000000 (c.p 24 8))),
      badState (a == 3 && d.time.capSrc (c.p 2 2) != 0xFE) 0,
      badState (natBit (c.p 1 1) 0 && triggerLate c d.now) 0]
  apply c d :=
    let per := natBit (c.p 1 1) 1
    let asked := timeOfWord c.entry 32
    let period := c.p 24 8 * 65536
    let first := firstFiring d.now asked period per
    let g : Trigger := ⟨c.p 0 1, c.p 2 2, per, first, period, if c.p 32 8 = 0 then none else some (c.p 32 8)⟩
    let d' := d.setTime { d.time with trigs := Tab.put c.handle g d.time.trigs }
    if triggerLate c d.now then ⟨d', some (stStartedAt, usMoved asked first), some first⟩ else Done.ok d'

/-- TIME_TRIGGER_CLEAR disarms the slot. -/
def timeTriggerClear : CmdSpec where
  op := 0x0609
  reserved := [(0, 40)]
  check c _ := badParam (16 ≤ c.handle)
  apply c d := Done.ok (d.setTime { d.time with trigs := Tab.del c.handle d.time.trigs })

/-- TIME_REFIO_SET's record. -/
def parseRefIo (c : Ctx) : RefIo :=
  { ppsWidth := c.p 0 4, ppsOutOffset := signedOf 32 (c.p 4 4), ppsOutEn := natBit (c.p 8 1) 0, tenOutEn := natBit (c.p 8 1) 1,
    extRefEn := natBit (c.p 8 1) 2, extHold := natBit (c.p 8 1) 3, freeOut := natBit (c.p 8 1) 4,
    ppsInOffset := signedOf 32 (c.p 12 4) }

/-- TIME_REFIO_SET: the outputs change at the next Beam second, the inputs at acceptance. -/
def timeRefioSet : CmdSpec where
  op := 0x060A
  reserved := [(9, 3), (16, 24)]
  check c _ :=
    let r := parseRefIo c
    orElse (handleZero c) (badParam (!within 1000 500000000 r.ppsWidth || 1000000 < r.ppsOutOffset.natAbs || 32 ≤ c.p 8 1
      || 1000000 < r.ppsInOffset.natAbs))
  apply c d :=
    let r := parseRefIo c
    let x := { d.time with
      refioNext := some r
      refio := { d.time.refio with extRefEn := r.extRefEn, extHold := r.extHold, ppsInOffset := r.ppsInOffset } }
    Done.ok (d.withTime (x.rehold.reselect d.anyLive))

/-! ### Happenings -/

/-- The moment a row names has come. -/
def Device.due (t : Nat) (d : Device) : Bool := t ≤ d.now

/-- PTP runs on a port that is UP: in TIMEKEEP on one port alone, and in KEEP on none (R43, 16 Table 16.1). -/
def Device.ptpRuns (p : Nat) (d : Device) : Bool :=
  d.lanes.isUp p && d.modes.mode != mKeep && (d.modes.mode != mTimekeep || d.time.keepPort == some p)

/-- SYNC_RECEIVED (R45, R55): on a port that is UP. `sub1` and `sub4` are the master's nanoseconds in 2^-16 ns. -/
def syncReceived (k p : Nat) (logSync : Int) (sec1 sub1 t2 t3 sec4 sub4 : Nat) (d : Device) : Device :=
  let rate := typeRate (d.lanes.slot p)
  if d.ptpRuns p then
    d.setTime (d.time.sync k p logSync ⟨sec1, sub1⟩ ⟨sec4, sub4⟩ t2 t3 (d.latency false p rate) (d.latency true p rate)
      (Tab.read d.time.asym p 0))
  else d

def execSyncReceived (t : Nat) (domain : Fin 2) (port : Fin 32) (logSync : Int) (sec1 sub1 t2 t3 sec4 sub4 : Nat) (s : State) :
    Host.Outcome State Fault Refusal :=
  .next { s with dev := syncReceived domain port logSync sec1 sub1 t2 t3 sec4 sub4 (s.dev.at_ t) }

/-- SERVO_UPDATE of a domain: FILTER_N Syncs have come (R45, R511). The external reference's update comes with its 1PPS edge. The estimator of a domain
that is not selected goes on as well. -/
def servoUpdateDom (k : Nat) (d : Device) : Device :=
  if d.time.set.filterN ≤ (d.time.dom k).count then d.withTime (d.time.servoUpdate d.anyLive k) else d

def execServoUpdate (t : Nat) (domain : Fin 2) (s : State) : Host.Outcome State Fault Refusal :=
  .next { s with dev := servoUpdateDom domain (s.dev.at_ t) }

/-- The synchronisation metadata that came with it is read (Table 2.3; assumption 183). -/
def TimeState.readMeta (k : Nat) (tlv : Option Bytes) (x : TimeState) : TimeState :=
  match tlv with
  | none => x
  | some b => x.setDom k { x.dom k with meta_ := b }

/-- ANNOUNCE_RECEIVED (R41, R46, R47), with the SMPTE ST 2059-2 management TLV where the master has sent one. -/
def announceReceived (k p cls gm rank : Nat) (info : AnnounceInfo) (d : Device) : Device :=
  let o := d.time.announce d.anyLive (d.ptpRuns p) k p cls gm rank info.logAnnounce
  d.withTime (if (d.time.dom k).set.enable && d.ptpRuns p && natBit (d.time.dom k).set.portMask p then o.1.readMeta k info.tlv else o.1, o.2)

def execAnnounceReceived (t : Nat) (domain : Fin 2) (port : Fin 32) (clockClass gm rank : Nat) (info : AnnounceInfo) (s : State) :
    Host.Outcome State Fault Refusal :=
  .next { s with dev := announceReceived domain port clockClass gm rank info (s.dev.at_ t) }

/-- The announce timeout of port `p` in domain `k` has passed (R47). -/
def announceOver (k p : Nat) (x : TimeState) : Bool :=
  match Tab.find p (x.dom k).masters with
  | none => false
  | some a => (x.dom k).over x.beam a

/-- ANNOUNCE_TIMEOUT (R47): every timeout that has passed by now takes effect with it (R51). -/
def announceTimeout (k p : Nat) (d : Device) : Device :=
  if announceOver k p d.time then d.withTime (d.time.announceLost d.anyLive) else d

def execAnnounceTimeout (t : Nat) (domain : Fin 2) (port : Fin 32) (s : State) : Host.Outcome State Fault Refusal :=
  .next { s with dev := announceTimeout domain port (s.dev.at_ t) }

/-- The preferred revertive domain has been valid for REVERT_HOLD_S and another domain is selected, in AUTO (R48). -/
def revertDue (x : TimeState) : Bool :=
  let m := x.dom x.preferred
  x.srcMode == 0 && m.valid && m.set.revertive && x.sel == 1 - x.preferred && m.validSince + m.set.revertHoldS * second ≤ x.beam

def revertHold (d : Device) : Device :=
  if revertDue d.time then d.withTime (d.time.takeSource d.anyLive false d.time.preferred) else d

def execRevertHoldExpiry (t : Nat) (s : State) : Host.Outcome State Fault Refusal :=
  .next { s with dev := revertHold (s.dev.at_ t) }

/-- HOLD_SEC (Table 2.8): whole seconds in HOLDOVER. -/
def TimeState.holdSec (x : TimeState) : Nat := if x.servo == .holdover then (x.beam - x.holdSince) / second else 0

/-- HOLD_SEC exceeds 3600 s, once per holdover (R67). -/
def holdoverHour (d : Device) : Device :=
  if !d.time.holdHour && 3600 < d.time.holdSec then { d with time := { d.time with holdHour := true } }.raise [(273, 0)] else d

def execHoldoverHour (t : Nat) (s : State) : Host.Outcome State Fault Refusal :=
  .next { s with dev := holdoverHour (s.dev.at_ t) }

/-- A 1PPS in edge (R59): measured, captured at its own time (R60) and, where the external reference is selected or waited for, an update (R42). -/
def ppsIn (edge : Nat) (d : Device) : Device :=
  if !d.due edge then d
  else
    let d1 := d.withTime (d.time.ppsEdge d.anyLive edge)
    let d2 := d1.withTime (d1.time.captureAll edge 1 0)
    if d2.time.srcValid 2 then d2.withTime (d2.time.servoUpdate d2.anyLive 2) else d2

def execPpsInEdge (t edge : Nat) (s : State) : Host.Outcome State Fault Refusal :=
  .next { s with dev := ppsIn edge (s.dev.at_ t) }

/-- An input is lost: its event, and the sources chosen again (R59, R41). -/
def inputLost (ev : Nat) (x : TimeState) (d : Device) : Device :=
  d.withTime (TimeState.thenReselect d.anyLive (x, [(ev, 0)]))

/-- No 1PPS edge came within 1 s ± 1 µs (R59). -/
def ppsLost (d : Device) : Device :=
  if d.time.ppsOk && d.time.ppsLast + second + usec ≤ d.now then inputLost 264 { d.time with ppsOk := false } d else d

def execPpsInLoss (t : Nat) (s : State) : Host.Outcome State Fault Refusal :=
  .next { s with dev := ppsLost (s.dev.at_ t) }

def tenLost (d : Device) : Device := if d.time.tenOk then inputLost 265 { d.time with tenOk := false }.rehold d else d

def execTenMhzInLoss (t : Nat) (s : State) : Host.Outcome State Fault Refusal :=
  .next { s with dev := tenLost (s.dev.at_ t) }

/-- 10 MHz in is within ±10 ppm of the Beam (R59). `ppb` is its frequency measured against the Beam, so that its rate is the adjustment now in force and
that. -/
def tenBack (ppb : Int) (d : Device) : Device :=
  if 10000 < ppb.natAbs then d
  else d.withTime ({ d.time with tenOk := true, tenRate := d.time.adj + ppb }.rehold.reselect d.anyLive)

def execTenMhzInPresent (back : TenMhzReturn) (s : State) : Host.Outcome State Fault Refusal :=
  .next { s with dev := tenBack back.ppb (s.dev.at_ back.t) }

/-- A capture source happens (R60). The command source 0xFE has commands of its own. -/
def captureEvent (source edge : Nat) (d : Device) : Device :=
  if source = 0 || source = 0xFE then d else d.withTime (d.time.captureAll d.now source edge)

def execCaptureEvent (t source edge : Nat) (s : State) : Host.Outcome State Fault Refusal :=
  .next { s with dev := captureEvent source edge (s.dev.at_ t) }

/-- CAPn_STATUS FULL is written with 1 (R60). -/
def captureRelease (u : Nat) (x : TimeState) : TimeState :=
  { x with caps := Tab.upd x.caps u CaptureUnit.reset (fun c => { c with full := false, missed := 0 }) }

def execCaptureRelease (t : Nat) (unit : Fin 8) (s : State) : Host.Outcome State Fault Refusal :=
  let d := s.dev.at_ t
  .next { s with dev := d.setTime (captureRelease unit d.time) }

/-- A RELEASE trigger opens a transmit queue: what is posted by now becomes eligible (08 R256). -/
def SchedState.release (now q : Nat) (x : SchedState) : SchedState :=
  { x with tx := Tab.upd x.tx q TxQueue.reset (fun g => { g with eligible := g.tail }.after now g) }

/-- A trigger's action (Table 2.19, R68). -/
def Device.triggerAct (slot : Nat) (g : Trigger) (d : Device) : Device :=
  if g.action = 1 then d.raise [(272, slot)]
  else if g.action = 2 then { d with sched := d.sched.release d.now g.arg }
  else if d.time.capSrc g.arg = 0xFE then d.withTime (d.time.capture d.now g.arg 0xFE) else d

/-- Beam time reaches a trigger's time (R61). A slot that comes after another that is due waits for it. -/
def triggerFire (slot : Nat) (d : Device) : Device :=
  match Tab.find slot d.time.trigs with
  | none => d
  | some g =>
    if d.due g.next && firesFirst slot g d.time.trigs then
      let trigs := match g.after with
        | none => Tab.del slot d.time.trigs
        | some h => Tab.put slot h d.time.trigs
      (d.setTime { d.time with trigs := trigs }).triggerAct slot g
    else d

def execTriggerFire (t : Nat) (slot : Fin 16) (s : State) : Host.Outcome State Fault Refusal :=
  .next { s with dev := triggerFire slot (s.dev.at_ t) }

/-- The first of the waiting steps whose moment has come, and the rest. -/
def dueStep (now : Nat) : List PendingStep → Option (PendingStep × List PendingStep)
  | [] => none
  | p :: r => if p.due ≤ now then some (p, r) else (dueStep now r).map (fun x => (x.1, p :: x.2))

/-- A step with a time selector reaches its moment (R65). -/
def timeStepApply (d : Device) : Device :=
  match dueStep d.now d.time.steps with
  | none => d
  | some (p, r) => (d.setTime { d.time with steps := r }).applyStep p

def execTimeStepApply (t : Nat) (s : State) : Host.Outcome State Fault Refusal :=
  .next { s with dev := timeStepApply (s.dev.at_ t) }

/-- The coding-die time copy loses lock (01 R25); floor triggers then move 1 µs earlier (06 R171). -/
def copyLost (d : Device) : Device :=
  if d.time.copyLocked then { d with time := { d.time with copyLocked := false } }.raise [(270, 0)] else d

def execTimeCopyLockLoss (t : Nat) (s : State) : Host.Outcome State Fault Refusal :=
  .next { s with dev := copyLost (s.dev.at_ t) }

def execTimeCopyLockReturn (t : Nat) (s : State) : Host.Outcome State Fault Refusal :=
  let d := s.dev.at_ t
  .next { s with dev := d.setTime { d.time with copyLocked := true } }

/-- A Beam second boundary (R58): staged reference outputs take effect, and units on source 0x02 capture it. -/
def secondBoundary (d : Device) : Device :=
  if d.now % second = 0 then d.withTime (d.time.secondBoundary.captureAll d.now 2 0) else d

def execBeamSecondBoundary (t : Nat) (s : State) : Host.Outcome State Fault Refusal :=
  .next { s with dev := secondBoundary (s.dev.at_ t) }

/-- The bytes of a Delay_Req with its FCS (R46): 44 bytes over Ethernet, UDP on IPv4 or UDP on IPv6, with a VLAN tag where the domain has one. -/
def DomainSet.reqBytes (r : DomainSet) : Nat :=
  Nat.max 64 ((if r.vlanTag then 4 else 0) + 62 + (if r.transport = 0 then 28 else if r.transport = 1 then 48 else 0))

/-- A Delay_Req is made for the domain's active port and waits there in TC7 (R46, 08 R234); it carries the lower 48 bits of the seconds (R39). -/
def delayReqSend (k : Nat) (d : Device) : Device :=
  let m := d.time.dom k
  match m.active with
  | none => d
  | some p =>
    if m.valid && d.ptpRuns p then
      { d with
        time := d.time.setDom k { m with lastReq := PtpTime.sent d.now }
        sched := { d.sched with ports := Tab.upd d.sched.ports p PortSched.reset (fun x =>
          { x with waiting := x.waiting ++ [⟨7, 0x4007 + 8 * p, m.set.reqBytes, d.now, k + 1⟩] }) } }
    else d

/-- A Delay_Req starts and its departure is timestamped (R55): `tag` is 1 for domain A and 2 for domain B. -/
def TimeState.reqLeaves (tag : Nat) (x : TimeState) : TimeState :=
  if tag = 0 then x else x.setDom (tag - 1) { x.dom (tag - 1) with delayReqAt := x.beam }

def execDelayReqSend (t : Nat) (domain : Fin 2) (s : State) : Host.Outcome State Fault Refusal :=
  .next { s with dev := delayReqSend domain (s.dev.at_ t) }

/-- A read of LATCHn_LO captures the time word (R66) and returns its low bytes with the servo state (Table 2.7). -/
def timeLatchRead (n : Nat) (d : Device) : Device :=
  let x := d.time
  let lo := x.servo.code + 65536 * (x.beam % 65536) + 2 ^ 32 * (x.beam / 65536 % 1000000000)
  { d with
    time := { x with latches := Tab.put n ⟨x.beam, x.servo.code⟩ x.latches }
    link := { d.link with reply := ⟨wrLE 8 lo, false, false⟩ } }

def execTimeLatchRead (t : Nat) (latch : Fin 4) (s : State) : Host.Outcome State Fault Refusal :=
  .next { s with dev := timeLatchRead latch (s.dev.at_ t) }

end Sys2Proof.Machine
end

