-- ==== Sys2Proof/Machine/Rings.lean ====
section
/-!
DEFINITION. The rings in the window that the module writes (05 R162 to R164, 04 R121, 15 R436): where they lie, how large a
slot is, and when they are full; and the end of word queue flushes.
-/
namespace Sys2Proof.Machine

/-- The bytes of a channel's summary records, motion field, complexity map, and slot (05 R163). -/
def statsSumBytes (r : ChannelRec) : Nat := roundUp (192 + 4 * ceilDiv r.height 64) 64
def statsMfBytes (r : ChannelRec) : Nat := if r.motionField then roundUp (12 * ceilDiv r.width 16 * ceilDiv r.height 16) 64 else 0
def statsCxBytes (r : ChannelRec) : Nat := if r.complexityMap then roundUp (16 * ceilDiv r.width 64 * ceilDiv r.height 64) 64 else 0
def statsSlotBytes (r : ChannelRec) : Nat := roundUp (256 + 32 * statsSumBytes r + statsMfBytes r + statsCxBytes r) 4096

/-- The bytes of a channel's statistics ring (05 R162). -/
def statsRingBytes (r : ChannelRec) : Nat := if r.statsSlots = 0 then 0 else 4096 + r.statsSlots * statsSlotBytes r

/-- A proxy's width and height: half the channel's, rounded up to an even number (04 R121). -/
def proxySide (n : Nat) : Nat := roundUp (ceilDiv n 2) 2

/-- The bytes of a proxy slot (04 R121). -/
def proxySlotBytes (r : ChannelRec) : Nat := roundUp (4096 + 2 * (proxySide r.width * 2 * proxySide r.height)) 4096

/-- The bytes of a proxy ring. -/
def proxyRingBytes (r : ChannelRec) (c : Confidence) : Nat := if c.mode = 1 then 4096 + c.slots * proxySlotBytes r else 0

/-- The bytes of the event log ring (15 R436). -/
def logRingBytes (l : EvLog) : Nat := if l.enable then 4096 + 32 * 2 ^ l.log2 else 0

/-- Which ring an extent belongs to: 0 the event log, 1 + c channel c's statistics, 128 + c its proxy. -/
abbrev RingKey := Nat

/-- The extents of the rings in force (10 R299, 05 R162): key, first byte, bytes. Old extents still held are among them. -/
def Device.ringExtents (d : Device) : List (RingKey × Nat × Nat) :=
  (0, d.events.log.offset, logRingBytes d.events.log) ::
  d.code.channels.flatMap (fun p =>
    let held := p.2.prior.map (fun q => (1 + p.1, q.2.1.statsOffset, statsRingBytes q.2.1))
    (1 + p.1, p.2.recd.statsOffset, if p.2.state == .idle then 0 else statsRingBytes p.2.recd) :: held) ++
  d.comp.chans.flatMap (fun p =>
    let held := p.2.prior.map (fun q => (128 + p.1, q.2.1.ringOffset, proxyRingBytes (d.chan p.1).recd q.2.1))
    (128 + p.1, p.2.conf.ringOffset, proxyRingBytes (d.chan p.1).recd p.2.conf) :: held)

/-- Two extents overlap. -/
def extentsMeet (a b : Nat × Nat) : Bool := a.1 < b.1 + b.2 && b.1 < a.1 + a.2 && a.2 != 0 && b.2 != 0

/-- An extent would overlap another ring in force (10 R299). -/
def Device.ringOverlap (key : RingKey) (ext : Nat × Nat) (d : Device) : Bool :=
  d.ringExtents.any (fun e => e.1 != key && extentsMeet ext e.2)

/-- A ring's extent lies within the window. -/
def inWindow (off n : Nat) : Bool := off + n ≤ windowBytes

/-! ### Word queues -/

/-- Flushes that have met their END are decided (15 R446): the detail holds the words discarded. -/
def Device.wqFlushed (d : Device) : Device :=
  let ended := d.wq.queues.flatMap (fun p => if p.2.flushing then [] else p.2.flushCmd.map (fun o => (o, Nat.min p.2.flushCount (2 ^ 31 - 1))))
  let q := Tab.mapVals (fun _ w => if w.flushing then w else { w with flushCmd := [] }) d.wq.queues
  ended.foldl (fun d e => d.decide e.1.1 e.1.2 stOk e.2 none d.now) { d with wq := { queues := q } }

end Sys2Proof.Machine
end

