-- ==== Sys2Proof/Machine/Ranrok.lean ====
section
/-!
DEFINITION. The writes of the DOORBELL region (chapter 11): ring tails, ring settings, BUSY_STOP, and the completion ring.
-/
namespace Sys2Proof.Machine

def Device.setRing (r : Nat) (g : Ring) (d : Device) : Device := { d with rk := { d.rk with rings := Tab.put r g d.rk.rings } }

/-- A ring's SIZE (R317). -/
def Ring.size (g : Ring) : Nat := 2 ^ g.log2

/-- The difference of two free-running 32-bit counts. -/
def diff32 (a b : Nat) : Nat := (a + 2 ^ 32 - b) % 2 ^ 32

/-- A ring sets ERROR with a code and raises E017 (R318, R319). -/
def Device.ringError (r code : Nat) (d : Device) : Device :=
  (d.setRing r { d.rk.ring r with error := true, errorCode := code }).raise [(17, det2 r code)]

/-- The stamps of the entries posted by a TAIL write (R318). -/
def stampAll (now from_ : Nat) (n : Nat) (m : Tab Nat) : Tab Nat :=
  (List.range n).foldl (fun m i => Tab.put ((from_ + i) % 2 ^ 32) now m) m

/-- A write of CRn_TAIL (R318): beyond the ring or backward it is ignored with ERROR_CODE 1. -/
def ringDoorbell (r tail : Nat) (d : Device) : Device :=
  let g := d.rk.ring r
  let ahead := diff32 tail g.head
  if g.size < ahead || ahead < diff32 g.tail g.head then d.ringError r 1
  else d.setRing r { g with tail := tail, stamps := stampAll d.now g.tail (diff32 tail g.tail) g.stamps }

def execCmdRingDoorbell (t : Nat) (ring : Fin 4) (tail : BitVec 32) (s : State) : Host.Outcome State Fault Refusal :=
  .next { s with dev := ringDoorbell ring tail.toNat (s.dev.at_ t) }

/-- A write of CRn_CFG (R319): a LOG2_SIZE out of range is ignored with ERROR_CODE 2; a write that changes the size of a
ring that is not empty is ignored with ERROR_CODE 3. -/
def ringCfgWrite (r v : Nat) (d : Device) : Device :=
  let g := d.rk.ring r
  let l := natBits v 4 4
  let en := natBit v 0
  if l < 8 || 12 < l then (d.setRing r { g with enable := en }).ringError r 2
  else if l = g.log2 then d.setRing r { g with enable := en }
  else if g.head = g.tail then d.setRing r { g with enable := en, log2 := l }
  else d.ringError r 3

def execRingCfgWrite (t : Nat) (ring : Fin 4) (value : BitVec 64) (s : State) : Host.Outcome State Fault Refusal :=
  .next { s with dev := ringCfgWrite ring value.toNat (s.dev.at_ t) }

/-- Writing 1 to BUSY_STOP restarts the ring (R326). -/
def busyStopClear (r : Nat) (d : Device) : Device := d.setRing r { d.rk.ring r with busyStop := false }

def execBusyStopClear (t : Nat) (ring : Fin 4) (s : State) : Host.Outcome State Fault Refusal :=
  .next { s with dev := busyStopClear ring (s.dev.at_ t) }

/-- The completion ring sets ERROR with a code and raises E017 (R338). -/
def Device.cqError (code : Nat) (d : Device) : Device :=
  { d with rk := { d.rk with cq := { d.rk.cq with error := true, errorCode := code } } }.raise [(17, det2 4 code)]

/-- The entry at the head of a ring, as it lies in CMDSRAM (R317). -/
def Device.headEntry (r : Nat) (d : Device) : Bytes :=
  let g := d.rk.ring r
  memBytes d.mem.cmdsram (0x40000 * r + 64 * (g.head % g.size)) 64

/-- The completion slots an entry needs: one, and one more with ACK (R339). -/
def slotsFor (e : Bytes) : Nat := 1 + bit01 (natBit (rdLE e 2 2) 1)

/-- The ring is ACTIVE (Table 11.7). -/
def Device.cqActive (d : Device) : Bool := d.rk.cq.valid && d.link.bme

/-- The ring's head entry cannot reserve its slots (R339). -/
def Device.cqShort (r : Nat) (d : Device) : Bool := !d.cqActive || d.rk.cqFree < slotsFor (d.headEntry r)

/-- CQ_WAIT is cleared in every ring whose head entry can now reserve its slots (R339). -/
def Device.clearCqWait (d : Device) : Device :=
  { d with rk := { d.rk with rings := Tab.mapVals (fun r g => { g with cqWait := g.cqWait && d.cqShort r }) d.rk.rings } }

/-- A write of CQ_READ (R338): beyond CQ_WRITE it is ignored with ERROR_CODE 1. -/
def cqReadWrite (v : Nat) (d : Device) : Device :=
  let q := d.rk.cq
  if diff32 q.written q.consumed < diff32 v q.consumed then d.cqError 1
  else { d with rk := { d.rk with cq := { q with consumed := v } } }.clearCqWait

def execCqReadWrite (t : Nat) (value : BitVec 32) (s : State) : Host.Outcome State Fault Refusal :=
  .next { s with dev := cqReadWrite value.toNat (s.dev.at_ t) }

/-- The completion ring with a new CQ_CFG (Table 11.6): record numbers count from 0 when it is enabled. -/
def CompRing.configure (v : Nat) (q : CompRing) : CompRing :=
  { q with enable := natBit v 0, log2 := natBits v 8 5, irqMode := natBits v 13 2, vector := natBits v 16 8,
           count := if natBit v 0 && !q.enable then 0 else q.count }

/-- A write of CQ_BASE or, with `cfg`, of CQ_CFG (R338): ignored with ERROR_CODE 2 while slots are held. -/
def cqConfigWrite (cfg : Bool) (v : Nat) (d : Device) : Device :=
  let q := d.rk.cq
  if d.rk.cqHeld != 0 then d.cqError 2
  else if cfg then { d with rk := { d.rk with cq := q.configure v } }.clearCqWait
  else { d with rk := { d.rk with cq := { q with base := v / 64 * 64 } } }

def execCqConfigWrite (t : Nat) (cfg : Bool) (value : BitVec 64) (s : State) : Host.Outcome State Fault Refusal :=
  .next { s with dev := cqConfigWrite cfg value.toNat (s.dev.at_ t) }

/-- The host refuses the last record's write (R338): the slot counts as written, ERROR_CODE 3 and E017, and E439 (10 Table 10.16) with the completion
ring, 4, as its requester (assumption 23). `old` are the bytes that host memory keeps at the record's place, since the write did not land. -/
def dmaWriteRefused (old : Bytes) (d : Device) : Device :=
  let q := d.rk.cq
  if q.count = 0 then d
  else
    let d1 : Device := { d with mem := { d.mem with host := memStore d.mem.host (q.base + 32 * ((q.count - 1) % q.entries)) (old.take 32) } }
    (d1.cqError 3).raise [(439, 4)]

def execDmaWriteRefused (t : Nat) (old : Bytes) (s : State) : Host.Outcome State Fault Refusal :=
  .next { s with dev := dmaWriteRefused old (s.dev.at_ t) }

/-! ### The interface's own commands -/

/-- RANROK_NOP changes nothing (R352). -/
def ranrokNop : CmdSpec where
  op := 0x0002
  cr0 := true
  reserved := [(0, 40)]
  check c _ := handleZero c
  apply _ d := Done.ok d

/-- The opcodes of Table 11.14, by range: the number of opcodes from 0xrr01 up, with the gaps of ranges 0x00 and 0x03. -/
def opcodeList : List Nat :=
  [1, 2, 0x10, 0x11, 0x12, 0x13, 0x14] ++ (List.range 11).map (0x101 + ·) ++ (List.range 6).map (0x201 + ·) ++
  (List.range 4).map (0x301 + ·) ++ (List.range 5).map (0x310 + ·) ++ (List.range 8).map (0x401 + ·) ++
  (List.range 10).map (0x501 + ·) ++ (List.range 10).map (0x601 + ·) ++ (List.range 8).map (0x701 + ·) ++
  (List.range 7).map (0x801 + ·) ++ (List.range 12).map (0x901 + ·) ++ (List.range 4).map (0xA01 + ·) ++
  (List.range 4).map (0xB01 + ·) ++ (List.range 7).map (0xC01 + ·)

/-- The opcodes that RESCUE implements (17 R493): the interface's two, MODE_SET, DEVICE_STATUS_GET, and five of range 0x0C. -/
def rescueOpcodes : List Nat := [1, 2, 0x10, 0x13, 0xC02, 0xC03, 0xC05, 0xC06, 0xC07]

/-- The running firmware implements the opcode (R321, 17 R493). -/
def Device.implements (op : Nat) (d : Device) : Bool := if d.rescue then rescueOpcodes.contains op else opcodeList.contains op

/-- Byte `i` of OPCODE_MAP (Table 11.15): bits 8i to 8i + 7, bit 256 × r + b for opcode 0xrrbb. -/
def opcodeMapByte (d : Device) (i : Nat) : Byte :=
  BitVec.ofNat 8 (((List.range 8).map (fun b => if d.implements (8 * i + b) then 2 ^ b else 0)).sum)

/-- The 512-byte interface record (Table 11.15). -/
def infoRecord (d : Device) : Bytes :=
  fields [(1, d.link.ident.ranrokMajor), (1, d.link.ident.ranrokMinor), (2, 0), (4, d.link.ident.mgmtVersion), (4, 100), (4, 2000),
    (4, 10000), (4, 200000), (4, 2000), (2, 16), (34, 0)] ++ (List.range 416).map (opcodeMapByte d) ++ wrLE 16 0 ++ timeWordBytes d.now

/-- RANROK_INFO_GET (R351). -/
def ranrokInfoGet : CmdSpec where
  op := 0x0001
  when_ := .done
  reserved := [(8, 32)]
  check c d := orElse (handleZero c) (targetCheck 512 c d)
  apply c d := writeRecord (infoRecord d) c d

end Sys2Proof.Machine
end

