-- ==== Sys2Proof/Machine/Events.lean ====
section
/-!
DEFINITION. Events, tallies and word queues (chapter 15): the commands 0x0B01 to 0x0B04 and the accesses and happenings of
the event block.
-/
namespace Sys2Proof.Machine

/-- The reserved sources (Table 15.1, Table 15.2). -/
def evReserved (n : Nat) : Bool :=
  n == 7 || within 21 30 n || within 274 287 n || within 330 335 n || within 350 351 n || within 372 383 n || within 394 415 n
    || within 428 431 n || within 446 447 n || within 451 471 n || within 473 479 n || within 493 495 n || within 503 511 n || 512 ≤ n

/-- A source's registers change. -/
def EventState.upd (e : EventState) (n : Nat) (f : EvSrc → EvSrc) : EventState := { e with src := Tab.upd e.src n EvSrc.reset f }

/-- EVENT_ROUTE_SET: the range's sources that are not reserved take the route (R450). -/
def eventRouteSet : CmdSpec where
  op := 0x0B01
  reserved := [(5, 35)]
  check c _ := badParam (512 ≤ c.handle || !within 1 512 (c.p 0 2) || 512 < c.handle + c.p 0 2 || 2 ≤ c.p 2 1 || 3 ≤ c.p 3 1
    || (c.p 3 1 != 0 && c.p 4 1 != 0))
  apply c d := Done.ok { d with events := (List.range (c.p 0 2)).foldl (fun e i =>
      if evReserved (c.handle + i) then e
      else e.upd (c.handle + i) (fun s => { s with enable := natBit (c.p 2 1) 0, route := c.p 3 1, vector := c.p 4 1 })) d.events }

/-- EVENT_LOG_SET's ring: a change of offset or ENTRIES resets both indices (R436). -/
def EvLog.set (off log2 vector : Nat) (enable irq : Bool) (l : EvLog) : EvLog :=
  let same := off = l.offset && log2 = l.log2
  { l with offset := off, log2 := log2, enable := enable, irq := irq, vector := vector,
           windex := if same then l.windex else 0, full := same && l.full, wrote := same && l.wrote,
           lostToQuarter := same && l.lostToQuarter }

/-- EVENT_LOG_SET (R436, R438, 10 R299). -/
def eventLogSet : CmdSpec where
  op := 0x0B02
  reserved := [(11, 29)]
  check c d :=
    let n := 4096 + 32 * 2 ^ c.p 8 1
    orElse (badParam (c.handle != 0 || c.p 0 8 % 4096 != 0 || !within 6 16 (c.p 8 1) || 4 ≤ c.p 9 1))
      (badParam (!inWindow (c.p 0 8) n || (natBit (c.p 9 1) 0 && d.ringOverlap 0 (c.p 0 8, n))))
  apply c d :=
    let l := d.events.log
    let d1 := { d with events := { d.events with log := l.set (c.p 0 8) (c.p 8 1) (c.p 10 1) (natBit (c.p 9 1) 0) (natBit (c.p 9 1) 1) } }
    Done.ok (if c.p 0 8 = l.offset && c.p 8 1 = l.log2 then d1 else d1.zeroIndices (c.p 0 8))

/-- The queue is of class X (R443). -/
def classX (q : Nat) : Bool := 32 ≤ q

/-- A producer is of class X (Table 15.10). -/
def producerX (p : Nat) : Bool := 2 ≤ p

/-- ARG and ARG2 of a producer are in range (Table 15.10). -/
def producerArgsOk (p a b : Nat) : Bool :=
  match p with
  | 0 => a == 0 && b == 0
  | 1 => a ≤ b && b < 512
  | 2 => a == 0 && b == 0
  | 3 => a < 512 && b == 0
  | 4 => a < 8 && b == 0
  | 5 => 56 ≤ a && a ≤ b && b < 64
  | _ => false

/-- Another enabled queue is fed by the producer instance (R451). -/
def producerTaken (q p a b : Nat) (d : Device) : Bool :=
  d.wq.queues.any (fun e => e.1 != q && e.2.enabled && e.2.producer == p &&
    (if p = 1 || p = 5 then a ≤ e.2.arg2 && e.2.arg ≤ b else if p = 3 || p = 4 then a == e.2.arg else false))

/-- A tap after its words up to and including the first END are discarded: whether there was one, how many, the rest. -/
def dropThrough : List TapWord → Bool × Nat × List TapWord
  | [] => (false, 0, [])
  | x :: r => if x.last then (true, 1, r) else
      let y := dropThrough r
      (y.1, y.2.1 + 1, y.2.2)

/-- A flush (R446): every stored word is discarded, and the producer's words up to and including its next END, which a tap
held by back-pressure may already hold. Between items it is complete at once. A flush on a queue that flushes joins the one that waits (assumption 25). -/
def WordQueue.flush (cmd : List (Origin × Nat)) (now : Nat) (w : WordQueue) : WordQueue :=
  if w.flushing then { w with flushCmd := w.flushCmd ++ cmd }
  else
  let y := dropThrough w.tap
  let waits := if w.tap.isEmpty then w.midItem else !y.1
  { w with words := [], tap := y.2.2, seen := 0, flushing := waits, discarding := w.discarding && !waits,
           flushCount := w.words.length + y.2.1, flushAt := now, flushCmd := cmd }

/-- WQUEUE_SET on a queue (R451): clearing ENABLE detaches the tap and flushes. -/
def WordQueue.configure (p a b now : Nat) (en : Bool) (w : WordQueue) : WordQueue :=
  if en then { w with producer := p, arg := a, arg2 := b, enabled := true }
  else
    let f := w.flush [] now
    { f with tap := [], producer := p, arg := a, arg2 := b, enabled := false, discarding := f.discarding || f.flushing, flushing := false }

/-- WQUEUE_SET (R450, R451). -/
def wqueueSet : CmdSpec where
  op := 0x0B03
  reserved := [(6, 34)]
  check c d :=
    let p := c.p 0 1
    let en := natBit (c.p 1 1) 0
    let w := Tab.read d.wq.queues c.handle WordQueue.reset
    firstOf [
      badParam (64 ≤ c.handle || 6 ≤ p || 2 ≤ c.p 1 1 || !producerArgsOk p (c.p 2 2) (c.p 4 2)),
      if p != 0 && producerX p != classX c.handle then some (stBadParam, 0x0B01) else none,
      badState (en && p != 0 && producerTaken c.handle p (c.p 2 2) (c.p 4 2) d) 0x0B02,
      badState (w.enabled && (w.producer != p || w.arg != c.p 2 2 || w.arg2 != c.p 4 2)) 0x0B03]
  apply c d :=
    let f := WordQueue.configure (c.p 0 1) (c.p 2 2) (c.p 4 2) d.now (natBit (c.p 1 1) 0)
    Done.ok ({ d with wq := { queues := Tab.upd d.wq.queues c.handle WordQueue.reset f } }.wqFlushed)

/-- WQUEUE_FLUSH (R446): between items the flush is complete at once, otherwise its final waits for END. -/
def wqueueFlush : CmdSpec where
  op := 0x0B04
  cr0 := true
  when_ := .done
  reserved := [(0, 40)]
  check c _ := badParam (64 ≤ c.handle)
  apply c d :=
    let w := Tab.read d.wq.queues c.handle WordQueue.reset
    if !w.enabled then Done.ok d
    else
      let f := w.flush [(c.origin, c.tag)] d.now
      let put := fun (x : WordQueue) => { d with wq := { queues := Tab.put c.handle x d.wq.queues } }
      if f.flushing then Done.goesOn (put f)
      else Done.okDetail (Nat.min f.flushCount (2 ^ 31 - 1)) (put (wqDrain c.handle d.free { f with flushCmd := [] })).useFree.useFree

/-! ### Accesses -/

/-- A W1C of EVTs_STATUS (R434). -/
def EvSrc.clear (v : Nat) (s : EvSrc) : EvSrc := { s with pending := s.pending && !natBit v 0, rpt := s.rpt && !natBit v 1 }

/-- A W1C of EVTs_STATUS, or of PENDING_SUMMARYw, whose bits clear PENDING alone (Table 15.3). -/
def eventClear (summary : Bool) (i v : Nat) (e : EventState) : EventState :=
  if summary then { e with src := Tab.mapVals (fun n s => if n / 64 = i % 8 && natBit v (n % 64) then s.clear 1 else s) e.src }
  else e.upd i (EvSrc.clear v)

def execEventPendingClear (t : Nat) (summary : Bool) (index : Fin 512) (value : BitVec 64) (s : State) :
    Host.Outcome State Fault Refusal :=
  let d := s.dev.at_ t
  .next { s with dev := { d with events := eventClear summary index value.toNat d.events } }

/-- Data is given to the host. -/
def Device.replyData (b : Bytes) (d : Device) : Device := { d with link := { d.link with reply := ⟨b, false, false⟩ } }

/-- A 64-bit read of a tally's alias (R442): its value is returned, and the tally and its carry bit cleared. -/
def tallyClear (k : Nat) (d : Device) : Device :=
  { d with events := { d.events with tally := Tab.put k 0 d.events.tally, carry := Tab.put k false d.events.carry } }.replyData
    (wrLE 8 (Tab.read d.events.tally k 0))

def execTallySnapshotClear (t : Nat) (index : Fin 896) (s : State) : Host.Outcome State Fault Refusal :=
  .next { s with dev := tallyClear index (s.dev.at_ t) }

/-- A 64-bit read of WQq_DATA (R444): the word at the head, or 0 with POP_EMPTY when the consumer's side sees none; the
freed place lets the tap go on (R445). -/
def wqPop (q : Nat) (d : Device) : Device :=
  let w := Tab.read d.wq.queues q WordQueue.reset
  if w.seen = 0 then
    { d with wq := { queues := Tab.put q { wqDrain q d.free w with popEmpty := true } d.wq.queues }, free := d.free + 2 }.replyData (wrLE 8 0)
  else match w.words with
    | [] => { d with wq := { queues := Tab.put q { w with popEmpty := true } d.wq.queues } }.replyData (wrLE 8 0)
    | x :: r =>
      { d with wq := { queues := Tab.put q (wqDrain q d.free { w with words := r, seen := w.seen - 1 }) d.wq.queues },
               free := d.free + 2 }.replyData (wrLE 8 x.toNat)

def execWqDataPop (t : Nat) (queue : Fin 64) (s : State) : Host.Outcome State Fault Refusal :=
  .next { s with dev := wqPop queue (s.dev.at_ t) }

/-! ### Happenings -/

/-- A source occurs (R433); a reserved source is never raised (R432). -/
def eventOccurrence (n detail : Nat) (d : Device) : Device := if evReserved n then d else (d.raise [(n, detail)]).wqFlushed

def execEventOccurrence (t : Nat) (source : Fin 512) (detail : BitVec 64) (s : State) : Host.Outcome State Fault Refusal :=
  .next { s with dev := eventOccurrence source detail.toNat (s.dev.at_ t) }

/-- The held E020 record is written when the ring has room (R437). -/
def eventLogHeld (d : Device) : Device :=
  if d.events.log.enable && d.groupUp (d.events.log.offset / 2 ^ 32) then
    let p := logHeld ⟨d.events, d.mem, d.msix, d.wq, d.logs, d.free⟩
    { d with events := p.events, mem := p.mem, msix := p.msix }
  else d

def execEventLogHeldWrite (t : Nat) (s : State) : Host.Outcome State Fault Refusal :=
  .next { s with dev := eventLogHeld (s.dev.at_ t) }

/-- A producer pushes words into a queue's tap (R445); `last` marks the last word as the item's END. -/
def wqPush (q : Nat) (ws : List (BitVec 64)) (last : Bool) (d : Device) : Device :=
  let w := Tab.read d.wq.queues q WordQueue.reset
  let xs := if last then itemWords ws else ws.map (fun x => ⟨x, false⟩)
  let wq1 : WqState := { queues := Tab.put q (wqFeed q d.free xs w) d.wq.queues }
  let drops := wqDrops d.now d.wq wq1
  if w.enabled || w.discarding then ({ d with wq := wqMark d.now drops wq1, free := d.free + 2 }.raise drops).wqFlushed else d

def execWqItemPush (t : Nat) (queue : Fin 64) (words : List (BitVec 64)) (last : Bool) (s : State) : Host.Outcome State Fault Refusal :=
  .next { s with dev := wqPush queue words last (s.dev.at_ t) }

/-- No END within 1 ms of a flush (R447): it is forced, E449, and the queue discards up to the next END. -/
def wqForce (q : Nat) (d : Device) : Device :=
  let w := Tab.read d.wq.queues q WordQueue.reset
  if w.flushing && d.due (w.flushAt + msec) then
    let n := w.flushCount
    let d1 := { d with wq := { queues := Tab.put q { w with flushing := false, discarding := true, flushCmd := [] } d.wq.queues } }
    let d2 := w.flushCmd.foldl (fun d o => d.decide o.1 o.2 stOk (2 ^ 31 + Nat.min n (2 ^ 31 - 1)) none d.now) d1
    d2.raise [(449, det2 q n)]
  else d

def execWqFlushForced (t : Nat) (queue : Fin 64) (s : State) : Host.Outcome State Fault Refusal :=
  .next { s with dev := wqForce queue (s.dev.at_ t) }

/-- A queue's pointers disagree (R448): its words are discarded, RESETS counts, E448 is raised, and a flush that waited is
decided with the reset. -/
def wqMismatch (q : Nat) (d : Device) : Device :=
  let w := Tab.read d.wq.queues q WordQueue.reset
  let y := dropThrough w.tap
  let w' := { w with words := [], seen := 0, resetSeen := true, resets := satAdd 0xFFFF w.resets 1, flushing := false,
                     discarding := !y.1, flushCmd := [], tap := y.2.2 }
  let d1 := { d with wq := { queues := Tab.put q w' d.wq.queues } }
  let d2 := w.flushCmd.foldl (fun d o => d.decide o.1 o.2 stOk (Nat.min (w.flushCount + w.words.length) (2 ^ 31 - 1)) none d.now) d1
  d2.raise [(dtIndex (264 + q), 0), (448, q)]

def execWqPointerMismatch (t : Nat) (queue : Fin 64) (s : State) : Host.Outcome State Fault Refusal :=
  .next { s with dev := wqMismatch queue (s.dev.at_ t) }

end Sys2Proof.Machine
end

