-- ==== Sys2Proof/Machine/Ports.lean ====
section
/-!
DEFINITION. Lanes and ports (chapter 9): the commands 0x0701 to 0x0708 but for HOSTLANE_TEST, and what lanes, ports and
transceivers do.
-/
namespace Sys2Proof.Machine

def Device.port (p : Nat) (d : Device) : Port := d.lanes.port p
def Device.lane (l : Nat) (d : Device) : Lane := d.lanes.lane l

def LanesState.setPort (p : Nat) (x : Port) (s : LanesState) : LanesState := { s with ports := Tab.put p x s.ports }
def LanesState.setLane (l : Nat) (x : Lane) (s : LanesState) : LanesState := { s with lanes := Tab.put l x s.lanes }

def Device.setPort (p : Nat) (x : Port) (d : Device) : Device := { d with lanes := d.lanes.setPort p x }
def Device.setLane (l : Nat) (x : Lane) (d : Device) : Device := { d with lanes := d.lanes.setLane l x }

/-- A flow has a leg on a port. -/
def FlowRec.onPort (r : FlowRec) (p : Nat) : Bool := !r.fromHost && (r.portA == p || (r.legB && r.portB == p))

/-- An enabled clean-programme output sends on a port. -/
def ProgOut.onPort (r : ProgOut) (p : Nat) : Bool := r.enable && (r.portA == p || (r.legB && r.portB == p))

/-- Something sends on the port: a subscriber, a clean-programme output or a host transmit queue (R266). -/
def Device.sendsOn (p : Nat) (d : Device) : Bool :=
  d.out.subs.any (fun e => e.2.recd.enable && e.2.recd.port == p) || d.out.progs.any (fun e => e.2.onPort p)
    || d.sched.tx.any (fun e => e.2.enable && e.2.port == p)

/-- An enabled ingest flow has a leg on the port (R266). -/
def Device.ingestsOn (p : Nat) (d : Device) : Bool := d.ingest.flows.any (fun e => e.2.recd.enable && e.2.recd.onPort p)

/-- A PTP domain's PORT_MASK names the port (R266). -/
def Device.ptpOn (p : Nat) (d : Device) : Bool := natBit d.time.domA.set.portMask p || natBit d.time.domB.set.portMask p

/-- The port is in use (R266). -/
def Device.portInUse (p : Nat) (d : Device) : Bool := d.sendsOn p || d.ingestsOn p || d.ptpOn p

/-- A port leaves its state for another; leaving UP raises E128 + 2p with a cause (R267, R285). -/
def Device.portTo (p state cause : Nat) (d : Device) : Device :=
  let x := d.port p
  if x.state = 2 && state != 2 then
    (d.setPort p { x with state := state, linkDowns := satAdd max64 x.linkDowns 1 }).raise [(128 + 2 * p, det2 p cause)]
  else d.setPort p { x with state := state }

/-- The state a configured port returns to: it trains, or it is DISABLED (Table 9.3). -/
def Port.idleState (x : Port) : Nat := if x.recd.enable then 1 else 0

/-- The lanes of port `p`. -/
def LanesState.lanesOf (s : LanesState) (p : Nat) : List Nat := (List.range (typeLanes (s.slot p))).map (p + ·)

/-! ### Cages and ports -/

/-- The slot codes a CAGE_SET gives. -/
def cageSlots (c : Ctx) : List Nat := (List.range 8).map (fun i => c.p i 1)

/-- The codes form aligned blocks (R263). -/
def cageOk (s : List Nat) : Bool :=
  (List.range 8).all (fun i =>
    let code := s.getD i 0
    let w := typeLanes code
    code ≤ 9 && (w == 0 || (List.range w).all (fun j => s.getD (i / w * w + j) 0 == code)))

/-- The ports of a cage under a layout. -/
def cagePorts (cage : Nat) (s : List Nat) : List Nat :=
  ((List.range 8).filter (fun i => typeLanes (s.getD i 0) != 0 && i % typeLanes (s.getD i 0) == 0)).map (8 * cage + ·)

/-- The bit rate of a lane rate code in Mb/s hundredths (Table 9.1): bits in 10 ns, times 1000. -/
def laneMbps (rate : Nat) : Nat :=
  match rate with
  | 0 => 106250000 | 1 => 53125000 | 2 => 25781250 | 3 => 10312500 | _ => 112000000

/-- The bits compared by a checker until now (R275): its rate in kb/s times the time since it locked. -/
def Lane.bitsAt (x : Lane) (now : Nat) : Nat :=
  if x.locked then Nat.min max64 (x.bits + laneMbps x.test.rate * 1000 * (now - x.lockedAt) / second) else x.bits

/-- A lane's test ends (R276): its counts stand still, E193 + 2l, cause 1. -/
def Device.endTest (l : Nat) (d : Device) : Device :=
  let x := d.lane l
  if x.test.mode = 0 then d
  else (d.setLane l { x with test := LaneTest.off, bits := x.bitsAt d.now, locked := false }).raise [(193 + 2 * l, det2 l 1)]

/-- CAGE_SET (R266): every port of the cage goes down, and the new ports train. -/
def cageSet : CmdSpec where
  op := 0x0701
  reserved := [(8, 32)]
  check c d := orElse (badParam (4 ≤ c.handle || !cageOk (cageSlots c)))
    (badState ((cagePorts c.handle (Tab.read d.lanes.cages c.handle []) ++ cagePorts c.handle (cageSlots c)).any d.portInUse) 0)
  apply c d :=
    let k := c.handle
    let old := cagePorts k (Tab.read d.lanes.cages k [])
    let d1 := old.foldl (fun d p => d.portTo p 0 6) d
    let d2 := ((List.range 8).map (8 * k + ·)).foldl (fun d l => d.endTest l) d1
    let d3 := { d2 with lanes := { d2.lanes with cages := Tab.put k (cageSlots c) d2.lanes.cages } }
    Done.ok ((cagePorts k (cageSlots c)).foldl (fun d p => d.portTo p (d.port p).idleState 6) d3)

/-- PORT_SET's record (Table 9.10). -/
def parsePort (c : Ctx) : PortRec :=
  { mac := c.p 0 6, direction := c.p 6 1, enable := natBit (c.p 7 1) 0, rsFec := natBit (c.p 7 1) 1,
    mtu := if c.p 8 2 = 0 then 9216 else c.p 8 2, degrade := c.p 10 1, v4Prefix := c.p 11 1, ipv4 := c.p 12 4, ipv6 := c.p 16 16,
    v6Prefix := c.p 32 1 }

/-- What a port already carries that a direction cannot (R272). -/
def directionBreaks (p dir : Nat) (d : Device) : Bool :=
  (dir == 1 && (d.ingestsOn p || d.ptpOn p)) || (dir == 2 && (d.sendsOn p || d.ptpOn p || natBit d.lanes.synce.mask p))

/-- The state of an enabled port that carries no traffic yet: a lane of it is tested or recalibrated (R276, R280), or it trains. -/
def Device.startState (p : Nat) (d : Device) : Nat :=
  if !(d.port p).recd.enable then 0
  else if (d.lanes.lanesOf p).any (fun l => (d.lane l).test.mode != 0) then 4
  else if (d.lanes.lanesOf p).any (fun l => (d.lane l).recal) then 5 else 1

/-- PORT_SET (R271, R272, 02 R56). A change of direction or RS-FEC makes an UP port train again (assumption 13). -/
def portSet : CmdSpec where
  op := 0x0702
  reserved := [(33, 7)]
  check c d :=
    let r := parsePort c
    firstOf [
      badParam (32 ≤ c.handle || 3 ≤ r.direction || 4 ≤ c.p 7 1 || !within 1514 9216 r.mtu
        || (r.degrade != 0 && !within 3 8 r.degrade) || 32 < r.v4Prefix || 128 < r.v6Prefix),
      portCheck c.handle d,
      badState (r.direction != (d.port c.handle).recd.direction && directionBreaks c.handle r.direction d) 0]
  apply c d :=
    let p := c.handle
    let r := parsePort c
    let x := d.port p
    let fec := x.recd.rsFec != r.rsFec
    let d1 := d.setPort p { x with recd := r }
    let d2 := if fec then
        d1.setTime ({ d1.time with lat := Tab.del (latKey false p 2) (Tab.del (latKey true p 2) d1.time.lat) }.restartPort p)
      else d1
    Done.ok (
      if !r.enable || x.state = 0 || x.recd.direction != r.direction || fec then d2.portTo p (d2.startState p) 7 else d2)

/-- SYNCE_SET (R273, R274; a tap port sends no ESMC, R272). -/
def synceSet : CmdSpec where
  op := 0x0703
  reserved := [(3, 1), (8, 32)]
  check c d := orElse (handleZero c) (badParam (2 ≤ c.p 0 1 || 16 ≤ c.p 1 1 || 16 ≤ c.p 2 1
    || (maskBits (c.p 4 4)).any (fun p => (d.port p).recd.direction == 2)))
  apply c d :=
    let y := { d.lanes.synce with mode := c.p 0 1, ssmLocked := c.p 1 1, ssmHold := c.p 2 1, mask := c.p 4 4 }
    Done.ok { d with lanes := { d.lanes with synce := y }, time := { d.time with lineFollows := y.mode == 1 } }

/-! ### Pattern tests (R275 to R278) -/

def parseTest (c : Ctx) : LaneTest :=
  ⟨c.p 0 1, c.p 1 1, c.p 2 1, c.p 3 1, c.p 4 1, natBit (c.p 5 1) 1, c.p 6 2, c.p 8 8⟩

/-- A pattern that needs PAM4, and a rate that has it (Tables 9.1, 9.5). -/
def patternPam4 (p : Nat) : Bool := within 6 8 p
def ratePam4 (r : Nat) : Bool := r == 0 || r == 1 || r == 4

/-- A field of Table 9.12 out of range. -/
def LaneTest.bad (t : LaneTest) (flags : Nat) : Bool :=
  16 ≤ t.mode || (natBit t.mode 2 && natBit t.mode 3) || 9 < t.pattern || 4 < t.rate
    || (t.rate == 4 && !natBit t.mode 0 && !natBit t.mode 1) || (t.pattern == 9 && !within 1 32 t.half)
    || (patternPam4 t.pattern && !ratePam4 t.rate) || 3 < t.inject || 4 ≤ flags
    || (t.inject == 2 && !within 1 256 t.burst) || (t.inject == 3 && !within 1000 1000000000000000 t.interval)

/-- What a lane's direction does not have (R278): a feed port has no receiver, a tap port no transmitter. -/
def LaneTest.wrongWay (t : LaneTest) (dir : Nat) : Bool :=
  (dir == 1 && (natBit t.mode 1 || natBit t.mode 2 || natBit t.mode 3))
    || (dir == 2 && (natBit t.mode 0 || natBit t.mode 2 || natBit t.mode 3 || t.inject != 0))

/-- LANE_TEST_SET: the port enters TEST while any of its lanes is tested, and trains when the last test ends. -/
def laneTestSet : CmdSpec where
  op := 0x0704
  reserved := [(16, 24)]
  check c d :=
    let t := parseTest c
    let p := d.lanes.portOf c.handle
    let busy := t.mode != 0 || (t.mission && t.inject != 0)
    firstOf [
      badParam (32 ≤ c.handle || t.bad (c.p 5 1) || t.wrongWay (d.port p).recd.direction),
      badState ((d.lane c.handle).recal || (d.lanes.exists_ p && d.portInUse p && busy && !natBit (c.p 5 1) 0)) 0]
  apply c d :=
    let l := c.handle
    let t := parseTest c
    let p := d.lanes.portOf l
    let x := d.lane l
    if t.mode != 0 then
      let d1 := d.setLane l { x with test := t, locked := false, lockLost := false, bits := 0, errors := 0 }
      Done.ok (if d.lanes.exists_ p then d1.portTo p 4 4 else d1)
    else
      let d1 := d.endTest l
      let d2 := d1.setLane l { d1.lane l with test := { t with mode := 0 } }
      let still := (d2.lanes.lanesOf p).any (fun m => (d2.lane m).test.mode != 0)
      Done.ok (if d2.lanes.exists_ p && (d2.port p).state = 4 && !still then d2.portTo p (d2.port p).idleState 4 else d2)

/-- CHECKER_LOCK (R275): a checker that has lost its lock, or never had one, finds it. -/
def checkerLock (l : Nat) (d : Device) : Device :=
  let x := d.lane l
  if natBit x.test.mode 1 && !x.locked then d.setLane l { x with locked := true, lockedAt := d.now, signal := true, cdr := true } else d

def execCheckerLock (t : Nat) (lane : Fin 32) (s : State) : Host.Outcome State Fault Refusal :=
  .next { s with dev := checkerLock lane (s.dev.at_ t) }

/-- CHECKER_LOCK_LOST (R275): the counts stand still, LOCK_LOST is set, E193 + 2l with cause 2. -/
def checkerLost (l errors : Nat) (d : Device) : Device :=
  let x := d.lane l
  if x.locked then
    (d.setLane l { x with bits := x.bitsAt d.now, errors := satAdd max64 x.errors errors, locked := false, lockLost := true }).raise
      [(193 + 2 * l, det2 l 2)]
  else d

def execCheckerLockLost (t : Nat) (lane : Fin 32) (errors : Nat) (s : State) : Host.Outcome State Fault Refusal :=
  .next { s with dev := checkerLost lane errors (s.dev.at_ t) }

/-- The lanes of a DISABLED port, or of none, are asleep unless they are tested (Tables 9.2, 9.3). -/
def Device.laneUsed (l : Nat) (d : Device) : Bool :=
  32 ≤ l || (d.lane l).test.mode != 0 || (d.lanes.exists_ (d.lanes.portOf l) && (d.port (d.lanes.portOf l)).state != 0)

/-- A lane's receiver is awake (R271). -/
def Device.rxAwake (l : Nat) (d : Device) : Bool := d.laneUsed l && (d.port (d.lanes.portOf l)).recd.direction != 1

/-- An eye measurement refreshes where the receiver is awake (R279): openings in mUI and mV, lower eye first, with the errors counted since the last. -/
def eyeRefresh (l : Nat) (h v : Nat × Nat × Nat) (errors symbols : Nat) (d : Device) : Device :=
  let x := d.lane l
  if !d.rxAwake l then d
  else
    d.setLane l { x with
      eyeH := h, eyeV := v
      errors := if x.locked then satAdd max64 x.errors errors else x.errors
      symbolErrors := satAdd max64 x.symbolErrors symbols }

def execEyeRefresh (t : Nat) (lane : Fin 32) (h0 h1 h2 v0 v1 v2 errors symbols : Nat) (s : State) :
    Host.Outcome State Fault Refusal :=
  .next { s with dev := eyeRefresh lane (h0, h1, h2) (v0, v1, v2) errors symbols (s.dev.at_ t) }

/-! ### Recalibration (R280 to R282) -/

/-- The unit that a recalibration holds: the module recalibrates one port at a time (R281). -/
def unitRecal : Nat := 1

/-- A leg of a pair on the port whose other leg is lost or on the same port (R282). -/
def Flow.lastLeg (f : Flow) (p : Nat) : Bool :=
  f.recd.enable && f.recd.legB && !f.recd.fromHost &&
    ((f.recd.portA == p && (f.legB.lost || f.recd.portB == p)) || (f.recd.portB == p && (f.legA.lost || f.recd.portA == p)))

/-- The only valid port of the selected PTP domain (R282). -/
def TimeState.onlyPort (x : TimeState) (p : Nat) : Bool :=
  x.sel < 2 && (x.dom x.sel).valid && (x.dom x.sel).active == some p && (x.dom x.sel).masters.all (fun m => m.1 == p)

/-- What bars a recalibration of a port in use (R282). -/
def Device.recalBarred (p : Nat) (d : Device) : Bool :=
  d.ingest.flows.any (fun e => e.2.lastLeg p) || d.time.onlyPort p
    || d.out.subs.any (fun e => e.2.recd.enable && e.2.recd.port == p) || d.out.progs.any (fun e => e.2.onPort p)

/-- A PTP domain active on the port moves to its standby first (R282, R47). -/
def Device.ptpAside (p : Nat) (d : Device) : Device :=
  (List.range 2).foldl (fun d k =>
    if (d.time.dom k).active == some p && (d.time.dom k).masters.any (fun m => m.1 != p) then
      d.withTime (d.time.leavePort d.anyLive k p) else d) d

/-- The port goes to RECAL and its lanes calibrate (R280). -/
def Device.startRecal (p : Nat) (d : Device) : Device :=
  let d1 := (d.ptpAside p).portTo p 5 5
  let ls := d1.lanes.lanesOf p
  let d2 := ls.foldl (fun d l => d.setLane l { d.lane l with recal := true }) d1
  { d2 with lanes := { d2.lanes with recal := some (p, ls), recalDone := false } }

/-- LANE_RECAL (R280 to R282): its final waits for UP. -/
def laneRecal : CmdSpec where
  op := 0x0705
  when_ := .done
  reserved := [(1, 39)]
  check c d := firstOf [badParam (32 ≤ c.handle || 2 ≤ c.p 0 1), portCheck c.handle d,
    badState (!natBit (c.p 0 1) 0 && d.recalBarred c.handle) 0]
  unit _ _ := some unitRecal
  apply c d := Done.goesOn ((d.startRecal c.handle).beginWork 0x0705 c unitRecal none)

/-- The last lane of a recalibrating port finishes (R280): the port trains. -/
def calibrationDone (d : Device) : Device :=
  match d.lanes.recal with
  | none => d
  | some (p, ls) =>
    if d.lanes.recalDone then d
    else
      let d1 := ls.foldl (fun d l => d.setLane l { d.lane l with
        recal := false, recals := satAdd max64 (d.lane l).recals 1, lastRecal := d.now }) d
      let d2 := d1.portTo p (d1.port p).idleState 5
      { d2 with
        lanes := { d2.lanes with recalDone := true }
        rk := { d2.rk with works := d2.rk.works.map (fun w => if w.unit = unitRecal then { w with due := some (d.now + second) } else w) } }

def execLaneCalibrationDone (t : Nat) (s : State) : Host.Outcome State Fault Refusal :=
  .next { s with dev := calibrationDone (s.dev.at_ t) }

/-- A recalibration is over: its events, and its command's final (R280, Table 9.6). -/
def Device.recalOver (p cause detail : Nat) (d : Device) : Device :=
  let d1 := d.raise ((d.lanes.lanesOf p).map (fun l => (193 + 2 * l, det2 l cause)))
  let d2 := { d1 with lanes := { d1.lanes with recal := none, recalDone := false } }
  match takeWork (fun w => w.unit == unitRecal) d2.rk.works with
  | none => d2
  | some (w, rest) => { d2 with rk := { d2.rk with works := rest } }.decideCtx w.ctx stOk detail none d2.now

/-- The port whose recalibration waits for UP. -/
def LanesState.recalWaits (x : LanesState) (p : Nat) : Bool :=
  x.recalDone && (match x.recal with | some (q, _) => q == p | none => false)

/-- ModuleLowPwr, the CMIS module state of an optic kept in low-power mode (18 R501). -/
def cmisLowPwr : Nat := 1

/-- Every lane of the port is in service (17 Table 17.4). -/
def Device.lanesUp (p : Nat) (d : Device) : Bool := (d.lanes.lanesOf p).all (fun l => (d.serv.unit (0x400 + l)).service == 0)

/-- The receivers of a port have signal and CDR lock; a feed port's are asleep (R271). -/
def Device.receivers (p : Nat) (d : Device) : Device :=
  if (d.port p).recd.direction = 1 then d
  else (d.lanes.lanesOf p).foldl (fun d l => d.setLane l { d.lane l with signal := true, cdr := true }) d

/-- A port gains its locks (R268): from TRAINING, unless its optic is kept in low power (18 R501) or a lane of it is out of service. -/
def portUp (p : Nat) (d : Device) : Device :=
  let x := d.port p
  if d.lanes.exists_ p && x.state = 1 && d.lanesUp p && !(x.optics && x.cmis == cmisLowPwr) then
    let d0 := d.setPort p { x with state := 2, lastUp := d.now, localFault := false, remoteFault := false }
    let d1 := (d0.receivers p).raise [(129 + 2 * p, det2 p 0)]
    if d1.lanes.recalWaits p then d1.recalOver p 3 0 else d1
  else d

def execPortUp (t : Nat) (port : Fin 32) (s : State) : Host.Outcome State Fault Refusal :=
  .next { s with dev := portUp port (s.dev.at_ t) }

/-- A recalibrated port is not UP after 1 s (R280): its final carries 0x0701. -/
def recalTimeout (d : Device) : Device :=
  match d.lanes.recal with
  | none => d
  | some (p, _) =>
    if d.lanes.recalDone && d.rk.works.any (fun w => w.unit == unitRecal && (match w.due with | some x => x ≤ d.now | none => false)) then
      d.recalOver p 4 0x0701
    else d

def execRecalTimeout (t : Nat) (s : State) : Host.Outcome State Fault Refusal :=
  .next { s with dev := recalTimeout (s.dev.at_ t) }

/-! ### Faults, optics and lanes -/

/-- A received local or remote fault (R270): only a duplex port reacts. -/
def faultReceived (p : Nat) (remote : Bool) (d : Device) : Device :=
  let x := d.port p
  if d.lanes.exists_ p && x.recd.direction = 0 && (x.state = 2 || x.state = 3) then
    (d.setPort p { x with localFault := x.localFault || !remote, remoteFault := x.remoteFault || remote }).portTo p 3 (1 + bit01 remote)
  else d

def execFaultReceived (t : Nat) (port : Fin 32) (remote : Bool) (s : State) : Host.Outcome State Fault Refusal :=
  .next { s with dev := faultReceived port remote (s.dev.at_ t) }

/-- A duplex port stops receiving fault sequences and leaves FAULT (R270): it trains until its locks bring it UP. -/
def faultCleared (p : Nat) (d : Device) : Device :=
  let x := d.port p
  if d.lanes.exists_ p && x.state = 3 then d.setPort p { x with state := 1, localFault := false, remoteFault := false } else d

def execFaultCleared (t : Nat) (port : Fin 32) (s : State) : Host.Outcome State Fault Refusal :=
  .next { s with dev := faultCleared port (s.dev.at_ t) }

/-- An optical module is inserted or removed (R269), for each port that the cage has or may get: removal takes the cage's ports out of UP with cause 3. `cmis` is the state
code the module reports; an optic whose maximum power is above 12.0 W is kept in low power (18 R501). -/
def opticsChange (cage : Nat) (inserted : Bool) (cmis milliwatts : Nat) (temp : Int) (d : Device) : Device :=
  ((List.range 8).map (8 * cage + ·)).foldl (fun d p =>
    let x := d.port p
    let d1 := d.setPort p { x with
      optics := inserted, opticsTemp := temp,
      cmis := if inserted then (if 12000 < milliwatts then cmisLowPwr else cmis) else 0 }
    if inserted then d1 else if d.lanes.exists_ p && (x.state = 2 || x.state = 3) then d1.portTo p 1 3 else d1) d

def execOpticsChange (t : Nat) (cage : Fin 4) (inserted : Bool) (cmis milliwatts : Nat) (temp : Int) (s : State) :
    Host.Outcome State Fault Refusal :=
  .next { s with dev := opticsChange cage inserted cmis milliwatts temp (s.dev.at_ t) }

/-- A lane loses signal or CDR lock (R285): E192 + 2l while its port is UP. -/
def laneSignalLoss (l : Nat) (cdr : Bool) (d : Device) : Device :=
  let x := d.lane l
  let d1 := d.setLane l (if cdr then { x with cdr := false } else { x with signal := false, cdr := false })
  if d.lanes.isUp (d.lanes.portOf l) then d1.raise [(192 + 2 * l, det2 l (1 + bit01 cdr))] else d1

def execLaneSignalLoss (t : Nat) (lane : Fin 32) (cdr : Bool) (s : State) : Host.Outcome State Fault Refusal :=
  .next { s with dev := laneSignalLoss lane cdr (s.dev.at_ t) }

/-- A lane's pre-FEC ratio passes DEGRADE over 1 s (R285). -/
def laneDegrade (l : Nat) (d : Device) : Device :=
  let p := d.lanes.portOf l
  if d.lanes.isUp p && (d.port p).recd.degrade != 0 then d.raise [(192 + 2 * l, det2 l 3)] else d

def execLaneDegrade (t : Nat) (lane : Fin 32) (s : State) : Host.Outcome State Fault Refusal :=
  .next { s with dev := laneDegrade lane (s.dev.at_ t) }

/-! ### SyncE (R274) -/

/-- The SSM code to send in a servo state. -/
def SyncE.ssm (y : SyncE) (s : ServoState) : Nat :=
  if y.mode = 0 then 15
  else match s with
    | .locked | .slewing => y.ssmLocked
    | .holdover | .external => y.ssmHold
    | .free | .acquire => 15

/-- An ESMC PDU on the wire, in bytes with its FCS: the least Ethernet frame (assumption 21). -/
def esmcBytes : Nat := 64

/-- An ESMC information PDU is made for each port of ESMC_MASK that is UP, and waits there in TC4 (R274, 08 R234). -/
def esmcSend (d : Device) : Device :=
  let y := d.lanes.synce
  let ps := (maskBits y.mask).filter (fun p => d.lanes.isUp p && (d.port p).recd.direction != 2)
  let ports := ps.foldl (fun m p => Tab.upd m p PortSched.reset (fun x => { x with waiting := x.waiting ++ [⟨4, 0x4004 + 8 * p, esmcBytes, d.now, 0⟩] })) d.sched.ports
  { d with
    sched := { d.sched with ports := ports }
    lanes := { d.lanes with synce := { y with lastSsm := y.ssm d.time.servo, pdus := y.pdus + ps.length } } }

def execEsmcPduSend (t : Nat) (s : State) : Host.Outcome State Fault Refusal :=
  .next { s with dev := esmcSend (s.dev.at_ t) }

/-! ### Status -/

/-- A signed value in `n` bytes. -/
def wrInt (n : Nat) (v : Int) : Bytes := wrLE n (patternOf (8 * n) v)

/-- The FCS errors and FEC codewords of a port's receivers since they were last read are measured: free values (assumption 3). A feed port
receives nothing, and types without FEC have no codewords (R271, Table 9.2). -/
def Device.measurePort (p : Nat) (d : Device) : Device :=
  let x := d.port p
  let v (i : Nat) : Nat := (Config.free 64 (d.free + i)).toNat
  let rx := x.recd.direction != 1
  let fec := rx && d.lanes.slot p != 9 && (d.lanes.slot p != 8 || x.recd.rsFec)
  { d.setPort p { x with
      fcsErrors := if rx then satAdd max64 x.fcsErrors (v 0) else x.fcsErrors
      fecCorrected := if fec then satAdd max64 x.fecCorrected (v 1) else x.fecCorrected
      fecUncorrected := if fec then satAdd max64 x.fecUncorrected (v 2) else x.fecUncorrected } with free := d.free + 3 }

/-- The port record (Table 9.13). -/
def portRecord (p : Nat) (d : Device) : Bytes :=
  let x := d.port p
  fields [(8, x.framesTx), (8, x.framesRx), (8, x.fcsErrors), (8, x.oversize), (8, x.pauseRx), (8, x.fecCorrected),
    (8, x.fecUncorrected), (8, x.linkDowns), (1, x.state), (1, d.lanes.slot p), (1, x.recd.direction), (1, x.cmis)] ++
  wrInt 2 x.opticsTemp ++ wrLE 10 0 ++ timeWordBytes x.lastUp ++ wrLE 16 0 ++ timeWordBytes d.now

/-- PORT_STATUS_GET. -/
def portStatusGet : CmdSpec where
  op := 0x0707
  when_ := .done
  reserved := [(8, 32)]
  check c d := firstOf [badParam (32 ≤ c.handle || targetBad 128 c d), portCheck c.handle d, targetCheck 128 c d]
  apply c d := let d1 := d.measurePort c.handle; writeRecord (portRecord c.handle d1) c d1

/-- A lane's STATE byte (Table 9.13). -/
def laneState (l : Nat) (d : Device) : Nat :=
  let x := d.lane l
  let dir := (d.port (d.lanes.portOf l)).recd.direction
  let rx := d.rxAwake l
  bit01 (d.laneUsed l && dir != 2) + 2 * bit01 rx + 4 * bit01 (rx && x.signal) + 8 * bit01 (rx && x.cdr) + 16 * bit01 x.locked
    + 32 * bit01 x.lockLost + 64 * bit01 x.recal + 128 * bit01 (x.test.mode != 0)

/-- The lane record (Table 9.13). -/
def laneRecord (l : Nat) (d : Device) : Bytes :=
  let x := d.lane l
  fields [(8, x.bitsAt d.now), (8, x.errors), (8, x.symbolErrors), (8, x.recals), (32, 0), (1, laneState l d),
    (1, if x.test.mode = 0 then typeRate (d.lanes.slot l) else x.test.rate), (1, x.test.pattern), (1, 0),
    (2, x.eyeH.1), (2, x.eyeH.2.1), (2, x.eyeH.2.2), (2, x.eyeV.1), (2, x.eyeV.2.1), (2, x.eyeV.2.2)] ++
  (if 32 ≤ l then wrLE 2 x.ssc ++ wrLE 14 0 else timeWordBytes x.lastRecal) ++ wrLE 16 0 ++ timeWordBytes d.now

/-- The spread of the host lanes' clock is measured (R283): a free value of 0 to 0.5 % (assumption 3). -/
def Device.measureLane (l : Nat) (d : Device) : Device :=
  if 32 ≤ l then { d.setLane l { d.lane l with ssc := (Config.free 64 d.free).toNat % 51 } with free := d.free + 1 } else d

/-- LANE_STATUS_GET. -/
def laneStatusGet : CmdSpec where
  op := 0x0708
  when_ := .done
  reserved := [(8, 32)]
  check c d := orElse (badParam (48 ≤ c.handle)) (targetCheck 128 c d)
  apply c d := let d1 := d.measureLane c.handle; writeRecord (laneRecord c.handle d1) c d1

end Sys2Proof.Machine
end

