-- ==== Sys2Proof/Machine/Sched.lean ====
section
/-!
DEFINITION. The port schedulers (chapter 8): launch calendars, shapers, gate lists, DWRR, and policers.
Times are rounded down to 2^-16 ns and tokens to 2^-16 byte (assumption 14).
-/
namespace Sys2Proof.Machine

/-! ### Nodes and wire times -/

/-- Node handles (Table 8.2). -/
def nodeSub (n : Nat) : Nat := n
def nodeService (n : Nat) : Nat := 0x1000 + n
def nodeTx (q : Nat) : Nat := 0x2000 + q
def nodeProg (o : Nat) : Nat := 0x2100 + o
def nodeGroup (g : Nat) : Nat := 0x3000 + g
def nodeClass (p c : Nat) : Nat := 0x4000 + 8 * p + c

/-- The wire time of a frame at a port rate (R239): its bytes and 20 more. -/
def wireTime (bytes kbps : Nat) : Nat := if kbps = 0 then 0 else (bytes + 20) * 8 * 1000000 * 65536 / kbps

/-- 250 µs: how long before its nominal time a copy enters the calendar (R238). -/
def calendarLead : Nat := 250 * usec

/-- The copies a calendar holds (R240). -/
def calendarSize : Nat := 32768

/-! ### Shapers (R245 to R247) -/

/-- The tokens at a moment: they rise at RATE and stop at BURST. -/
def Shaper.tokensAt (s : Shaper) (now : Nat) : Int :=
  if s.rate = 0 then s.tokens
  else min ((s.burst * 65536 : Nat) : Int) (s.tokens + ((s.rate * 125 * (now - s.at_) / 1000000000 : Nat) : Int))

/-- The shaper is eligible at a moment. A rate of 0 blocks the node (R246). -/
def Shaper.eligible (s : Shaper) (now : Nat) : Bool := s.rate != 0 && decide (0 ≤ s.tokensAt now)

/-- The first moment at or after `now` at which the shaper is eligible; none while its rate is 0. -/
def Shaper.eligibleAt (s : Shaper) (now : Nat) : Option Nat :=
  if s.rate = 0 then none
  else
    let k := s.tokensAt now
    if 0 ≤ k then some now else some (Nat.max now s.at_ + ceilDiv (k.natAbs * 1000000000) (s.rate * 125))

/-- A frame is charged (R245). -/
def Shaper.charge (bytes now : Nat) (s : Shaper) : Shaper :=
  { s with tokens := s.tokensAt now - ((bytes + 20) * 65536 : Nat), at_ := Nat.max now s.at_ }

/-- Every shaper on a path is charged. -/
def chargeAll (bytes now : Nat) (path : List Nat) (m : Tab Shaper) : Tab Shaper :=
  Tab.mapVals (fun n s => if path.contains n then s.charge bytes now else s) m

/-- The shapers of a path. -/
def shapersOn (path : List Nat) (m : Tab Shaper) : List Shaper := (m.filter (fun e => path.contains e.1)).map (·.2)

/-- Every shaper of a path is eligible now (R236). -/
def pathEligible (path : List Nat) (now : Nat) (m : Tab Shaper) : Bool := (shapersOn path m).all (·.eligible now)

/-- The moment at which every shaper of a path is eligible. -/
def pathAt (path : List Nat) (from_ : Nat) (m : Tab Shaper) : Option Nat :=
  (shapersOn path m).foldl (fun o s => match o, s.eligibleAt from_ with
    | some a, some b => some (Nat.max a b)
    | _, _ => none) (some from_)

/-! ### Placement (R239 to R241) -/

/-- The host queue of a copy: copies of services are numbered by service, host TC6 frames come after them (R238). -/
def Copy.queue (c : Copy) : Option Nat := if c.kind = 3 then some c.sub else none

/-- The path of a copy on port `p`. -/
def Copy.path (c : Copy) (p : Nat) : List Nat :=
  if c.kind = 3 then [nodeTx c.sub, nodeClass p 6] else [nodeSub c.sub, nodeService c.service, nodeClass p 6]

/-- The placed time of a copy (R239), where its displacement stays within the slack (R240). -/
def PortSched.placeAt (x : PortSched) (p : Nat) (m : Tab Shaper) (c : Copy) : Option Nat :=
  let from_ := Nat.max c.nominal x.lastEnd
  match pathAt (c.path p) from_ m with
  | none => none
  | some t => if c.nominal + x.slackNs * 65536 < t then none else some t

/-- A value is noted among those of the last second, with their moments: it hides the lower ones before it, and those a second old are over. -/
def notePeak (now u : Nat) (l : List (Nat × Nat)) : List (Nat × Nat) := l.filter (fun p => Nat.blt now (p.1 + second) && Nat.blt u p.2) ++ [(now, u)]

/-- The largest value of the last second. -/
def lastPeak (now : Nat) (l : List (Nat × Nat)) : Nat := ((l.filter (fun p => Nat.blt now (p.1 + second))).map (·.2)).foldl Nat.max 0

/-- A placed copy enters the calendar, its displacement counted (R239). -/
def PortSched.enter (now kbps t : Nat) (c : Copy) (x : PortSched) : PortSched :=
  { x with
    calendar := x.calendar ++ [⟨c, t, t + wireTime c.bytes kbps⟩]
    lastEnd := t + wireTime c.bytes kbps
    displaced := if c.nominal < t then satAdd max64 x.displaced 1 else x.displaced
    disps := notePeak now ((t - c.nominal) / 65536) x.disps }

/-- An event is due at most once a second. -/
def oncePerSecond (last : Option Nat) (now : Nat) : Bool :=
  match last with
  | none => true
  | some t => t + second ≤ now

/-- A subscriber loses copies (07 R221): DROPPED counts, E481 once a second at most. -/
def Device.dropSub (b : Nat) (d : Device) : Device :=
  match Tab.find b d.out.subs with
  | none => d
  | some x =>
    let tell := oncePerSecond x.lastE481 d.now
    { d with out := { d.out with subs := Tab.put b { x with
        dropped := satAdd max64 x.dropped 1, lastE481 := if tell then some d.now else x.lastE481 } d.out.subs } }.raise
      (if tell then [(481, b)] else [])

def Device.setSched (p : Nat) (x : PortSched) (d : Device) : Device :=
  { d with sched := { d.sched with ports := Tab.put p x d.sched.ports } }

/-! ### Host transmit queues: write-back (R254, R258) -/

/-- The host address of a descriptor. -/
def descAddr (addr entries i : Nat) : Nat := addr + 32 * (i % entries)

/-- A descriptor's outcome: WB_STATUS at byte 11 and TIME at byte 16. -/
def wbBytes (desc : Bytes) (status : Nat) (time : Option Nat) : Bytes :=
  desc.take 11 ++ wrLE 1 status ++ (desc.drop 12).take 4 ++ (match time with | none => wrLE 16 0 | some t => timeWordBytes t)

/-- Outcomes are written back in ring order: those at the head of the queue, while DMA is possible; else they are held (R258, R259;
10 Table 10.13). -/
def txWriteBack (dma : Bool) : Nat → Mem → TxQueue → Mem × TxQueue
  | 0, m, g => (m, g)
  | n + 1, m, g => match g.done.find? (fun o => o.1 == g.head) with
    | none => (m, g)
    | some (i, st, time) =>
      if !dma then (m, g)
      else
        let a := descAddr g.addr g.entries i
        let b := wbBytes (memBytes m a 32) st (if time = 0 then none else some time)
        txWriteBack dma n (memStore m a b)
          { g with head := (g.head + 1) % 2 ^ 32, done := g.done.filter (fun o => o.1 != i) }

/-- A descriptor has its outcome: SENT, or another that counts as dropped (Table 8.7, Table 8.9). -/
def Device.txDone (q i status time : Nat) (d : Device) : Device :=
  let g := Tab.read d.sched.tx q TxQueue.reset
  let g1 := { g with
    done := g.done ++ [(i, status, time)]
    sent := if status = 1 then satAdd max64 g.sent 1 else g.sent
    dropped := if status = 1 then g.dropped else satAdd max64 g.dropped 1 }
  let g2 := if status = 4 then { g1 with error := true, errorCode := 1 }
    else if status = 2 then { g1 with error := true, errorCode := 3 } else g1
  let r := txWriteBack d.dmaUp (g2.done.length) d.mem.host g2
  { d with
    mem := { d.mem with host := r.1 }
    sched := { d.sched with tx := Tab.put q r.2 d.sched.tx } }.raise
    ((if status = 1 then [] else [(dtIndex (136 + q), 0)]) ++ (if status = 4 then [(490, q)] else []) ++ (if status = 2 then [(492, q)] else []))

/-- A copy is dropped at placement (R240). -/
def Device.dropCopy (p : Nat) (full : Bool) (c : Copy) (d : Device) : Device :=
  let x := d.sched.port p
  let tell := if full then oncePerSecond x.lastE485 d.now else oncePerSecond x.lastE484 d.now
  let x' := { x with
    slackDrops := satAdd max64 x.slackDrops 1
    lastE485 := if full && tell then some d.now else x.lastE485
    lastE484 := if !full && tell then some d.now else x.lastE484 }
  let d1 := d.setSched p x'
  let d2 := match c.queue with
    | some q => d1.txDone q c.seq 2 0
    | none => d1.dropSub c.sub
  d2.raise (if tell then [(if full then 485 else 484, p)] else [])

/-- A copy is placed on port `p` (R239), or dropped (R240). -/
def Device.place (p : Nat) (c : Copy) (d : Device) : Device :=
  let x := d.sched.port p
  if calendarSize ≤ x.calendar.length then d.dropCopy p true c
  else match x.placeAt p d.sched.shapers c with
    | none => d.dropCopy p false c
    | some t =>
      { d with sched := { d.sched with
          ports := Tab.put p (x.enter d.now (d.lanes.kbps p) t c) d.sched.ports
          shapers := chargeAll c.bytes t (c.path p) d.sched.shapers } }

/-- The order in which copies that enter together are placed (R238). -/
def Copy.before (a b : Copy) : Bool :=
  if a.nominal != b.nominal then a.nominal < b.nominal
  else if a.service != b.service then a.service < b.service
  else if a.sub != b.sub then a.sub < b.sub
  else if a.kind != b.kind then a.kind < b.kind
  else a.seq ≤ b.seq

/-- A copy in its place among copies in order. -/
def insertCopy (c : Copy) : List Copy → List Copy
  | [] => [c]
  | x :: r => if x.before c then x :: insertCopy c r else c :: x :: r

/-- Copies in the order of R238. -/
def sortCopies (l : List Copy) : List Copy := l.foldr insertCopy []

/-- A copy waits for the calendar, or is placed on arrival once its placement window has opened (R238, R241). -/
def Device.offer (p : Nat) (c : Copy) (d : Device) : Device :=
  if c.nominal ≤ d.now + calendarLead then d.place p c
  else
    let x := d.sched.port p
    d.setSched p { x with due := x.due ++ [c] }

/-! ### Gate lists (R248 to R251) -/

/-- The entry of a list in force at a time into its cycle (in 2^-16 ns), and the time left of it: the last entry holds until
the cycle ends. -/
def gateIn (cycle : Nat) : Nat → List (Nat × Nat) → Nat → Nat × Nat × Nat
  | i, [], _ => (i, 255, 0)
  | i, (n, g) :: r, off =>
    if r.isEmpty then (i, g, cycle - off)
    else if off < n * 65536 then (i, g, n * 65536 - off)
    else gateIn (cycle - n * 65536) (i + 1) r (off - n * 65536)

/-- The entry in force, its gates, and the time left of it. -/
def GateList.at_ (l : GateList) (now : Nat) : Nat × Nat × Nat :=
  let cycle := l.cycleNs * 65536
  gateIn cycle 0 l.entries ((now - l.start) % cycle)

/-- Class `c` stays open for `dur` from `now` (R236, R249). -/
def gateHolds (l : GateList) (c : Nat) : Nat → Nat → Nat → Bool
  | 0, _, _ => true
  | fuel + 1, now, dur =>
    let e := l.at_ now
    natBit e.2.1 c && (dur ≤ e.2.2 || e.2.2 == 0 || gateHolds l c fuel (now + e.2.2) (dur - e.2.2))

/-- The gate of class `c` lets a frame of wire time `dur` start now. A port with no list has all gates open. -/
def PortSched.gateOpen (x : PortSched) (c now dur : Nat) : Bool :=
  match x.oper with
  | none => true
  | some l => gateHolds l c 2048 now dur

/-- The gates in force. -/
def PortSched.gates (x : PortSched) (now : Nat) : Nat := match x.oper with
  | none => 255
  | some l => (l.at_ now).2.1

/-- The frame of wire time `dur` finds no open interval long enough anywhere in the cycle (R249). -/
def GateList.neverFits (l : GateList) (c dur : Nat) : Bool :=
  let starts := (l.entries.foldl (fun (a : Nat × List Nat) e => (a.1 + e.1 * 65536, a.2 ++ [a.1])) (0, [])).2
  starts.all (fun o => !gateHolds l c 2048 (l.start + o) dur)

/-- Entries of a GATE_LIST_SET block: interval and gates. -/
def parseGates (c : Ctx) : List (Nat × Nat) := (List.range (c.b 24 2)).map (fun e => (c.b (32 + 8 * e) 4, c.b (36 + 8 * e) 1))

/-- When a list takes over (R250): BASE_TIME, or the first whole number of cycles after it that lies 2 µs ahead. -/
def gateStart (base cycleNs now : Nat) : Nat :=
  let cycle := cycleNs * 65536
  if now + 2 * usec ≤ base then base else base + ceilDiv (now + 2 * usec - base) cycle * cycle

/-- GATE_LIST_SET (R248, R250, R251). -/
def gateListSet : CmdSpec where
  op := 0x0504
  block := some (fun b => 32 + 8 * rdLE b 24 2)
  reserved := [(26, 6)]
  check c d :=
    let es := parseGates c
    firstOf [
      badParam (32 ≤ c.handle || !timeWordOk c.block 0 || !within 1000 1000000000 (c.b 16 8) || !within 1 256 (c.b 24 2)
        || es.any (fun e => !within 10 1000000000 e.1 || e.2 / 64 != 3)
        || (List.range (c.b 24 2)).any (fun e => c.b (37 + 8 * e) 3 != 0)
        || c.b 16 8 < (es.map (·.1)).sum),
      portCheck c.handle d]
  apply c d :=
    let x := d.sched.port c.handle
    let base := timeOfWord c.block 0
    let start := gateStart base (c.b 16 8) d.now
    let d1 := d.setSched c.handle { x with pend := some ⟨start, c.b 16 8, parseGates c⟩ }
    let d2 := d1.raise (if x.pend.isSome then [(487, c.handle)] else [])
    if start = base then ⟨d2, some (stOk, 0), some start⟩ else ⟨d2, some (stStartedAt, usMoved base start), some start⟩

/-- GATE_LIST_CANCEL discards a pending list (R251). -/
def gateListCancel : CmdSpec where
  op := 0x0505
  cr0 := true
  reserved := [(0, 40)]
  check c d := orElse (badParam (32 ≤ c.handle)) (portCheck c.handle d)
  apply c d :=
    let x := d.sched.port c.handle
    Done.ok ((d.setSched c.handle { x with pend := none }).raise (if x.pend.isSome then [(487, c.handle)] else []))

/-- A pending list takes over at its start time (R250). -/
def gateTakeover (p : Nat) (d : Device) : Device :=
  let x := d.sched.port p
  match x.pend with
  | none => d
  | some l =>
    if d.due l.start then
      (d.setSched p { x with oper := some l, pend := none, entry := 0, cycles := 1 }).raise [(486, p)]
    else d

def execGateListTakeover (t : Nat) (port : Fin 32) (s : State) : Host.Outcome State Fault Refusal :=
  .next { s with dev := gateTakeover port (s.dev.at_ t) }

/-- A gate interval ends and the next entry's gates apply (R248). -/
def gateEntryChange (p : Nat) (d : Device) : Device :=
  let x := d.sched.port p
  match x.oper with
  | none => d
  | some l => d.setSched p { x with entry := (l.at_ d.now).1, cycles := (d.now - l.start) / (l.cycleNs * 65536) + 1 }

def execGateEntryChange (t : Nat) (port : Fin 32) (s : State) : Host.Outcome State Fault Refusal :=
  .next { s with dev := gateEntryChange port (s.dev.at_ t) }

/-! ### Commands on ports, shapers, DWRR and policers -/

/-- PORT_SCHED_SET. -/
def portSchedSet : CmdSpec where
  op := 0x0501
  reserved := [(4, 36)]
  check c d := orElse (badParam (32 ≤ c.handle || !within 1000 1000000 (c.p 0 4))) (portCheck c.handle d)
  apply c d := Done.ok (d.setSched c.handle { d.sched.port c.handle with slackNs := c.p 0 4 })

/-- The pace of a service in 1/100 kb/s (07 R215): PACE_KBPS, or 1.05 times RATE_KBPS where it is 0. -/
def Device.pace100 (s : Nat) (d : Device) : Nat :=
  match Tab.find s d.out.services with
  | none => 0
  | some v => if v.recd.pace = 0 then 105 * (match Tab.find s d.code.rends with
      | none => 0
      | some r => r.recd.rateKbps) else 100 * v.recd.pace

/-- The enabled subscribers a TC6 node carries. -/
def Device.nodeSubs (h : Nat) (d : Device) : List Nat :=
  (d.out.subs.filter (fun e => e.2.recd.enable && (
    if h < 0x1000 then e.1 == h else if h < 0x2000 then e.2.recd.service == h - 0x1000 else e.2.recd.port == (h - 0x4000) / 8))).map (·.2.recd.service)

/-- The least RATE_KBPS of a TC6 node, in 1/100 kb/s (R247). -/
def Device.nodeFloor (h : Nat) (d : Device) : Nat :=
  if h < 0x1000 then (match Tab.find h d.out.subs with
    | none => 0
    | some x => d.pace100 x.recd.service)
  else ((d.nodeSubs h).map (fun s => d.pace100 s)).sum

/-- The node exists and `cls` is the class it is in (Table 8.2, Table 8.14). TC7 takes no shaper (R245). -/
def nodeOk (h cls : Nat) (d : Device) : Bool :=
  if h < 0x1000 then cls == 6
  else if h < 0x1200 then cls == 6
  else if within 0x2000 0x203F h then match Tab.find (h - 0x2000) d.sched.tx with
    | some x => cls == x.cls
    | none => cls ≤ 4 || cls == 6
  else if within 0x2100 0x213F h then cls == 5
  else if within 0x3000 0x303F h then cls ≤ 4
  else within 0x4000 0x40FF h && h % 8 != 7

/-- The node is in TC6. -/
def nodeTc6 (h : Nat) : Bool := h < 0x1200 || (within 0x4000 0x40FF h && h % 8 == 6)

/-- A shaper set on a node (R246): a new one starts with BURST tokens, an old one keeps its tokens, cut to BURST. -/
def setShaper (h rate burst now : Nat) (m : Tab Shaper) : Tab Shaper :=
  match Tab.find h m with
  | none => Tab.put h ⟨rate, burst, (burst * 65536 : Nat), now⟩ m
  | some s => Tab.put h ⟨rate, burst, min (s.tokensAt now) ((burst * 65536 : Nat) : Int), Nat.max now s.at_⟩ m

/-- SHAPER_SET (R245 to R247). -/
def shaperSet : CmdSpec where
  op := 0x0502
  reserved := [(2, 2), (12, 28)]
  check c d :=
    let rm := natBit (c.p 1 1) 0
    badParam (!nodeOk c.handle (c.p 0 1) d || 2 ≤ c.p 1 1 || (!rm && (800000000 < c.p 4 4 || !within 1518 16777216 (c.p 8 4)
      || (nodeTc6 c.handle && 100 * c.p 4 4 < d.nodeFloor c.handle))))
  apply c d :=
    let m := if natBit (c.p 1 1) 0 then Tab.del c.handle d.sched.shapers else setShaper c.handle (c.p 4 4) (c.p 8 4) d.now d.sched.shapers
    Done.ok { d with sched := { d.sched with shapers := m } }

/-- DWRR_SET (R237). -/
def dwrrSet : CmdSpec where
  op := 0x0503
  reserved := [(4, 36)]
  check c _ := badParam (!(within 0x2000 0x203F c.handle || within 0x3000 0x303F c.handle) || !within 256 65536 (c.p 0 4))
  apply c d := Done.ok { d with sched := { d.sched with quanta := Tab.put c.handle (c.p 0 4) d.sched.quanta } }

/-- A field of Table 8.16 out of range. -/
def policerBad (kind cir pir cbs ebs : Nat) : Bool :=
  3 ≤ kind || (kind != 0 && (!within 64 100000000 cir || !within 1518 16777216 cbs || !within 1518 16777216 ebs))
    || (kind == 1 && pir != 0) || (kind == 2 && !within cir 100000000 pir)

/-- POLICER_SET: the buckets start full (R253). -/
def policerSet : CmdSpec where
  op := 0x0506
  reserved := [(1, 3), (20, 20)]
  check c d := orElse (badParam (128 ≤ c.handle || policerBad (c.p 0 1) (c.p 4 4) (c.p 8 4) (c.p 12 4) (c.p 16 4)))
    (portCheck (c.handle / 4) d)
  apply c d :=
    let p := c.handle / 4
    let x := d.sched.port p
    let y : Policer := ⟨c.p 0 1, c.p 4 4, c.p 8 4, c.p 12 4, c.p 16 4, c.p 12 4 * 65536, c.p 16 4 * 65536, d.now⟩
    Done.ok (d.setSched p { x with policers := Tab.put (c.handle % 4) y x.policers })

/-- The tokens gained at `kbps` over a time, in 2^-16 bytes. -/
def gained (kbps dt : Nat) : Nat := kbps * 125 * dt / 1000000000

/-- The buckets refilled to a moment: srTCM's excess bucket takes what its committed bucket cannot (RFC 2697), trTCM's
buckets fill at their own rates (RFC 2698). -/
def Policer.refill (now : Nat) (y : Policer) : Policer :=
  let g := gained y.cir (now - y.at_)
  let c := Nat.min (y.cbs * 65536) (y.tc + g)
  let e := if y.kind = 1 then Nat.min (y.ebs * 65536) (y.te + (y.tc + g - c)) else Nat.min (y.ebs * 65536) (y.te + gained y.pir (now - y.at_))
  { y with tc := c, te := e, at_ := Nat.max now y.at_ }

/-- The colours of R253. -/
inductive Colour where
  | green | yellow | red
  deriving DecidableEq, Repr

/-- A frame's colour and the policer after it, colour-blind (R253). -/
def Policer.meter (now bytes : Nat) (y : Policer) : Colour × Policer :=
  let z := y.refill now
  let b := bytes * 65536
  if y.kind = 0 then (.green, y)
  else if y.kind = 1 then
    if b ≤ z.tc then (.green, { z with tc := z.tc - b })
    else if b ≤ z.te then (.yellow, { z with te := z.te - b })
    else (.red, z)
  else
    if z.te < b then (.red, z)
    else if z.tc < b then (.yellow, { z with te := z.te - b })
    else (.green, { z with te := z.te - b, tc := z.tc - b })

/-- SCHED_STATUS_GET's record (Table 8.19). -/
def schedRecord (p : Nat) (d : Device) : Bytes :=
  let x := d.sched.port p
  fields [(8, x.copies), (8, x.displaced), (8, x.slackDrops), (8, x.guardHolds), (8, x.redDrops), (8, x.yellowDrops),
    (4, lastPeak d.now x.disps), (1, x.gates d.now), (1, bit01 x.oper.isSome + 2 * bit01 x.pend.isSome),
    (2, x.entry)] ++ (match x.oper with | none => wrLE 16 0 | some l => timeWordBytes l.start) ++
  (match x.pend with | none => wrLE 16 0 | some l => timeWordBytes l.start) ++ wrLE 8 x.cycles ++ wrLE 16 0 ++ timeWordBytes d.now

/-- SCHED_STATUS_GET. -/
def schedStatusGet : CmdSpec where
  op := 0x050A
  when_ := .done
  reserved := [(8, 32)]
  check c d := firstOf [badParam (32 ≤ c.handle || targetBad 128 c d), portCheck c.handle d, targetCheck 128 c d]
  apply c d := writeRecord (schedRecord c.handle d) c d

end Sys2Proof.Machine
end

