-- ==== Sys2Proof/Machine/Crypto.lean ====
section
/-!
DEFINITION. The cryptography that the spec names by standard (assumption 218): SHA-384 (FIPS 180-4), ECDSA P-384 (FIPS 186-5), AES (FIPS 197), AES-GCM
(SP 800-38D) and AES-XTS (IEEE 1619). `forced` hands a number on once it is computed, so that long chains of rounds stay short terms.
-/
namespace Sys2Proof.Machine

/-- A number, computed before it is handed on. -/
def forced {α : Type} (n : Nat) (k : Nat → α) : α := match n with
  | 0 => k 0
  | m + 1 => k (m + 1)

/-- The big-endian number of a string, and the big-endian string of `n` bytes. -/
def beNat (b : Bytes) : Nat := rdLE b.reverse 0 b.length
def beBytes (n v : Nat) : Bytes := (wrLE n v).reverse

/-! ### SHA-384 -/

/-- A rotation of a 64-bit word. -/
def rotr64 (n x : Nat) : Nat := Nat.lor (x >>> n) ((x <<< (64 - n)) % 2 ^ 64)

def sha384K : List Nat :=
    [0x428A2F98D728AE22, 0x7137449123EF65CD, 0xB5C0FBCFEC4D3B2F, 0xE9B5DBA58189DBBC, 0x3956C25BF348B538, 0x59F111F1B605D019, 0x923F82A4AF194F9B, 0xAB1C5ED5DA6D8118,
      0xD807AA98A3030242, 0x12835B0145706FBE, 0x243185BE4EE4B28C, 0x550C7DC3D5FFB4E2, 0x72BE5D74F27B896F, 0x80DEB1FE3B1696B1, 0x9BDC06A725C71235, 0xC19BF174CF692694] ++
    [0xE49B69C19EF14AD2, 0xEFBE4786384F25E3, 0x0FC19DC68B8CD5B5, 0x240CA1CC77AC9C65, 0x2DE92C6F592B0275, 0x4A7484AA6EA6E483, 0x5CB0A9DCBD41FBD4, 0x76F988DA831153B5,
      0x983E5152EE66DFAB, 0xA831C66D2DB43210, 0xB00327C898FB213F, 0xBF597FC7BEEF0EE4, 0xC6E00BF33DA88FC2, 0xD5A79147930AA725, 0x06CA6351E003826F, 0x142929670A0E6E70] ++
    [0x27B70A8546D22FFC, 0x2E1B21385C26C926, 0x4D2C6DFC5AC42AED, 0x53380D139D95B3DF, 0x650A73548BAF63DE, 0x766A0ABB3C77B2A8, 0x81C2C92E47EDAEE6, 0x92722C851482353B,
      0xA2BFE8A14CF10364, 0xA81A664BBC423001, 0xC24B8B70D0F89791, 0xC76C51A30654BE30, 0xD192E819D6EF5218, 0xD69906245565A910, 0xF40E35855771202A, 0x106AA07032BBD1B8] ++
    [0x19A4C116B8D2D0C8, 0x1E376C085141AB53, 0x2748774CDF8EEB99, 0x34B0BCB5E19B48A8, 0x391C0CB3C5C95A63, 0x4ED8AA4AE3418ACB, 0x5B9CCA4F7763E373, 0x682E6FF3D6B2B8A3,
      0x748F82EE5DEFB2FC, 0x78A5636F43172F60, 0x84C87814A1F0AB72, 0x8CC702081A6439EC, 0x90BEFFFA23631E28, 0xA4506CEBDE82BDE9, 0xBEF9A3F7B2C67915, 0xC67178F2E372532B] ++
    [0xCA273ECEEA26619C, 0xD186B8C721C0C207, 0xEADA7DD6CDE0EB1E, 0xF57D4F7FEE6ED178, 0x06F067AA72176FBA, 0x0A637DC5A2C898A6, 0x113F9804BEF90DAE, 0x1B710B35131C471B,
      0x28DB77F523047D84, 0x32CAAB7B40C72493, 0x3C9EBE0A15C9BEBC, 0x431D67C49C100D4C, 0x4CC5D4BECB3E42B6, 0x597F299CFC657E2A, 0x5FCB6FAB3AD6FAEC, 0x6C44198C4A475817]

/-- The working variables of a block. -/
structure Sha where
  a : Nat
  b : Nat
  c : Nat
  d : Nat
  e : Nat
  f : Nat
  g : Nat
  h : Nat

/-- The initial hash value. -/
def shaStart : Sha := match [0xCBBB9D5DC1059ED8, 0x629A292A367CD507, 0x9159015A3070DD17, 0x152FECD8F70E5939, 0x67332667FFC00B31, 0x8EB44A8768581511, 0xDB0C2E0D64F98FA7, 0x47B5481DBEFA4FA4] with
  | [a, b, c, d, e, f, g, h] => ⟨a, b, c, d, e, f, g, h⟩
  | _ => ⟨0, 0, 0, 0, 0, 0, 0, 0⟩

/-- One round, with its constant and its word of the schedule. -/
def Sha.round (k w : Nat) (s : Sha) : Sha :=
  let s1 := Nat.xor (Nat.xor (rotr64 14 s.e) (rotr64 18 s.e)) (rotr64 41 s.e)
  let ch := Nat.xor (Nat.land s.e s.f) (Nat.land (2 ^ 64 - 1 - s.e) s.g)
  let s0 := Nat.xor (Nat.xor (rotr64 28 s.a) (rotr64 34 s.a)) (rotr64 39 s.a)
  let maj := Nat.xor (Nat.xor (Nat.land s.a s.b) (Nat.land s.a s.c)) (Nat.land s.b s.c)
  forced ((s.h + s1 + ch + k + w) % 2 ^ 64) (fun t1 =>
    forced ((s.d + t1) % 2 ^ 64) (fun e => forced ((t1 + s0 + maj) % 2 ^ 64) (fun a => ⟨a, s.a, s.b, s.c, e, s.e, s.f, s.g⟩)))

/-- The word of the schedule after the sixteen before it. -/
def shaNext (w : List Nat) : Nat :=
  let x := w.getD 1 0
  let y := w.getD 14 0
  (w.getD 0 0 + Nat.xor (Nat.xor (rotr64 1 x) (rotr64 8 x)) (x >>> 7) + w.getD 9 0 + Nat.xor (Nat.xor (rotr64 19 y) (rotr64 61 y)) (y >>> 6)) % 2 ^ 64

/-- The rounds of a block: `w` holds the sixteen next words. -/
def shaRounds : List Nat → List Nat → Sha → Sha
  | [], _, s => s
  | k :: ks, w, s => forced (shaNext w) (fun n => match s.round k (w.headD 0) with
    | ⟨a, b, c, d, e, f, g, h⟩ => shaRounds ks (w.tail ++ [n]) ⟨a, b, c, d, e, f, g, h⟩)

/-- Words computed in turn. -/
def forcedAll {α : Type} : List Nat → (List Nat → α) → α
  | [], k => k []
  | n :: r, k => forced n (fun m => forcedAll r (fun l => k (m :: l)))

/-- A block of 128 bytes. -/
def shaBlock (b : Bytes) (s : Sha) : Sha :=
  forcedAll ((List.range 16).map (fun i => beNat ((b.drop (8 * i)).take 8))) (fun w =>
    match shaRounds sha384K w s with
    | ⟨a, b, c, d, e, f, g, h⟩ =>
      let m : Nat := 2 ^ 64
      forced ((s.a + a) % m) fun a => forced ((s.b + b) % m) fun b => forced ((s.c + c) % m) fun c => forced ((s.d + d) % m) fun d =>
      forced ((s.e + e) % m) fun e => forced ((s.f + f) % m) fun f => forced ((s.g + g) % m) fun g => forced ((s.h + h) % m) fun h =>
        ⟨a, b, c, d, e, f, g, h⟩)

/-- The blocks of a padded string. -/
def shaBlocks : Nat → Bytes → Sha → Sha
  | 0, _, s => s
  | n + 1, b, s => match shaBlock (b.take 128) s with
    | ⟨a, c, d, e, f, g, h, i⟩ => shaBlocks n (b.drop 128) ⟨a, c, d, e, f, g, h, i⟩

/-- SHA-384 of a string, 48 bytes. -/
def sha384 (b : Bytes) : Bytes :=
  let n := ceilDiv (b.length + 17) 128
  let p := b ++ [0x80] ++ List.replicate (n * 128 - b.length - 17) 0 ++ beBytes 16 (8 * b.length)
  match shaBlocks n p shaStart with
  | ⟨a, b, c, d, e, f, _, _⟩ => [a, b, c, d, e, f].flatMap (beBytes 8)

/-! ### ECDSA P-384 -/

/-- The prime, the order and the curve's constant b. -/
def p384 : Nat := 0xFFFFFFFFFFFFFFFFFFFFFFFFFFFFFFFFFFFFFFFFFFFFFFFFFFFFFFFFFFFFFFFEFFFFFFFF0000000000000000FFFFFFFF
def n384 : Nat := 0xFFFFFFFFFFFFFFFFFFFFFFFFFFFFFFFFFFFFFFFFFFFFFFFFC7634D81F4372DDF581A0DB248B0A77AECEC196ACCC52973
def b384 : Nat := 0xB3312FA7E23EE7E4988E056BE3F82D19181D9C6EFE8141120314088F5013875AC656398D8A2ED19D2A85C8EDD3EC2AEF

/-- A point in Jacobian coordinates; `z` 0 is the point at infinity. -/
structure EcPoint where
  x : Nat
  y : Nat
  z : Nat

/-- The generator. -/
def ecBase : EcPoint :=
  ⟨0xAA87CA22BE8B05378EB1C71EF320AD746E1D3B628BA79B9859F741E082542A385502F25DBF55296C3A545E3872760AB7,
    0x3617DE4A96262C6F5D9E98BF9292DC29F8F41DBD289A147CE9DA3113B5F0B8C00A60B1CE1D7E819D7A431D7C90EA0E5F, 1⟩

/-- A difference in the field. -/
def subP (a b : Nat) : Nat := (a + p384 - b) % p384

/-- A point doubled. -/
def EcPoint.double (q : EcPoint) : EcPoint :=
  forced (q.z * q.z % p384) fun dl => forced (q.y * q.y % p384) fun ga => forced (q.x * ga % p384) fun be =>
  forced (3 * subP q.x dl * (q.x + dl) % p384) fun al => forced (subP (al * al) (8 * be % p384)) fun x =>
  forced (subP (al * subP (4 * be) x) (8 * ga * ga % p384)) fun y =>
  forced (subP ((q.y + q.z) * (q.y + q.z)) ((ga + dl) % p384)) fun z => ⟨x, y, z⟩

/-- Two points added. -/
def EcPoint.add (p q : EcPoint) : EcPoint :=
  if p.z = 0 then q else if q.z = 0 then p
  else
    forced (p.z * p.z % p384) fun zp => forced (q.z * q.z % p384) fun zq => forced (p.x * zq % p384) fun u => forced (q.x * zp % p384) fun v =>
    forced (p.y * q.z % p384 * zq % p384) fun s => forced (q.y * p.z % p384 * zp % p384) fun t =>
    forced (subP v u) fun h => forced (subP t s) fun r =>
      if h = 0 then (if r = 0 then p.double else ⟨1, 1, 0⟩)
      else
        forced (h * h % p384) fun hh => forced (h * hh % p384) fun hc => forced (u * hh % p384) fun w =>
        forced (subP (r * r) ((hc + 2 * w) % p384)) fun x => forced (subP (r * subP w x) (s * hc % p384)) fun y =>
        forced (p.z * q.z % p384 * h % p384) fun z => ⟨x, y, z⟩

/-- `u` times `p` and `v` times `q`, from bit `k - 1` down, `b` being their sum. -/
def ecTwice (u v : Nat) (p q b : EcPoint) : Nat → EcPoint → EcPoint
  | 0, a => a
  | k + 1, a =>
    match a.double with
    | ⟨x, y, z⟩ =>
      match (if Nat.testBit u k then (if Nat.testBit v k then EcPoint.add ⟨x, y, z⟩ b else EcPoint.add ⟨x, y, z⟩ p)
        else if Nat.testBit v k then EcPoint.add ⟨x, y, z⟩ q else ⟨x, y, z⟩) with
      | ⟨x, y, z⟩ => ecTwice u v p q b k ⟨x, y, z⟩

/-- `a` to the power of `e`, from bit `k - 1` down. -/
def powMod (m a e : Nat) : Nat → Nat → Nat
  | 0, r => r
  | k + 1, r => forced (if Nat.testBit e k then r * r % m * a % m else r * r % m) (powMod m a e k)

/-- The point lies on the curve. -/
def EcPoint.valid (q : EcPoint) : Bool :=
  Nat.blt q.x p384 && Nat.blt q.y p384 && q.y * q.y % p384 == (q.x * q.x % p384 * q.x + (p384 - 3) * q.x + b384) % p384

/-- ECDSA P-384 over SHA-384: `pub` is x then y, `sig` is r then s, 48 bytes each, big-endian (04 R124, R125). -/
def ecdsaVerifies (pub msg sig : Bytes) : Bool :=
  forced (beNat (pub.take 48)) fun x => forced (beNat ((pub.drop 48).take 48)) fun y =>
  forced (beNat (sig.take 48)) fun r => forced (beNat ((sig.drop 48).take 48)) fun s =>
    let q : EcPoint := ⟨x, y, 1⟩
    if r = 0 || s = 0 || n384 ≤ r || n384 ≤ s || !q.valid then false
    else
      forced (powMod n384 s (n384 - 2) 384 1) fun w => forced (beNat (sha384 msg) * w % n384) fun u => forced (r * w % n384) fun v =>
        match EcPoint.add ecBase q with
        | ⟨bx, by_, bz⟩ => match ecTwice u v ecBase q ⟨bx, by_, bz⟩ 384 ⟨1, 1, 0⟩ with
          | ⟨px, _, pz⟩ => pz != 0 && forced (pz * pz % p384) fun zz =>
            px == r * zz % p384 || (Nat.blt (r + n384) p384 && px == (r + n384) * zz % p384)

/-! ### AES -/

def aesS : List Nat :=
    [0x63, 0x7C, 0x77, 0x7B, 0xF2, 0x6B, 0x6F, 0xC5, 0x30, 0x01, 0x67, 0x2B, 0xFE, 0xD7, 0xAB, 0x76, 0xCA, 0x82, 0xC9, 0x7D, 0xFA, 0x59, 0x47, 0xF0, 0xAD, 0xD4, 0xA2, 0xAF, 0x9C, 0xA4, 0x72, 0xC0,
      0xB7, 0xFD, 0x93, 0x26, 0x36, 0x3F, 0xF7, 0xCC, 0x34, 0xA5, 0xE5, 0xF1, 0x71, 0xD8, 0x31, 0x15, 0x04, 0xC7, 0x23, 0xC3, 0x18, 0x96, 0x05, 0x9A, 0x07, 0x12, 0x80, 0xE2, 0xEB, 0x27, 0xB2, 0x75] ++
    [0x09, 0x83, 0x2C, 0x1A, 0x1B, 0x6E, 0x5A, 0xA0, 0x52, 0x3B, 0xD6, 0xB3, 0x29, 0xE3, 0x2F, 0x84, 0x53, 0xD1, 0x00, 0xED, 0x20, 0xFC, 0xB1, 0x5B, 0x6A, 0xCB, 0xBE, 0x39, 0x4A, 0x4C, 0x58, 0xCF,
      0xD0, 0xEF, 0xAA, 0xFB, 0x43, 0x4D, 0x33, 0x85, 0x45, 0xF9, 0x02, 0x7F, 0x50, 0x3C, 0x9F, 0xA8, 0x51, 0xA3, 0x40, 0x8F, 0x92, 0x9D, 0x38, 0xF5, 0xBC, 0xB6, 0xDA, 0x21, 0x10, 0xFF, 0xF3, 0xD2] ++
    [0xCD, 0x0C, 0x13, 0xEC, 0x5F, 0x97, 0x44, 0x17, 0xC4, 0xA7, 0x7E, 0x3D, 0x64, 0x5D, 0x19, 0x73, 0x60, 0x81, 0x4F, 0xDC, 0x22, 0x2A, 0x90, 0x88, 0x46, 0xEE, 0xB8, 0x14, 0xDE, 0x5E, 0x0B, 0xDB,
      0xE0, 0x32, 0x3A, 0x0A, 0x49, 0x06, 0x24, 0x5C, 0xC2, 0xD3, 0xAC, 0x62, 0x91, 0x95, 0xE4, 0x79, 0xE7, 0xC8, 0x37, 0x6D, 0x8D, 0xD5, 0x4E, 0xA9, 0x6C, 0x56, 0xF4, 0xEA, 0x65, 0x7A, 0xAE, 0x08] ++
    [0xBA, 0x78, 0x25, 0x2E, 0x1C, 0xA6, 0xB4, 0xC6, 0xE8, 0xDD, 0x74, 0x1F, 0x4B, 0xBD, 0x8B, 0x8A, 0x70, 0x3E, 0xB5, 0x66, 0x48, 0x03, 0xF6, 0x0E, 0x61, 0x35, 0x57, 0xB9, 0x86, 0xC1, 0x1D, 0x9E,
      0xE1, 0xF8, 0x98, 0x11, 0x69, 0xD9, 0x8E, 0x94, 0x9B, 0x1E, 0x87, 0xE9, 0xCE, 0x55, 0x28, 0xDF, 0x8C, 0xA1, 0x89, 0x0D, 0xBF, 0xE6, 0x42, 0x68, 0x41, 0x99, 0x2D, 0x0F, 0xB0, 0x54, 0xBB, 0x16]

def subByte (x : Nat) : Nat := aesS.getD x 0

/-- A byte times x in the field. -/
def xtime (x : Nat) : Nat := if x < 128 then 2 * x else Nat.xor (2 * x - 256) 0x1B

/-- Two strings of numbers, bit by bit. -/
def xorAll (a b : List Nat) : List Nat := List.zipWith Nat.xor a b

/-- The key schedule: the words (four bytes) of the expanded key in reverse, `n` of them to come; `nk` is the key's length in words. -/
def aesExpand (nk : Nat) : Nat → Nat → List (List Nat) → List (List Nat)
  | 0, _, w => w
  | n + 1, rc, w =>
    let i := w.length
    let t := w.headD []
    let u := if i % nk = 0 then
        match (t.tail ++ t.take 1).map subByte with
        | a :: r => Nat.xor a rc :: r
        | [] => []
      else if 6 < nk && i % nk = 4 then t.map subByte else t
    forcedAll (xorAll (w.getD (nk - 1) []) u) (fun v => aesExpand nk n (if i % nk = 0 then xtime rc else rc) (v :: w))

/-- The words of a key. -/
def keyWords (key : List Nat) : List (List Nat) := (List.range (key.length / 4)).map (fun i => (key.drop (4 * i)).take 4)

/-- The round keys of a key of 16 or 32 bytes, in order. -/
def aesKeys (key : Bytes) : List (List Nat) :=
  let nk := key.length / 4
  let w := (aesExpand nk (4 * (nk + 7) - nk) 1 (keyWords (key.map (·.toNat))).reverse).reverse.flatten
  (List.range (nk + 7)).map (fun i => (w.drop (16 * i)).take 16)

/-- The rows shifted. -/
def shiftRows (s : List Nat) : List Nat := (List.range 16).map (fun i => s.getD ((5 * i) % 16) 0)

/-- The columns mixed. -/
def mixColumns : List Nat → List Nat
  | a :: b :: c :: d :: r =>
    let t := Nat.xor (Nat.xor a b) (Nat.xor c d)
    let m (x y : Nat) : Nat := Nat.xor (Nat.xor x t) (xtime (Nat.xor x y))
    m a b :: m b c :: m c d :: m d a :: mixColumns r
  | _ => []

/-- The rounds of a block. -/
def aesRounds : List (List Nat) → List Nat → List Nat
  | [], s => s
  | [k], s => xorAll (shiftRows (s.map subByte)) k
  | k :: ks, s => forcedAll (shiftRows (s.map subByte)) (fun t => forcedAll (xorAll (mixColumns t) k) (aesRounds ks))

/-- AES of a block under round keys. -/
def aesBlock (ks : List (List Nat)) (b : List Nat) : List Nat := forcedAll (xorAll b (ks.headD [])) (aesRounds ks.tail)

/-! ### AES-GCM -/

/-- A product in the field of GCM. -/
def gcmMul (y : Nat) : Nat → Nat → Nat → Nat
  | 0, _, z => z
  | k + 1, v, z =>
    forced (if natBit y k then Nat.xor z v else z) fun z =>
    forced (if v % 2 = 1 then Nat.xor (v / 2) (0xE1 * 2 ^ 120) else v / 2) fun v => gcmMul y k v z

/-- GHASH over blocks of 16 bytes. -/
def ghash (h : Nat) : Nat → Bytes → Nat → Nat
  | 0, _, y => y
  | n + 1, b, y => forced (gcmMul (Nat.xor y (beNat (b.take 16))) 128 h 0) (ghash h n (b.drop 16))

/-- A string filled up to whole blocks. -/
def blocks16 (b : Bytes) : Bytes := b ++ List.replicate (roundUp b.length 16 - b.length) 0

/-- The key stream for `n` blocks from a counter block on. -/
def gcmStream (ks : List (List Nat)) (iv : Bytes) (c n : Nat) : List Nat :=
  (List.range n).flatMap (fun i => aesBlock ks ((iv ++ beBytes 4 (c + i)).map (·.toNat)))

def toBytes (l : List Nat) : Bytes := l.map (BitVec.ofNat 8)

/-- A string combined with a key stream. -/
def xorBytes (b : Bytes) (s : List Nat) : Bytes := toBytes (xorAll (b.map (·.toNat)) s)

/-- AES-GCM with a 12-byte IV: the ciphertext, then the 16-byte tag. -/
def gcmSeal (key iv aad plain : Bytes) : Bytes :=
  let ks := aesKeys key
  let c := xorBytes plain (gcmStream ks iv 2 (ceilDiv plain.length 16))
  let b := blocks16 aad ++ blocks16 c ++ beBytes 8 (8 * aad.length) ++ beBytes 8 (8 * c.length)
  let y := ghash (beNat (toBytes (aesBlock ks (List.replicate 16 0)))) (b.length / 16) b 0
  c ++ xorBytes (beBytes 16 y) (gcmStream ks iv 1 1)

/-! ### AES-XTS -/

/-- The tweak of the next block: times x, bytes lowest first. -/
def xtsNext (t : Nat) : Nat := if t < 2 ^ 127 then 2 * t else Nat.xor (2 * t - 2 ^ 128) 0x87

/-- The blocks of a data unit. -/
def xtsBlocks (ks : List (List Nat)) : Nat → Nat → Bytes → Bytes
  | 0, _, _ => []
  | n + 1, t, b =>
    let tw := (wrLE 16 t).map (·.toNat)
    toBytes (xorAll (aesBlock ks (xorAll ((b.take 16).map (·.toNat)) tw)) tw) ++ forced (xtsNext t) (fun u => xtsBlocks ks n u (b.drop 16))

/-- AES-XTS of a data unit of whole blocks (13 R396): the first half of the key encrypts data, the second the data unit's number. -/
def xtsEncrypt (key : Bytes) (unit : Nat) (b : Bytes) : Bytes :=
  let t := rdLE (toBytes (aesBlock (aesKeys (key.drop (key.length / 2))) ((wrLE 16 unit).map (·.toNat)))) 0 16
  xtsBlocks (aesKeys (key.take (key.length / 2))) (b.length / 16) t b

end Sys2Proof.Machine
end

