-- ==== Sys2Proof/Machine/Members.lean ====
section
/-!
DEFINITION. Multicast memberships (03 R71): the table, the reports of joins and leaves, and the answers to queries.
-/
namespace Sys2Proof.Machine

/-- A multicast group address, its first byte lowest. -/
def multicast (ipv6 : Bool) (a : Nat) : Bool := if ipv6 then a % 256 == 255 else within 224 239 (a % 256)

/-- The memberships of a flow record on the ports of both legs. -/
def FlowRec.members (r : FlowRec) : List Member :=
  let leg (p g s v : Nat) : List Member :=
    if multicast r.ipv6 g then [⟨p, r.ipv6, g, if r.sourceSpecific then some s else none, if r.vlan then some v else none⟩] else []
  if r.enable && !r.fromHost then leg r.portA r.groupA r.sourceA r.vlanA ++ (if r.legB then leg r.portB r.groupB r.sourceB r.vlanB else []) else []

/-- The membership table: of the enabled flows, on ports that are UP. A tap port sends no join (09 R272). -/
def Device.members (d : Device) : List Member :=
  ((d.ingest.flows.flatMap (fun e => e.2.recd.members)).filter (fun m => d.lanes.isUp m.port && (d.port m.port).recd.direction != 2)).eraseDups

/-- The bytes of a report of one record, FCS included (assumption 210): IGMPv3 after an IPv4 header with router alert, MLDv2 after IPv6 and hop-by-hop headers. -/
def Member.bytes (m : Member) : Nat :=
  let n := bit01 m.source.isSome
  Nat.max 64 (4 * bit01 m.vlan.isSome + (if m.ipv6 then 14 + 48 + 8 + 20 + 16 * n else 14 + 24 + 8 + 8 + 4 * n) + 4)

/-- Reports are made, and each waits on its port in TC4 (08 R234). -/
def Device.sayMembers (rs : List (Member × Report)) (d : Device) : Device :=
  if rs.isEmpty then d
  else { d with
    sched := { d.sched with ports := rs.foldl (fun m e => Tab.upd m e.1.port PortSched.reset (fun x =>
      { x with waiting := x.waiting ++ [⟨4, 0x4004 + 8 * e.1.port, e.1.bytes, d.now, 0⟩] })) d.sched.ports }
    ingest := { d.ingest with reports := d.ingest.reports + rs.length, said := rs } }

/-- The table has changed since `old`: what is new is joined, and what is gone is left (assumption 210). -/
def Device.reportSince (old : List Member) (d : Device) : Device :=
  let new := d.members
  d.sayMembers ((new.filter (fun m => !old.contains m)).map (·, .join) ++ (old.filter (fun m => !new.contains m)).map (·, .leave))

/-- A query (R71): IPv6 or not, the group asked for (none: every group), and the sources (none: any). -/
structure Query where
  ipv6 : Bool
  group : Option Nat
  sources : List Nat

/-- The query that a frame is: IGMPv3 or MLDv2, at IP payload `b`. Queries of the older versions are shorter, and are none (assumption 210). -/
def queryOf (ipv6 : Bool) (proto : Nat) (b : Bytes) : Option Query :=
  let be (o n : Nat) : Nat := rdLE (((b.drop o).take n).reverse) 0 n
  let q (g w n : Nat) : Query :=
    ⟨ipv6, if rdLE b g w = 0 then none else some (rdLE b g w), (List.range (be n 2)).map (fun i => rdLE b (n + 2 + w * i) w)⟩
  if !ipv6 && proto = 2 && be 0 1 = 0x11 && 12 ≤ b.length then some (q 4 4 10)
  else if ipv6 && proto = 0 && be 0 1 = 58 && be 8 1 = 130 && 36 ≤ b.length then some (q 16 16 34)
  else none

/-- A query asks for a membership. -/
def Query.asks (q : Query) (p : Nat) (m : Member) : Bool :=
  m.port == p && m.ipv6 == q.ipv6 && q.group.all (· == m.group) && (q.sources.isEmpty || m.source.all (q.sources.contains ·))

/-- A query is answered from the table in hardware (R71). -/
def Device.answerQuery (p : Nat) (q : Query) (d : Device) : Device := d.sayMembers ((d.members.filter (q.asks p)).map (·, .current))

/-- MEMBERSHIP_REPORT_REPEAT: one report for each membership. -/
def reportMembers (d : Device) : Device := d.sayMembers (d.members.map (·, .current))

def execMembershipReportRepeat (t : Nat) (s : State) : Host.Outcome State Fault Refusal :=
  .next { s with dev := reportMembers (s.dev.at_ t) }

end Sys2Proof.Machine
end

