-- ==== Sys2Proof/Machine/Wire.lean ====
section
/-!
DEFINITION. A subscriber's copies as they leave (07 R206, R222, R228): the SSRC, SRTP, and the headers around an RTP packet (assumptions 228, 229).
-/
namespace Sys2Proof.Machine

/-! ### RTP -/

/-- An RTP header (R209, R212). -/
def rtpHeader (marker : Bool) (pt seq ts ssrc : Nat) : Bytes :=
  beBytes 1 0x80 ++ beBytes 1 (128 * bit01 marker + pt % 128) ++ beBytes 2 seq ++ beBytes 4 ts ++ beBytes 4 ssrc

/-- The sequence number, timestamp and SSRC of an RTP packet. -/
def rtpSeq (b : Bytes) : Nat := beNat ((b.drop 2).take 2)
def rtpTime (b : Bytes) : Nat := beNat ((b.drop 4).take 4)
def rtpSsrc (b : Bytes) : Nat := beNat ((b.drop 8).take 4)

/-- An RTP packet with another SSRC. -/
def rtpFrom (ssrc : Nat) (b : Bytes) : Bytes := b.take 8 ++ beBytes 4 ssrc ++ b.drop 12

/-! ### SRTP (R228): RFC 3711 and RFC 7714 -/

/-- Bytes combined with others. -/
def xorWith (a b : Bytes) : Bytes := toBytes (xorAll (a.map (·.toNat)) (b.map (·.toNat)))

/-- `n` bytes of the key derivation function for a label, at key derivation rate 0; the salt is filled up to 14 bytes. -/
def srtpDerive (key salt : Bytes) (label n : Nat) : Bytes :=
  let x := xorWith (salt ++ [0, 0]) (beBytes 14 (label * 2 ^ 48))
  (toBytes ((List.range (ceilDiv n 16)).flatMap (fun i => aesBlock (aesKeys key) ((x ++ beBytes 2 i).map (·.toNat))))).take n

/-- An RTP packet protected under a key slot: header, ciphertext and tag, MKI. -/
def srtpSeal (k : KeySlot) (roc : Nat) (b : Bytes) : Bytes :=
  let iv := xorWith (beBytes 12 (rtpSsrc b * 2 ^ 48 + roc % 2 ^ 32 * 2 ^ 16 + rtpSeq b)) (srtpDerive k.key k.salt 2 12)
  b.take 12 ++ gcmSeal (srtpDerive k.key k.salt 0 k.key.length) iv (b.take 12) (b.drop 12) ++ wrLE k.mkiLen k.mki

/-! ### Frames -/

/-- A sum of 16-bit words. -/
def sumBE : Bytes → Nat
  | a :: b :: r => 256 * a.toNat + b.toNat + sumBE r
  | [a] => 256 * a.toNat
  | [] => 0

/-- The Internet checksum. -/
def checksum (b : Bytes) : Nat :=
  let x := sumBE b
  let y := x % 65536 + x / 65536
  65535 - (y % 65536 + y / 65536)

/-- The MAC address of a multicast group. -/
def groupMac (ipv6 : Bool) (a : Bytes) : Bytes :=
  if ipv6 then beBytes 2 0x3333 ++ (a.drop 12).take 4 else beBytes 3 0x01005E ++ beBytes 1 ((a.getD 1 0).toNat % 128) ++ (a.drop 2).take 2

/-- A port's own MAC address (09 Table 9.10). -/
def Device.portMac (p : Nat) (d : Device) : Bytes :=
  let m := (d.port p).recd.mac
  if m = 0 then beBytes 6 (Config.baseMac.toNat + p) else wrLE 6 m

/-- A destination's IP address, and the address that frames to it come from. -/
def SubRec.dst (r : SubRec) : Bytes := wrLE (if r.ipv6 then 16 else 4) r.dstAddr
def Device.srcOf (r : SubRec) (d : Device) : Bytes :=
  let q := (d.port r.port).recd
  wrLE (if r.ipv6 then 16 else 4) (if r.srcAddr != 0 then r.srcAddr else if r.ipv6 then q.ipv6 else q.ipv4)

/-- A UDP datagram; `pseudo` are the addresses that its checksum covers. -/
def udpDatagram (v6 : Bool) (pseudo : Bytes) (src dst : Nat) (b : Bytes) : Bytes :=
  let n := 8 + b.length
  let h (sum : Nat) : Bytes := beBytes 2 src ++ beBytes 2 dst ++ beBytes 2 n ++ beBytes 2 sum
  let c := checksum (pseudo ++ beBytes 4 n ++ beBytes 4 17 ++ h 0 ++ b)
  h (if v6 || Config.udpSum then (if c = 0 then 65535 else c) else 0) ++ b

/-- An IP packet of UDP for a subscriber: `sub` and `packet` number what the spec leaves open. -/
def ipPacket (r : SubRec) (sub packet : Nat) (src b : Bytes) : Bytes :=
  if r.ipv6 then
    beBytes 4 (6 * 2 ^ 28 + 4 * r.dscp * 2 ^ 20 + (Config.flowLabel sub).toNat) ++ beBytes 2 b.length ++ beBytes 1 17 ++ beBytes 1 r.ttl ++ src ++ r.dst ++ b
  else
    let h (sum : Nat) : Bytes := beBytes 1 0x45 ++ beBytes 1 (4 * r.dscp) ++ beBytes 2 (20 + b.length) ++ beBytes 2 (Config.ipIdent sub packet).toNat ++
      beBytes 2 (16384 * bit01 Config.dontFragment) ++ beBytes 1 r.ttl ++ beBytes 1 17 ++ beBytes 2 sum ++ src ++ r.dst
    h (checksum (h 0)) ++ b

/-- An Ethernet frame, from destination MAC address to the end of its payload. -/
def ethernet (r : SubRec) (mac b : Bytes) : Bytes :=
  let dst := if multicast r.ipv6 r.dstAddr then groupMac r.ipv6 r.dst else wrLE 6 r.dstMac
  let tag := if r.vlan then beBytes 2 0x8100 ++ beBytes 2 (8192 * r.pcp + r.vlanId) else []
  let f := dst ++ mac ++ tag ++ beBytes 2 (if r.ipv6 then 0x86DD else 0x0800) ++ b
  f ++ List.replicate (60 - f.length) 0

/-- The frame of a subscriber's copy (R206, R222): column FEC goes to UDP port + 2, row FEC to port + 4. -/
def Device.frameOf (r : SubRec) (sub packet kind : Nat) (rtp : Bytes) (d : Device) : Bytes :=
  let src := d.srcOf r
  ethernet r (d.portMac r.port) (ipPacket r sub packet src (udpDatagram r.ipv6 (src ++ r.dst) r.srcUdp ((r.dstUdp + 2 * kind) % 65536) rtp))

/-- The RTP packet of a copy (R206): media of the video stream has the subscriber's SSRC, where it overrides it. -/
def SubRec.own (r : SubRec) (kind : Nat) (audio : Bool) (b : Bytes) : Bytes := if r.ssrcOverride && kind == 0 && !audio then rtpFrom r.ssrc b else b

end Sys2Proof.Machine
end

