-- ==== Sys2Proof/Machine/HostQueues.lean ====
section
/-!
DEFINITION. The launch calendar's happenings, the frames of the other classes, received frames and the host packet queues
(chapter 8).
-/
namespace Sys2Proof.Machine

def Device.txq (q : Nat) (d : Device) : TxQueue := Tab.read d.sched.tx q TxQueue.reset
def Device.rxq (q : Nat) (d : Device) : RxQueue := Tab.read d.sched.rx q RxQueue.reset
def Device.setTx (q : Nat) (g : TxQueue) (d : Device) : Device := { d with sched := { d.sched with tx := Tab.put q (g.after d.now (d.txq q)) d.sched.tx } }
def Device.setRx (q : Nat) (g : RxQueue) (d : Device) : Device := { d with sched := { d.sched with rx := Tab.put q g d.sched.rx } }

/-- Descriptor `i` of a transmit queue. -/
def Device.txDesc (q i : Nat) (d : Device) : Bytes :=
  let g := d.txq q
  memBytes d.mem.host (descAddr g.addr g.entries i) 32

/-- The host stores descriptors in its ring, from index `i` up. -/
def storeDescs (addr entries : Nat) : Nat → List Bytes → Mem → Mem
  | _, [], m => m
  | i, b :: r, m => storeDescs addr entries (i + 1) r (memStore m (descAddr addr entries i) (b.take 32))

/-! ### Transmit queues -/

/-- The descriptor's LENGTH, flags and launch time (Table 8.7). -/
def descLen (b : Bytes) : Nat := rdLE b 8 2
def descLaunch (b : Bytes) : Bool := natBit (rdLE b 10 1) 0
def descStamp (b : Bytes) : Bool := natBit (rdLE b 10 1) 1

/-- A descriptor is BAD_DESC (R254, R265). -/
def descBad (cls mtu now : Nat) (b : Bytes) : Bool :=
  4 ≤ rdLE b 10 1 || rdLE b 12 4 != 0 || !within 60 9216 (descLen b) || mtu < descLen b || descLaunch b != (cls == 6)
    || (descLaunch b && (!timeWordOk b 16 || now + second < timeOfWord b 16))

/-- Descriptors that will not be sent leave the front of a queue: those of a port that is down are DROPPED_LINK (R259), bad
ones BAD_DESC (R254). -/
def sweepTx (q : Nat) : Nat → Device → Device
  | 0, d => d
  | n + 1, d =>
    let g := d.txq q
    match g.next with
    | none => d
    | some i =>
      let st := if !d.lanes.isUp g.port then 6 else if descBad g.cls (d.port g.port).recd.mtu d.now (d.txDesc q i) then 4 else 0
      if st = 0 then d
      else sweepTx q n ((d.setTx q { g with fetched := (i + 1) % 2 ^ 32 }).txDone q i st 0)

/-- A queue's front is swept. -/
def Device.sweep (q : Nat) (d : Device) : Device := sweepTx q (d.txq q).entries d

/-- The queues of a port. -/
def Device.txOf (p : Nat) (d : Device) : List Nat := (d.sched.tx.filter (fun e => e.2.enable && e.2.port == p)).map (·.1)

/-- HOSTQ_TX_DOORBELL (R256, R258): a TAIL more than ENTRIES ahead of HEAD is ignored, with ERROR_CODE 4. `descs` is what the
host stored in its ring before it wrote TAIL. -/
def txDoorbell (q tail : Nat) (descs : List Bytes) (d : Device) : Device :=
  let g := d.txq q
  let d1 := { d with mem := { d.mem with host := storeDescs g.addr g.entries g.tail descs d.mem.host } }
  if g.entries < idxAhead g.head tail then d1.setTx q { g with error := true, errorCode := 4 }
  else (d1.setTx q { g with tail := tail, eligible := if g.hold then g.eligible else tail }).sweep q

def execHostqTxDoorbell (t : Nat) (queue : Fin 64) (tail : BitVec 32) (descs : List Bytes) (s : State) :
    Host.Outcome State Fault Refusal :=
  .next { s with dev := txDoorbell queue tail.toNat descs (s.dev.at_ t) }

/-- HOSTQ_RX_DOORBELL (R258). -/
def rxDoorbell (q tail : Nat) (descs : List Bytes) (d : Device) : Device :=
  let g := d.rxq q
  let d1 := { d with mem := { d.mem with host := storeDescs g.addr g.entries g.tail descs d.mem.host } }
  if g.entries < idxAhead g.head tail then d1.setRx q { g with error := true, errorCode := 4 }
  else d1.setRx q { g with tail := tail }

def execHostqRxDoorbell (t : Nat) (queue : Fin 64) (tail : BitVec 32) (descs : List Bytes) (s : State) :
    Host.Outcome State Fault Refusal :=
  .next { s with dev := rxDoorbell queue tail.toNat descs (s.dev.at_ t) }

/-- Every descriptor from `i` on is FLUSHED (R259). -/
def flushTx (q i : Nat) : Nat → Device → Device
  | 0, d => d
  | n + 1, d => flushTx q (i + 1) n (d.txDone q (i % 2 ^ 32) 5 0)

/-- A transmit queue stops: what it has not fetched is FLUSHED; frames already placed still launch. -/
def Device.disableTx (q : Nat) (d : Device) : Device :=
  let g := d.txq q
  flushTx q g.fetched (idxAhead g.fetched g.tail) (d.setTx q { g with enable := false, fetched := g.tail, eligible := g.tail })

/-- ENTRIES is a power of two from 64 to 65 536. -/
def ringSizeOk (n : Nat) : Bool := (List.range 11).any (fun k => n == 64 * 2 ^ k)

/-- HOSTQ_TX_SET (R234, R259, R261, R272). -/
def hostqTxSet : CmdSpec where
  op := 0x0507
  reserved := [(16, 24)]
  check c d :=
    let g := d.txq c.handle
    let cls := c.p 14 1
    firstOf [
      badParam (64 ≤ c.handle || c.p 0 8 % 64 != 0 || !ringSizeOk (c.p 8 4) || 4 ≤ c.p 12 1 || 32 ≤ c.p 13 1
        || !(cls ≤ 4 || cls == 6) || 64 ≤ c.p 15 1 || (cls == 6 && c.p 15 1 != 0)
        || (d.port (c.p 13 1)).recd.direction == 2),
      portCheck (c.p 13 1) d,
      badState (g.enable && (g.addr != c.p 0 8 || g.entries != c.p 8 4)) 0]
  apply c d :=
    let q := c.handle
    let on := natBit (c.p 12 1) 0
    let d1 := if (d.txq q).enable && !on then d.disableTx q else d
    let g := d1.txq q
    let hold := natBit (c.p 12 1) 1
    Done.ok (d1.setTx q { g with
      addr := c.p 0 8, entries := c.p 8 4, enable := on, hold := hold, port := c.p 13 1, cls := c.p 14 1, group := c.p 15 1,
      eligible := if hold then g.eligible else g.tail })

/-- HOSTQ_RX_SET (R261). -/
def hostqRxSet : CmdSpec where
  op := 0x0508
  reserved := [(16, 24)]
  check c d :=
    let g := d.rxq c.handle
    orElse (badParam (64 ≤ c.handle || c.p 0 8 % 64 != 0 || !ringSizeOk (c.p 8 4) || 2 ≤ c.p 12 1 || c.p 13 3 != 0))
      (badState (g.enable && (g.addr != c.p 0 8 || g.entries != c.p 8 4)) 0)
  apply c d :=
    Done.ok (d.setRx c.handle { d.rxq c.handle with addr := c.p 0 8, entries := c.p 8 4, enable := natBit (c.p 12 1) 0 })

def parseFilter (c : Ctx) : RxFilter :=
  ⟨c.p 0 4, c.p 4 1, c.p 5 1, c.p 6 2, c.p 8 2, c.p 10 1, c.p 11 1, c.p 12 2, c.p 14 2, c.p 16 16⟩

/-- RX_FILTER_SET (R257). PORT_MASK 0 disables the filter; one that names a feed port is accepted and never matches there (R272). -/
def rxFilterSet : CmdSpec where
  op := 0x0509
  reserved := [(32, 8)]
  check c _ :=
    let r := parseFilter c
    badParam (256 ≤ c.handle || 64 ≤ r.matches_ || (natBit r.matches_ 1 && !within 1 4094 r.vlanId) || 64 ≤ r.queue
      || (4 ≤ r.policer && r.policer != 0xFF) || (natBit r.matches_ 4 && r.udpHi < r.udpLo))
  apply c d :=
    let r := parseFilter c
    let fs := if r.portMask = 0 then Tab.del c.handle d.sched.filters else Tab.put c.handle r d.sched.filters
    Done.ok { d with sched := { d.sched with filters := fs } }

/-! ### The calendar's happenings -/

/-- Host TC6 frames of a queue whose nominal time enters the placement window, as copies; what would be placed less than 1 µs
before its time is DROPPED_LATE (R254). -/
def fetchTc6 (q : Nat) : Nat → Device → Device × List Copy
  | 0, d => (d, [])
  | n + 1, d0 =>
    let d := d0.sweep q
    let g := d.txq q
    match g.next with
    | none => (d, [])
    | some i =>
      let b := d.txDesc q i
      let nominal := Nat.max (timeOfWord b 16) g.lastTime
      if nominal ≤ d.now + calendarLead then
        let d1 := d.setTx q { g with fetched := (i + 1) % 2 ^ 32, lastTime := nominal }
        if nominal < d.now + usec then fetchTc6 q n (d1.txDone q i 2 0)
        else
          let r := fetchTc6 q n d1
          (r.1, ⟨nominal, 512, q, 3, i, descLen b + 4, false, nominal, none⟩ :: r.2)
      else (d, [])

/-- Every TC6 queue of the port fetches. -/
def fetchAll : List Nat → Device → Device × List Copy
  | [], d => (d, [])
  | q :: r, d =>
    let a := fetchTc6 q (d.txq q).entries d
    let b := fetchAll r a.1
    (b.1, a.2 ++ b.2)

/-- CALENDAR_ENTRY (R238): copies whose nominal time is 250 µs away are placed, in order. -/
def calendarEntry (p : Nat) (d : Device) : Device :=
  let x := d.sched.port p
  let now := d.now
  let ripe := x.due.filter (fun c => c.nominal ≤ now + calendarLead)
  let d1 := d.setSched p { x with due := x.due.filter (fun c => !(c.nominal ≤ now + calendarLead)) }
  let f := fetchAll ((d1.txOf p).filter (fun q => (d1.txq q).cls == 6)) d1
  (sortCopies (ripe ++ f.2)).foldl (fun d c => d.place p c) f.1

/-- A key switch that has come (R229): the first packet launched at or after EFFECT uses the new slot. -/
def Subscriber.switchKey (launch : Nat) (x : Subscriber) : Subscriber × Bool :=
  match x.effect with
  | some (slot, at_) => if at_ ≤ launch then ({ x with inUse := slot, effect := none, packetsKey := 0, told46 := false }, true) else (x, false)
  | none => (x, false)

/-- A sequence number after another has wrapped. -/
def wrapped (last seq : Nat) : Bool := seq < last && 32768 < last - seq

/-- The stream a copy belongs to: its SSRC, above them the FEC streams. -/
def Copy.stream (c : Copy) : Nat := match c.sent with
  | some (_, b) => if c.kind = 0 then rtpSsrc b else c.kind * 2 ^ 32
  | none => 0

/-- A copy is video of its service, whose sequence numbers the ROC counts (R228). -/
def Copy.video (c : Copy) : Bool := c.kind == 0 && !c.audio

/-- One packet of a subscriber goes out (R228): the ROC counts wraps of the service's sequence number, and an audio or FEC stream's ROC of its own. -/
def Subscriber.launch (now : Nat) (c : Copy) (x : Subscriber) : Subscriber :=
  let wraps := match x.lastSeq with | some (s, l) => s == c.service && wrapped l c.seq | none => false
  let o := (Tab.find c.stream x.others).getD (0, c.seq)
  { x with
    sent := satAdd max64 x.sent 1
    packetsKey := x.packetsKey + 1
    told46 := x.told46 || 2 ^ 46 ≤ x.packetsKey + 1
    roc := if c.video && wraps then x.roc + 1 else x.roc
    lastSeq := if c.video then some (c.service, c.seq) else x.lastSeq
    others := if c.video then x.others else Tab.put c.stream (o.1 + bit01 (wrapped o.2 c.seq), c.seq) x.others
    firstLaunch := some (x.firstLaunch.getD now) }

/-- The ROC of a packet that has gone out. -/
def Subscriber.rocOf (c : Copy) (x : Subscriber) : Nat := if c.video then x.roc else ((Tab.find c.stream x.others).getD (0, 0)).1

/-- The key slot in use. -/
def Subscriber.key (x : Subscriber) : KeySlot := if x.inUse = 0 then x.slot0 else x.slot1

/-- A copy's frame as it leaves: with the subscriber's SSRC, under SRTP, in its headers (R206, R222, R228). -/
def Device.frameFor (c : Copy) (x : Subscriber) (d : Device) : Bytes := match c.sent with
  | none => []
  | some (r, b) =>
    let own := r.own c.kind c.audio b
    d.frameOf r c.sub x.sent c.kind (if r.srtp then srtpSeal x.key (x.rocOf c) own else own)

/-- A subscriber's copy launches (R228, R229, R259): a port that is down loses it, and so does a key past 2^48 packets, or SRTP without
a key (assumption 15). -/
def launchSub (p : Nat) (e : Placed) (d : Device) : Device :=
  match Tab.find e.copy.sub d.out.subs with
  | none => d
  | some x0 =>
    let k := x0.switchKey e.placed
    let x := k.1
    let d1 := { d with out := { d.out with subs := Tab.put e.copy.sub x d.out.subs } }
    let d2 := if k.2 then d1.raise [(482, det2 e.copy.sub x.inUse)] else d1
    let srtp := (e.copy.sent.map (·.1.srtp)).getD x.recd.srtp
    if !d.lanes.isUp p || (srtp && (2 ^ 48 ≤ x.packetsKey || !x.key.used)) then d2.dropSub e.copy.sub
    else
      let y := x.launch e.placed e.copy
      { d2 with
        out := { d2.out with subs := Tab.put e.copy.sub y d2.out.subs }
        lanes := { d2.lanes with ports := Tab.upd d2.lanes.ports p Port.reset (fun z => { z with framesTx := satAdd max64 z.framesTx 1 }) }
        sched := { d2.sched with ports := Tab.upd d2.sched.ports p PortSched.reset (fun z => { z with
          copies := satAdd max64 z.copies 1, wire := d2.frameFor e.copy y }) } }.raise
        (if srtp && !x.told46 && y.told46 then [(483, e.copy.sub)] else [])

/-- The frame of descriptor `i` of a transmit queue. -/
def Device.txFrame (q i : Nat) (d : Device) : Bytes :=
  let b := d.txDesc q i
  memBytes d.mem.host (rdLE b 0 8) (descLen b)

/-- A host TC6 frame launches: SENT with its egress timestamp (R255), or DROPPED_LINK (R259). A queue that a reset has
disabled gets no write-back (R259). -/
def launchHost (p : Nat) (e : Placed) (d : Device) : Device :=
  let q := e.copy.sub
  let i := e.copy.seq
  let live := idxAhead (d.txq q).head i < idxAhead (d.txq q).head (d.txq q).fetched
  if !d.lanes.isUp p then (if live then d.txDone q i 6 0 else d)
  else
    let stamp := if descStamp (d.txDesc q i) then e.placed + d.latency true p (typeRate (d.lanes.slot p)) else 0
    let d1 := { d with
      lanes := { d.lanes with ports := Tab.upd d.lanes.ports p Port.reset (fun z => { z with framesTx := satAdd max64 z.framesTx 1 }) }
      sched := { d.sched with ports := Tab.upd d.sched.ports p PortSched.reset (fun z => { z with
        copies := satAdd max64 z.copies 1, wire := d.txFrame q i }) } }
    if live then d1.txDone q i 1 stamp else d1

/-- COPY_LAUNCH (R243): the first copy of the calendar launches at its placed time. -/
def copyLaunch (p : Nat) (d : Device) : Device :=
  let x := d.sched.port p
  match x.calendar with
  | [] => d
  | e :: r =>
    if d.due e.placed then
      let d1 := d.setSched p { x with calendar := r, busyUntil := Nat.max x.busyUntil e.finish }
      if e.copy.kind = 3 then launchHost p e d1 else launchSub p e d1
    else d

/-! ### Frames of the other classes (R236, R237) -/

/-- A frame that could start: its class, its group node and leaf, its bytes with FCS, and, for a host queue, its index. -/
structure Cand where
  cls : Nat
  group : Nat
  leaf : Nat
  bytes : Nat
  host : Option (Nat × Nat)

/-- The group node of a frame the module made: its port's management comes before the queue groups (R234). -/
def Waiting.group (x : Waiting) : Nat := x.node

/-- The path of a candidate (Table 8.2). -/
def Cand.path (p : Nat) (c : Cand) : List Nat := [c.leaf, c.group, nodeClass p c.cls]

/-- A frame of management firmware: PTP in TC7 or, ahead of the queue groups, one in TC4 (R234). No rotation serves it. -/
def Cand.managed (c : Cand) : Bool := c.host.isNone && c.cls != 5

/-- The head frames of a port: of its own waiting frames (the first of each node) and of its host queues outside TC6. -/
def Device.heads (p : Nat) (d : Device) : List Cand :=
  let own := (d.sched.port p).waiting.foldl (fun l w => if l.any (fun c => c.leaf == w.node && c.cls == w.cls) then l
    else l ++ [(⟨w.cls, w.node, w.node, w.bytes, none⟩ : Cand)]) []
  let host := ((d.txOf p).filter (fun q => (d.txq q).cls != 6)).filterMap (fun q =>
    let g := d.txq q
    g.next.map (fun i => (⟨g.cls, nodeGroup g.group, nodeTx q, descLen (d.txDesc q i) + 4, some (q, i)⟩ : Cand)))
  own ++ host

/-- The time of the next placed copy of a port. -/
def PortSched.nextPlaced (x : PortSched) : Option Nat := x.calendar.head?.map (·.placed)

/-- The launch guard lets a frame of this wire time start (R242). -/
def PortSched.guardOk (x : PortSched) (now wire : Nat) : Bool :=
  match x.nextPlaced with
  | none => true
  | some t => now + wire ≤ t

/-- Gate and shapers let the frame start (R236, conditions 1 and 3). -/
def Device.candReady (p : Nat) (c : Cand) (d : Device) : Bool :=
  (d.sched.port p).gateOpen c.cls d.now (wireTime c.bytes (d.lanes.kbps p)) && pathEligible (c.path p) d.now d.sched.shapers

/-- Every condition but the choice within the class (R236). -/
def Device.candMay (p : Nat) (c : Cand) (d : Device) : Bool :=
  d.candReady p c && (d.sched.port p).guardOk d.now (wireTime c.bytes (d.lanes.kbps p))

/-- A node's quantum (R237). -/
def SchedState.quantum (x : SchedState) (n : Nat) : Nat := Tab.read x.quanta n 9216

/-- The nodes of a rotation from the one after `last` on, then round again; the node that is served goes on first. -/
def rotation (last : Option Nat) (ns : List Nat) : List Nat :=
  match last with
  | none => ns
  | some k => ns.filter (fun n => k < n) ++ ns.filter (fun n => n ≤ k)

/-- The rotation goes on until a node's head frame fits its deficit (R237). `len` gives the head frame of a node that may
send. -/
def dwrrTurn (quantum len : Nat → Nat) : Nat → List Nat → Tab Nat → Option (Nat × Tab Nat)
  | 0, _, _ => none
  | _, [], _ => none
  | fuel + 1, n :: r, df =>
    let x := Tab.read df n 0 + quantum n
    let df' := Tab.put n x df
    if len n ≤ x then some (n, df') else dwrrTurn quantum len fuel (r ++ [n]) df'

/-- DWRR among nodes that may send, in ascending order: the node last served goes on while its head frame fits (R237). The answer is
the node and the deficits before the frame is charged. -/
def dwrrPick (x : SchedState) (parent : Nat) (len : Nat → Nat) (ns : List Nat) : Option (Nat × Tab Nat) :=
  let last := Tab.find parent x.turns
  match last with
  | some n => if ns.contains n && len n ≤ Tab.read x.deficits n 0 then some (n, x.deficits)
      else dwrrTurn x.quantum len 4096 (rotation last ns) x.deficits
  | none => dwrrTurn x.quantum len 4096 (rotation last ns) x.deficits

/-- The distinct numbers of a list, ascending. -/
def ascending (l : List Nat) : List Nat :=
  l.foldl (fun (a : List Nat) n => if a.contains n then a else a.filter (· < n) ++ n :: a.filter (n < ·)) []

/-- The leaf a group would send from, with its frame: the DWRR of the leaves. -/
def groupHead (x : SchedState) (cs : List Cand) (g : Nat) : Option (Cand × Tab Nat) :=
  let mine := cs.filter (fun c => c.group == g)
  let len n := ((mine.find? (fun c => c.leaf == n)).map (·.bytes)).getD 0
  match dwrrPick x g len (ascending (mine.map (·.leaf))) with
  | none => none
  | some (n, df) => (mine.find? (fun c => c.leaf == n)).map (fun c => (c, df))

/-- The frame a class sends, and the deficits before it is charged: management before the queue groups in TC4 (R234), PTP in
order, the clean-programme outputs and the groups by DWRR. -/
def classPick (p : Nat) (x : SchedState) (cs : List Cand) : Option (Cand × Tab Nat) :=
  match cs.find? (·.managed) with
  | some c => some (c, x.deficits)
  | none =>
    match cs with
    | [] => none
    | c0 :: _ =>
      let gs := ascending (cs.map (·.group))
      let len g := ((groupHead x cs g).map (fun r => r.1.bytes)).getD 0
      match dwrrPick x (nodeClass p c0.cls) len gs with
      | none => none
      | some (g, df) =>
        match groupHead x cs g with
        | none => none
        | some (c, df2) =>
          some (c, if c.leaf = c.group then df else Tab.put g (Tab.read df g 0) (Tab.put c.leaf (Tab.read df2 c.leaf 0) df2))

/-- The frame that starts: of the highest class in which a frame may (R236, condition 4). -/
def Device.pickFrame (p : Nat) (d : Device) : Option (Cand × Tab Nat) :=
  let cs := (d.heads p).filter (fun c => d.candMay p c)
  ([7, 5, 4, 3, 2, 1, 0].map (fun k => classPick p d.sched (cs.filter (fun c => c.cls == k)))).foldl
    (fun o r => match o with | none => r | some x => some x) none

/-- The deficits after a frame is sent: charged with its length, and 0 where the node has emptied (R237). -/
def chargeDeficit (n bytes : Nat) (empties : Bool) (df : Tab Nat) : Tab Nat :=
  Tab.put n (if empties then 0 else Tab.read df n 0 - bytes) df

/-- The first waiting frame of a node waits as such from now on. -/
def firstWaits (now cls node : Nat) : List Waiting → List Waiting
  | [] => []
  | w :: r => if w.cls = cls ∧ w.node = node then { w with ready := Nat.max now w.ready } :: r else w :: firstWaits now cls node r

/-- The first waiting frame of a node is taken away, and the one behind it is the first. -/
def dropFirst (now cls node : Nat) : List Waiting → List Waiting
  | [] => []
  | w :: r => if w.cls = cls ∧ w.node = node then firstWaits now cls node r else w :: dropFirst now cls node r

/-- A frame leaves its queue: a host frame's descriptor is fetched, the module's own frame stops waiting; a Delay_Req's departure is timestamped (02 R55). -/
def Device.leaveQueue (p : Nat) (c : Cand) (d : Device) : Device :=
  match c.host with
  | some (q, i) => d.setTx q { d.txq q with fetched := (i + 1) % 2 ^ 32 }
  | none =>
    let tag := (((d.sched.port p).waiting.find? (fun w => w.cls == c.cls && w.node == c.leaf)).map (·.tag)).getD 0
    (d.setSched p { d.sched.port p with waiting := dropFirst d.now c.cls c.leaf (d.sched.port p).waiting }).setTime (d.time.reqLeaves tag)

/-- The node has no frame left on the port. -/
def Device.nodeEmpty (p n : Nat) (d : Device) : Bool := !(d.heads p).any (fun c => c.leaf == n || c.group == n)

/-- A frame starts: shapers and deficits are charged, and it is SENT (R245, R237, R255). -/
def Device.startFrame (p : Nat) (c : Cand) (df : Tab Nat) (d : Device) : Device :=
  let wire := wireTime c.bytes (d.lanes.kbps p)
  let d1 := d.leaveQueue p c
  let e1 := d1.nodeEmpty p c.leaf
  let e2 := d1.nodeEmpty p c.group
  let df1 := chargeDeficit c.leaf c.bytes e1 df
  let df2 := if c.leaf = c.group then df1 else chargeDeficit c.group c.bytes e2 df1
  let x := d1.sched.port p
  let d2 := { d1 with
    sched := { d1.sched with
      ports := Tab.put p { x with
        busyUntil := d.now + wire, guarded := x.guarded.filter (· != c.leaf)
        wire := match c.host with | some (q, i) => d.txFrame q i | none => x.wire } d1.sched.ports
      shapers := chargeAll c.bytes d.now (c.path p) d1.sched.shapers
      deficits := if c.managed then d1.sched.deficits else df2
      turns := if c.managed then d1.sched.turns else Tab.put (nodeClass p c.cls) c.group (Tab.put c.group c.leaf d1.sched.turns) }
    lanes := { d1.lanes with ports := Tab.upd d1.lanes.ports p Port.reset (fun z => { z with framesTx := satAdd max64 z.framesTx 1 }) }
    out := if within 0x2100 0x213F c.leaf && c.host.isNone then
        { d1.out with progSent := Tab.upd d1.out.progSent (c.leaf - 0x2100) 0 (fun n => satAdd max64 n 1) }
      else d1.out }
  match c.host with
  | none => d2
  | some (q, i) => d2.txDone q i 1 (if descStamp (d.txDesc q i) then d.now + d.latency true p (typeRate (d.lanes.slot p)) else 0)

/-- PORT_FRAME_START (R236): a frame that passes gate, guard and shapers starts on an idle port; a frame that the guard alone
holds is counted once (R242). -/
def portFrameStart (p : Nat) (d : Device) : Device :=
  let d1 := ((d.txOf p).filter (fun q => (d.txq q).cls != 6)).foldl (fun d q => d.sweep q) d
  let x := d1.sched.port p
  if !d1.lanes.isUp p || d1.now < x.busyUntil then d1
  else
    let held := ((d1.heads p).filter (fun c => d1.candReady p c && !d1.candMay p c && !x.guarded.contains c.leaf)).map (·.leaf)
    let d2 := d1.setSched p { x with guardHolds := satAdd max64 x.guardHolds held.length, guarded := x.guarded ++ held }
    match d2.pickFrame p with
    | none => d2
    | some (c, df) => d2.startFrame p c df

def execPortFrameStart (t : Nat) (port : Fin 32) (s : State) : Host.Outcome State Fault Refusal :=
  .next { s with dev := portFrameStart port (s.dev.at_ t) }

/-- The moment from which a candidate has waited at the head of its node (R249). -/
def Device.headSince (p : Nat) (c : Cand) (d : Device) : Nat := match c.host with
  | some (q, _) => (d.txq q).since
  | none => (((d.sched.port p).waiting.find? (fun w => w.cls == c.cls && w.node == c.leaf)).map (·.ready)).getD 0

/-- A head frame has waited a whole cycle of a list (R249). -/
def Device.waitedCycle (p : Nat) (l : GateList) (c : Cand) (d : Device) : Bool := d.due (Nat.max l.start (d.headSince p c) + l.cycleNs * nsec)

/-- GATE_CYCLE_DROP (R249): the head frame of a node that has waited a whole cycle, no open interval of which can hold it. -/
def gateCycleDrop (p node : Nat) (d : Device) : Device :=
  match (d.sched.port p).oper, (d.heads p).find? (fun c => c.leaf == node) with
  | some l, some c =>
    if l.neverFits c.cls (wireTime c.bytes (d.lanes.kbps p)) && d.waitedCycle p l c then
      let d1 := d.leaveQueue p c
      let d2 := { d1 with
        sched := { d1.sched with nodeDrops := Tab.upd d1.sched.nodeDrops node 0 (fun n => satAdd max64 n 1) }
        out := if within 0x2100 0x213F node && c.host.isNone then
            { d1.out with progDropped := Tab.upd d1.out.progDropped (node - 0x2100) 0 (fun n => satAdd max64 n 1) }
          else d1.out }
      let d3 := match c.host with
        | some (q, i) => d2.txDone q i 3 0
        | none => d2
      d3.raise [(488, p)]
    else d
  | _, _ => d

def execGateCycleDrop (t : Nat) (port : Fin 32) (node : Nat) (s : State) : Host.Outcome State Fault Refusal :=
  .next { s with dev := gateCycleDrop port node (s.dev.at_ t) }

/-! ### Received frames (R252, R253, R257) -/

/-- A big-endian number of `n` bytes in a frame. -/
def rdBE (b : Bytes) (off : Nat) : Nat → Nat
  | 0 => 0
  | n + 1 => 256 ^ n * (b.getD off 0).toNat + rdBE b (off + 1) n

/-- The header fields that filters and flows look at. -/
structure FrameHead where
  etherType : Nat
  vlan : Option Nat
  ipv6 : Bool
  ip : Bool
  proto : Nat
  dst : Nat
  src : Nat
  udp : Option Nat

/-- The header of a frame from its destination MAC on: at most one VLAN tag (R264). -/
def frameHead (b : Bytes) : FrameHead :=
  let tag := rdBE b 12 2 == 0x8100
  let o := if tag then 18 else 14
  let et := rdBE b (o - 2) 2
  let v4 := et == 0x0800
  let v6 := et == 0x86DD
  let proto := if v4 then rdBE b (o + 9) 1 else if v6 then rdBE b (o + 6) 1 else 0
  let l4 := if v4 then o + 4 * (rdBE b o 1 % 16) else o + 40
  { etherType := et, vlan := if tag then some (rdBE b 14 2 % 4096) else none, ipv6 := v6, ip := v4 || v6, proto := proto,
    dst := if v4 then rdLE b (o + 16) 4 else if v6 then rdLE b (o + 24) 16 else 0,
    src := if v4 then rdLE b (o + 12) 4 else if v6 then rdLE b (o + 8) 16 else 0,
    udp := if (v4 || v6) && proto == 17 then some (rdBE b (l4 + 2) 2) else none }

/-- What follows the IP header of a frame. -/
def ipPayload (b : Bytes) : Bytes :=
  let o := if rdBE b 12 2 == 0x8100 then 18 else 14
  b.drop (if rdBE b (o - 2) 2 == 0x0800 then o + 4 * (rdBE b o 1 % 16) else o + 40)

/-- A frame matches an enabled ingest flow leg: media (R252). -/
def FlowRec.takes (r : FlowRec) (p : Nat) (h : FrameHead) : Bool :=
  let leg (port group udp : Nat) := port == p && h.ip && h.ipv6 == r.ipv6 && h.dst == group && h.udp == some udp
  r.enable && !r.fromHost && (leg r.portA r.groupA r.udpA || (r.legB && leg r.portB r.groupB r.udpB))

/-- A PTP message (R46): its EtherType or its UDP ports, on a port of a configured domain. -/
def FrameHead.ptp (h : FrameHead) : Bool := h.etherType == 0x88F7 || h.udp == some 319 || h.udp == some 320

/-- A filter matches (R257): its port mask and every field MATCH names. -/
def RxFilter.hits (f : RxFilter) (p : Nat) (h : FrameHead) : Bool :=
  natBit f.portMask p && (!natBit f.matches_ 0 || h.etherType == f.etherType)
    && (!natBit f.matches_ 1 || h.vlan == some f.vlanId) && (!natBit f.matches_ 2 || (h.ip && h.proto == f.proto))
    && (!natBit f.matches_ 3 || (h.ip && h.ipv6 == natBit f.matches_ 5 && h.dst == f.dstAddr % (if h.ipv6 then 2 ^ 128 else 2 ^ 32)))
    && (!natBit f.matches_ 4 || (match h.udp with | some u => f.udpLo ≤ u && u ≤ f.udpHi | none => false))
    && (!natBit f.matches_ 5 || h.ipv6)

/-- The first filter, in ascending order, that a frame matches. -/
def SchedState.filterOf (x : SchedState) (p : Nat) (h : FrameHead) : Option (Nat × RxFilter) := x.filters.find? (fun e => e.2.hits p h)

/-- A frame bound for receive queue `q` is dropped and counted: E491 at most once a second (R257). -/
def Device.rxDrop (q : Nat) (d : Device) : Device :=
  let g := d.rxq q
  let tell := oncePerSecond g.lastE491 d.now
  (d.setRx q { g with dropped := satAdd max64 g.dropped 1, lastE491 := if tell then some d.now else g.lastE491 }).raise
    ((dtIndex (200 + q), 0) :: (if tell then [(491, q)] else []))

/-- What the module writes in a receive descriptor (Table 8.8). -/
def rxWb (desc : Bytes) (len p filter flags time : Nat) : Bytes :=
  desc.take 10 ++ wrLE 2 len ++ wrLE 1 1 ++ wrLE 1 p ++ wrLE 1 filter ++ wrLE 1 flags ++ timeWordBytes time

/-- A frame is delivered to a receive queue (R257), or dropped for want of room; while the link is down it is dropped and
counted in DT6 as well (R37). -/
def Device.deliver (p q filter : Nat) (yellow : Bool) (b : Bytes) (d : Device) : Device :=
  let g := d.rxq q
  let a := descAddr g.addr g.entries g.head
  let desc := memBytes d.mem.host a 32
  if !d.dmaUp then (d.rxDrop q).raise [(dtIndex 6, 0)]
  else if !g.enable || idxAhead g.head g.tail = 0 || rdLE desc 8 2 < b.length then d.rxDrop q
  else
    let stamp := d.now - d.latency false p (typeRate (d.lanes.slot p))
    let m := memStore (memStore d.mem.host (rdLE desc 0 8) b) a (rxWb desc b.length p filter (bit01 yellow) stamp)
    { d with mem := { d.mem with host := m } }.setRx q
      { g with head := (g.head + 1) % 2 ^ 32, seen := g.seen + 1, received := satAdd max64 g.received 1 }

/-- The queue is less than half full (R253): fewer than half its descriptors are filled and not posted again. -/
def RxQueue.belowHalf (g : RxQueue) : Bool := 2 * (g.entries - idxAhead g.head g.tail) < g.entries

/-- A red drop (R253): E489 after a second without one. -/
def Device.redDrop (p : Nat) (d : Device) : Device :=
  let x := d.sched.port p
  (d.setSched p { x with redDrops := satAdd max64 x.redDrops 1, lastRed := some d.now }).raise
    (if oncePerSecond x.lastRed d.now then [(489, p)] else [])

/-- A non-media frame is filtered, policed and delivered (R252, R253, R257). -/
def Device.rxHost (p : Nat) (h : FrameHead) (b : Bytes) (d : Device) : Device :=
  let x := d.sched.port p
  let hit := d.sched.filterOf p h
  let pol := match hit with
    | some (_, f) => if f.policer = 0xFF then none else some f.policer
    | none => some 0
  let m : Colour × Device := match pol with
    | none => (.green, d)
    | some k =>
      let r := (Tab.read x.policers k Policer.off).meter d.now b.length
      (r.1, d.setSched p { x with policers := Tab.put k r.2 x.policers })
  match m.1 with
  | .red => m.2.redDrop p
  | colour =>
    let yellow := colour == Colour.yellow
    match hit with
    | none => { m.2 with sched := { m.2.sched with toFirmware := m.2.sched.toFirmware + 1 } }
    | some (n, f) =>
      if yellow && !(m.2.rxq f.queue).belowHalf then
        let y := m.2.sched.port p
        m.2.setSched p { y with yellowDrops := satAdd max64 y.yellowDrops 1 }
      else m.2.deliver p f.queue n yellow b

/-- RX_FRAME_RECEIVED: `frame` is the frame from destination MAC to the end of payload. A PAUSE or PFC frame is discarded (R264), and
so is one beyond the MTU (R265); media and PTP frames have rows of their own. A membership query is answered as well (03 R71). -/
def rxFrame (p : Nat) (b : Bytes) (d : Device) : Device :=
  let x := d.port p
  let h := frameHead b
  if !d.lanes.isUp p || x.recd.direction = 1 then d
  else
    let d1 := d.setPort p { x with
      framesRx := satAdd max64 x.framesRx 1
      pauseRx := if h.etherType = 0x8808 then satAdd max64 x.pauseRx 1 else x.pauseRx
      oversize := if h.etherType != 0x8808 && x.recd.mtu < b.length then satAdd max64 x.oversize 1 else x.oversize }
    if h.etherType = 0x8808 || x.recd.mtu < b.length || (h.ptp && d.ptpOn p) || d.ingest.flows.any (fun e => e.2.recd.takes p h) then d1
    else match (if h.ip then queryOf h.ipv6 h.proto (ipPayload b) else none) with
      | some q => (d1.answerQuery p q).rxHost p h b
      | none => d1.rxHost p h b

def execRxFrameReceived (t : Nat) (port : Fin 32) (frame : Bytes) (s : State) : Host.Outcome State Fault Refusal :=
  .next { s with dev := rxFrame port frame (s.dev.at_ t) }

end Sys2Proof.Machine
end

