-- ==== Sys2Proof/Machine/Payload.lean ====
section
/-!
DEFINITION. What the RTP payloads of a service hold (07 R208 to R214): the formats of Table 7.1, laid out as the standards it names lay them out
(assumptions 224 to 226).
-/
namespace Sys2Proof.Machine

/-- Bytes in pieces of at most `n`. -/
def pieces {α : Type} (n : Nat) : Nat → List α → List (List α)
  | 0, _ => []
  | _, [] => []
  | fuel + 1, l => l.take n :: pieces n fuel (l.drop n)

/-- All of a list, in pieces of at most `n`. -/
def inPieces {α : Type} (n : Nat) (l : List α) : List (List α) := pieces n l.length l

/-- Byte `i` of a unit. -/
def byteAt (b : Bytes) (i : Nat) : Nat := (b.getD i 0).toNat

/-! ### NAL units in RTP: RFC 6184, RFC 7798, RFC 9328 -/

/-- The bytes of a NAL unit's header: 1 in AVC, 2 in HEVC and VVC. -/
def nalHeader (codec : Nat) : Nat := if codec = 0 then 1 else 2

/-- A NAL unit header with another type: 5 bits of the byte in AVC, 6 bits of the first byte in HEVC, 5 bits of the second byte in VVC. -/
def nalTyped (codec type : Nat) (u : Bytes) : Bytes :=
  let a := byteAt u 0
  let b := byteAt u 1
  if codec = 0 then beBytes 1 (a / 32 * 32 + type)
  else if codec = 1 then beBytes 1 (a / 128 * 128 + 2 * type + a % 2) ++ beBytes 1 b
  else beBytes 1 a ++ beBytes 1 (8 * type + b % 8)

/-- The type of a NAL unit. -/
def nalType (codec : Nat) (u : Bytes) : Nat :=
  if codec = 0 then byteAt u 0 % 32 else if codec = 1 then byteAt u 0 / 2 % 64 else byteAt u 1 / 8

/-- The bytes that lead every fragment: the header, then the FU header. -/
def fuLead (codec : Nat) : Nat := nalHeader codec + 1

/-- The fragments of a NAL unit: FU-A (28), FU (49 and 29). `first` says that none precedes, `final` that the unit is the last of its picture (P in VVC). -/
def fragmentsOf (codec : Nat) (final : Bool) (u : Bytes) : Bool → List Bytes → List Bytes
  | _, [] => []
  | first, p :: r =>
    let se := 128 * bit01 first + 64 * bit01 r.isEmpty
    let fu := if codec = 2 then se + 32 * bit01 (final && r.isEmpty) + nalType codec u else se + nalType codec u
    (nalTyped codec (if codec = 0 then 28 else if codec = 1 then 49 else 29) u ++ beBytes 1 fu ++ p) :: fragmentsOf codec final u false r

/-- A NAL unit in packets of at most `max` bytes: itself, or its fragments (R209). -/
def nalPackets (codec max : Nat) (final : Bool) (u : Bytes) : List Bytes :=
  if u.length ≤ max then [u] else fragmentsOf codec final u true (inPieces (max - fuLead codec) (u.drop (nalHeader codec)))

/-- The header of an aggregation packet: STAP-A (24) with the highest NRI, AP (48 and 28) with the lowest layer and temporal identifiers; F where any has it. -/
def aggregateHeader (codec : Nat) (us : List Bytes) : Bytes :=
  let least (f : Bytes → Nat) : Nat := (us.map f).foldl Nat.min 255
  let f := (us.map (fun u => byteAt u 0 / 128)).foldl Nat.max 0
  if codec = 0 then beBytes 1 (128 * f + 32 * (us.map (fun u => byteAt u 0 / 32 % 4)).foldl Nat.max 0 + 24)
  else
    let tid := least (fun u => byteAt u 1 % 8)
    if codec = 1 then
      let layer := least (fun u => byteAt u 0 % 2 * 32 + byteAt u 1 / 8)
      beBytes 1 (128 * f + 96 + layer / 32) ++ beBytes 1 (layer % 32 * 8 + tid)
    else beBytes 1 (128 * f + least (fun u => byteAt u 0 % 64)) ++ beBytes 1 (8 * 28 + tid)

/-- The bytes of an aggregation packet of units. -/
def aggregateBytes (codec : Nat) (us : List Bytes) : Nat := nalHeader codec + (us.map (fun u => 2 + u.length)).sum

/-- Units in one packet: alone as they are, together with their sizes. -/
def aggregate (codec : Nat) (us : List Bytes) : Bytes :=
  match us with
  | [u] => u
  | _ => aggregateHeader codec us ++ us.flatMap (fun u => beBytes 2 u.length ++ u)

/-- Units aggregated in order, as many in each packet as `max` allows; `open_` holds those of the packet being filled (R209). -/
def gather (codec max : Nat) (final : Bool) : List Bytes → List Bytes → List Bytes
  | open_, [] => if open_.isEmpty then [] else [aggregate codec open_]
  | open_, u :: r =>
    if aggregateBytes codec (open_ ++ [u]) ≤ max then gather codec max final (open_ ++ [u]) r
    else
      let out := if open_.isEmpty then [] else [aggregate codec open_]
      let alone := nalHeader codec + 2 + u.length
      if alone ≤ max then out ++ gather codec max final [u] r
      else out ++ nalPackets codec max (final && r.isEmpty) u ++ gather codec max final [] r

/-- A row's NAL units in packets: the picture's headers together with the first of row 0's units, then each unit by itself (R209). -/
def nalRow (codec max : Nat) (last : Bool) (heads units : List Bytes) : List Bytes :=
  if heads.isEmpty then separate units
  else gather codec max (last && units.length ≤ 1) [] (heads ++ units.take 1) ++ separate (units.drop 1)
where
  /-- Every unit by itself; the last of the picture's last row is final. -/
  separate : List Bytes → List Bytes
    | [] => []
    | u :: r => nalPackets codec max (last && r.isEmpty) u ++ separate r

/-! ### OBUs in RTP: the AV1 payload format -/

/-- A number in leb128, in at most `fuel` bytes. -/
def leb128 : Nat → Nat → Bytes
  | 0, _ => []
  | fuel + 1, n => if n < 128 then beBytes 1 n else beBytes 1 (128 + n % 128) ++ leb128 fuel (n / 128)

/-- An OBU element: its size, then its bytes. -/
def obuElement (b : Bytes) : Bytes := leb128 8 b.length ++ b

/-- The type of an OBU. -/
def obuType (b : Bytes) : Nat := byteAt b 0 / 8 % 16

/-- The most bytes of an OBU that an element of at most `room` bytes holds. -/
def obuFits (room : Nat) : Nat := if room ≤ 128 then room - 1 else if room ≤ 16385 then room - 2 else room - 3

/-- A packet of OBU elements being filled: it begins with the rest of an OBU (Z), and its bytes after the aggregation header. -/
structure ObuPacket where
  goesOn : Bool
  body : Bytes

/-- A packet, with its aggregation header: Z, Y, W 0 (every element has a size field), N. -/
def ObuPacket.close (x : ObuPacket) (y n : Bool) : Bytes := beBytes 1 (128 * bit01 x.goesOn + 64 * bit01 y + 8 * bit01 n) ++ x.body

/-- OBUs in packets of at most `max` bytes, an OBU that does not fit going on in the next. `n` marks the first packet. -/
def obuPackets (max : Nat) : Nat → Bool → ObuPacket → List Bytes → List Bytes
  | 0, n, x, _ => [x.close false n]
  | _, n, x, [] => if x.body.isEmpty then [] else [x.close false n]
  | fuel + 1, n, x, u :: r =>
    let room := max - 1 - x.body.length
    let k := obuFits room
    if u.length ≤ k then obuPackets max fuel n { x with body := x.body ++ obuElement u } r
    else if room < 2 then x.close false n :: obuPackets max fuel false ⟨false, []⟩ (u :: r)
    else { x with body := x.body ++ obuElement (u.take k) }.close true n :: obuPackets max fuel false ⟨true, []⟩ (u.drop k :: r)

/-- A row's OBUs in packets: temporal delimiters are removed, and the first packet of a picture with a sequence header has N (R208, R209). -/
def obuRow (max : Nat) (heads units : List Bytes) : List Bytes :=
  let all := (heads ++ units).filter (fun u => obuType u != 2)
  obuPackets max (2 * all.length + 2 * all.flatten.length + 1) (heads.any (fun u => obuType u == 1)) ⟨false, []⟩ all

/-- The RTP payloads of a row in FORMAT 1 (Table 7.1, R209): `heads` are the units that RCT firmware wrote for the picture, where the row is row 0; `last` says that
the row is the picture's last. -/
def nativeRow (codec max : Nat) (last : Bool) (heads units : List Bytes) : List Bytes :=
  let hs := heads.filter (fun u => !u.isEmpty)
  let us := units.filter (fun u => !u.isEmpty)
  if codec = 3 then obuRow max hs us else nalRow codec max last hs us

/-! ### The transport stream (R210, R213, R214): ISO/IEC 13818-1 -/

/-- The bits of a byte, from bit `k - 1` down, into a CRC-32 from the most significant bit on. -/
def crcMsb (b : Nat) : Nat → Nat → Nat
  | 0, r => r
  | k + 1, r => crcMsb b k (if natBit r 31 != natBit b k then Nat.xor (2 * r % 2 ^ 32) 0x04C11DB7 else 2 * r % 2 ^ 32)

/-- A section with its length and its CRC: table identifier, then the fields after the length. -/
def section_ (table : Nat) (body : Bytes) : Bytes :=
  let b := beBytes 1 table ++ beBytes 2 (0xB000 + body.length + 4) ++ body
  b ++ beBytes 4 (b.foldl (fun r x => crcMsb x.toNat 8 r) (2 ^ 32 - 1))

/-- A TS packet without its continuity counter: whether it starts a unit, its PID, what its adaptation field holds, and its payload; stuffing fills the field. -/
def tsPacket (start : Bool) (pid : Nat) (field payload : Bytes) : Bytes :=
  let room := 184 - payload.length
  let head (control : Nat) : Bytes := beBytes 1 0x47 ++ beBytes 2 (16384 * bit01 start + pid % 8192) ++ beBytes 1 (16 * control)
  if field.isEmpty && room == 0 then head 1 ++ payload
  else
    let f := if field.isEmpty && 1 < room then beBytes 1 0 else field
    head 3 ++ beBytes 1 (room - 1) ++ f ++ List.replicate (room - 1 - f.length) 0xFF ++ payload

/-- A unit in TS packets of a PID; the first holds the adaptation field given. -/
def tsPackets (start : Bool) (pid : Nat) (field b : Bytes) : List Bytes :=
  if b.isEmpty then []
  else
    let k := if field.isEmpty then 184 else 183 - field.length
    tsPacket start pid field (b.take k) :: (inPieces 184 (b.drop k)).map (tsPacket false pid [])

/-- A section in a TS packet of its own, 0xFF after it. -/
def tsSection (pid : Nat) (s : Bytes) : Bytes := tsPacket true pid [] (beBytes 1 0 ++ s ++ List.replicate (183 - s.length) 0xFF)

/-- A PCR field: base of 33 bits at 90 kHz, extension of 9 bits at 27 MHz (R214). -/
def pcrBytes (x : Nat) : Bytes :=
  let p := x * 27000000 / second
  beBytes 6 (p / 300 % 2 ^ 33 * 32768 + 0x7E00 + p % 300)

/-- What the adaptation field of a row's first video packet holds (R210): nothing, or its flags and its PCR. -/
def tsField (random : Bool) (pcr : Option Nat) : Bytes :=
  if !random && pcr.isNone then []
  else beBytes 1 (64 * bit01 random + 16 * bit01 pcr.isSome) ++ (match pcr with | none => [] | some t => pcrBytes t)

/-- The PAT of a service's single programme. -/
def patOf (n : Nat) (r : ServiceRec) : Bytes :=
  section_ 0 (beBytes 2 (Config.streamId n).toNat ++ beBytes 3 0xC10000 ++ beBytes 2 r.program ++ beBytes 2 (0xE000 + r.pmtPid))

/-- A registration descriptor. -/
def registration (id : Nat) : Bytes := beBytes 2 0x0504 ++ beBytes 4 id

/-- A stream's entry in the PMT: its type, its PID, its descriptors. -/
def pmtStream (type pid : Nat) (descs : Bytes) : Bytes := beBytes 1 type ++ beBytes 2 (0xE000 + pid) ++ beBytes 2 (0xF000 + descs.length) ++ descs

/-- The PMT: the video stream, which carries the PCR, then the audio streams in order. -/
def pmtOf (codec : Nat) (r : ServiceRec) : Bytes :=
  let video := if codec = 0 then pmtStream 0x1B r.videoPid [] else if codec = 1 then pmtStream 0x24 r.videoPid []
    else if codec = 2 then pmtStream 0x33 r.videoPid [] else pmtStream 0x06 r.videoPid (registration 0x41563031)
  let audio (a : AudioEntry) : Bytes := if a.coding = 1 then pmtStream 0x0F a.pid [] else pmtStream 0x06 a.pid (registration 0x42535344)
  section_ 2 (beBytes 2 r.program ++ beBytes 3 0xC10000 ++ beBytes 2 (0xE000 + r.videoPid) ++ beBytes 2 0xF000 ++ video ++ r.audio.flatMap audio)

/-- PAT and PMT, which lead a row. -/
def tsTables (n codec : Nat) (r : ServiceRec) : List Bytes := [tsSection 0 (patOf n r), tsSection r.pmtPid (pmtOf codec r)]

/-- A PTS field of a PES header (R213). -/
def ptsBytes (v : Nat) : Bytes :=
  let p := v % 2 ^ 33
  beBytes 1 (0x21 + p / 2 ^ 30 * 2) ++ beBytes 2 (p / 2 ^ 15 % 2 ^ 15 * 2 + 1) ++ beBytes 2 (p % 2 ^ 15 * 2 + 1)

/-- A PES header: stream_id, PES_packet_length, and a PTS, which the DTS equals and so has no field of its own (R213). -/
def pesHeader (stream length pts : Nat) : Bytes := beBytes 3 1 ++ beBytes 1 stream ++ beBytes 2 length ++ beBytes 3 0x808005 ++ ptsBytes pts

/-- A PES packet of sound: 8 bytes of its header follow its length. -/
def audioPes (stream pts : Nat) (b : Bytes) : Bytes := pesHeader stream (8 + b.length) pts ++ b

/-- Coded units as an elementary stream: a start code before each. -/
def byteStream (units : List Bytes) : Bytes := (units.filter (fun u => !u.isEmpty)).flatMap (fun u => beBytes 4 1 ++ u)

/-- A null packet. -/
def tsNull : Bytes := beBytes 4 0x471FFF10 ++ List.replicate 184 0xFF

/-- The PID of a TS packet, and whether it has a payload. -/
def tsPid (b : Bytes) : Nat := byteAt b 1 % 32 * 256 + byteAt b 2
def tsHasPayload (b : Bytes) : Bool := natBit (byteAt b 3) 4

/-- Bytes replaced from a place on. -/
def setBytes (off : Nat) (v b : Bytes) : Bytes := b.take off ++ v.take (b.length - off) ++ b.drop (off + v.length)

/-- The continuity counter of a packet, which its PID's packets with payload advance. -/
def tsCount (cc : Tab Nat) (b : Bytes) : Bytes × Tab Nat :=
  let pid := tsPid b
  if pid = 0x1FFF then (b, cc)
  else
    let k := Tab.read cc pid 15
    let v := if tsHasPayload b then (k + 1) % 16 else k
    (setBytes 3 [BitVec.ofNat 8 (byteAt b 3 / 16 * 16 + v)] b, Tab.put pid v cc)

/-- Continuity counters of packets in order. -/
def tsCountAll : Tab Nat → List Bytes → List Bytes × Tab Nat
  | cc, [] => ([], cc)
  | cc, b :: r =>
    let x := tsCount cc b
    let y := tsCountAll x.2 r
    (x.1 :: y.1, y.2)

/-! ### Sound (R226, Table 7.3; 14 R428) -/

/-- An AAC-LC frame in ADTS: MPEG-4, two channels at 48 kHz, no CRC. -/
def adts (b : Bytes) : Bytes := beBytes 7 (0xFFF14C80001FFC + (b.length + 7) * 2 ^ 13) ++ b

/-- An AAC-LC frame in AAC-hbr (RFC 3640): one AU header of 13 bits of size and an index of 0. -/
def aacHbr (b : Bytes) : Bytes := beBytes 2 16 ++ beBytes 2 (8 * b.length) ++ b

/-- PCM in ST 302M: size, channels, and bits of a sample before the data. -/
def s302m (channels bits : Nat) (b : Bytes) : Bytes :=
  beBytes 4 (65536 * b.length + 16384 * (channels / 2 - 1) + 16 * ((bits - 16) / 4)) ++ b

/-- A frame of sound as a service carries it: PES for FORMAT 0, an RTP payload for FORMAT 1. `bits` are the source's PCM_BITS. -/
def audioBody (format : Nat) (e : AudioEntry) (bits pts : Nat) (b : Bytes) : Bytes :=
  if format = 0 then (if e.coding = 1 then audioPes 0xC0 pts (adts b) else audioPes 0xBD pts (s302m e.channels bits b))
  else if e.coding = 1 then aacHbr b else b

end Sys2Proof.Machine
end

