-- ==== Sys2Proof/Machine/Nand.lean ====
section
/-!
DEFINITION. The journal's TLC blocks (13 R390, R393 to R396): what is programmed where, wear levelling, relocation, and encryption (assumptions 233 to 236).
-/
namespace Sys2Proof.Machine

/-! ### Records as stored (R390) -/

/-- A record as stored: header, payload and check value, padded to a multiple of 8 bytes. -/
def JRec.stored (r : JRec) : Bytes :=
  let h := fields [(1, r.kind), (1, r.flags), (2, r.source), (4, r.payload.length), (8, r.seq)] ++ timeWordBytes r.time ++ wrLE 4 0
  let b := h ++ wrLE 4 (crc32c h) ++ r.payload ++ wrLE 4 (crc32c r.payload)
  b ++ List.replicate (roundUp b.length 8 - b.length) 0

/-! ### Blocks -/

/-- The TLC blocks of the user area and the spare area: 14.464 TB raw in blocks of 1152 pages of four codewords of 4 KiB, on eight channels. -/
def nandBlocks : Nat := 8 * 95791
def blockWords : Nat := 4 * 1152

/-- The blocks of the spare area (Table 13.1): those beyond the user area's 14 TB. -/
def spareBlocks : Nat := nandBlocks - 14000000000000 / (1152 * 16384)

/-- The number of block `b` of channel FC`fc`; the pSLC region's blocks come after the TLC blocks of their channel. -/
def blockNumber (fc b : Nat) : Nat := 8 * b + fc

def JournalState.block (j : JournalState) (n : Nat) : NandBlock := Tab.read j.nand n NandBlock.fresh

def JournalState.setBlock (n : Nat) (b : NandBlock) (j : JournalState) : JournalState := { j with nand := Tab.put n b j.nand }

/-- The spare area holds fewer than 1 % of its blocks (R393): each block of the bad-block table has taken one of them. -/
def JournalState.spareShort (j : JournalState) : Bool := Nat.blt (100 * (spareBlocks - (j.nand.filter (fun e => e.2.bad)).length)) spareBlocks

/-- A block that may be programmed: nothing is in it, and it is not in the bad-block table. -/
def NandBlock.free (b : NandBlock) : Bool := b.batches.isEmpty && !b.bad

/-- The lowest-numbered block that has never been programmed. -/
def JournalState.unused (j : JournalState) : Nat := j.nand.foldl (fun k e => if e.1 = k then k + 1 else k) 0

/-- The free block with the lowest erase count, the lowest-numbered of several (R394). -/
def JournalState.newBlock (j : JournalState) : Option Nat :=
  if j.unused < nandBlocks then some j.unused
  else ((j.nand.filter (fun e => e.2.free)).foldl (fun (o : Option (Nat × Nat)) e => match o with
    | none => some (e.1, e.2.erases)
    | some a => if e.2.erases < a.2 then some (e.1, e.2.erases) else o) none).map (·.1)

/-- A block is erased: its count rises, and nothing is in it. -/
def JournalState.eraseBlock (n : Nat) (j : JournalState) : JournalState :=
  j.setBlock n { NandBlock.fresh with erases := (j.block n).erases + 1, lastRead := (j.block n).lastRead }

/-- What a block holds is programmed into a new one, and the block is free of it; `n` may be the block being filled. -/
def JournalState.moveData (n : Nat) (j : JournalState) : JournalState := match j.newBlock with
  | none => j
  | some m =>
    let x := j.block n
    let y := j.block m
    let j1 := (j.setBlock m { y with batches := x.batches, used := x.used, data := x.data, reads := 0 }).setBlock n { x with batches := [], used := 0, data := [], reads := 0 }
    { j1 with filling := if j.filling = some n then some m else j.filling }

/-- The extreme of the erase counts of some blocks: the block and its count, the lowest-numbered of several. -/
def extremeErases (beyond : Nat → Nat → Bool) (l : Tab NandBlock) : Option (Nat × Nat) :=
  l.foldl (fun o e => match o with
    | none => some (e.1, e.2.erases)
    | some a => if beyond e.2.erases a.2 then some (e.1, e.2.erases) else o) none

/-- Static wear levelling (R394): the cold data of the block with the lowest erase count is moved elsewhere where another's is more than 200 higher. -/
def JournalState.level (j : JournalState) : JournalState :=
  match extremeErases Nat.blt (j.nand.filter (fun e => !e.2.bad && !e.2.batches.isEmpty && j.filling != some e.1)), extremeErases (fun a b => Nat.blt b a) j.nand with
  | some lo, some hi => if lo.2 + 200 < hi.2 then (j.moveData lo.1).eraseBlock lo.1 else j
  | _, _ => j

/-- A block is rewritten elsewhere (R395), and wear is levelled after its erase. -/
def JournalState.relocate (n : Nat) (j : JournalState) : JournalState :=
  if (j.block n).batches.isEmpty || j.newBlock.isNone then j
  else { ((j.moveData n).eraseBlock n).level with relocations := satAdd max64 j.relocations 1 }

/-- Blocks of which no record is held any more are erased: released space is reused (R387). -/
def JournalState.reclaim (j : JournalState) : JournalState :=
  let dead (e : Nat × NandBlock) : Bool := !e.2.batches.isEmpty && !e.2.bad && j.filling != some e.1 &&
    e.2.batches.all (fun b => !j.recs.any (fun r => r.batch == b && (r.kind == 1 || r.kind == 4)))
  ((j.nand.filter dead).map (·.1)).foldl (fun j n => (j.eraseBlock n).level) j

/-! ### Encryption (R396) -/

/-- The journal's AES-XTS-256 key, which the security core derives from the module's fused secret. -/
def journalKey : Bytes := beBytes 64 Config.journalKey.toNat

/-- A codeword's data as programmed: its 4 KiB under the key, its logical address as the tweak. -/
def codeword (address : Nat) (b : Bytes) : Bytes := xtsEncrypt journalKey address (b ++ List.replicate (4096 - b.length) 0)

/-! ### Programming (R391, R394) -/

/-- Codewords of a batch are programmed, from its `i`-th on, `left` of them, into the block being filled and then into new ones. -/
def JournalState.fill (b : Nat) (bytes : Bytes) : Nat → Nat → Nat → JournalState → JournalState
  | 0, _, _, j => j
  | fuel + 1, i, left, j =>
    if left = 0 then j
    else match j.filling.or j.newBlock with
      | none => j
      | some n =>
        let x := j.block n
        let k := Nat.min left (blockWords - x.used)
        let words := (List.range k).map (fun m => (j.nextAddress + m, codeword (j.nextAddress + m) ((bytes.drop (4096 * (i + m))).take 4096)))
        let y := { x with batches := x.batches.filter (· != b) ++ [b], used := x.used + k, data := x.data ++ words }
        fill b bytes fuel (i + k) (left - k)
          { j.setBlock n y with filling := if y.used = blockWords then none else some n, nextAddress := j.nextAddress + k }

/-- Batch `b` is programmed, `size` bytes of records. -/
def JournalState.program (b size : Nat) (j : JournalState) : JournalState :=
  let n := ceilDiv size 4096
  j.fill b ((j.recs.filter (fun r => r.batch == b)).flatMap JRec.stored) (n / blockWords + 2) 0 n

/-- A block fails a program or an erase: it joins the bad-block table, and what it was to hold is programmed elsewhere (R393). -/
def JournalState.retireBlock (n : Nat) (j : JournalState) : JournalState :=
  let j1 := if (j.block n).batches.isEmpty then j else j.moveData n
  { j1.setBlock n { j1.block n with bad := true } with filling := if j1.filling = some n then none else j1.filling }

/-- The blocks of these batches are read, once for each record; one read 100 000 times since it was programmed is relocated (R395). -/
def JournalState.readBatches (bs : List Nat) (j : JournalState) : JournalState :=
  let j1 := { j with nand := Tab.mapVals (fun _ (x : NandBlock) => { x with reads := x.reads + (bs.filter (fun b => x.batches.contains b)).length }) j.nand }
  ((j1.nand.filter (fun e => 100000 ≤ e.2.reads)).map (·.1)).foldl (fun j n => j.relocate n) j1

/-- A block is read by the scrub (R395), and rewritten elsewhere where its codewords ask for it, or, where relocation may run, on its 100 000th read. -/
def JournalState.scrubBlock (n now : Nat) (rewrite may : Bool) (j : JournalState) : JournalState :=
  let x := j.block n
  if nandBlocks ≤ n || x.batches.isEmpty then j
  else
    let j1 := j.setBlock n { x with reads := x.reads + 1, lastRead := now }
    if rewrite || (may && 100000 ≤ x.reads + 1) then j1.relocate n else j1

end Sys2Proof.Machine
end

