-- ==== Sys2Proof/Machine/Delay.lean ====
section
/-!
DEFINITION. The arithmetic of a rendition: bead cost and profiles (chapter 5), rows, delay, floor costs and floor rate
(chapter 6). Times are in 2^-16 ns and rounded down unless the rule rounds them otherwise.
-/
namespace Sys2Proof.Machine

/-- 10 ns. -/
def tenNs : Nat := 10 * 65536

/-! ### Rows -/

/-- The height of a row of a codec (Table 5.1), at most the picture's height (R168). -/
def codecRow (codec : Nat) : Nat := if codec < 2 then 64 else 128

def RendRec.rowH (r : RendRec) : Nat := Nat.min (codecRow r.codec) r.height

/-- Rows of a picture (R168). -/
def RendRec.rows (r : RendRec) : Nat := ceilDiv r.height (codecRow r.codec)

/-- The offset of row `n`'s capture start from the tick (R62, R168). -/
def rowOffset (ch : ChannelRec) (r : RendRec) (n : Nat) : Nat := n * r.rowH * tickUnits ch / (ch.rateNum * r.height)

/-- The row period p. -/
def rowPeriod (ch : ChannelRec) (r : RendRec) : Nat := rowOffset ch r 1

/-- The transmit window w (R169): p + T / 24, rounded up to 100 µs. -/
def windowOf (ch : ChannelRec) (r : RendRec) : Nat :=
  let unit := 100 * usec
  ceilDiv (tickUnits ch * (24 * r.rowH + r.height)) (ch.rateNum * 24 * r.height * unit) * unit

/-- The row's bit allowance A (R169). -/
def rowAllowance (ch : ChannelRec) (r : RendRec) : Nat := r.rateKbps * windowOf ch r / (65536 * 1000000)

/-- S, in 10 ns rounded up (R4). -/
def s10 (ch : ChannelRec) (r : RendRec) : Nat :=
  let x := ch.rateNum * r.height
  ceilDiv (2 * tickUnits ch * r.rowH + windowOf ch r * x) (x * tenNs)

/-- The rendition is scaled: smaller than the channel's picture (R116). -/
def scaled (ch : ChannelRec) (r : RendRec) : Bool := r.width != ch.width || r.height != ch.height

/-- The staging time in source line periods (R117). -/
def stageLines (ch : ChannelRec) (r : RendRec) : Nat := if scaled ch r then 2 + 4 * ceilDiv ch.height r.height else 2

/-- t_floor (R171). -/
def tFloor : Nat := 20 * usec

/-- DMIN in 10 ns (R172). -/
def dmin10 (ch : ChannelRec) (r : RendRec) : Nat :=
  let x := ch.rateNum * r.height * ch.height
  ceilDiv (2 * tickUnits ch * r.rowH * ch.height + (windowOf ch r + tFloor + 2 * usec) * x + stageLines ch r * tickUnits ch * r.height)
    (x * tenNs)

/-- D in 10 ns: as programmed, or DMIN (R172, R178). -/
def d10 (ch : ChannelRec) (r : RendRec) : Nat := if r.delay = 0 then dmin10 ch r else r.delay

/-- A delay lies in its range (R172). -/
def delayOk (ch : ChannelRec) (d : Nat) (r : RendRec) : Bool := dmin10 ch r ≤ d && d * tenNs * ch.rateNum ≤ 2 * tickUnits ch

/-- FILL_LAG keeps the limit of R77 for a rendition: every term in units of 1 / (num × height × channel height). -/
def fillLagOk (ch : ChannelRec) (d10 fillNs : Nat) (r : RendRec) : Bool :=
  let x := ch.rateNum * r.height * ch.height
  let t := tickUnits ch
  (fillNs * 65536 + windowOf ch r + tFloor) * x + t * r.rowH * ch.height + stageLines ch r * t * r.height
    ≤ d10 * tenNs * x + t * r.height

/-- The buffer B in bits (R178). -/
def bufferBits (rate d : Nat) : Nat := rate * d / 100000

/-! ### Floor costs (R175, R185) -/

/-- The width of a floor block (R174). -/
def blockW (codec : Nat) : Nat := if codec < 2 then 64 else 128

/-- N: blocks in a row. -/
def RendRec.blocks (r : RendRec) : Nat := ceilDiv r.width (blockW r.codec)

/-- Row overhead, copy and flat-intra cost of a block (Table 6.2). -/
def floorTable (codec : Nat) : Nat × Nat × Nat :=
  match codec with
  | 0 => (96, 24, 96)
  | 1 => (96, 4, 8)
  | 2 => (96, 4, 10)
  | _ => (64, 8, 12)

/-- The floor ceiling of a row with `col` blocks of refresh column; `intra` codes it all flat intra. -/
def rowFloor (r : RendRec) (intra : Bool) (col : Nat) : Nat :=
  let t := floorTable r.codec
  let n := r.blocks
  if intra then t.1 + t.2.2 * n else t.1 + t.2.1 * (n - col) + t.2.2 * col

def RendRec.refreshFrames (r : RendRec) : Nat := if r.refresh = 0 then 32 else r.refresh
def RendRec.shadowFrames (r : RendRec) : Nat := if r.shadow = 0 then 32 else r.shadow

/-- The refresh column of frame `j` of a cycle: first block and width (R187). -/
def refreshCol (r : RendRec) (j : Nat) : Nat × Nat :=
  let a := j * r.blocks / r.refreshFrames
  (a, (j + 1) * r.blocks / r.refreshFrames - a)

/-- The floor rate in kb/s with delay `d` in 10 ns (R185). -/
def floorRate (ch : ChannelRec) (d : Nat) (r : RendRec) : Nat :=
  let inter := r.rows * rowFloor r false (ceilDiv r.blocks r.refreshFrames) + 2048
  let intra := r.rows * rowFloor r true 0 + 2048
  Nat.max (ceilDiv (5 * inter * ch.rateNum) (4 * ch.rateDen * 1000))
    (Nat.max (ceilDiv (intra * 100000) d) (ceilDiv (intra * ch.rateNum) (ch.rateDen * 1000)))

/-! ### Beads, AFE and profiles -/

/-- The bead cost of a rendition (R140). -/
def beadCost (ch : ChannelRec) (r : RendRec) : Nat :=
  let mult := if r.preset = 0 then 1 else if r.preset = 1 then 2 else 4
  let echo := if r.echoOf = 0xFFFF then 100 else 35
  Nat.max 1 (ceilDiv (r.width * r.height * ch.rateNum * mult * echo) (ch.rateDen * 125000000 * 200))

/-- What a preset fixes (Table 5.2): the AFE's search range to either side and up or down, in samples, and the candidates that it passes for a block. -/
def afeEffort (preset : Nat) : Nat × Nat × Nat := if preset = 0 then (128, 64, 2) else if preset = 1 then (256, 128, 4) else (512, 256, 8)

/-- How far a PE refines a vector projected to a rung, in samples (R134). -/
def refineRange (preset : Nat) : Nat := if preset = 0 then 4 else if preset = 1 then 8 else 16

/-- A rendition's pictures are the channel's own, neither scaled nor cropped (R134). -/
def RendRec.whole (ch : ChannelRec) (r : RendRec) : Bool :=
  !scaled ch r && (r.cropW == 0 || r.cropW == ch.width) && (r.cropH == 0 || r.cropH == ch.height)

/-- The part of the channel's picture that a rendition shows (Table 5.17). -/
def RendRec.viewW (ch : ChannelRec) (r : RendRec) : Nat := if r.cropW = 0 then ch.width else r.cropW
def RendRec.viewH (ch : ChannelRec) (r : RendRec) : Nat := if r.cropH = 0 then ch.height else r.cropH

/-- A PE may code vector `v` from candidate `cand` (R134): the candidate itself at the channel's picture size; on a rung or a crop within the refinement
range of the candidate scaled by the size ratio `to_` : `from_`. -/
def refinedFrom (whole : Bool) (range to_ from_ : Nat) (cand v : Int) : Bool :=
  if whole then v == cand else (v * from_ - cand * to_).natAbs ≤ 4 * range * from_

/-- A channel's picture rate in pixels per second, rounded up. -/
def pixelRate (ch : ChannelRec) : Nat := ceilDiv (ch.width * ch.height * ch.rateNum) ch.rateDen

/-- The combinations of profile, chroma and depth of Table 5.1. -/
def profileOk (r : RendRec) : Bool :=
  let d8 := r.depth == 8 || r.depth == 10
  match r.codec, r.profile with
  | 0, 0 => r.chroma == 0 && d8
  | 0, 1 => r.chroma == 1 && d8
  | 1, 0 => r.chroma == 0 && r.depth == 8
  | 1, 1 => r.chroma == 0 && d8
  | 1, 2 => r.chroma == 1 && r.depth == 10
  | 2, 0 => r.chroma == 0 && r.depth == 10
  | 2, 1 => r.chroma == 1 && r.depth == 10
  | 3, 0 => r.chroma == 0 && d8
  | 3, 1 => r.chroma == 1 && r.depth == 10
  | _, _ => false

/-- The largest picture of a codec (Table 5.1). -/
def sizeOk (r : RendRec) : Bool := if r.codec = 0 then r.width ≤ 3840 && r.height ≤ 2160 else r.width ≤ 7680 && r.height ≤ 4320

/-- A level covers picture size, sample rate and bit rate (R138; the limits are assumption 4). -/
def levelCovers (ch : ChannelRec) (r : RendRec) (l : Nat) : Bool :=
  Config.levelAllows r.codec l 0 (r.width * r.height) && Config.levelAllows r.codec l 1 (ceilDiv (r.width * r.height * ch.rateNum) ch.rateDen)
    && Config.levelAllows r.codec l 2 r.rateKbps

/-- The level signalled: the one named, or the lowest that covers the rendition (R138). -/
def signalled (ch : ChannelRec) (r : RendRec) : Option Nat :=
  if r.level = 0 then (List.range 63).find? (levelCovers ch r) else if levelCovers ch r r.level then some r.level else none

/-- The rendition keeps the limits of its level (R138). -/
def levelOk (ch : ChannelRec) (d : Nat) (r : RendRec) : Bool :=
  match signalled ch r with
  | none => false
  | some l => Config.levelAllows r.codec l 3 (bufferBits r.rateKbps d)

/-- A ratio as unsigned 16.16, rounded to the nearest, ties up. -/
def ratio16 (a b : Nat) : Nat := if b = 0 then 0 else (2 * 65536 * a + b) / (2 * b)

end Sys2Proof.Machine
end

