-- ==== Sys2Proof/Machine/Homing.lean ====
section
/-!
DEFINITION. Admission and homing: beads and rods (R141 to R151, R515), working sets in DRAM (R369 to R371), and the order of
the admission checks (R144).
-/
namespace Sys2Proof.Machine

def Device.rod (n : Nat) (d : Device) : Rod := d.code.rod n
def Device.setRod (n : Nat) (x : Rod) (d : Device) : Device := { d with code := { d.code with rods := Tab.put n x d.code.rods } }
def Device.setRend (n : Nat) (x : Rendition) (d : Device) : Device := { d with code := { d.code with rends := Tab.put n x d.code.rends } }

/-- The renditions of a channel, in ascending number; one that is being removed is no longer counted. -/
def Device.rendsOf (c : Nat) (d : Device) : List (Nat × Rendition) :=
  d.code.rends.filter (fun e => e.2.recd.channel == c && e.2.stop.isNone)

/-- The rods. -/
def rodNumbers : List Nat := List.range 24

/-- The PEs in service of a rod, as numbers. -/
def Rod.pes (r : Rod) : List Nat := (List.range 7).filter (natBit r.pe)

/-- The beads a rod holds: 4 for each PE in service (R150). -/
def Rod.beads (r : Rod) : Nat := 4 * r.pes.length

/-- A rod that may home channels: in service and serving (R141, R142). -/
def Device.serving (n : Nat) (d : Device) : Bool := (d.rod n).service == 0 && (d.rod n).role == 0

/-! ### Shares (R147) -/

/-- Insertion by decreasing cost, equal costs in ascending number. -/
def insertCost (x : Nat × Nat) : List (Nat × Nat) → List (Nat × Nat)
  | [] => [x]
  | y :: r => if y.2 < x.2 || (y.2 = x.2 && x.1 < y.1) then x :: y :: r else y :: insertCost x r

/-- Largest first. -/
def byCost (l : List (Nat × Nat)) : List (Nat × Nat) := l.foldr insertCost []

/-- Split renditions take turns with the larger half. -/
def splitHalves : Bool → List (Nat × Nat) → List (Nat × Nat × Nat)
  | _, [] => []
  | onA, (n, k) :: r =>
    (if onA then (n, ceilDiv k 2, k / 2) else (n, k / 2, ceilDiv k 2)) :: splitHalves (!onA) r

/-- Whole renditions go to the rod with the smaller total so far. -/
def placeWhole : Nat → Nat → List (Nat × Nat) → List (Nat × Nat × Nat)
  | _, _, [] => []
  | a, b, (n, k) :: r => if a ≤ b then (n, k, 0) :: placeWhole (a + k) b r else (n, 0, k) :: placeWhole a (b + k) r

def sumA (l : List (Nat × Nat × Nat)) : Nat := (l.map (·.2.1)).sum
def sumB (l : List (Nat × Nat × Nat)) : Nat := (l.map (·.2.2)).sum

/-- The arrangement of a spanning channel's renditions over rods a and b, or none where it cannot span (R147). Each rendition is given as
number, cost, and whether it may split. -/
def arrange (l : List (Nat × Nat × Bool)) : Option (List (Nat × Nat × Nat)) :=
  let cut := l.filter (fun x => x.2.2 && 2 ≤ x.2.1)
  let rest := l.filter (fun x => !(x.2.2 && 2 ≤ x.2.1))
  let h := splitHalves true (byCost (cut.map (fun x => (x.1, x.2.1))))
  let all := h ++ placeWhole (sumA h) (sumB h) (byCost (rest.map (fun x => (x.1, x.2.1))))
  let a := sumA all
  let b := sumB all
  if a + 1 < b || b + 1 < a || a = 0 || b = 0 then none else some all

/-- Number, cost, and whether it may split, of a channel's renditions. -/
def Device.costs (c : Nat) (d : Device) : List (Nat × Nat × Bool) :=
  (d.rendsOf c).map (fun e => (e.1, beadCost (d.chan c).recd e.2.recd, e.2.recd.codec != 0))

/-- A channel's cost (R140). -/
def Device.cost (c : Nat) (d : Device) : Nat := ((d.costs c).map (·.2.1)).sum

/-- The shares of a channel's renditions on one rod or on two. -/
def Device.sharesOn (c : Nat) (span : Bool) (d : Device) : Option (List (Nat × Nat × Nat)) :=
  if span then arrange (d.costs c) else some ((d.costs c).map (fun x => (x.1, x.2.1, 0)))

/-- The shares that a homed channel's renditions hold on its rods, as they were placed (R147, R167). -/
def Device.shares (c : Nat) (d : Device) : List (Nat × Nat × Nat) := (d.rendsOf c).map (fun e => (e.1, e.2.shareA, e.2.shareB))

/-- Channels that hold rods (R159). -/
def Device.homed (d : Device) : List Nat := (d.code.channels.filter (fun e => e.2.running && e.2.rodA != 255)).map (·.1)

/-- A channel's share on rod `n`. -/
def Device.shareOn (c n : Nat) (d : Device) : Nat :=
  let x := d.chan c
  (if x.rodA = n then sumA (d.shares c) else 0) + (if x.rodB = n then sumB (d.shares c) else 0)

/-- Beads used on rod `n` by channels other than `but`. -/
def Device.usedBeads (n : Nat) (but : Option Nat) (d : Device) : Nat :=
  ((d.homed.filter (fun c => some c != but)).map (fun c => d.shareOn c n)).sum

/-- Free beads of rod `n` with channel `c` not counted. -/
def Device.freeBeads (n c : Nat) (d : Device) : Nat := (d.rod n).beads - d.usedBeads n (some c)

/-! ### The choice of rods (R146) -/

/-- The number of a list with the least value, the first of equals. -/
def leastBy (f : Nat → Nat) : List Nat → Option Nat
  | [] => none
  | x :: r => match leastBy f r with
    | none => some x
    | some y => if f y < f x then some y else some x

/-- A pair takes shares `a` ≥ `b`: one of its rods has `a` free beads and the other `b`. -/
def pairTakes (free : Nat → Nat) (a b x y : Nat) : Bool := (a ≤ free x && b ≤ free y) || (a ≤ free y && b ≤ free x)

/-- Pairs of serving rods, lower number first, in ascending order. -/
def pairsOf (l : List Nat) : List (Nat × Nat) := l.flatMap (fun x => (l.filter (x < ·)).map (fun y => (x, y)))

/-- The pair with the fewest free beads together, the first of equals. -/
def leastPair (free : Nat → Nat) : List (Nat × Nat) → Option (Nat × Nat)
  | [] => none
  | p :: r => match leastPair free r with
    | none => some p
    | some q => if free q.1 + free q.2 < free p.1 + free p.2 then some q else some p

/-- What a homing asks for. -/
inductive Want where
  /-- HOME_ROD_A, HOME_ROD_B (255: firmware choice), SPAN_ALLOWED. -/
  | home (a b : Nat) (span : Bool)
  /-- The rods named by CHANNEL_MOVE, and its masks (0: firmware choice). -/
  | move (a b maskA maskB : Nat)
  /-- The present rods and masks. -/
  | stay

/-- The rods chosen, as rod a and rod b (255 for none), or none where check 8 fails. -/
def Device.chooseRods (c : Nat) (w : Want) (d : Device) : Option (Nat × Nat) :=
  let free n := d.freeBeads n c
  let serve := rodNumbers.filter (fun n => d.serving n)
  let whole := d.cost c
  let spanTo (named : Option Nat) : Option (Nat × Nat) :=
    match d.sharesOn c true with
    | none => none
    | some sh =>
      let sa := sumA sh
      let sb := sumB sh
      let ps := (pairsOf serve).filter (fun p => pairTakes free sa sb p.1 p.2
        && (match named with | some n => p.1 == n || p.2 == n | none => true))
      match leastPair free ps with
      | none => none
      | some (x, y) => match named with
        | some n =>
          let o := if x = n then y else x
          if sa ≤ free n && sb ≤ free o then some (n, o) else some (o, n)
        | none => if sa ≤ free x && sb ≤ free y then some (x, y) else some (y, x)
  let both (a b : Nat) : Option (Nat × Nat) :=
    match d.sharesOn c true with
    | none => none
    | some sh => if serve.contains a && serve.contains b && sumA sh ≤ free a && sumB sh ≤ free b then some (a, b) else none
  match w with
  | .home a b span =>
    if a = 255 then
      match leastBy free (serve.filter (fun n => whole ≤ free n)) with
      | some n => some (n, 255)
      | none => if span then spanTo none else none
    else if b = 255 then
      if serve.contains a && whole ≤ free a then some (a, 255) else if span then spanTo (some a) else none
    else both a b
  | .move a b _ _ => if b = 255 then (if serve.contains a && whole ≤ free a then some (a, 255) else none) else both a b
  | .stay =>
    let x := d.chan c
    if x.rodB = 255 then (if whole ≤ free x.rodA then some (x.rodA, 255) else none)
    else match d.sharesOn c true with
      | none => none
      | some sh => if sumA sh ≤ free x.rodA && sumB sh ≤ free x.rodB then some (x.rodA, x.rodB) else none

/-! ### Bitstream units (R148), in half kb/s -/

/-- The renditions coded on rod `n` by homed channels other than `but`: unit and rate. -/
def Device.onRod (n : Nat) (but : Option Nat) (d : Device) : List (Nat × Nat) :=
  (d.homed.filter (fun c => some c != but)).flatMap (fun c =>
    let x := d.chan c
    (d.shares c).flatMap (fun s =>
      let r := Tab.read d.code.rends s.1 (Rendition.ofRec ⟨0, 0, 0, 0, 0, 0, 0, 0, 0, 0, 0, 0, 0, 0, false, 0, 0, 0, 0, 0, 0, 0, 0⟩)
      (if x.rodA = n && s.2.1 != 0 then [(r.buA, 2 * r.recd.rateKbps)] else []) ++
      (if x.rodB = n && s.2.2 != 0 then [(r.buB, if s.2.1 = 0 then 2 * r.recd.rateKbps else r.recd.rateKbps)] else [])))

/-- The sum of rates on a unit. -/
def unitRate (u : Nat) (l : List (Nat × Nat)) : Nat := ((l.filter (fun e => e.1 == u)).map (·.2)).sum

/-- Units for renditions placed together, in ascending number: number and rate. -/
def chooseUnits (base : List (Nat × Nat)) : List (Nat × Nat) → List (Nat × Nat) × List (Nat × Nat)
  | [] => (base, [])
  | (n, rate) :: r =>
    let u := if unitRate 0 base ≤ unitRate 1 base then 0 else 1
    let q := chooseUnits (base ++ [(u, rate)]) r
    (q.1, (n, u) :: q.2)

/-- Units on a rod (R148): number, unit held (255: to choose), rate. Renditions already on the rod keep their units. -/
def assignUnits (base : List (Nat × Nat)) (l : List (Nat × Nat × Nat)) : List (Nat × Nat) × List (Nat × Nat) :=
  let kept := l.filter (fun e => e.2.1 < 2)
  let q := chooseUnits (base ++ kept.map (·.2)) ((l.filter (fun e => !(e.2.1 < 2))).map (fun e => (e.1, e.2.2)))
  (q.1, kept.map (fun e => (e.1, e.2.1)) ++ q.2)

/-- The limits of R27 and R148 hold on a rod. -/
def unitsOk (l : List (Nat × Nat)) : Bool :=
  [0, 1].all (fun u => (l.filter (fun e => e.1 == u)).length ≤ 32 && unitRate u l ≤ 8000000)

/-! ### Masks (R150, R151, R515) -/

/-- The numbers of a mask's bits. -/
def maskOf (l : List Nat) : Nat := ((List.range 7).filter (fun i => l.contains i)).foldl (fun s i => s + 2 ^ i) 0

/-- The channels on rod `n` other than `but`: channel, share and mask there. -/
def Device.masksOn (n : Nat) (but : Option Nat) (d : Device) : List (Nat × Nat × Nat) :=
  (d.homed.filter (fun c => some c != but && ((d.chan c).rodA == n || (d.chan c).rodB == n))).map (fun c =>
    (c, d.shareOn c n, if (d.chan c).rodA = n then (d.chan c).maskA else (d.chan c).maskB))

/-- The mask firmware chooses at a homing (R515). -/
def chosenMask (rod : Rod) (others : List (Nat × Nat × Nat)) (cost : Nat) : Nat :=
  let held := others.flatMap (fun e => (List.range 7).filter (natBit e.2.2))
  let free := rod.pes.filter (fun p => !held.contains p)
  let need := ceilDiv cost 4
  if need ≤ free.length then maskOf (free.take need) else maskOf rod.pes

/-- The masks firmware chooses for channels placed together, in ascending number (R515): channel and share of each; `others` are those on the rod. -/
def chosenMasks (rod : Rod) : List (Nat × Nat) → List (Nat × Nat × Nat) → Tab Nat
  | [], _ => []
  | (c, share) :: r, others =>
    let m := chosenMask rod others share
    (c, m) :: chosenMasks rod r (others ++ [(c, share, m)])

/-- Every group of channels on the rod fits the union of its masks (R151). -/
def groupsOk (rod : Rod) : List (Nat × Nat) → Nat → Nat → Bool
  | [], cost, mask => cost ≤ 4 * (rod.pes.filter (natBit mask)).length
  | (k, m) :: r, cost, mask => groupsOk rod r cost mask && groupsOk rod r (cost + k) (maskOf ((List.range 7).filter (fun i => natBit m i || natBit mask i)))

/-- The masks of a rod pass R151. -/
def masksOk (rod : Rod) (l : List (Nat × Nat × Nat)) : Bool := groupsOk rod (l.map (·.2)) 0 0

/-! ### Working sets (R369 to R371) -/

/-- Extents in a group's working area (Table 12.2). -/
def areaExtents : Nat := 4608

/-- The extents of a picture buffer (R369). -/
def picExtents (w h chroma422 : Nat) : Nat := ceilDiv (w * h * (if chroma422 = 1 then 4 else 3) * 325) (512 * 2097152)

/-- A flow's kind is a compressed contribution (03 Table 3.1): JPEG XS holds no references. -/
def compressedKind (k : Nat) : Bool := within 2 4 k

/-- The source bound to a channel is a compressed flow. -/
def Device.boundCompressed (c : Nat) (d : Device) : Bool :=
  match (d.ingest.bind c).recd with
  | none => false
  | some b => b.source == 0 && (match Tab.find b.videoIf d.ingest.flows with
    | some f => compressedKind f.recd.kind
    | none => false)

/-- A channel's own picture buffer; its sampling 0 is 4:2:2. -/
def chanExtents (r : ChannelRec) : Nat := picExtents r.width r.height (if r.sampling = 0 then 1 else 0)

/-- A channel's working set in extents. -/
def Device.workingSet (c : Nat) (d : Device) : Nat :=
  ((d.rendsOf c).map (fun e => e.2.recd.pool * picExtents e.2.recd.width e.2.recd.height e.2.recd.chroma)).sum
    + (if d.boundCompressed c then 9 else 1) * chanExtents (d.chan c).recd

/-- A rendition has a long-term reference (R192). -/
def RendRec.hasLong (r : RendRec) : Bool := r.refs + 2 ≤ r.pool

/-- A rendition's shadow in extents: two buffers. -/
def shadowExtents (r : RendRec) : Nat := if r.hasLong then 2 * picExtents r.width r.height r.chroma else 0

/-- Homes (channel, group, extents) and shadows (rendition, group, extents). -/
structure Layout where
  homes : List (Nat × Nat × Nat)
  shadows : List (Nat × Nat × Nat)

/-- The layout in force. -/
def DramState.layout (x : DramState) : Layout :=
  ⟨(x.places.filter (fun e => !e.2.bare)).map (fun e => (e.1, e.2.home, e.2.extents)), x.shadows.map (fun e => (e.1, e.2.group, e.2.extents))⟩

/-- Extents used in a group. -/
def Layout.used (l : Layout) (g : Nat) : Nat :=
  ((l.homes.filter (fun e => e.2.1 == g)).map (·.2.2)).sum + ((l.shadows.filter (fun e => e.2.1 == g)).map (·.2.2)).sum

/-- Items placed first-fit into the free extents of groups: where each goes, and the free extents left; none where one does not fit. -/
def firstFit : List (Nat × Nat) → Tab Nat → List Nat → Option (List (Nat × Nat) × Tab Nat)
  | [], free, _ => some ([], free)
  | (n, k) :: r, free, gs => match gs.find? (fun g => k ≤ Tab.read free g 0) with
    | none => none
    | some g => match firstFit r (Tab.put g (Tab.read free g 0 - k) free) gs with
      | none => none
      | some (l, f) => some ((n, g) :: l, f)

/-- The groups in service. -/
def Device.groupsIn (d : Device) : List Nat := (List.range 4).filter (fun g => (d.dram.group g).service == 0)

/-- The re-home plan of a group: where its working sets would go (R371, placement 1). -/
def Layout.plan (l : Layout) (gs : List Nat) (g : Nat) : Option (List (Nat × Nat) × Tab Nat) :=
  let others := gs.filter (· != g)
  firstFit (byCost ((l.homes.filter (fun e => e.2.1 == g)).map (fun e => (e.1, e.2.2)))) (others.map (fun o => (o, areaExtents - l.used o))) others

/-- The reserve rule (R371). -/
def Layout.reserve (l : Layout) (gs : List Nat) : Bool :=
  gs.all (fun g => l.used g ≤ areaExtents && (match l.plan gs g with
    | none => false
    | some (_, free) => (firstFit ((l.shadows.filter (fun e => e.2.1 == g)).map (fun e => (e.1, e.2.2))) free (gs.filter (· != g))).isSome))

/-- The layout without a channel and without its renditions' shadows. -/
def Layout.without (l : Layout) (c : Nat) (rs : List Nat) : Layout :=
  ⟨l.homes.filter (fun e => e.1 != c), l.shadows.filter (fun e => !rs.contains e.1)⟩

/-- The group of `gs` with the most free extents that `ok` allows, ties to the lower number (R370). -/
def mostFree (l : Layout) (ok : Nat → Bool) (gs : List Nat) : Option Nat := leastBy (fun g => l.used g) (gs.filter ok)

/-- Shadows placed one by one (R370). -/
def placeShadows (gs : List Nat) (home : Nat) : List (Nat × Nat) → Layout → Option Layout
  | [], l => some l
  | (n, k) :: r, l =>
    let put g : Layout := { l with shadows := l.shadows ++ [(n, g, k)] }
    match mostFree l (fun g => g != home && (put g).reserve gs) gs with
    | none => none
    | some g => placeShadows gs home r (put g)

/-- The layout after a channel is placed (R370): its home and its shadows, or none where check 12 fails. -/
def Device.placeSet (c : Nat) (homeGroup : Nat) (d : Device) : Option Layout :=
  let gs := d.groupsIn
  let rs := d.rendsOf c
  let l := d.dram.layout.without c (rs.map (·.1))
  let put g : Layout := { l with homes := l.homes ++ [(c, g, d.workingSet c)] }
  let home := if homeGroup < 4 then (if gs.contains homeGroup && (put homeGroup).reserve gs then some homeGroup else none)
    else mostFree l (fun g => (put g).reserve gs) gs
  match home with
  | none => none
  | some g => placeShadows gs g ((rs.filter (fun e => e.2.recd.hasLong)).map (fun e => (e.1, shadowExtents e.2.recd))) (put g)

/-- Places and plans as the DRAM state holds them (R371). -/
def DramState.ofLayout (l : Layout) (gs : List Nat) (x : DramState) : DramState :=
  let planOf (c g : Nat) : Option Nat := match l.plan gs g with
    | none => none
    | some (ps, _) => (ps.find? (fun e => e.1 == c)).map (·.2)
  { x with
    places := l.homes.foldl (fun t e =>
      Tab.put e.1 (match Tab.find e.1 x.places with
        | some p => { p with home := e.2.1, extents := e.2.2, plan := planOf e.1 e.2.1, bare := false }
        | none => ⟨e.2.1, e.2.2, planOf e.1 e.2.1, false, none, none⟩) t) (x.places.filter (fun e => e.2.bare))
    shadows := l.shadows.foldl (fun t e => Tab.put e.1 ⟨e.2.1, e.2.2⟩ t) [] }

/-- Every plan is computed again (R371). -/
def Device.replan (d : Device) : Device := { d with dram := d.dram.ofLayout d.dram.layout d.groupsIn }

/-- The channel runs bare (R376). -/
def Device.bare (c : Nat) (d : Device) : Bool := match Tab.find c d.dram.places with
  | some p => p.bare
  | none => false

/-! ### Admission (R143 to R145) -/

/-- The rods that home channels in a live mode (Table 5.4). -/
def modeRods (m : Nat) : Nat := if m = mGuarded then 22 else if m = mBalanced then 23 else if m = mDense then 24 else 16

/-- Beads of a live mode (Table 5.4): less 28 for each rod that is missing beyond the spares, and 4 for each PE missing of a serving rod
(17 R478). -/
def Device.modeBeads (m : Nat) (d : Device) : Nat :=
  let up := rodNumbers.filter (fun n => (d.rod n).service == 0 && (d.rod n).role != 2)
  28 * Nat.min (modeRods m) up.length - 4 * ((up.filter (fun n => (d.rod n).role == 0)).map (fun n => 7 - (d.rod n).pes.length)).sum

/-- The beads that admission counts: the smaller total of the two modes during a change among live modes (16 R457). -/
def Device.beadLimit (m : Nat) (d : Device) : Nat :=
  match d.modes.transition with
  | none => d.modeBeads m
  | some t => if mFrugal ≤ m && m ≤ mDense && mFrugal ≤ t.target && t.target ≤ mDense then Nat.min (d.modeBeads m) (d.modeBeads t.target) else d.modeBeads m

/-- D of a rendition: in force while it is live, else as it would start (R172). -/
def Device.delayOf (e : Nat × Rendition) (d : Device) : Nat :=
  if e.2.live then e.2.dInForce else d10 (d.chan e.2.recd.channel).recd e.2.recd

/-- The rung scaler contexts of a channel: its distinct sizes below its own picture (R116). -/
def Device.rungs (c : Nat) (d : Device) : Nat :=
  (((d.rendsOf c).filter (fun e => scaled (d.chan c).recd e.2.recd)).map (fun e => (e.2.recd.width, e.2.recd.height))).eraseDups.length

/-- The channels that are running, with `c` among them. -/
def Device.runningWith (c : Nat) (d : Device) : List Nat :=
  ((d.code.channels.filter (fun e => e.2.running && e.1 != c)).map (·.1)) ++ [c]

/-- A channel's AFE load on each of its rods, in units of 1 / 2002 pixel per second (R135). -/
def Device.afeLoad (c : Nat) (span : Bool) (d : Device) : Nat :=
  let r := (d.chan c).recd
  r.width * r.height * r.rateNum * 1001 * (if (d.rendsOf c).any (fun e => e.2.recd.preset == 2) then 2 else 1) * (if span then 1 else 2) / r.rateDen

/-- The AFE load of rod `n` by channels other than `but`. -/
def Device.rodAfe (n : Nat) (but : Option Nat) (d : Device) : Nat :=
  ((d.homed.filter (fun c => some c != but && ((d.chan c).rodA == n || (d.chan c).rodB == n))).map
    (fun c => d.afeLoad c ((d.chan c).rodB != 255))).sum

/-- A placement that admission has chosen: rods, masks, units and shares (rendition, on rod a, on rod b), and the DRAM layout. -/
structure Homed where
  rodA : Nat
  rodB : Nat
  maskA : Nat
  maskB : Nat
  units : List (Nat × Nat × Nat)
  shares : List (Nat × Nat × Nat)
  layout : Layout

/-- Units on one of the rods for a channel's renditions: those that keep their unit give it. -/
def Device.unitsFor (c rod : Nat) (onA : Bool) (sh : List (Nat × Nat × Nat)) (d : Device) : List (Nat × Nat) × List (Nat × Nat) :=
  let x := d.chan c
  let here := x.running && (x.rodA == rod || x.rodB == rod)
  let mine := (d.rendsOf c).filterMap (fun e => (sh.find? (fun s => s.1 == e.1)).bind (fun s =>
    let k := if onA then s.2.1 else s.2.2
    if k = 0 then none
    else some (e.1, (if here && e.2.live then (if x.rodA = rod then e.2.buA else e.2.buB) else 255),
      if onA || s.2.1 = 0 then 2 * e.2.recd.rateKbps else e.2.recd.rateKbps)))
  assignUnits (d.onRod rod (some c)) mine

/-- The mask of a channel on a rod: as asked, as it stands, or firmware's choice (R515). -/
def Device.maskFor (c rod share asked : Nat) (d : Device) : Nat :=
  if asked != 0 then asked else chosenMask (d.rod rod) (d.masksOn rod (some c)) share

/-- A rendition of a bound channel breaks the limit on its FILL_LAG (03 R77). -/
def Device.lagBroken (c : Nat) (d : Device) : Bool :=
  (d.ingest.bind c).recd.any (fun b => (d.rendsOf c).any (fun e => !fillLagOk (d.chan c).recd (d.delayOf e) b.fillLagNs e.2.recd))

/-- The checks 2 to 13 of Table 5.6 on a device whose records are those that would result, for channel `c`. `mode` is the live mode
that counts, `starting` adds check 6. -/
def Device.admitHome (c mode : Nat) (starting : Bool) (w : Want) (d : Device) : Except (Nat × Nat) Homed :=
  let ch := d.chan c
  let rs := d.rendsOf c
  let run := d.runningWith c
  if rs.any (fun e => e.2.recd.rateKbps < floorRate ch.recd (d.delayOf e) e.2.recd) then .error (stBadParam, 0x0110)
  else if rs.any (fun e => !delayOk ch.recd (d.delayOf e) e.2.recd) then .error (stBadParam, 0x0111)
  else if d.lagBroken c then .error (stBadState, 0)
  else if 256 < (run.map (fun k => d.rungs k)).sum then .error (stNoBeads, 0x0301)
  else if starting && 96000000000 * 1001 < (run.map (fun k =>
      (d.chan k).recd.width * (d.chan k).recd.height * (d.chan k).recd.rateNum * 1001 / (d.chan k).recd.rateDen)).sum then
    .error (stNoBeads, 0x0303)
  else if d.beadLimit mode < (run.map (fun k => d.cost k)).sum then .error (stNoBeads, 0x0101)
  else match d.chooseRods c w with
    | none => .error (stNoBeads, 0x0102)
    | some (a, b) =>
      let span := b != 255
      let sh := (d.sharesOn c span).getD []
      let rods := if span then [a, b] else [a]
      let ua := d.unitsFor c a true sh
      let ub := if span then d.unitsFor c b false sh else ([], [])
      if rods.any (fun n => 8 < (d.masksOn n (some c)).length + 1) || 64 < ua.1.length || 64 < ub.1.length then .error (stNoBeads, 0x0103)
      else if !unitsOk ua.1 || !unitsOk ub.1 then .error (stNoBeads, 0x0104)
      else if rods.any (fun n => 7200000000 * 2002 < d.rodAfe n (some c) + d.afeLoad c span) then .error (stNoBeads, 0x0105)
      else match (match w with
          | .home _ _ _ => d.placeSet c ch.recd.homeGroup
          | .stay => if d.bare c then some d.dram.layout else d.placeSet c (((Tab.find c d.dram.places).map Placement.home).getD ch.recd.homeGroup)
          | .move _ _ _ _ => some d.dram.layout) with
        | none => .error (stNoBeads, 0x0106)
        | some l =>
          let asked := match w with
            | .home _ _ _ => (0, 0)
            | .move _ _ ma mb => (ma, mb)
            | .stay => (ch.maskA, ch.maskB)
          let ma := d.maskFor c a (sumA sh) asked.1
          let mb := if span then d.maskFor c b (sumB sh) asked.2 else 0
          if !masksOk (d.rod a) (d.masksOn a (some c) ++ [(c, sumA sh, ma)])
              || (span && !masksOk (d.rod b) (d.masksOn b (some c) ++ [(c, sumB sh, mb)])) then .error (stNoBeads, 0x0107)
          else
            let unit (l : List (Nat × Nat)) (n : Nat) : Nat := ((l.find? (fun e => e.1 == n)).map (·.2)).getD 255
            .ok ⟨a, b, ma, mb, rs.map (fun e => (e.1, unit ua.2 e.1, unit ub.2 e.1)), sh, l⟩

/-- What admission refuses, as a check. -/
def refusedBy (r : Except (Nat × Nat) Homed) : Refused := match r with
  | .error e => some e
  | .ok _ => none

/-- E035 + 4n with its change code and the first frame under the new arrangement (R166). -/
def rodEvent (c code frame n : Nat) : List (Nat × Nat) := if n < 24 then [(35 + 4 * n, det3 c code (frame % 2 ^ 32))] else []

/-- A placement is put in force. -/
def Device.setHomed (c : Nat) (h : Homed) (d : Device) : Device :=
  let x := d.chan c
  { d with
    code := { d.code with
      channels := Tab.put c { x with rodA := h.rodA, rodB := h.rodB, maskA := h.maskA, maskB := h.maskB } d.code.channels
      rends := Tab.mapVals (fun n r => match h.units.find? (fun u => u.1 == n), h.shares.find? (fun u => u.1 == n) with
        | some u, some s => { r with buA := u.2.1, buB := u.2.2, shareA := s.2.1, shareB := s.2.2 }
        | _, _ => r) d.code.rends }
    dram := d.dram.ofLayout h.layout d.groupsIn }

end Sys2Proof.Machine
end

