-- ==== Sys2Proof/Machine/Channels.lean ====
section
/-!
DEFINITION. Channels, renditions, slot masks and rods: the commands 0x0101 to 0x010B (chapter 5).
-/
namespace Sys2Proof.Machine

/-- The absent-target refusal (11 R516). -/
def absent (b : Bool) : Refused := badState b 7

/-- A channel that has a record. -/
def Device.hasChan (c : Nat) (d : Device) : Bool := c < 64 && (d.chan c).state != .idle

/-- A rendition with a record. -/
def Device.rend? (n : Nat) (d : Device) : Option Rendition :=
  match Tab.find n d.code.rends with
  | some r => if r.stop.isNone then some r else none
  | none => none

/-- A rendition's channel, where it has a record. -/
def Device.rendChan (n : Nat) (d : Device) : Option Nat := (d.rend? n).map (·.recd.channel)

/-- A channel while it runs: the live channel of R330. -/
def Device.liveOnly (c : Nat) (d : Device) : Option Nat := if (d.chan c).running then some c else none

/-- The live channel a rendition belongs to. -/
def Device.liveOfRend (n : Nat) (d : Device) : Option Nat := (d.rendChan n).bind (fun c => d.liveOnly c)

/-- The frame of effect of a landing on a channel; all ones where it runs not. -/
def Device.frameNow (c : Nat) (d : Device) : Nat := if (d.chan c).running then (d.chan c).committed else max64

/-- The module is in a live mode (16 Table 16.1). -/
def Device.liveMode (d : Device) : Bool := within mFrugal mDense d.modes.mode

/-- A refusal with SEALED (R129). -/
def sealed (b : Bool) : Refused := if b then some (stSealed, 0) else none

/-- The tick of the current frame of a running channel. -/
def Channel.currentTick (x : Channel) : Nat := if x.next = 0 then x.tickOf 0 else x.tickOf (x.next - 1)

/-- An activation governs the frame of channel `c` whose tick is `tick` (R127, R128): within its window, its commit point after
acceptance, and not cleared. -/
def Activation.governs (a : Activation) (c tick : Nat) : Bool :=
  let on := Tab.read a.chans c ActChan.reset
  natBit a.mask c && !on.ended && a.winStart ≤ tick && tick < a.winEnd && a.accepted + commitLead < tick
    && (match on.clearFrom with | some t => tick < t | none => true)

/-- The first moment at which an activation may govern a frame. -/
def Activation.earliest (a : Activation) : Nat := Nat.max a.winStart (a.accepted + commitLead + 1)

/-- An activation governs some frame of channel `c` at or after the current one (R127, R129). -/
def Activation.holds (a : Activation) (c : Nat) (x : Channel) : Bool :=
  a.governs c (x.tickOf (x.frameAt (Nat.max a.earliest x.currentTick)))

/-- A seal activation governs a frame of the channel at or after the current one. -/
def Device.sealHolds (c : Nat) (d : Device) : Bool := (d.chan c).running && d.comp.acts.any (fun a => a.holds c (d.chan c))

/-- A replay runs to a service that `p` picks (13 R408). -/
def Device.replaying (p : Nat → Bool) (d : Device) : Bool := d.journal.replays.any (fun e => p e.2.target)

/-- Number `p` of a rendition belongs to channel `c`. -/
def Device.rendOn (c n : Nat) (d : Device) : Bool := match Tab.find n d.code.rends with
  | some r => r.recd.channel == c
  | none => false

/-! ### CHANNEL_SET -/

def parseChannel (c : Ctx) : ChannelRec :=
  { width := c.b 0 2, height := c.b 2 2, rateNum := c.b 4 4, rateDen := c.b 8 4, sampling := c.b 12 1, colorimetry := c.b 13 1,
    tcs := c.b 14 1, hostIndependent := natBit (c.b 15 1) 0, freeRun := natBit (c.b 15 1) 1, spanAllowed := natBit (c.b 15 1) 2,
    motionField := natBit (c.b 15 1) 3, complexityMap := natBit (c.b 15 1) 4, align := c.b 16 8, homeA := c.b 24 1, homeB := c.b 25 1,
    homeGroup := c.b 26 1, statsSlots := c.b 27 1, statsOffset := c.b 32 8 }

/-- A frame rate of Table 3.2: 24000/1001 to 120. -/
def rateOk (num den : Nat) : Bool := den != 0 && 24000 * den ≤ num * 1001 && num ≤ 120 * den

/-- A field of Table 5.16 out of range. -/
def ChannelRec.bad (r : ChannelRec) : Bool :=
  !within 64 7680 r.width || !within 64 4320 r.height || !rateOk r.rateNum r.rateDen || !(r.sampling == 0 || r.sampling == 2)
    || 2 ≤ r.colorimetry || 3 ≤ r.tcs || tickUnits r ≤ r.align * r.rateNum
    || !(r.homeA < 24 || r.homeA == 255) || !(r.homeB < 24 || r.homeB == 255)
    || (r.homeB != 255 && (r.homeA == 255 || r.homeA == r.homeB || !r.spanAllowed))
    || !(r.homeGroup < 4 || r.homeGroup == 255) || !within 2 64 r.statsSlots || r.statsOffset % 4096 != 0
    || !inWindow r.statsOffset (statsRingBytes r)

/-- What a live channel's record may not change (R160). -/
def ChannelRec.fixed (r : ChannelRec) : List Nat :=
  [r.width, r.height, r.rateNum, r.rateDen, r.sampling, r.colorimetry, r.tcs, bit01 r.freeRun, r.align, r.homeA, r.homeB, r.homeGroup]

/-- A HOME_ROD field names a spare rod (R142). -/
def Device.namesSpare (a b : Nat) (d : Device) : Bool := (a < 24 && (d.rod a).role == 1) || (b < 24 && (d.rod b).role == 1)


/-- The ring of two records lies differently (R162). -/
def statsMoves (a b : ChannelRec) : Bool :=
  a.statsOffset != b.statsOffset || a.statsSlots != b.statsSlots || a.motionField != b.motionField || a.complexityMap != b.complexityMap

/-- A ring whose control area a newer ring takes keeps the READ_INDEX that it had (R162). -/
def RingAcct.held (m : MemState) (old new : Nat) (x : RingAcct) : RingAcct :=
  if old = new && x.rd.isNone then { x with rd := some (readIndex m old) } else x

/-- CHANNEL_SET's effect: the record, and the statistics ring begun again where it moves (R162). -/
def setChannelRec (k : Nat) (r : ChannelRec) (d : Device) : Device :=
  let x := d.chan k
  let moves := statsMoves x.recd r
  let d1 := d.setChan k { x with
    recd := r, state := if x.state == .idle then .defined else x.state
    stats := if moves then { RingAcct.reset with dropped := x.stats.dropped } else x.stats
    prior := if moves && x.running then
        (x.prior ++ [(x.committed, x.recd, x.stats)]).map (fun q => (q.1, q.2.1, q.2.2.held d.mem q.2.1.statsOffset r.statsOffset))
      else x.prior }
  if moves then d1.zeroIndices r.statsOffset else d1

def channelSet : CmdSpec where
  op := 0x0101
  block := some (fun _ => 64)
  sel := .ift
  when_ := .commit
  reserved := [(28, 4), (40, 24)]
  check c d :=
    let r := parseChannel c
    firstOf [
      badParam (64 ≤ c.handle || 32 ≤ c.b 15 1 || r.bad || d.ringOverlap (1 + c.handle) (r.statsOffset, statsRingBytes r)),
      badState ((d.chan c.handle).running && r.fixed != (d.chan c.handle).recd.fixed) 0,
      badState (d.namesSpare r.homeA r.homeB) 0]
  chan c d := d.liveOnly c.handle
  apply c d := Done.ok (setChannelRec c.handle (parseChannel c) d)

/-! ### RENDITION_SET -/

def parseRend (c : Ctx) : RendRec :=
  { channel := c.b 0 2, echoOf := c.b 2 2, codec := c.b 4 1, profile := c.b 5 1, level := c.b 6 1, preset := c.b 7 1, width := c.b 8 2,
    height := c.b 10 2, cropX := c.b 12 2, cropY := c.b 14 2, cropW := c.b 16 2, cropH := c.b 18 2, chroma := c.b 20 1, depth := c.b 21 1,
    ltTest := natBit (c.b 22 1) 0, refs := c.b 23 1, rateKbps := c.b 24 4, delay := c.b 28 4, refresh := c.b 32 2, shadow := c.b 34 2,
    pool := c.b 36 1, qpMin := c.b 37 1, qpMax := c.b 38 1 }

/-- A field of Table 5.17 out of range, on a channel. -/
def RendRec.bad (r : RendRec) (ch : ChannelRec) : Bool :=
  !(r.echoOf < 512 || r.echoOf == 0xFFFF) || 4 ≤ r.codec || 3 ≤ r.preset || r.width % 2 != 0 || r.height % 2 != 0
    || !within 64 ch.width r.width || !within 64 ch.height r.height
    || (r.cropW != 0 && (r.cropW < r.width || ch.width < r.cropX + r.cropW))
    || (r.cropH != 0 && (r.cropH < r.height || ch.height < r.cropY + r.cropH))
    || 2 ≤ r.chroma || (ch.sampling == 2 && r.chroma == 1) || !(r.depth == 8 || r.depth == 10) || !within 1 4 r.refs
    || !within 100 1000000 r.rateKbps || (r.refresh != 0 && !within 8 256 r.refresh) || (r.shadow != 0 && !within 8 256 r.shadow)
    || !within 2 16 r.pool || r.pool < r.refs + 1 || r.qpMax < r.qpMin || (r.ltTest && r.pool < r.refs + 2)

/-- Outside Table 5.1 (R136). -/
def RendRec.unsupported (r : RendRec) : Bool := !profileOk r || !sizeOk r || 62 < r.level

/-- Picture size, crop and preset. -/
def RendRec.shape (r : RendRec) : List Nat := [r.width, r.height, r.cropX, r.cropY, r.cropW, r.cropH, r.preset]

/-- The echoes of rendition `n`. -/
def Device.echoesOf (n : Nat) (d : Device) : List (Nat × Rendition) := d.code.rends.filter (fun e => e.2.stop.isNone && e.2.recd.echoOf == n && e.1 != n)

/-- The echo rules are broken (R154, R155). -/
def Device.echoBad (n : Nat) (r : RendRec) (d : Device) : Bool :=
  (d.echoesOf n).any (fun e => e.2.recd.codec == r.codec) ||
  (r.echoOf != 0xFFFF && (match d.rend? r.echoOf with
    | none => true
    | some p => r.echoOf == n || p.recd.channel != r.channel || p.recd.echoOf != 0xFFFF || p.recd.codec == r.codec
        || (d.echoesOf r.echoOf).any (fun e => e.1 != n && e.2.recd.codec == r.codec) || p.recd.shape != r.shape))

/-- What a live rendition may not change (R160). -/
def RendRec.fixed (r : RendRec) : List Nat :=
  [r.codec, r.profile, r.chroma, r.depth, r.delay, r.pool, r.refs, bit01 r.ltTest, r.echoOf]

/-- D of a rendition under a new record: in force while it is live (R172). -/
def Device.delayUnder (n : Nat) (r : RendRec) (d : Device) : Nat :=
  match d.rend? n with
  | some x => if x.live then x.dInForce else d10 (d.chan r.channel).recd r
  | none => d10 (d.chan r.channel).recd r

/-- The first check of Table 5.6 on a record. -/
def Device.rendFields (n : Nat) (r : RendRec) (d : Device) : Refused :=
  let ch := (d.chan r.channel).recd
  firstRefusal [
    (r.bad ch, stBadParam, 0),
    (r.unsupported, stNotSupported, 0),
    (!levelOk ch (d.delayUnder n r) r || d.echoBad n r, stBadParam, 0)]

/-- The device with rendition `n` set to a record, as admission looks at it. -/
def Device.withRend (n : Nat) (r : RendRec) (d : Device) : Device :=
  match d.rend? n with
  | some x => d.setRend n { x with recd := r }
  | none => d.setRend n (Rendition.ofRec r)

/-- Launch store bytes of a service (08 R244). -/
def storeNeed (b l dd : Nat) (col row : Bool) : Nat :=
  ceilDiv (2 * b * 102 * (l * dd + (if col then l else 0) + (if row then dd else 0))) (800 * l * dd) + 8192

/-- The launch store that the enabled services would reserve, with rendition and service records looked up in `d`. -/
def Device.storeUsed (d : Device) : Nat :=
  ((d.out.services.filter (fun e => e.2.recd.enable && !e.2.gone)).map (fun e =>
    match d.rend? e.1 with
    | none => 0
    | some x => storeNeed (bufferBits x.recd.rateKbps (d.delayOf (e.1, x))) e.2.recd.fecL e.2.recd.fecD e.2.recd.colFec e.2.recd.rowFec)).sum

/-- The launch store (08 R244). -/
def launchStore : Nat := 12 * 1048576

def storeFull (b : Bool) : Refused := if b then some (stNoBeads, 0x0501) else none

/-- The rate of a rendition with an enabled service rises beyond what the launch store holds (08 R244). -/
def Device.storeRaise (n : Nat) (r : RendRec) (d : Device) : Bool :=
  match d.rend? n, Tab.find n d.out.services with
  | some x, some s => s.recd.enable && !s.gone && x.recd.rateKbps < r.rateKbps && launchStore < (d.withRend n r).storeUsed
  | _, _ => false

/-- RENDITION_SET's state checks (R155, R160). -/
def Device.rendState (n : Nat) (r : RendRec) (d : Device) : Refused :=
  match d.rend? n with
  | none => badParam (32 ≤ (d.rendsOf r.channel).length)
  | some x =>
    let moves := x.recd.channel != r.channel
    let live := (d.chan x.recd.channel).running
    let echoes := !(d.echoesOf n).isEmpty
    firstOf [
      badState (moves && (live || (d.chan r.channel).running)) 0,
      badState (moves && echoes) 0,
      badParam (moves && 32 ≤ (d.rendsOf r.channel).length),
      badState (echoes && x.recd.shape != r.shape) 0,
      badState (live && x.live && x.recd.fixed != r.fixed) 0,
      sealed (d.sealHolds x.recd.channel && x.recd.shape.take 6 != r.shape.take 6)]

/-- RENDITION_SET on a rendition at frame `f` of its live channel: changed, or begun with an IDR (R160, R161). -/
def Device.rendLive (n : Nat) (r : RendRec) (f : Nat) (d : Device) : Device :=
  let ch := (d.chan r.channel).recd
  match Tab.find n d.code.rends with
  | some x =>
    if x.stop.isNone && x.live then
      let idr := x.recd.shape.take 6 != r.shape.take 6 || signalled ch x.recd != signalled ch r
      d.setRend n { x with
        recd := r, idrAt := if idr then some f else x.idrAt
        cycleStart := if x.recd.refreshFrames != r.refreshFrames then f else x.cycleStart }
    else d.setRend n { Rendition.ofRec r with
      live := true, start := f, dInForce := d10 ch r, cycleStart := f + 1, pics := x.pics, occ := x.occ, occAt := x.occAt }
  | none => d.setRend n { Rendition.ofRec r with live := true, start := f, dInForce := d10 ch r, cycleStart := f + 1 }

/-- RENDITION_SET's effect. On a live channel the placement that admission finds is put in force at the frame of effect. -/
def setRendition (n : Nat) (r : RendRec) (d : Device) : Device :=
  let x := d.chan r.channel
  if x.running then
    let d1 := d.rendLive n r x.committed
    match d1.admitHome r.channel d.modes.mode false .stay with
    | .ok h => d1.setHomed r.channel h
    | .error _ => d1
  else d.withRend n r

def renditionSet : CmdSpec where
  op := 0x0105
  block := some (fun _ => 64)
  sel := .ift
  when_ := .commit
  reserved := [(39, 25)]
  check c d :=
    let r := parseRend c
    let n := c.handle
    firstOf [
      badParam (512 ≤ n || 64 ≤ r.channel || 2 ≤ c.b 22 1),
      absent (!d.hasChan r.channel),
      d.rendState n r,
      d.rendFields n r,
      (if (d.chan r.channel).running then refusedBy ((d.withRend n r).admitHome r.channel d.modes.mode false .stay)
        else badState ((d.withRend n r).lagBroken r.channel) 0),
      storeFull (d.storeRaise n r)]
  chan c d := match d.liveOfRend c.handle with
    | some k => some k
    | none => d.liveOnly (c.b 0 2)
  apply c d := Done.ok ((setRendition c.handle (parseRend c) d).asRun (c.b 0 2) 13 c.tag (d.frameNow (c.b 0 2)) c.handle)

/-! ### Clearing renditions and channels -/

/-- A service goes with its rendition: its subscribers are disabled (07 R205). -/
def OutputState.dropService (n : Nat) (x : OutputState) : OutputState :=
  { x with
    services := Tab.del n x.services
    subs := Tab.mapVals (fun _ b => if b.recd.service = n then { b with recd := { b.recd with enable := false } } else b) x.subs }

/-- A rendition is gone: its record, its service, its shadow. -/
def Device.dropRend (n : Nat) (d : Device) : Device :=
  { d with
    code := { d.code with rends := Tab.del n d.code.rends }
    out := d.out.dropService n
    dram := { d.dram with shadows := Tab.del n d.dram.shadows } }

/-- RENDITION_CLEAR (R155, R160; 13 R408). On a live channel the rendition codes its last picture in the frame before. -/
def renditionClear : CmdSpec where
  op := 0x0106
  sel := .ift
  when_ := .commit
  reserved := [(0, 40)]
  check c d :=
    let n := c.handle
    orElse (badParam (512 ≤ n)) (match d.rend? n with
      | none => absent true
      | some x => firstOf [
          badState (!(d.echoesOf n).isEmpty) 0,
          badState ((d.chan x.recd.channel).state == .live && (d.rendsOf x.recd.channel).length ≤ 1) 0,
          badState (d.replaying (· == n)) 0x0908,
          sealed (d.sealHolds x.recd.channel)])
  chan c d := d.liveOfRend c.handle
  apply c d :=
    let n := c.handle
    match d.rend? n with
    | none => Done.ok d
    | some x =>
      let ch := d.chan x.recd.channel
      let d1 := if ch.running && x.live then d.setRend n { x with stop := some ch.committed } else d.dropRend n
      Done.ok (d1.asRun x.recd.channel 13 c.tag (d.frameNow x.recd.channel) n)

/-- The check context of a channel's host frame ring is free again (13 R411). -/
def CheckState.freeOf (c : Nat) (x : CheckState) : CheckState :=
  { x with ctxs := x.ctxs.filter (fun e => !(e.2.owner == 1 && e.2.channel == c)) }

/-- CHANNEL_CLEAR (R167): the record, its renditions, its binding and its layers go. -/
def channelClear : CmdSpec where
  op := 0x0104
  reserved := [(0, 40)]
  check c d := firstOf [badParam (64 ≤ c.handle), absent (!d.hasChan c.handle), badState ((d.chan c.handle).state != .defined) 0]
  apply c d :=
    let k := c.handle
    let d1 := ((d.code.rends.filter (fun e => e.2.recd.channel == k)).map (·.1)).foldl (fun d n => d.dropRend n) d
    Done.ok { d1 with
      code := { d1.code with channels := Tab.del k d1.code.channels }
      ingest := { d1.ingest with binds := Tab.del k d1.ingest.binds }
      comp := { d1.comp with chans := Tab.del k d1.comp.chans }
      checks := d1.checks.freeOf k }

/-! ### Starting and stopping -/

/-- A channel has a bound source or a slate (R158). -/
def Device.hasSource (c : Nat) (d : Device) : Bool :=
  match (d.ingest.bind c).recd with
  | none => false
  | some b => b.source < 2 || (Tab.find b.slate d.ingest.slates).isSome

/-- The servo state lets a channel start (02 R43). -/
def ServoState.mayStart : ServoState → Bool
  | .locked | .slewing | .holdover | .external => true
  | .free | .acquire => false

/-- 5 ms (R158). -/
def startLead : Nat := 5000 * usec

/-- The renditions' own fields, at a start (R144 check 1). -/
def Device.allFields (c : Nat) (d : Device) : Refused := firstOf ((d.rendsOf c).map (fun e => d.rendFields e.1 e.2.recd))

/-- Admission of a start in a live mode (R143, R146). -/
def Device.admitStart (c mode : Nat) (d : Device) : Except (Nat × Nat) Homed :=
  let r := (d.chan c).recd
  d.admitHome c mode true (.home r.homeA r.homeB r.spanAllowed)

/-- The first tick a start can use: at or after `asked` and at least 5 ms on (R158). -/
def Device.startTick (c asked : Nat) (d : Device) : Nat := gridFirst (d.chan c).recd (Nat.max asked (d.now + startLead))

/-- The channel goes live with its first frame at tick number `k` (R158): homed, every rendition begun (E035, 13 R389). -/
def Device.startChannel (c k tag : Nat) (h : Homed) (d : Device) : Device :=
  let d0 := d.setHomed c h
  let x := d0.chan c
  let d1 := { d0 with
    code := { d0.code with
      channels := Tab.put c { x with
        state := .live, grid := k, next := 0, committed := 0, lastTick := gridTick x.recd k, ticks := [], stop := none, lossStop := false,
        prior := [], degraded := false, remask := [], planned := none, floorTo := 0 } d0.code.channels
      rends := Tab.mapVals (fun _ r => if r.recd.channel = c then { r with
        live := true, start := 0, stop := none, dInForce := d10 x.recd r.recd, trafficMax := 0,
        idrAt := none, cycleStart := 1, occ := 0, occAt := gridTick x.recd k, pics := [], pool := RefPool.reset, paths := []
        template := [], captions := [], capSeen := (0, 0), stored := [] } else r) d0.code.rends }
    ingest := d0.ingest.setBind c (d0.ingest.bind c).start
    comp := d0.comp.setChan c (d0.comp.chan c).start
    serv := { d0.serv with audioImage := Tab.put c (d0.serv.image 5).active d0.serv.audioImage } }
  (d1.asRun c 1 tag 0 0).raise (rodEvent c 1 0 h.rodA ++ rodEvent c 1 0 h.rodB)

/-- What a start needs, but for admission (R158, 16 R452, 02 R43, 13 R408). -/
def Device.startCheck (c : Nat) (d : Device) : Refused :=
  let x := d.chan c
  firstOf [
    absent (!d.hasChan c),
    badState (x.state != .defined || (d.rendsOf c).isEmpty || !d.hasSource c) 0,
    badState (!d.liveMode) 0x0010,
    badState (!d.time.servo.mayStart && !x.recd.freeRun) 0,
    badState (d.namesSpare x.recd.homeA x.recd.homeB) 0,
    badState (d.replaying (fun n => d.rendOn c n)) 0x0908]

def channelStart : CmdSpec where
  op := 0x0102
  sel := .it
  reserved := [(0, 40)]
  check c d := firstOf [badParam (64 ≤ c.handle), d.startCheck c.handle, d.allFields c.handle, refusedBy (d.admitStart c.handle d.modes.mode)]
  apply c d :=
    match d.admitStart c.handle d.modes.mode with
    | .error e => Done.refuse e.1 e.2 d
    | .ok h =>
      let r := (d.chan c.handle).recd
      let k := d.startTick c.handle (if c.effect = 2 then c.effectTime else 0)
      let late := c.effect = 2 && gridFirst r c.effectTime < k
      ⟨d.startChannel c.handle k c.tag h, some (if late then (stStartedAt, usMoved c.effectTime (gridTick r k)) else (stOk, 0)),
        some (gridTick r k)⟩

/-- The channel stops at frame `f` (R159): frame `f - 1` is the last. -/
def Device.stopChannel (c f tag : Nat) (d : Device) : Device :=
  (d.setChan c { d.chan c with state := .stopping, stop := some f }).asRun c 2 tag (f - 1) (f - 1)

def channelStop : CmdSpec where
  op := 0x0103
  sel := .ift
  when_ := .commit
  reserved := [(0, 40)]
  check c d := firstOf [badParam (64 ≤ c.handle), absent (!d.hasChan c.handle), badState ((d.chan c.handle).state != .live) 0,
    sealed (d.sealHolds c.handle)]
  chan c d := d.liveOnly c.handle
  apply c d := Done.ok (d.stopChannel c.handle (d.chan c.handle).committed c.tag)

/-! ### Masks, moves and IDR pictures -/

/-- A channel's paths after an engine fault end with frame `f` (R195, R198). -/
def Device.endFaultPaths (c f : Nat) (d : Device) : Device :=
  { d with code := { d.code with
    channels := Tab.put c { d.chan c with degraded := false } d.code.channels
    rends := Tab.mapVals (fun _ r => if r.recd.channel = c then
      { r with paths := r.paths.map (fun p => if p.kind = 1 && p.ends.isNone then { p with ends := some f } else p) } else r) d.code.rends } }

/-- The masks of rod `n` with channel `c`'s replaced pass R151. -/
def Device.maskFits (c n mask : Nat) (d : Device) : Bool :=
  masksOk (d.rod n) (d.masksOn n (some c) ++ [(c, d.shareOn c n, mask)])

/-- The mask a SLOTMASK_SET gives on a rod: 0 is every PE in service (R515). -/
def askedMask (rod : Rod) (m : Nat) : Nat := if m = 0 then maskOf rod.pes else m

/-- The rod that ROD_SEL names. -/
def Channel.rodSel (x : Channel) (sel : Nat) : Nat := if sel = 0 then x.rodA else x.rodB

/-- The masks of a rod's channels pass R151, and no engine of it but a PE has failed: nothing holds its channels on a recovery path (R153, R199). -/
def Device.rodSound (n : Nat) (d : Device) : Bool := masksOk (d.rod n) (d.masksOn n none) && (d.rod n).engines.isEmpty

/-- Every rod of a channel is sound. -/
def Device.homeSound (c : Nat) (d : Device) : Bool := [(d.chan c).rodA, (d.chan c).rodB].all (fun n => 24 ≤ n || d.rodSound n)

/-- After a mask or a move on rod `n` (R153, R198, R199): where the rod is sound again no handover is owed, and the fault paths of its channels that have no other
rod in fault end, each with its next frame. A rod whose handover has begun goes on with it (R200). -/
def Device.settleRod (n : Nat) (d : Device) : Device :=
  if 24 ≤ n || (d.rod n).handTo.isSome || !d.rodSound n then d
  else
    ((d.homed.filter (fun c => (d.chan c).rodA == n || (d.chan c).rodB == n)).filter (fun c => d.homeSound c)).foldl
      (fun d c => d.endFaultPaths c (d.chan c).committed) (d.setRod n { d.rod n with handFrom := none })

/-- A channel's mask on one of its rods. -/
def Channel.setMask (x : Channel) (sel m : Nat) : Channel := if sel = 0 then { x with maskA := m } else { x with maskB := m }

def slotmaskSet : CmdSpec where
  op := 0x0107
  sel := .ift
  when_ := .commit
  reserved := [(2, 38)]
  check c d :=
    let x := d.chan c.handle
    let n := x.rodSel (c.p 0 1)
    firstOf [
      badParam (64 ≤ c.handle || 2 ≤ c.p 0 1 || 128 ≤ c.p 1 1),
      absent (!d.hasChan c.handle),
      badState (x.state != .live || (c.p 0 1 == 1 && x.rodB == 255)) 0,
      (if d.maskFits c.handle n (askedMask (d.rod n) (c.p 1 1)) then none else some (stNoBeads, 0x0107))]
  chan c d := d.liveOnly c.handle
  apply c d :=
    let x := d.chan c.handle
    let n := x.rodSel (c.p 0 1)
    let m := maskOf ((d.rod n).pes.filter (natBit (askedMask (d.rod n) (c.p 1 1))))
    let fits := d.maskFits c.handle n m
    let chosen := if fits then m else maskOf (d.rod n).pes
    let d1 := ((d.setChan c.handle (x.setMask (c.p 0 1) chosen)).raise (rodEvent c.handle 4 x.committed n)).settleRod n
    if fits then Done.ok d1 else Done.refuse stNoBeads 0x0107 d1

/-- A channel's mask on rod `n`. -/
def Channel.maskOn (n : Nat) (x : Channel) : Nat := if x.rodA = n then x.maskA else x.maskB

/-- A channel moves to other rods at frame `f` (R149, R200): rows of earlier frames stay on the old rods. Its paths after an engine fault end
with frame `ends` where its new rods are sound; else it runs on degraded (R204). E035 tells each rod of a move, or of a new mask (R166). -/
def Device.moveEnds (c f ends : Nat) (h : Homed) (d : Device) : Device :=
  let x := d.chan c
  let old := [x.rodA, x.rodB].filter (· < 24)
  let new := [h.rodA, h.rodB].filter (· < 24)
  let d1 := d.setHomed c h
  let d2 := if d1.homeSound c then d1.endFaultPaths c ends else d1.setChan c { d1.chan c with degraded := true }
  d2.raise ((old.filter (fun n => !new.contains n)).flatMap (rodEvent c 3 f) ++ (new.filter (fun n => !old.contains n)).flatMap (rodEvent c 2 f)
    ++ (new.filter (fun n => old.contains n && x.maskOn n != (d1.chan c).maskOn n)).flatMap (rodEvent c 4 f))

/-- A commanded move: the paths end with its frame, and the rods that it leaves or takes are looked at afresh (R153). -/
def Device.moveTo (c f : Nat) (h : Homed) (d : Device) : Device :=
  let x := d.chan c
  [x.rodA, x.rodB, h.rodA, h.rodB].eraseDups.foldl (fun d n => d.settleRod n) (d.moveEnds c f f h)

/-- The move that a CHANNEL_MOVE asks for. -/
def moveWant (c : Ctx) : Want := .move (c.p 0 1) (c.p 1 1) (c.p 2 1) (c.p 3 1)

/-- A CHANNEL_MOVE names the present rods and masks (Table 5.19). -/
def sameRods (c : Ctx) (x : Channel) : Bool :=
  x.rodA == c.p 0 1 && x.rodB == c.p 1 1 && x.maskA == c.p 2 1 && (x.rodB == 255 || x.maskB == c.p 3 1)

/-- Units, masks and rods for a move that admission no longer lets pass: the move completes with the masks that are left (R204). -/
def Device.forced (c a b ma mb : Nat) (d : Device) : Homed :=
  let span := b != 255
  let sh := (d.sharesOn c span).getD []
  let ua := (d.unitsFor c a true sh).2
  let ub := if span then (d.unitsFor c b false sh).2 else []
  let unit (l : List (Nat × Nat)) (n : Nat) : Nat := ((l.find? (fun e => e.1 == n)).map (·.2)).getD 255
  let mask (n m : Nat) : Nat := maskOf ((d.rod n).pes.filter (natBit (askedMask (d.rod n) m)))
  ⟨a, b, mask a ma, if span then mask b mb else 0, (d.rendsOf c).map (fun e => (e.1, unit ua e.1, unit ub e.1)), sh, d.dram.layout⟩

def channelMove : CmdSpec where
  op := 0x0108
  sel := .ift
  when_ := .commit
  reserved := [(4, 36)]
  check c d :=
    let x := d.chan c.handle
    firstOf [
      badParam (64 ≤ c.handle || 24 ≤ c.p 0 1 || !(c.p 1 1 < 24 || c.p 1 1 == 255) || c.p 0 1 == c.p 1 1 || 128 ≤ c.p 2 1 || 128 ≤ c.p 3 1),
      absent (!d.hasChan c.handle),
      badState (x.state != .live) 0,
      badState (d.namesSpare (c.p 0 1) (c.p 1 1)) 0,
      (if sameRods c x then none else refusedBy (d.admitHome c.handle d.modes.mode false (moveWant c)))]
  chan c d := d.liveOnly c.handle
  apply c d :=
    let x := d.chan c.handle
    if sameRods c x then Done.ok d
    else match d.admitHome c.handle d.modes.mode false (moveWant c) with
      | .ok h => Done.ok (d.moveTo c.handle x.committed h)
      | .error _ => Done.ok (d.moveTo c.handle x.committed (d.forced c.handle (c.p 0 1) (c.p 1 1) (c.p 2 1) (c.p 3 1)))

/-- RENDITION_IDR (R161): the picture of the frame of effect is an IDR. -/
def renditionIdr : CmdSpec where
  op := 0x0109
  cr0 := true
  sel := .ift
  when_ := .commit
  reserved := [(0, 40)]
  check c d := orElse (badParam (512 ≤ c.handle)) (match d.rend? c.handle with
    | none => absent true
    | some x => badState (!(d.chan x.recd.channel).running) 0)
  chan c d := d.liveOfRend c.handle
  apply c d := match d.rend? c.handle with
    | none => Done.ok d
    | some x => Done.ok (d.setRend c.handle { x with idrAt := some (d.chan x.recd.channel).committed })

/-! ### Status -/

/-- A rendition's state code (R167). -/
def rendState (x : Rendition) (ch : Channel) : Nat :=
  if !x.live then 0 else if x.stop.isSome || ch.state == .stopping then 2 else 1

/-- RENDITION_STATUS_GET's record. -/
def rendRecord (n : Nat) (d : Device) : Bytes :=
  match d.rend? n with
  | none => []
  | some x =>
    let ch := d.chan x.recd.channel
    let dd := d.delayOf (n, x)
    let s := s10 ch.recd x.recd
    fields [(2, rendState x ch), (1, beadCost ch.recd x.recd), (1, ch.rodA), (1, ch.rodB), (1, if x.buA < 2 then x.buA else if x.buB < 2 then x.buB else 0), (2, 0),
      (4, dd), (4, s), (4, dmin10 ch.recd x.recd), (4, 0), (8, x.pictures), (8, x.floorRows), (8, x.idrCount), (8, x.rctLateCount),
      (4, ratio16 dd s), (4, x.trafficMax), (48, 0)] ++ timeWordBytes d.now

def renditionStatusGet : CmdSpec where
  op := 0x010A
  when_ := .done
  reserved := [(8, 32)]
  check c d := firstOf [badParam (512 ≤ c.handle || targetBad 128 c d), absent (d.rend? c.handle).isNone, targetCheck 128 c d]
  apply c d := writeRecord (rendRecord c.handle d) c d

/-- ROD_STATUS_GET's record (Table 5.20). -/
def rodRecord (n : Nat) (d : Device) : Bytes :=
  let r := d.rod n
  let on := d.onRod n none
  let chans := d.homed.filter (fun c => (d.chan c).rodA == n || (d.chan c).rodB == n)
  fields [(1, r.service), (1, r.role), (1, r.pe), (1, d.usedBeads n none), (1, chans.length), (1, on.length), (2, r.clockMhz),
    (8, chans.foldl (fun s c => s + 2 ^ c) 0), (4, unitRate 0 on / 2), (4, unitRate 1 on / 2), (4, d.rodAfe n none / 2002000), (4, 0),
    (8, r.rowsCoded), (8, r.rowsFloor), (8, r.sramCorrected), (8, r.rctLate), (48, 0)] ++ timeWordBytes d.now

def rodStatusGet : CmdSpec where
  op := 0x010B
  when_ := .done
  reserved := [(8, 32)]
  check c d := firstOf [badParam (24 ≤ c.handle), targetCheck 128 c d]
  apply c d := writeRecord (rodRecord c.handle d) c d

end Sys2Proof.Machine
end

