-- ==== Sys2Proof/Machine/Rows.lean ====
section
/-!
DEFINITION. Rows in the rods: frame ticks, row marks, the budget guard, floor triggers, deadlines, statistics slots, and engine
faults (chapters 5 and 6).
-/
namespace Sys2Proof.Machine

/-- Sender occupancy units in one bit: 1 / (65536 × 10^6) bit each. -/
def occUnit : Nat := 65536 * 1000000

/-- The picture of frame `f` of rendition `n`. -/
def Rendition.pic? (x : Rendition) (f : Nat) : Option Picture := Tab.find f x.pics

def Device.setPic (n f : Nat) (p : Picture) (d : Device) : Device :=
  match Tab.find n d.code.rends with
  | none => d
  | some x => d.setRend n { x with pics := Tab.put f p x.pics }

/-- N and the refresh column of a picture. -/
def Picture.col (p : Picture) : Nat × Nat := if p.intra then (0, p.recd.blocks) else refreshCol p.recd p.refreshPos

/-- The floor cost of each of a picture's rows (R175). -/
def Picture.rowCost (p : Picture) : Nat := rowFloor p.recd p.intra p.col.2

/-- A block is coded flat intra by the floor coder (R173). -/
def Picture.flatAt (p : Picture) (i : Nat) : Bool := p.intra || (p.col.1 ≤ i && i < p.col.1 + p.col.2)

/-- The blocks of the left, or only, tile column (R137). -/
def Picture.leftN (p : Picture) : Nat := p.split.getD p.recd.blocks

/-- The blocks of a row that its tile columns have not delivered, of which `l` and `r` are. -/
def Picture.undone (p : Picture) (l r : Nat) : List Nat :=
  (List.range p.recd.blocks).filter (fun i => if i < p.leftN then l ≤ i else p.leftN + r ≤ i)

/-- The floor cost of what is left of a row, with its overhead where a tile column of it has not begun (R183; assumption 193). -/
def Picture.costRest (p : Picture) (l r : Nat) : Nat :=
  let t := floorTable p.recd.codec
  (if l = 0 || (p.split.isSome && r = 0) then t.1 else 0) + ((p.undone l r).map (fun i => if p.flatAt i then t.2.2 else t.2.1)).sum

/-- The bits of the blocks that a row's tile columns have delivered. -/
def RowState.got (r : RowState) : Nat := ((r.points.head?.map (·.bits)).getD 0) + ((r.right.head?.map (·.bits)).getD 0)

/-- The bits of a row once the floor coder has completed it from where it stands, at most (R175, R183). -/
def Picture.floorTop (p : Picture) (r : RowState) : Nat := r.got + p.costRest r.points.length r.right.length

/-- The deadline of row `k` of frame `f` (R170). -/
def rowDeadlineAt (ch : Channel) (p : Picture) (f k : Nat) : Nat :=
  ch.tickOf f + rowOffset ch.recd p.recd k + p.delay * tenNs - windowOf ch.recd p.recd

/-- The first launch of row `k` of frame `f` (R170). -/
def rowLaunchAt (ch : Channel) (p : Picture) (f k : Nat) : Nat := ch.tickOf f + rowOffset ch.recd p.recd k + p.delay * tenNs

/-- The floor trigger of a row: 1 µs earlier while the coding die's time copy is out of lock (R170, R171). -/
def rowTriggerAt (locked : Bool) (ch : Channel) (p : Picture) (f k : Nat) : Nat :=
  rowDeadlineAt ch p f k - tFloor - (if locked then 0 else usec)

/-! ### Sender occupancy (R179) -/

/-- The header bits that enter with a row: row 0 carries its picture's (07 R209; Table 6.4 counts them in V). -/
def Picture.headOf (p : Picture) (k : Nat) : Nat := if k = 0 then p.plan.headerBits else 0

/-- Rows that have not entered yet, in order: frame, row, deadline, the RATE of their frame (01 R33), and their bits, or their
    caps while they are being coded. -/
def Rendition.pendingRows (x : Rendition) (ch : Channel) : List (Nat × Nat × Nat × Nat × Nat) :=
  x.pics.flatMap (fun e => (e.2.rows.filter (fun r => !r.2.entered)).map (fun r =>
    (e.1, r.1, rowDeadlineAt ch e.2 e.1 r.1, e.2.recd.rateKbps, r.2.bits.getD r.2.cap + e.2.headOf r.1)))

/-- V falls at RATE to a later moment. -/
def drainOcc (rate v from_ to_ : Nat) : Nat := v - rate * (to_ - from_)

/-- V at a moment, before a row that enters then, with the rows of earlier deadlines entered. V falls at the RATE of the frame
    whose row enters next (01 R33); `rate` is that of the row that enters at the moment. -/
def Rendition.occBefore (x : Rendition) (ch : Channel) (rate t : Nat) : Nat :=
  let e := ((x.pendingRows ch).filter (fun r => r.2.2.1 < t)).foldl (fun (a : Nat × Nat) r =>
    (Nat.max r.2.2.1 a.2, r.2.2.2) |> fun q => (drainOcc q.2.1 a.1 a.2 q.1 + q.2.2 * occUnit, q.1)) (x.occ, x.occAt)
  drainOcc rate e.1 e.2 t

/-- The room of a row of picture `p` at its deadline (R179), in whole bits. -/
def Rendition.room (x : Rendition) (ch : Channel) (p : Picture) (t : Nat) : Nat :=
  (bufferBits p.recd.rateKbps p.delay * occUnit - x.occBefore ch p.recd.rateKbps t) / occUnit

/-! ### Frame ticks -/

/-- A recovery path covers frame `f` (R195). -/
def RecoveryPath.covers (p : RecoveryPath) (f : Nat) : Bool := match p.ends with
  | none => true
  | some e => f < e

/-- STATE bits known at a picture's tick (Table 5.11). -/
def pictureState (x : Rendition) (ch : Channel) (bare : Bool) (f : Nat) : Nat :=
  bit01 (bare || x.paths.any (fun p => p.covers f)) + 2 * bit01 x.recd.ltTest + 4 * bit01 ch.degraded + 16 * bit01 x.pool.fromShadow
    + 32 * bit01 (ch.rodB != 255) + 64 * bit01 (x.recd.echoOf != 0xFFFF)

/-- The picture of frame `f` is an IDR: the rendition's first, or asked for (R158, R161). -/
def Rendition.idrDue (x : Rendition) (f : Nat) : Bool := f == x.start || x.idrAt == some f

/-- The pool as the picture of frame `f` begins (R191, R192): the picture before it joins the short-term references, unless it is the long-term one or its
reconstruction was lost; an IDR leaves no older reference, and no copy of one, valid. -/
def Rendition.poolAt (x : Rendition) (f : Nat) : RefPool :=
  let q := x.pool
  let old := q.spoiled.filter (fun g => f ≤ g + 1)
  if x.idrDue f then ⟨[], none, none, none, none, old, false⟩
  else
    let gone := f ≤ x.start || q.spoiled.contains (f - 1) || ((x.pic? (f - 1)).map (·.lost)).getD false || q.long == some (f - 1)
    { q with short := if gone then q.short else ((f - 1) :: q.short).take x.recd.refs, spoiled := old }

/-- The reference list of a picture: short-term references newest first, then the long-term ones (R192, R193); with LT_TEST the long-term one alone (R194). -/
def Rendition.refList (x : Rendition) (q : RefPool) : List Nat :=
  (if x.recd.ltTest then [] else q.short.filter (fun f => q.long != some f && q.oldLong != some f)) ++ q.long.toList ++ q.oldLong.toList

/-- The first block of the right tile column of a rendition that both rods code (R137): the wider column lies on the rod with the larger share, the left one where
they are equal (01 R29; assumption 196). -/
def Rendition.splitAt (x : Rendition) : Option Nat :=
  if x.recd.codec = 0 || x.shareA = 0 || x.shareB = 0 then none
  else some (if x.shareB ≤ x.shareA then ceilDiv x.recd.blocks 2 else x.recd.blocks / 2)

/-- A picture begun at its frame's tick, with the pool as that leaves it: flat intra where no reference is valid or the channel runs bare (R202; 12 R376). It
keeps the rods, masks and units of its frame (01 R33, R35; 05 R152). -/
def newPicture (x : Rendition) (ch : Channel) (bare : Bool) (f : Nat) : Picture :=
  let idr := x.idrDue f
  let q := x.poolAt f
  let refs := if bare then [] else x.refList q
  { recd := x.recd, delay := x.dInForce, rodA := ch.rodA, rodB := ch.rodB, maskA := ch.maskA, maskB := ch.maskB, buA := x.buA, buB := x.buB,
    split := x.splitAt, refs := refs, long := if bare then [] else q.long.toList ++ q.oldLong.toList, heads := [], planned := false,
    kind := if idr then 0 else 2
    refreshPos := if x.cycleStart ≤ f then (f - x.cycleStart) % x.recd.refreshFrames else 0
    intra := refs.isEmpty, plan := x.lastPlan, ceiling := 0, left := 0, allFloor := false, rows := [],
    state := pictureState x ch bare f, hrdBits := 0, lost := bare, reported := false }

/-- A rendition's side of a tick: a picture is begun. -/
def Rendition.tick (x : Rendition) (ch : Channel) (bare : Bool) (f : Nat) : Rendition :=
  let p := newPicture x ch bare f
  { x with
    pics := Tab.put f p x.pics
    idrCount := if p.kind = 0 then satAdd max64 x.idrCount 1 else x.idrCount
    idrAt := if p.kind = 0 then none else x.idrAt
    paths := x.paths.filter (fun q => q.covers f)
    pool := x.poolAt f }

/-- A rendition codes frame `f`. -/
def Rendition.codes (x : Rendition) (c f : Nat) : Bool :=
  x.recd.channel == c && x.live && x.start ≤ f && (match x.stop with | none => true | some s => f < s)

/-- The next frame's tick has come: its commit point has passed, and its tick is reached (R62). -/
def Device.tickDue (c : Nat) (d : Device) : Bool :=
  let x := d.chan c
  x.running && x.next < x.committed && x.tickOf x.next ≤ d.now

/-- A rendition's recovery paths are over with frame `f` (R195). -/
def Rendition.recovered (x : Rendition) (c f : Nat) : Bool := x.recd.channel == c && x.live && !x.paths.isEmpty && !x.paths.any (fun q => q.covers f)

/-- A frame's tick in the rods (DEGRADED while the module runs floor-only, 16 R468): every rendition begins its picture (R137); IDR pictures and the
end of recovery paths are logged (13 Table 13.3). -/
def Device.tickRods (c : Nat) (d : Device) : Device :=
  let x := d.chan c
  let f := x.next
  let b := d.bare c
  let y := { x with degraded := x.degraded || d.modes.floorOnly }
  let mine := d.code.rends.filter (fun e => e.2.codes c f)
  let d1 := { d with code := { d.code with
    channels := Tab.put c { x with next := f + 1 } d.code.channels
    rends := Tab.mapVals (fun _ r => if r.codes c f then r.tick y b f else r) d.code.rends } }
  let d2 := (d.code.rends.filter (fun e => e.2.recovered c f)).foldl (fun d e => d.asRun c 11 0 f e.1) d1
  (mine.filter (fun e => (newPicture e.2 x b f).kind == 0)).foldl (fun d e => d.asRun c 9 0 f e.1) d2

/-! ### Row marks and the guard (R180 to R182) -/

/-- The next row to be marked: the first picture with a row unmarked (R63). -/
def nextRow : Tab Picture → Option (Nat × Nat × Picture)
  | [] => none
  | (f, p) :: r => if p.rows.length < p.recd.rows then some (f, p.rows.length, p) else nextRow r

/-- The ceiling of a picture (R180). -/
def pictureCeiling (x : Rendition) (ch : Channel) (p : Picture) (f : Nat) : Nat :=
  let unitV := x.occBefore ch p.recd.rateKbps (rowDeadlineAt ch p f 0)
  let b := bufferBits p.recd.rateKbps p.delay
  let hrd := (b * occUnit + p.recd.rateKbps * framePeriod ch.recd - unitV) / occUnit
  let fc := p.rowCost
  Nat.max (Nat.min hrd p.plan.ceiling) (p.plan.headerBits + p.recd.rows * fc + fc + 512)

/-- The guard's decision for row `k` of frame `f` (R182): the picture with the row begun. `forced` floors the row whole for a fault. A picture that is lost
gives its rows a reference that reads as poison (R202). -/
def guardRow (x : Rendition) (ch : Channel) (forced : Bool) (f k : Nat) (p : Picture) : Picture :=
  let fc := p.rowCost
  let after := (p.recd.rows - k - 1) * fc
  let floorIt := p.allFloor || p.left < ((after + fc + (fc + 512) : Nat) : Int)
  let room := x.room ch p (rowDeadlineAt ch p f k) - (if k = 0 then p.plan.headerBits else 0)
  let cap := if floorIt then fc else (min (room : Int) (p.left - (after : Nat)) - 512).toNat
  let cause := if forced then some FloorCause.fault else if floorIt then some .budget else none
  { p with
    allFloor := floorIt
    left := p.left - (cap : Nat)
    rows := Tab.put k ⟨cap, [], [], none, cause, false, p.refs, p.lost, []⟩ p.rows }

/-- The tile columns of a picture: whether it is the right one, its rod, its mask there and its bitstream unit (R137, R148, R152). -/
def Picture.sides (p : Picture) : List (Bool × Nat × Nat × Nat) :=
  (if p.buA < 2 && p.rodA < 24 then [(false, p.rodA, p.maskA, p.buA)] else [])
    ++ (if p.buB < 2 && p.rodB < 24 then [(p.split.isSome, p.rodB, p.maskB, p.buB)] else [])

/-- The rods that code a picture. -/
def Picture.rods (p : Picture) : List Nat := p.sides.map (·.2.1)

/-- What a live rendition puts on rod `rodN`, in half kb/s: half the rate on rod b of a split one (R148). -/
def Device.rateOn (x : Rendition) (rodN : Nat) (d : Device) : Nat :=
  let c := d.chan x.recd.channel
  (if c.rodA = rodN && x.buA < 2 then 2 * x.recd.rateKbps else 0)
    + (if c.rodB = rodN && x.buB < 2 then (if x.buA < 2 then x.recd.rateKbps else 2 * x.recd.rateKbps) else 0)

/-- Renditions on the unit that is left, in ascending number, that lie beyond its 4 Gb/s (R199). -/
def Device.beyondUnit (n rodN : Nat) (d : Device) : Bool :=
  let r := d.rod rodN
  (r.engines.contains 9 || r.engines.contains 10)
    && 8000000 < ((d.code.rends.filter (fun e => e.2.live && e.1 ≤ n)).map (fun e => d.rateOn e.2 rodN)).sum

/-- The rod has been taken out of service with its channels on it (17 R476); one that an automatic handover took out finishes its rows (R200). -/
def Device.forcedOut (r : Nat) (d : Device) : Bool := (d.rod r).service == 2 && (d.serv.unit r).cause == 1

/-- Every row of the rendition is floored: its rod has been taken out of service (17 R476), has lost its analysis, both units, or its unit's share (R199),
or the picture is lost (R202; 12 R376). -/
def Device.floorsAll (n : Nat) (p : Picture) (d : Device) : Bool :=
  p.lost || p.rods.any (fun r => d.forcedOut r || (d.rod r).engines.contains 8
    || ((d.rod r).engines.contains 9 && (d.rod r).engines.contains 10) || d.beyondUnit n r)

/-- A channel of a retired group takes its new home at its next row mark, of frame `f` (12 R375): E324 tells of it. -/
def Device.rehome (c f : Nat) (d : Device) : Device :=
  match Tab.find c d.dram.places with
  | none => d
  | some p => match p.moved with
    | none => d
    | some (old, from_) =>
      if f < from_ then d
      else { d with dram := { d.dram with places := Tab.put c { p with moved := none } d.dram.places } }.raise [(324, det3 c old p.home)]

/-! ### Headers (R156, R157; Tables 5.8, 6.3 and 6.5) -/

/-- The buffer that a codec's HRD signals: the largest value the syntax can express that is not above B (R178). -/
def signalledBuffer (codec b : Nat) : Nat := b - (Config.bufferShort codec b).toNat

/-- The picture count since the last IDR picture, which a template carries on (R157). -/
def nextOrder (idr : Bool) (template : List HeadPart) : Nat :=
  if idr then 0 else match template.findSome? (fun h => match h with | .picture _ o => some o | _ => none) with
    | some o => o + 1
    | none => 0

/-- The picture of frame `f` starts a refresh cycle (R187). -/
def Rendition.cycleAt (x : Rendition) (p : Picture) (f : Nat) : Bool := x.cycleStart ≤ f && p.refreshPos == 0

/-- What AV1 sends with every frame of a cycle (Table 6.5). -/
def refreshBytes (r : RendRec) (j : Nat) : Bytes :=
  fields [(1, 1), (2, r.refreshFrames), (2, j), (1, bit01 (j == 0) + 2 * bit01 (j + 1 == r.refreshFrames)), (2, 0)]

/-- The signalling of a refresh cycle in the picture of frame `f` (R189, Table 6.5). -/
def refreshHeads (x : Rendition) (p : Picture) (f : Nat) : List HeadPart :=
  let r := p.recd
  if p.kind = 0 || f < x.cycleStart then []
  else if r.codec = 3 then [.refreshMeta (refreshBytes r p.refreshPos)]
  else if p.refreshPos != 0 then []
  else if r.codec = 2 then [.gdr (r.refreshFrames - 1)] else [.recoveryPoint (r.refreshFrames - 1) true]

/-- The headers of a picture: parameter sets with colour and HRD at an IDR and at the start of a cycle; the picture header with its count and reference lists; where the
loop filters stop (R188); the SEI of the frame (Table 5.8). -/
def headsOf (x : Rendition) (ch : ChannelRec) (p : Picture) (f : Nat) : List HeadPart :=
  let r := p.recd
  let start := p.kind == 0 || x.cycleAt p f
  let c := p.col
  (if start then [.paramSets r.codec r.profile ((signalled ch r).getD r.level) r.width r.height r.chroma r.depth, .colour ch.colorimetry ch.tcs,
      .hrd r.codec r.rateKbps (signalledBuffer r.codec (bufferBits r.rateKbps p.delay)) true (r.codec == 1 || r.codec == 2)] else [])
    ++ [.picture (p.kind == 0) (nextOrder (p.kind == 0) x.template), .refLists (p.refs.filter (fun g => !p.long.contains g)) p.long]
    ++ (if p.intra || r.blocks ≤ c.1 + c.2 then [] else [.filterStop (c.1 + c.2)])
    ++ (if r.codec = 3 then [] else (if start then [.bufferingPeriod] else []) ++ [.pictureTiming])
    ++ refreshHeads x p f

/-- A T.35 message of a carried packet (03 R94, Table 3.7): CEA-608 data is wrapped in a caption distribution packet. -/
def t35Head (codec : Nat) (e : Nat × Nat × Bytes) : HeadPart :=
  .t35 (codec == 3) e.1 e.2.1 (if e.1 = 0x61 && e.2.1 = 0x02 then Config.wrap608 e.2.2 else e.2.2)

/-- The bits of an ancillary part of a header. -/
def HeadPart.ancBits (codec : Nat) : HeadPart → Nat
  | .t35 _ _ _ b => (Config.t35Bits codec b).toNat
  | .captionPadding _ => (Config.t35Bits codec Config.padding).toNat
  | _ => 0

/-- The header limit (R180). -/
def headerLimit : Nat := 2048

/-- The packets that a picture's header holds beside `used` bits, in order, and those that wait for the next picture (R180). -/
def fitCaptions (codec : Nat) : Nat → List (Nat × Nat × Bytes) → List (Nat × Nat × Bytes) × List (Nat × Nat × Bytes)
  | _, [] => ([], [])
  | used, e :: r =>
    let k := (t35Head codec e).ancBits codec
    if used + k ≤ headerLimit then
      let q := fitCaptions codec (used + k) r
      (e :: q.1, q.2)
    else ([], e :: r)

/-- The channel's source brings ancillary data: an ST 2110-40 flow, or what a compressed stream carries (03 R94). -/
def Device.carriesAnc (c : Nat) (d : Device) : Bool := (d.ingest.bind c).recd.any (·.ancValid) || d.boundCompressed c

/-- What has arrived for frames up to `f` that a rendition has not taken up, and none of a frame that is not shown live (03 R94, R95). -/
def Rendition.newCaptions (x : Rendition) (b : Binding) (f : Nat) : List (Nat × Nat × Bytes) :=
  (b.frames.filter (fun e => x.capSeen.1 ≤ e.1 && e.1 ≤ f)).flatMap (fun e =>
    e.2.captions.drop (if e.1 = x.capSeen.1 then x.capSeen.2 else 0))

/-- RCT firmware's plan for a picture (R180, R181): the target within rct_ceiling, QP within its range, the header within its limit; LT_TEST fixes QP (R194). -/
def RctPlan.of (r : RendRec) (w : RctWrite) : RctPlan :=
  ⟨if r.ltTest then r.qpMin else Nat.min r.qpMax (Nat.max r.qpMin w.qp), Nat.min w.target w.ceiling, w.ceiling, Nat.min headerLimit w.headerBits⟩

/-- What the first row mark of a picture settles: the plan and headers, or their lack, where the rod advances the template of the picture before (R157), and the
ceiling (R180). -/
def Device.planPicture (n f : Nat) (given : Option RctWrite) (d : Device) : Device :=
  match Tab.find n d.code.rends with
  | none => d
  | some x => match x.pic? f with
    | none => d
    | some p0 =>
      let c := x.recd.channel
      let ch := d.chan c
      let b := d.ingest.bind c
      let w := if p0.rods.any (fun r => (d.rod r).engines.contains 7) then none else given
      let base := match w with
        | some w => RctPlan.of p0.recd w
        | none => x.lastPlan
      let q := fitCaptions p0.recd.codec base.headerBits (x.captions ++ x.newCaptions b f)
      let pad : List HeadPart := if d.carriesAnc c && (b.frames.any (fun e => e.1 == f && e.2.still)) then [.captionPadding (p0.recd.codec == 3)] else []
      let anc := if w.isSome then pad ++ q.1.map (t35Head p0.recd.codec) else []
      let heads := headsOf x ch.recd p0 f
      let pl := { base with headerBits := Nat.min headerLimit (base.headerBits + (anc.map (HeadPart.ancBits p0.recd.codec)).sum) }
      let p1 := { p0 with plan := pl, heads := heads ++ anc, planned := true, state := p0.state + 8 * bit01 (w.isNone && !natBit p0.state 3) }
      let ceil := pictureCeiling x ch p1 f
      let p2 := { p1 with ceiling := ceil, left := (ceil : Int) - (pl.headerBits : Nat) }
      let x1 := { x with
        lastPlan := base, pics := Tab.put f p2 x.pics, template := heads
        rctLateCount := if w.isNone then satAdd max64 x.rctLateCount 1 else x.rctLateCount }
      let x2 := if w.isSome then { x1 with captions := q.2, capSeen := (f, ((Tab.find f b.frames).map (fun e => e.captions.length)).getD 0) } else x1
      let d1 := d.setRend n x2
      if w.isNone then
        (p0.rods.foldl (fun d r => d.setRod r { d.rod r with rctLate := satAdd max64 (d.rod r).rctLate 1 }) d1).raise
          (p0.rods.map (fun r => (34 + 4 * r, det2 x.recd.channel n)))
      else d1

/-- A row is floor-coded, wholly or partly: ROWS_FLOOR and FLOOR_ROWS count it, and E033 + 4n tells of the first after a second with
none; a budget floor raises no event (R166, R197). -/
def Device.countFloor (n f : Nat) (budget : Bool) (d : Device) : Device :=
  match Tab.find n d.code.rends with
  | none => d
  | some x => match x.pic? f with
    | none => d
    | some p =>
      let rods := p.rods
      let tell := rods.filter (fun r => !budget && (match (d.rod r).lastFloor with | none => true | some t => t + second ≤ d.now))
      let d1 := d.setRend n { x with floorRows := satAdd max64 x.floorRows 1 }
      (rods.foldl (fun d r => d.setRod r { d.rod r with rowsFloor := satAdd max64 (d.rod r).rowsFloor 1, lastFloor := some d.now }) d1).raise
        (tell.map (fun r => (33 + 4 * r, det2 x.recd.channel n)))

/-- The rod starts the rendition's row `k` of frame `f` (R63, R157, R182). `plan` is what RCT firmware has written for the frame. -/
def Device.beginRow (n f k : Nat) (p : Picture) (c : Nat) (plan : Option RctWrite) (d : Device) : Device :=
  let d1 := d.rehome c f
  let d2 := if k = 0 && !p.planned then d1.planPicture n f plan else d1
  match Tab.find n d2.code.rends with
  | none => d2
  | some x2 => match x2.pic? f with
    | none => d2
    | some p2 => d2.setPic n f (guardRow x2 (d.chan c) (d2.floorsAll n p2) f k p2)

/-! ### Rows being coded -/

/-- A row in progress: rendition, picture and row state. -/
def Device.openRow (n f k : Nat) (d : Device) : Option (Rendition × Picture × RowState) :=
  match Tab.find n d.code.rends with
  | none => none
  | some x => match x.pic? f with
    | none => none
    | some p => match Tab.find k p.rows with
      | none => none
      | some r => if r.bits.isNone then some (x, p, r) else none

/-- No PE codes frame `f` of channel `c`: the module runs floor-only, or the frame had begun when that ended (16 R468). -/
def Device.floored (c f : Nat) (d : Device) : Bool := d.modes.floorOnly || Nat.blt f (d.chan c).floorTo

/-- A row with other restart points in a tile column. -/
def RowState.withCol (r : RowState) (right : Bool) (l : List Point) : RowState := if right then { r with right := l } else { r with points := l }

/-- A row back at the latest restart point of a tile column from which the floor coder fits the cap (R183). -/
def restart (p : Picture) (r : RowState) (right : Bool) : List Point → RowState
  | [] => r.withCol right []
  | q :: l => let s := r.withCol right (q :: l)
    if p.floorTop s ≤ r.cap then s else restart p r right l

/-- The clean area of frame `g` ends at this block column, as a picture of the cycle that began at frame `from_` sees it (R188): nothing of an earlier cycle
is clean. -/
def cleanEnd (r : RendRec) (from_ g : Nat) : Nat :=
  if g < from_ then 0 else let c := refreshCol r (g - from_); c.1 + c.2

/-- The filter taps that a fractional vector reads to the right of a sample (assumption 197). -/
def tapsRight (codec : Nat) : Nat := if codec = 0 then 3 else 4

/-- A vector of a clean block reads only the clean area of its reference (R188): to its right edge, in quarter samples. -/
def cleanIn (v : BlockPred) (r : RendRec) (from_ : Nat) : Bool :=
  let e := cleanEnd r from_ v.ref
  r.blocks ≤ e || (4 * (v.edge : Int) + v.x + (if v.x % 4 = 0 then 0 else 4 * tapsRight r.codec)) ≤ 4 * (e * blockW r.codec : Nat)

/-- The search range of a channel's AFE, the widest among its renditions (R139), in quarter samples. -/
def Device.afeRange (c : Nat) (d : Device) : Nat × Nat :=
  let w := (d.code.rends.filter (fun e => e.2.recd.channel == c && e.2.live)).foldl (fun m e => Nat.max m e.2.recd.preset) 0
  (4 * (afeEffort w).1, 4 * (afeEffort w).2.1)

/-- A PE may code a vector: from a candidate of the AFE, refined as far as its preset lets it on a rung or a crop (R134, R139). -/
def Device.vectorOk (ch : ChannelRec) (r : RendRec) (v : BlockPred) (d : Device) : Bool :=
  let w := d.afeRange r.channel
  let whole := r.whole ch
  v.candX.natAbs ≤ w.1 && v.candY.natAbs ≤ w.2 && refinedFrom whole (refineRange r.preset) r.width (r.viewW ch) v.candX v.x
    && refinedFrom whole (refineRange r.preset) r.height (r.viewH ch) v.candY v.y

/-- A block that a PE may deliver as block `i` of a row of frame `f`: by a PE in service of the picture's own mask on the tile column's rod (R150, R152); from the row's
references (R192); intra in the refresh column; and, left of it and in it, from the clean area alone (R188). -/
def Device.blockOk (x : Rendition) (f i : Nat) (p : Picture) (r : RowState) (b : CodedBlock) (d : Device) : Bool :=
  let c := p.col
  let lo := if b.right then p.leftN else 0
  let hi := if b.right then p.recd.blocks else p.leftN
  p.sides.any (fun s => s.1 == b.right && natBit s.2.2.1 b.pe && natBit (d.rod s.2.1).pe b.pe)
    && i < hi && b.around.all (fun j => lo ≤ j && j < hi)
    && b.preds.all (fun v => r.refs.contains v.ref && d.vectorOk (d.chan x.recd.channel).recd p.recd v)
    && (!p.flatAt i || b.preds.isEmpty)
    && (p.intra || c.1 ≤ i || b.preds.all (fun v => cleanIn v p.recd (f - p.refreshPos)))
    && (p.intra || c.1 + c.2 ≤ i || b.around.all (fun j => j < (if i < c.1 then c.1 else c.1 + c.2)))

/-- PE_BLOCK_DELIVERED (R183): the row's bits after a block; beyond the cap the unit goes back and the floor coder takes over. -/
def peBlock (n f k : Nat) (b : CodedBlock) (d : Device) : Device :=
  match d.openRow n f k with
  | none => d
  | some (x, p, r) =>
    let done := if b.right then r.right else r.points
    let i := done.length + (if b.right then p.leftN else 0)
    if d.floored p.recd.channel f || r.cause.isSome || !d.blockOk x f i p r b then d
    else
      let s := r.withCol b.right (⟨b.bits, b.pe, (b.preds.map (·.ref)).eraseDups⟩ :: done)
      let row := if p.floorTop s ≤ r.cap then s else { restart p r b.right done with cause := some .budget }
      d.setPic n f { p with rows := Tab.put k row p.rows }

def execPeBlockDelivered (t : Nat) (rendition : Fin 512) (frame row : Nat) (block : CodedBlock) (s : State) : Host.Outcome State Fault Refusal :=
  .next { s with dev := peBlock rendition frame row block (s.dev.at_ t) }

/-- A row ends with its bits, never above its cap, nor above what the floor coder adds to what was delivered (R175, R182, R183): the guard is credited. -/
def Device.endRow (n f k bits : Nat) (cause : Option FloorCause) (d : Device) : Device :=
  match d.openRow n f k with
  | none => d
  | some (_, p, r) =>
    let c := match r.cause with
      | some c => some c
      | none => cause
    let b := Nat.min bits (if c.isSome then Nat.min r.cap (p.floorTop r) else r.cap)
    let d1 := d.setPic n f { p with rows := Tab.put k { r with bits := some b, cause := c } p.rows, left := p.left + ((r.cap - b : Nat) : Int) }
    match c with
    | some c => d1.countFloor n f (c == .budget)
    | none => p.rods.foldl (fun d n => d.setRod n { d.rod n with rowsCoded := satAdd max64 (d.rod n).rowsCoded 1 }) d1

/-- A row of a picture waits for the floor coder: it has not ended, and a cause has floored it or its trigger has passed. -/
def Device.floorWaits (ch : Channel) (p : Picture) (f k : Nat) (r : RowState) (d : Device) : Bool :=
  r.bits.isNone && (r.cause.isSome || Nat.ble (rowTriggerAt d.time.copyLocked ch p f k) d.now)

/-- No row with an earlier deadline waits for the floor coder on any of these rods (01 R30). -/
def Device.earliestFloor (rods : List Nat) (t : Nat) (d : Device) : Bool :=
  d.code.rends.all (fun e => e.2.pics.all (fun q => !(q.2.rods.any rods.contains) || q.2.rows.all (fun r =>
    !d.floorWaits (d.chan e.2.recd.channel) q.2 q.1 r.1 r.2 || Nat.ble t (rowDeadlineAt (d.chan e.2.recd.channel) q.2 q.1 r.1))))

/-- ROW_CODED (R182): by the PEs of the picture's masks, or by the floor coder where a cause has floored the row, in the order of the deadlines (01 R30). While
the module runs floor-only no PE ends a row (16 R468). -/
def rowCoded (n f k bits : Nat) (d : Device) : Device :=
  match d.openRow n f k with
  | none => d
  | some (x, p, r) =>
    let ready := if r.cause.isSome then d.earliestFloor p.rods (rowDeadlineAt (d.chan x.recd.channel) p f k)
      else !d.floored p.recd.channel f && p.sides.all (fun s => (d.rod s.2.1).pes.any (natBit s.2.2.1))
    if ready then d.endRow n f k bits none else d

def execRowCoded (t : Nat) (rendition : Fin 512) (frame row bits : Nat) (s : State) : Host.Outcome State Fault Refusal :=
  .next { s with dev := rowCoded rendition frame row bits (s.dev.at_ t) }

/-- FLOOR_TRIGGER (R177): the floor coder completes a row that is not finished, in the order of the deadlines (01 R30); the cause is lateness where there is no
earlier one. -/
def floorTrigger (n f k bits : Nat) (d : Device) : Device :=
  match d.openRow n f k with
  | none => d
  | some (x, p, _) =>
    let ch := d.chan x.recd.channel
    if rowTriggerAt d.time.copyLocked ch p f k ≤ d.now && d.earliestFloor p.rods (rowDeadlineAt ch p f k) then d.endRow n f k bits (some .late) else d

def execFloorTrigger (t : Nat) (rendition : Fin 512) (frame row bits : Nat) (s : State) : Host.Outcome State Fault Refusal :=
  .next { s with dev := floorTrigger rendition frame row bits (s.dev.at_ t) }

/-! ### Deadlines (R170, R176, R179) -/

/-- The most recent valid reference of a row (R173). -/
def RowState.copyRef (r : RowState) : Option Nat := r.refs.foldl (fun o g => some (match o with | none => g | some h => Nat.max g h)) none

/-- The reconstruction of a row's blocks (R173, R176): those that the PEs delivered, or all where they ended the row; the floor coder's flat blocks and copies; none
where a copy's reference reads as poison. -/
def Picture.reconOf (p : Picture) (r : RowState) : List Recon :=
  let rest := p.undone r.points.length r.right.length
  (List.range p.recd.blocks).map (fun i =>
    if r.cause.isNone || !rest.contains i then .coded
    else if p.flatAt i then .flat
    else if r.poison then .lost
    else match r.copyRef with
      | some g => .copy g
      | none => .flat)

/-- The references that a row's blocks used: those of its vectors, and of its copies; all of its list where the PEs ended it and no block was seen. -/
def RowState.used (r : RowState) : List Nat :=
  let pts := r.points ++ r.right
  if r.cause.isNone && pts.isEmpty then r.refs
  else pts.flatMap (·.refs) ++ r.recon.filterMap (fun q => match q with | .copy g => some g | _ => none)

/-- The references that a picture used (00 R6). -/
def Picture.used (p : Picture) : List Nat := (p.rows.flatMap (fun r => r.2.used)).eraseDups

/-- The rendition's next row to enter: the earliest that has not. -/
def Rendition.nextDeadline (x : Rendition) (ch : Channel) : Option (Nat × Nat × Nat × Nat × Nat) := (x.pendingRows ch).head?

/-- A row enters the sender occupancy at its deadline, and its reconstruction is written (R176); the picture's last row ends the picture. -/
def Device.enterRow (n f k : Nat) (d : Device) : Device :=
  match Tab.find n d.code.rends with
  | none => d
  | some x => match x.pic? f with
    | none => d
    | some p => match Tab.find k p.rows with
      | none => d
      | some r => match r.bits with
        | none => d
        | some b =>
          let ch := d.chan x.recd.channel
          let t := rowDeadlineAt ch p f k
          let occ := x.occBefore ch p.recd.rateKbps t + (b + p.headOf k) * occUnit
          let last := k + 1 = p.recd.rows
          let p1 := { p with
            rows := Tab.put k { r with entered := true, recon := p.reconOf r } p.rows, hrdBits := if last then occ / occUnit else p.hrdBits }
          d.setRend n { x with
            pics := Tab.put f p1 x.pics, occ := occ, occAt := Nat.max t x.occAt
            pictures := if last then satAdd max64 x.pictures 1 else x.pictures }

/-- The row is the rendition's next, it is complete, and its deadline has come. -/
def Device.deadlineDue (n f k : Nat) (d : Device) : Bool :=
  match Tab.find n d.code.rends with
  | none => false
  | some x => match x.nextDeadline (d.chan x.recd.channel), (x.pic? f).bind (fun p => Tab.find k p.rows) with
    | some (g, j, t, _), some r => g == f && j == k && r.bits.isSome && Nat.ble t d.now
    | _, _ => false

/-! ### Statistics (R162 to R165) -/

/-- The record and the ring's account that hold for frame `f`: those of the ring before a change, for frames before it. -/
def Channel.statsAt (x : Channel) (f : Nat) : ChannelRec × RingAcct × Option Nat := match x.prior.find? (fun q => f < q.1) with
  | some q => (q.2.1, q.2.2, some q.1)
  | none => (x.recd, x.stats, none)

/-- The first frame of a channel whose slot has not been written. -/
def Device.statsFrame (c : Nat) (d : Device) : Option Nat :=
  ((d.code.rends.filter (fun e => e.2.recd.channel == c)).flatMap (fun e => (e.2.pics.filter (fun p => !p.2.reported)).map (·.1))).foldl (fun o f => match o with
    | none => some f
    | some g => some (Nat.min f g)) none

/-- Every row of every picture of the frame has met its deadline. -/
def Device.frameDone (c f : Nat) (d : Device) : Bool :=
  d.code.rends.all (fun e => e.2.recd.channel != c || (match e.2.pic? f with
    | none => true
    | some p => p.rows.length == p.recd.rows && p.rows.all (fun r => r.2.entered)))

/-- Rows floored for a cause (R184). -/
def Picture.floored (p : Picture) (c : FloorCause) : Nat := (p.rows.filter (fun r => r.2.cause == some c)).length

/-- PICTURE_TYPE (Table 5.11). -/
def Picture.typeCode (p : Picture) : Nat :=
  if p.rows.all (fun r => r.2.cause.isSome) then 3 else if p.kind = 0 then 0 else if p.col.2 = 0 then 2 else 1

/-- What a summary reports of a picture beside its own record: QP, squared errors, DRAM bytes and floor bytes. -/
structure Measured where
  quality : Quality
  dram : Nat
  floorBytes : Nat

/-- A QP that the engines used lies within the rendition's range (06 R181); LT_TEST fixes it at QP_MIN (06 R194). -/
def RendRec.qpUsed (r : RendRec) (q : Nat) : Nat := if r.ltTest then r.qpMin else Nat.min r.qpMax (Nat.max r.qpMin q)

/-- The traffic floor of a picture (00 R6; 12 R368): one write of its reconstruction, of `own` bytes, and one read of each reference it used. -/
def Rendition.floorBytes (x : Rendition) (own : Nat) (p : Picture) : Nat := own + (p.used.map (fun g => Tab.read x.stored g 0)).sum

/-- The DRAM bytes of a picture: at most 1.30 of its floor off a recovery path (00 R7; assumption 198). -/
def tradedBytes (p : Picture) (dram floorBytes : Nat) : Nat := if natBit p.state 0 then dram else Nat.min dram (floorBytes * 130 / 100)

/-- The tiles of 64 × 4 samples of one plane that a picture is stored in (12 R367). -/
def RendRec.tiles (r : RendRec) : Nat :=
  ceilDiv r.width 64 * ceilDiv r.height 4 + 2 * (ceilDiv (r.width / 2) 64 * ceilDiv (if r.chroma = 1 then r.height else r.height / 2) 4)

/-- The header of a stored tile (12 Table 12.3): K bursts, and the one value of a constant tile. -/
def tileHeader (k value : Nat) : Nat := k % 8 + 8 * (if k = 0 then value % 1024 else 0)

/-- The bursts of `tiles` tiles of which `counts` have K = `k`, `k` + 1 and so on; those not counted have K = 5. -/
def tileBursts (tiles k : Nat) (counts : List Nat) : Nat := match counts with
  | [] => 5 * tiles
  | n :: l => if 5 ≤ k then 5 * tiles else k * Nat.min n tiles + tileBursts (tiles - n) (k + 1) l

/-- The stored size of a picture, headers included (12 R367, R368). -/
def RendRec.storedBytes (r : RendRec) (counts : List Nat) : Nat := 5 * r.tiles + 64 * tileBursts r.tiles 0 counts

/-- The stored size of rendition `n`'s reconstruction, from the tiles counted of each; a lost picture has none (R202; 12 R376). -/
def Picture.storedOf (p : Picture) (n : Nat) (stored : List (Nat × List Nat)) : Nat :=
  if p.lost then 0 else p.recd.storedBytes (((stored.find? (fun e => e.1 == n)).map (·.2)).getD [])

/-- What was measured of rendition `n`'s picture `p`, within what the rules hold it to. -/
def Rendition.measured (x : Rendition) (n : Nat) (p : Picture) (quality : List (Nat × Quality)) (dram : List (Nat × Nat)) (stored : List (Nat × List Nat)) : Measured :=
  let find (l : List (Nat × Nat)) : Nat := ((l.find? (fun e => e.1 == n)).map (·.2)).getD 0
  let q := ((quality.find? (fun e => e.1 == n)).map (·.2)).getD ⟨0, 0, 0, 0, 0⟩
  let fb := x.floorBytes (p.storedOf n stored) p
  let r := p.recd
  ⟨{ q with qpAvg := Nat.min (256 * r.qpUsed 255) (Nat.max (256 * r.qpUsed 0) q.qpAvg), qpMin := r.qpUsed q.qpMin, qpMax := r.qpUsed q.qpMax },
    tradedBytes p (find dram) fb, fb⟩

/-- A summary record (Table 5.11), `size` bytes long. -/
def summaryRecord (n f size filled ingest : Nat) (ch : Channel) (p : Picture) (m : Measured) : Bytes :=
  let s := s10 ch.recd p.recd
  let bits := p.plan.headerBits + (p.rows.map (fun r => r.2.bits.getD 0)).sum
  let b := fields [(2, n), (1, p.recd.codec), (1, p.typeCode), (2, p.recd.rows), (2, p.refreshPos), (8, f)] ++
    timeWordBytes (rowLaunchAt ch p f 0) ++
    fields [(4, bits), (4, p.plan.target), (4, p.ceiling), (4, p.hrdBits), (2, m.quality.qpAvg), (1, m.quality.qpMin), (1, m.quality.qpMax),
      (2, p.floored .late), (2, p.floored .budget), (2, p.floored .fault), (2, filled), (1, ingest), (3, 0), (4, p.state),
      (4, ratio16 p.delay s), (4, ratio16 m.dram m.floorBytes), (4, p.delay), (4, s), (4, 0), (8, m.dram), (8, m.floorBytes), (8, m.quality.sseY),
      (8, m.quality.sseC), (72, 0)] ++
    p.rows.flatMap (fun r => wrLE 4 (r.2.bits.getD 0 + 2 ^ 31 * bit01 r.2.cause.isSome))
  b ++ List.replicate (size - b.length) 0

/-- A fixed length: cut or filled with zeros. -/
def padTo (n : Nat) (b : Bytes) : Bytes := b.take n ++ List.replicate (n - b.length) 0

/-- A signed 16-bit number, at most `top` from 0, as it is stored. -/
def wrSigned (top : Nat) (v : Int) : Bytes := wrLE 2 ((max (-(top : Int)) (min (top : Int) v)) % 65536).toNat

/-- Samples of a picture `n` wide that block `i` of `size` holds in one direction: those present at its edge (R165). -/
def blockSpan (n size i : Nat) : Nat := Nat.min size (n - size * i)

/-- The motion field (R165, Table 5.12): 16 × 16 blocks in raster order, vectors within the AFE's range, the SAD over the samples present. -/
def motionBytes (r : ChannelRec) (range : Nat × Nat) (l : List MotionBlock) : Bytes :=
  let cols := ceilDiv r.width 16
  (List.range (cols * ceilDiv r.height 16)).flatMap (fun i =>
    let b := (l[i]?).getD ⟨0, 0, 0, 0, 0⟩
    wrSigned range.1 b.x0 ++ wrSigned range.2 b.y0 ++ wrSigned range.1 b.x1 ++ wrSigned range.2 b.y1
      ++ wrLE 4 (Nat.min b.sad (1023 * blockSpan r.width 16 (i % cols) * blockSpan r.height 16 (i / cols))))

/-- The regions of a frame, 64 × 64 in raster order (R165, Table 5.13). -/
def regionsOf (r : ChannelRec) (l : List Region) : List Region :=
  (List.range (ceilDiv r.width 64 * ceilDiv r.height 64)).map (fun i => (l[i]?).getD ⟨0, 0, 0, 0⟩)

/-- The complexity map. -/
def complexityBytes (l : List Region) : Bytes := l.flatMap (fun g => wrLE 4 g.satd ++ wrLE 4 g.activity ++ wrLE 4 g.intra ++ wrLE 4 g.inter)

/-- A frame's slot: the header of Table 5.10, the 32 summary records, the motion field and the complexity map (R163). -/
def statsSlot (c f dropped scene now : Nat) (tick : Nat) (r : ChannelRec) (recs : List Bytes) (mf : Bytes) (cx : List Region) : Bytes :=
  let sum := statsSumBytes r
  let mfB := statsMfBytes r
  let cxB := statsCxBytes r
  let h := fields [(8, f), (2, c), (1, recs.length), (1, bit01 r.motionField + 2 * bit01 r.complexityMap), (4, scene)] ++ timeWordBytes tick ++
    timeWordBytes now ++ fields [(4, dropped), (4, 256), (4, sum), (4, if r.motionField then 256 + 32 * sum else 0), (2, ceilDiv r.width 16),
      (2, ceilDiv r.height 16), (4, if r.complexityMap then 256 + 32 * sum + mfB else 0), (2, ceilDiv r.width 64), (2, ceilDiv r.height 64),
      (4, 0), (8, (cx.map (·.satd)).sum), (8, (cx.map (·.intra)).sum), (8, (cx.map (·.inter)).sum), (152, 0)]
  padTo 256 h ++ padTo (32 * sum) recs.flatten ++ padTo mfB mf ++ padTo cxB (complexityBytes cx)

/-- The READ_INDEX that counts for a ring: that of its control area, or the one it had when a newer ring took the area (R162). -/
def RingAcct.read (m : MemState) (off : Nat) (x : RingAcct) : Nat := x.rd.getD (readIndex m off)

/-- A statistics slot is written, or dropped where the ring is full (R164, R514), or lost to a quarter out of service (10 R301). The index words of a control
area that a newer ring has taken stay as that ring has them (R162). -/
def Device.writeStats (c f : Nat) (slot : Bytes) (d : Device) : Device :=
  let x := d.chan c
  let s := x.statsAt f
  let r := s.1
  let off := r.statsOffset
  let w := s.2.1.windex
  let put (w' dropped : Nat) (lost : Bool) : Channel :=
    match s.2.2 with
    | some g => { x with
      prior := x.prior.map (fun q => if q.1 = g then (q.1, q.2.1, { q.2.2 with windex := w', lostToQuarter := lost }) else q)
      stats := { x.stats with dropped := dropped } }
    | none => { x with stats := { x.stats with windex := w', dropped := dropped, lostToQuarter := lost } }
  if r.statsSlots ≤ (w + 2 ^ 64 - s.2.1.read d.mem off) % 2 ^ 64 then
    (d.setChan c (put w (satAdd (2 ^ 32 - 1) x.stats.dropped 1) s.2.1.lostToQuarter)).raise [(dtIndex (72 + c), 0)]
  else
    let a := off + 4096 + w % r.statsSlots * statsSlotBytes r
    if !d.rangeUp a slot.length || !d.rangeUp off 8 then
      (d.setChan c (put w x.stats.dropped true)).raise (if s.2.1.lostToQuarter then [] else [(436, off)])
    else
      let d1 := d.writeAt a slot
      (if s.2.1.rd.isSome then d1 else d1.writeAt off (wrLE 8 (w + 1))).setChan c (put (w + 1) 0 false)

/-- Every picture of the rendition is reported, and its last row's first launch has passed. -/
def Rendition.allOut (x : Rendition) (ch : Channel) (now : Nat) : Bool :=
  x.pics.all (fun e => e.2.reported && Nat.ble (rowLaunchAt ch e.2 e.1 (e.2.recd.rows - 1)) now)

/-- Copies of a service's packets are still to launch. -/
def SchedState.copiesOut (x : SchedState) (n : Nat) : Bool :=
  let mine (c : Copy) : Bool := c.service == n && c.kind != 3
  x.ports.any (fun p => p.2.due.any mine || p.2.calendar.any (fun e => mine e.copy))

/-- The rendition's last packet has launched (R159). -/
def Device.rendOut (n : Nat) (x : Rendition) (d : Device) : Bool := x.allOut (d.chan x.recd.channel) d.now && !d.sched.copiesOut n

/-- A rendition whose frames are all over is gone, once it has been cleared (R160). -/
def Device.dropEnded (c : Nat) (d : Device) : Device :=
  ((d.code.rends.filter (fun e => e.2.recd.channel == c && e.2.stop.any (fun f => Nat.ble f (d.chan c).next) && d.rendOut e.1 e.2)).map (·.1)).foldl
    (fun d n => d.dropRend n) d

/-- A reported picture stays for the packets of its last rows, until four later frames are reported. -/
def reportPicture (f : Nat) (t : Tab Picture) : Tab Picture :=
  (Tab.mapVals (fun g p => if g = f then { p with reported := true } else p) t).filter (fun e => !(e.2.reported && Nat.ble (e.1 + 4) f))

/-- The stored sizes that a rendition keeps: of its pictures and of what its pool holds. -/
def Rendition.keepStored (x : Rendition) (f own : Nat) : Tab Nat :=
  (Tab.put f own x.stored).filter (fun e => e.1 == f || (x.pic? e.1).isSome || x.pool.short.contains e.1 || x.pool.long == some e.1 || x.pool.oldLong == some e.1)

/-- A rendition once the slot of frame `f` is over. -/
def Rendition.reportOf (x : Rendition) (n f : Nat) (quality : List (Nat × Quality)) (dram : List (Nat × Nat)) (stored : List (Nat × List Nat)) : Rendition :=
  match x.pic? f with
  | none => { x with pics := reportPicture f x.pics }
  | some p =>
    let m := x.measured n p quality dram stored
    let y := { x with
      pics := reportPicture f x.pics
      trafficMax := if natBit p.state 0 then x.trafficMax else Nat.max x.trafficMax (ratio16 m.dram m.floorBytes) }
    { y with stored := y.keepStored f (p.storedOf n stored) }

/-- STATS_SLOT_DUE (R164): the slot of the channel's next frame. The operands are what the AFE and the engines measured: the scene bits and the row at which the change
was found, each rendition's measures, its DRAM bytes and how many tiles of its reconstruction are stored with each K below 5, the motion field and the complexity regions. -/
def statsSlotDue (c scene changeRow : Nat) (quality : List (Nat × Quality)) (dram : List (Nat × Nat)) (stored : List (Nat × List Nat))
    (mf : List MotionBlock) (cx : List Region) (d : Device) : Device :=
  match d.statsFrame c with
  | none => d
  | some f =>
    if !d.frameDone c f then d
    else
      let x := d.chan c
      let r := (x.statsAt f).1
      let fr := Tab.find f (d.ingest.bind c).frames
      let filled := (fr.map (·.filled)).getD 0
      let flags := (fr.map (·.flags)).getD 0
      let mine := d.code.rends.filter (fun e => e.2.recd.channel == c && (e.2.pic? f).isSome)
      let recs := mine.filterMap (fun e => (e.2.pic? f).map (fun p =>
        summaryRecord e.1 f (statsSumBytes r) filled flags x p (e.2.measured e.1 p quality dram stored)))
      let slot := statsSlot c f x.stats.dropped (scene + 65536 * (changeRow % 65536)) d.now (x.tickOf f) r recs (motionBytes r (d.afeRange c) mf) (regionsOf r cx)
      let d1 := d.writeStats c f slot
      let d2 := { d1 with
        code := { d1.code with rends := Tab.mapVals (fun n e => if e.recd.channel = c then e.reportOf n f quality dram stored else e) d1.code.rends }
        ingest := { d1.ingest with binds := Tab.upd d1.ingest.binds c Binding.reset (fun b => { b with frames := Tab.del f b.frames }) } }
      let y := d2.chan c
      let d3 := d2.setChan c { y with prior := y.prior.filter (fun q => f + 1 < q.1) }
      d3.dropEnded c

/-! ### Reference pool (R192 to R194) -/

/-- The share of a shadow copy: SHADOW_FRAMES / 2 frames, rounded up. -/
def shadowSpan (r : RendRec) : Nat := ceilDiv r.shadowFrames 2

/-- A rendition's references at the commit point of frame `f` (R193): a copy in progress runs on; every SHADOW_FRAMES frames the picture of
frame `f - 1` becomes the long-term reference and its copy begins. With LT_TEST only the first picture does (R194), or an IDR that was asked for, which leaves no
older one valid (assumption 199). -/
def Rendition.commitPool (x : Rendition) (f : Nat) : Rendition :=
  let run := { x with pool := { x.pool with copying := x.pool.copying.map (fun p => (p.1, p.2 - 1)) } }
  let s := f - 1
  let first := f = x.start + 1 || (x.recd.ltTest && (x.pic? s).any (fun p => p.kind == 0))
  let marks := x.recd.hasLong && x.start < f && (first || (!x.recd.ltTest && (s - x.start) % x.recd.shadowFrames == 0))
    && !x.pool.spoiled.contains s && !((x.pic? s).map (·.lost)).getD false
  if marks then
    let keep := x.recd.refs + 3 ≤ x.recd.pool
    { run with pool := { run.pool with
      short := x.pool.short.filter (· != s), long := some s, oldLong := if keep then x.pool.long else none, shadow := if keep then x.pool.shadow else none
      copying := some (s, shadowSpan x.recd), fromShadow := keep && x.pool.fromShadow } }
  else run

/-- The mark of a buffer (R191, Table 6.6), with the frame that it holds. -/
inductive BufferMark where
  | unused | shortTerm (frame : Nat) | longTerm (frame : Nat) | outputHold (frame : Nat) | shadow (frame : Nat)
  deriving DecidableEq, Repr

/-- The marks of a rendition's POOL buffers (R191): pictures whose reconstruction is being written, or that are being copied, are held; the long-term references; the
short-term ones; the rest is unused. -/
def Rendition.poolMarks (x : Rendition) : List BufferMark :=
  let held := (x.pics.filter (fun e => !e.2.lost && e.2.rows.any (fun r => !r.2.entered))).map (·.1) ++ (x.pool.copying.map (·.1)).toList
  let long := (x.pool.long.toList ++ x.pool.oldLong.toList).filter (fun f => !held.contains f)
  let short := x.pool.short.filter (fun f => !held.contains f && !long.contains f)
  let l := held.eraseDups.map BufferMark.outputHold ++ long.map .longTerm ++ short.map .shortTerm
  l ++ List.replicate (x.recd.pool - l.length) .unused

/-- The marks of its two shadow buffers (R191; 12 Table 12.4). -/
def Rendition.shadowMarks (x : Rendition) : List BufferMark :=
  let l := (x.pool.shadow.map (fun s => BufferMark.shadow s.1)).toList
  l ++ List.replicate (2 - l.length) .unused

/-- SHADOW_COPY_DONE (R193): the copy replaces the previous shadow. -/
def shadowCopyDone (n : Nat) (d : Device) : Device :=
  match Tab.find n d.code.rends with
  | none => d
  | some x => match x.pool.copying with
    | some (s, 0) =>
      let g := ((Tab.find n d.dram.shadows).map (·.group)).getD 255
      d.setRend n { x with pool := { x.pool with copying := none, oldLong := none, shadow := some (s, g), fromShadow := false } }
    | _ => d

def execShadowCopyDone (t : Nat) (rendition : Fin 512) (s : State) : Host.Outcome State Fault Refusal :=
  .next { s with dev := shadowCopyDone rendition (s.dev.at_ t) }

/-! ### Engine faults (R198, R199) -/

/-- 2 ms: how long after a fault the first commit point of a handover may lie (R199). -/
def handLead : Nat := 2000 * usec

/-- The channels homed on rod `n`. -/
def Device.channelsOn (n : Nat) (d : Device) : List Nat := d.homed.filter (fun c => (d.chan c).rodA == n || (d.chan c).rodB == n)

/-- A channel's renditions enter a recovery path of a kind (1 engine fault, 3 group retirement); pictures in progress show it (R195). -/
def Device.enterPath (c kind : Nat) (degraded : Bool) (ends : Option Nat) (d : Device) : Device :=
  let fresh := d.code.rends.filter (fun e => e.2.recd.channel == c && e.2.live && e.2.paths.isEmpty)
  let d0 := fresh.foldl (fun d e => d.asRun c 10 0 (d.chan c).next e.1) d
  { d0 with code := { d0.code with rends := Tab.mapVals (fun _ r => if r.recd.channel = c && r.live then
    { r with
      paths := r.paths ++ [⟨kind, ends⟩]
      pics := Tab.mapVals (fun _ p => { p with
        state := p.state + bit01 (!natBit p.state 0) + 4 * bit01 (degraded && !natBit p.state 2) }) r.pics } else r) d0.code.rends } }

/-- The path of an engine fault. -/
def Device.faultPath (c : Nat) (degraded : Bool) (ends : Option Nat) (d : Device) : Device := d.enterPath c 1 degraded ends

/-- A row in progress is floored for a fault from its first undelivered block (R177, R184). -/
def Device.floorRow (n f k : Nat) (d : Device) : Device :=
  match d.openRow n f k with
  | none => d
  | some (_, p, r) => if r.cause.isSome then d else d.setPic n f { p with rows := Tab.put k { r with cause := some .fault } p.rows }

/-- A fault on a rod that a rod update loads, or hands a rod's channels to, ends the update where its handover has not landed (17 R484): the
roles stand as the last completed step left them. -/
def Device.updateHit (rod : Nat) (d : Device) : Device :=
  match d.serv.update with
  | none => d
  | some u =>
    let aims (c : Nat) : Bool := match (d.chan c).planned with
      | none => false
      | some p => p.1 == rod || p.2.1 == rod
    let hit := (u.waits.filter (fun w => w.2.isNone && aims w.1)).map (·.1)
    if u.loading != some rod && hit.isEmpty then d
    else
      let d1 := hit.foldl (fun d c => d.setChan c { d.chan c with planned := none }) d
      let d2 := if hit.isEmpty then d1 else d1.setRod rod { d1.rod rod with role := 1 }
      { d2 with serv := { d2.serv with update := none } }.decideCtx u.ctx stBadState 0x0C0B none d2.now

/-- A mask without a PE. -/
def cutMask (pe m : Nat) : Nat := maskOf ((List.range 7).filter (fun i => natBit m i && i != pe))

/-- A picture's masks without a PE of a rod. -/
def Picture.cutPe (rod pe : Nat) (p : Picture) : Picture :=
  { p with maskA := if p.rodA = rod then cutMask pe p.maskA else p.maskA, maskB := if p.rodB = rod then cutMask pe p.maskB else p.maskB }

/-- The rows among these that a PE of a rod may have been working on: their pictures' masks there hold it (R152). -/
def Device.rowsOfPe (rod pe : Nat) (rows : List (Nat × Nat × Nat)) (d : Device) : List (Nat × Nat × Nat) :=
  rows.filter (fun r => (d.openRow r.1 r.2.1 r.2.2).any (fun q => q.2.1.sides.any (fun s => s.2.1 == rod && natBit s.2.2.1 pe)))

/-- PE_FAULT (R198): the PE is isolated and leaves every mask; the rows it was working on are floored; the rod re-masks at the next
boundary where R151 still holds, and otherwise runs degraded until it hands over. -/
def peFault (rod pe : Nat) (rows : List (Nat × Nat × Nat)) (d : Device) : Device :=
  let x := d.rod rod
  if !natBit x.pe pe then d
  else
    let cs := d.channelsOn rod
    let hit := d.rowsOfPe rod pe rows
    let d1 := (d.setRod rod { x with pe := cutMask pe x.pe }).noteUnit (0x100 + 16 * rod + pe) 0 2 2
    let d2 := { d1 with code := { d1.code with
      channels := Tab.mapVals (fun _ c =>
        { c with maskA := if c.rodA = rod then cutMask pe c.maskA else c.maskA, maskB := if c.rodB = rod then cutMask pe c.maskB else c.maskB }) d1.code.channels
      rends := Tab.mapVals (fun _ r => { r with pics := Tab.mapVals (fun _ p => p.cutPe rod pe) r.pics }) d1.code.rends } }
    let holds := masksOk (d2.rod rod) (d2.masksOn rod none)
    let d3 := cs.foldl (fun d c =>
      let y := d.chan c
      (d.setChan c { y with degraded := y.degraded || !holds, remask := if holds && !y.remask.contains rod then y.remask ++ [rod] else y.remask }).faultPath c (!holds)
        (if holds then some y.committed else none)) d2
    let d4 := if holds then d3 else d3.setRod rod { d3.rod rod with handFrom := some ((d3.rod rod).handFrom.getD (d.now + handLead)) }
    ((hit.foldl (fun d r => d.floorRow r.1 r.2.1 r.2.2) d4).raise [(32 + 4 * rod, det3 0xFFFF 0xFFFF pe)]).updateHit rod

def execPeFault (t : Nat) (rod : Fin 24) (pe : Fin 7) (rows : List (Nat × Nat × Nat)) (s : State) : Host.Outcome State Fault Refusal :=
  .next { s with dev := peFault rod pe rows (s.dev.at_ t) }

/-- Rows in progress of the pictures on a failed unit of a rod. -/
def Device.rowsOnUnit (rod u : Nat) (d : Device) : List (Nat × Nat × Nat) :=
  d.code.rends.flatMap (fun e => e.2.pics.flatMap (fun p =>
    if p.2.sides.any (fun s => s.2.1 == rod && s.2.2.2 == u) then (p.2.rows.filter (fun r => r.2.bits.isNone)).map (fun r => (e.1, p.1, r.1)) else []))

/-- A rod's unit `u` gives way to the other one. -/
def otherUnit (rod u rodN unit : Nat) : Nat := if rodN = rod && unit = u then 1 - u else unit

/-- The other unit takes a failed unit's renditions from their next row (Table 6.9), those of pictures begun on it too. -/
def Device.swapUnits (rod u : Nat) (d : Device) : Device :=
  { d with code := { d.code with rends := Tab.mapVals (fun _ r =>
    let c := d.chan r.recd.channel
    { r with
      buA := otherUnit rod u c.rodA r.buA, buB := otherUnit rod u c.rodB r.buB
      pics := Tab.mapVals (fun _ p => { p with buA := otherUnit rod u p.rodA p.buA, buB := otherUnit rod u p.rodB p.buB }) r.pics }) d.code.rends } }

/-- An engine other than a PE faults (R199, Table 6.9): 7 RCT, 8 AFE, 9 BU0, 10 BU1, 11 FLC. -/
def Device.engineFault (rod engine : Nat) (d : Device) : Device :=
  let x := d.rod rod
  if x.engines.contains engine then d
  else
    let d1 := (d.setRod rod { x with engines := x.engines ++ [engine], handFrom := some (x.handFrom.getD (d.now + handLead)) }).noteUnit
      (0x100 + 16 * rod + engine) 0 2 2
    let d2 := (d.channelsOn rod).foldl (fun d c => d.faultPath c false none) d1
    let d3 := if engine = 9 || engine = 10 then
        ((d2.rowsOnUnit rod (engine - 9)).foldl (fun d r => d.floorRow r.1 r.2.1 r.2.2) d2).swapUnits rod (engine - 9)
      else d2
    (d3.raise [(32 + 4 * rod, det3 0xFFFF 0xFFFF engine)]).updateHit rod

def execEngineFault (t : Nat) (rod : Fin 24) (engine : Fin 5) (s : State) : Host.Outcome State Fault Refusal :=
  .next { s with dev := (s.dev.at_ t).engineFault rod (7 + engine) }

end Sys2Proof.Machine
end

