-- ==== Sys2Proof/Machine/Output.lean ====
section
/-!
DEFINITION. Services, subscribers and clean-programme outputs: the commands 0x0401 to 0x0408 (chapter 7), and what admission asks of
the journal for them (13 R385, R386).
-/
namespace Sys2Proof.Machine

/-- A service with a record. -/
def Device.svc? (n : Nat) (d : Device) : Option Service :=
  match Tab.find n d.out.services, d.rend? n with
  | some s, some _ => if s.gone then none else some s
  | _, _ => none

/-- A subscriber with a record. -/
def Device.sub? (n : Nat) (d : Device) : Option Subscriber :=
  match Tab.find n d.out.subs with
  | some s => if s.gone then none else some s
  | none => none

/-! ### SERVICE_SET -/

def parseAudio (c : Ctx) (a : Nat) : AudioEntry :=
  let o := 32 + 16 * a
  ⟨c.b o 2, c.b (o + 2) 1, c.b (o + 3) 1, c.b (o + 4) 2, c.b (o + 6) 1, c.b (o + 8) 4, c.b (o + 12) 4⟩

def parseService (c : Ctx) : ServiceRec :=
  let f := c.b 1 1
  { format := c.b 0 1, enable := natBit f 0, colFec := natBit f 1, fixed7 := natBit f 2, journal := natBit f 3, rowFec := natBit f 4,
    payloadMax := c.b 2 2, pt := c.b 4 1, fecL := c.b 5 1, fecD := c.b 6 1, ssrc := c.b 8 4, pace := c.b 12 4, ptsOffset := c.b 16 4,
    program := c.b 20 2, pmtPid := c.b 22 2, videoPid := c.b 24 2, audio := (List.range (Nat.min 4 (c.b 7 1))).map (parseAudio c) }

/-- The PIDs a service may use. -/
def pidOk (p : Nat) : Bool := within 0x10 0x1FFE p

/-- A field of Table 7.7 out of range. -/
def AudioEntry.bad (format : Nat) (a : AudioEntry) : Bool :=
  3 ≤ a.coding || (a.coding == 0 && !(a.channels == 2 || a.channels == 4 || a.channels == 6 || a.channels == 8))
    || (a.coding != 0 && a.channels != 2) || (a.coding == 1 && !within 64 512 a.kbps)
    || (format == 0 && !pidOk a.pid) || (format == 1 && !within 96 127 a.pt)

/-- The PIDs in use are distinct. -/
def pidsDistinct (r : ServiceRec) : Bool :=
  let l := r.pmtPid :: r.videoPid :: r.audio.map (·.pid)
  l.eraseDups.length == l.length

/-- A field of Table 7.6 out of range. -/
def ServiceRec.bad (r : ServiceRec) (count : Nat) : Bool :=
  2 ≤ r.format || 5 ≤ count
    || (if r.format = 0 then r.payloadMax != 0 || r.pt != 0 else (r.payloadMax != 0 && !within 256 8900 r.payloadMax) || !within 96 127 r.pt)
    || !within 1 20 r.fecL || !within 4 20 r.fecD || 100 < r.fecL * r.fecD || r.program == 0 || !pidOk r.pmtPid || !pidOk r.videoPid
    || r.pmtPid == r.videoPid || (r.format == 0 && !pidsDistinct r) || r.audio.any (AudioEntry.bad r.format)

/-- Outside Tables 7.1 and 7.3. -/
def ServiceRec.unsupported (r : ServiceRec) : Bool :=
  r.audio.any (fun a => (r.format == 0 && a.coding == 2) || (r.format == 1 && a.coding == 0))

/-- Reserved bytes of a service block: unused audio entries and byte 7 of each. -/
def serviceReserved (c : Ctx) : Bool :=
  (List.range 4).all (fun a => if a < c.b 7 1 then c.b (39 + 16 * a) 1 == 0 else c.b (32 + 16 * a) 8 + c.b (40 + 16 * a) 8 == 0)

/-- Ticks of a 90 kHz clock that cover a time. -/
def ticks90Up (x : Nat) : Nat := ceilDiv (x * 90000) second

/-- A time at 90 kHz. -/
def at90 (x : Nat) : Nat := x * 90000 / second

/-- The duration of an audio frame (Table 7.3); services carry audio at 48 kHz (14 R426). -/
def audioFrame (ch : ChannelRec) (a : AudioEntry) : Nat :=
  if a.coding = 0 then framePeriod ch else if a.coding = 1 then 1024 * second / 48000 else second / 1000

/-- The least PTS offset (R213). -/
def leastPts (ch : ChannelRec) (r : RendRec) (d : Nat) (audios : List AudioEntry) : Nat :=
  let w := windowOf ch r
  let video := framePeriod ch + d * tenNs + w
  let audio := (audios.map (audioFrame ch)).foldl Nat.max 0
  ticks90Up (Nat.max video (if audios.isEmpty then 0 else audio + 2000 * usec + w))

/-! ### Audio-core units (14 R427, Table 14.4) -/

/-- The units of source `n` with a record: reception and rate conversion of its pairs, the services that name it, its output ports. -/
def Device.audioUnits (n : Nat) (x : ASource) (d : Device) : Nat :=
  x.pairs.length * (if x.rateHz = 48000 then 1 else 5)
    + ((d.out.services.filter (fun e => !e.2.gone)).map (fun e =>
        ((e.2.recd.audio.filter (fun a => a.source == n)).map (fun a => a.channels / 2 * (if a.coding = 1 then 24 else 1))).sum)).sum
    + (d.audio.ports.filter (fun e => e.2.recd.enable && e.2.recd.output && e.2.recd.source == n)).length

/-- The units of a core in use, source `but` not counted. -/
def Device.coreUnits (k : Nat) (but : Option Nat) (d : Device) : Nat :=
  ((d.audio.sources.filter (fun e => e.2.core == k && some e.1 != but)).map (fun e => d.audioUnits e.1 e.2)).sum

/-- Neither core is beyond its 2048 units. -/
def Device.coresFit (d : Device) : Bool := d.coreUnits 0 none ≤ 2048 && d.coreUnits 1 none ≤ 2048

/-- A core beyond its units, where the condition holds. -/
def coreFull (b : Bool) : Refused := if b then some (stNoBeads, 0x0A01) else none

/-- The least PTS offset of a service record. -/
def Device.leastPtsOf (n : Nat) (r : ServiceRec) (d : Device) : Nat :=
  match d.rend? n with
  | none => 0
  | some x => leastPts (d.chan x.recd.channel).recd x.recd (d.delayOf (n, x)) r.audio

/-- The PTS offset of a service record: the one it gives, or the least, as its channel and rendition stand (R213). -/
def Device.ptsOf (n : Nat) (r : ServiceRec) (d : Device) : Nat := if r.ptsOffset = 0 then d.leastPtsOf n r else r.ptsOffset

/-- What a live service may not change (R233). -/
def ServiceRec.fixed (r : ServiceRec) : List Nat :=
  [r.format, bit01 r.fixed7, r.payloadMax, r.pt, r.ssrc, r.ptsOffset, r.program, r.pmtPid, r.videoPid] ++
  r.audio.flatMap (fun a => [a.source, a.coding, a.channels, a.pid, a.pt, a.ssrc, a.kbps])

/-- The write charge of a service in 1/10000 kb/s (13 R385). -/
def Device.writeCharge (n : Nat) (r : ServiceRec) (d : Device) : Nat :=
  let pace := if r.pace = 0 then 105 * (((d.rend? n).map (·.recd.rateKbps)).getD 0) else 100 * r.pace
  let a := ((r.audio.filter (fun _ => r.format == 1)).map (fun a => if a.coding = 2 then 2304 else if a.coding = 1 then a.kbps else 0)).sum
  103 * (pace + 100 * a)

/-- A service's journal settings. -/
def Device.jsvc (n : Nat) (d : Device) : JService := Tab.read d.journal.services n JService.reset

/-- The journalled services with service `n` set to a record: number, charge, retention. -/
def Device.charges (n : Nat) (r : Option (ServiceRec × Nat)) (d : Device) : List (Nat × Nat) :=
  ((d.out.services.filter (fun e => e.1 != n && e.2.recd.journal && !e.2.gone)).map (fun e => (d.writeCharge e.1 e.2.recd, (d.jsvc e.1).retainS))) ++
  (match r with
    | some (x, retain) => if x.journal then [(d.writeCharge n x, retain)] else []
    | none => [])

/-- A held need in bytes (13 R386). -/
def heldNeed (charge retain : Nat) : Nat := charge * retain / 80

/-- A mark holds a record (13 R388). -/
def Mark.holds (m : Mark) (r : JRec) : Bool := m.source == r.source && m.from_ ≤ r.time && r.time < m.to_

/-- A record of a service: a packet, or the gap that stands for lost ones. -/
def JRec.ofService (r : JRec) (src : Nat) : Bool := (r.kind == 1 || r.kind == 4) && r.source == src

/-- The space a record takes (13 R390). -/
def JRec.size (r : JRec) : Nat := roundUp (44 + r.payload.length) 8

/-- A pin or a running replay holds a record (13 R388, R408). -/
def JournalState.holds (j : JournalState) (r : JRec) : Bool :=
  j.marks.any (fun m => m.2.holds r) || j.replays.any (fun p => p.2.source == r.source && p.2.from_ ≤ r.time && r.time < p.2.to_)

/-- The bytes that pins hold (13 R386, R388). -/
def JournalState.pinned (j : JournalState) : Nat :=
  ((j.recs.filter (fun r => (r.kind == 1 || r.kind == 4) && j.marks.any (fun m => m.2.holds r))).map JRec.size).sum

/-- Records of a source that nothing holds are released (13 R387): all of them, or those more than RETAIN_S before its newest
committed record. Their space is reused (13 R394). -/
def JournalState.release (src : Nat) (all : Bool) (j : JournalState) : JournalState :=
  let s := Tab.read j.services src JService.reset
  let newest := ((j.recs.filter (fun r => r.ofService src && r.committed)).map (·.time)).foldl Nat.max 0
  { j with recs := j.recs.filter (fun r => !r.ofService src || j.holds r || !(all || r.time + s.retainS * second < newest)) }.reclaim

/-- The held needs and the pins take more than 14 TB (13 R386). -/
def heldFull (l : List (Nat × Nat)) (pins : Nat) : Refused :=
  if 14000000000000 < (l.map (fun e => heldNeed e.1 e.2)).sum + pins then some (stNoBeads, 0x0902) else none

/-- The journal's admission (13 R385, R386), of the charges that would result. -/
def journalAdmit (l : List (Nat × Nat)) (pins : Nat) : Refused :=
  if 16000000 * 10000 < (l.map (·.1)).sum then some (stNoBeads, 0x0901) else heldFull l pins

/-- SERVICE_SET asks the journal: it sets JOURNAL, or raises the pace of a service that has it (13 R385). -/
def Device.journalAsks (n : Nat) (r : ServiceRec) (d : Device) : Bool :=
  r.journal && (match d.svc? n with
    | none => true
    | some s => !s.recd.journal || d.writeCharge n s.recd < d.writeCharge n r)

/-- The store with a service set to a record (08 R244). -/
def Device.withSvc (n : Nat) (r : ServiceRec) (d : Device) : Device :=
  let v := match Tab.find n d.out.services with
    | some s => { s with recd := r, gone := false }
    | none => Service.ofRec r
  { d with out := d.out.setSvc n v }

/-- A record kept for the frames before a change; only the last 32 changes can still have frames in flight. -/
def keepWas {α : Type} (f : Nat) (old : α) (was : List (Nat × α)) : List (Nat × α) := (was ++ [(f, old)]).drop (was.length - 31)

/-- SERVICE_SET's effect: on a live channel from its frame of effect (R33), else at once. -/
def setService (n : Nat) (r : ServiceRec) (d : Device) : Device :=
  let x := match Tab.find n d.out.services with
    | none => Service.ofRec r
    | some s =>
      let y := { s with recd := r, gone := false }
      match d.liveOfRend n with
      | none => { y with was := [] }
      | some c => { y with was := keepWas (d.chan c).committed { s.recd with enable := s.recd.enable && !s.gone } s.was }
  let off := !r.journal && (match Tab.find n d.out.services with | some s => s.recd.journal | none => false)
  { d with out := d.out.setSvc n x, journal := if off then d.journal.release n true else d.journal }

def serviceSet : CmdSpec where
  op := 0x0401
  block := some (fun _ => 128)
  sel := .ift
  when_ := .commit
  reserved := [(26, 6), (96, 32)]
  check c d :=
    let n := c.handle
    let r := parseService c
    firstOf [
      badParam (512 ≤ n || 32 ≤ c.b 1 1 || !serviceReserved c || r.bad (c.b 7 1)),
      (if r.unsupported then some (stNotSupported, 0) else none),
      absent (d.rend? n).isNone,
      badParam (r.pace != 0 && (match d.rend? n with | some x => r.pace < x.recd.rateKbps | none => false)),
      badParam (r.format == 0 && r.ptsOffset != 0 && r.ptsOffset < d.leastPtsOf n r),
      badParam (r.journal && (d.jsvc n).cls == 1 && 4000 * 10000 < d.writeCharge n { r with audio := [] } * 100 / 103),
      badState ((d.liveOfRend n).isSome && (match d.svc? n with | some s => s.recd.fixed != r.fixed | none => false)) 0,
      storeFull (r.enable && !(((d.svc? n).map (fun s => s.recd.enable)).getD false) && launchStore < (d.withSvc n r).storeUsed),
      absent (r.audio.any (fun a => (Tab.find a.source d.audio.sources).isNone)),
      coreFull (!(d.withSvc n r).coresFit),
      (if d.journalAsks n r then journalAdmit (d.charges n (some (r, (d.jsvc n).retainS))) d.journal.pinned else none)]
  chan c d := d.liveOfRend c.handle
  apply c d := Done.ok (setService c.handle (parseService c) d)

/-! ### SERVICE_CLEAR -/

/-- The enabled subscribers of a service. -/
def Device.subsOf (n : Nat) (d : Device) : List (Nat × Subscriber) :=
  d.out.subs.filter (fun e => e.2.recd.service == n && e.2.recd.enable && !e.2.gone)

def serviceClear : CmdSpec where
  op := 0x0402
  sel := .ift
  when_ := .commit
  reserved := [(0, 40)]
  check c d := firstOf [badParam (512 ≤ c.handle), absent (d.svc? c.handle).isNone, badState (!(d.subsOf c.handle).isEmpty) 0,
    badState (d.replaying (· == c.handle)) 0x0908]
  chan c d := d.liveOfRend c.handle
  apply c d :=
    let n := c.handle
    let d1 := { d with journal := d.journal.release n true }
    match d.liveOfRend n, Tab.find n d.out.services with
    | some k, some s =>
      let y := { s with gone := true, recd := { s.recd with enable := false, journal := false }, was := keepWas (d.chan k).committed s.recd s.was }
      Done.ok { d1 with out := d1.out.setSvc n y }
    | _, _ => Done.ok { d1 with out := { d1.out with services := Tab.del n d1.out.services } }

/-! ### SUBSCRIBER_SET and SUBSCRIBER_CLEAR -/

def parseSub (c : Ctx) : SubRec :=
  let f := c.b 3 1
  { service := c.b 0 2, port := c.b 2 1, enable := natBit f 0, ipv6 := natBit f 1, vlan := natBit f 2, srtp := natBit f 3,
    ssrcOverride := natBit f 4, fec := natBit f 5, dstMac := c.b 4 6, vlanId := c.b 10 2, pcp := c.b 12 1, dscp := c.b 13 1, ttl := c.b 14 1,
    dstAddr := c.b 16 16, srcAddr := c.b 32 16, dstUdp := c.b 48 2, srcUdp := c.b 50 2, ssrc := c.b 52 4, skewNs := c.b 56 4 }

/-- A field of Table 7.8 out of range. -/
def SubRec.bad (r : SubRec) : Bool :=
  512 ≤ r.service || 32 ≤ r.port || (r.vlan && !within 1 4094 r.vlanId) || 8 ≤ r.pcp || 64 ≤ r.dscp || r.ttl == 0 || 1000000 < r.skewNs

/-- The bytes before the payload: Ethernet, VLAN tag, IP, UDP and RTP headers. -/
def SubRec.headers (r : SubRec) : Nat := 14 + (if r.vlan then 4 else 0) + (if r.ipv6 then 40 else 20) + 8 + 12

/-- The largest payload of a service (R211). -/
def ServiceRec.payloadTop (r : ServiceRec) : Nat := if r.format = 0 then 1316 else if r.payloadMax = 0 then 1400 else r.payloadMax

/-- A subscriber's largest frame, without the FCS (R211); an FEC packet has 16 bytes of FEC header. -/
def largestFrame (r : SubRec) (s : ServiceRec) : Nat :=
  r.headers + s.payloadTop + (if r.srtp then 16 else 0) + (if r.fec && (s.colFec || s.rowFec) then 16 else 0)

/-- The active video rate of a channel in 1/100 kb/s: 20 bits a pixel (R231). -/
def videoRate100 (r : ChannelRec) : Nat := ceilDiv (r.width * r.height * 20 * r.rateNum) (r.rateDen * 10)

/-- The channel that a clean-programme output is bound to. -/
def Device.outChannel (h : Nat) (d : Device) : Option Nat :=
  (d.comp.chans.find? (fun e => e.2.conf.mode == 2 && e.2.conf.outHandle == h)).map (·.1)

/-- What a port carries, in 1/100 kb/s: subscribers and clean-programme outputs (R230). -/
def Device.portCarries (p : Nat) (d : Device) : Nat :=
  ((d.out.subs.filter (fun e => e.2.recd.enable && !e.2.gone && e.2.recd.port == p)).map (fun e => d.pace100 e.2.recd.service)).sum +
  ((d.out.progs.filter (fun e => e.2.onPort p)).map (fun e => match d.outChannel e.1 with
    | some c => videoRate100 (d.chan c).recd
    | none => 0)).sum

/-- A port would carry more than 90 % of its rate (R230). -/
def Device.portFull (p : Nat) (d : Device) : Refused := if 90 * d.lanes.kbps p < d.portCarries p then some (stNoBeads, 0x0401) else none

/-- The device with a subscriber set. -/
def Device.withSub (n : Nat) (r : SubRec) (d : Device) : Device :=
  let v := match Tab.find n d.out.subs with
    | some s => { s with recd := r, gone := false }
    | none => Subscriber.ofRec r
  { d with out := d.out.setSub n v }

/-- A record that no longer governs a subscriber stands on for the frames of its service before the frame of effect; of a service that is not live, none is kept
(R219). -/
def Device.keepSub (r : SubRec) (was : List (Nat × SubRec)) (d : Device) : List (Nat × SubRec) := match d.liveOfRend r.service with
  | some c => keepWas (d.chan c).committed r was
  | none => was.filter (fun e => e.2.service != r.service)

/-- SUBSCRIBER_SET's effect (R219): on a live service from its frame of effect, else at once. A subscriber that another service fed takes that service's frames up
to that service's own frame, and none of its new service's earlier frames. -/
def setSub (n : Nat) (r : SubRec) (d : Device) : Device :=
  match Tab.find n d.out.subs with
  | some s =>
    let was := d.keepSub { s.recd with enable := s.recd.enable && !s.gone } s.was
    { d with out := d.out.setSub n { s with
        recd := r, gone := false, was := if s.recd.service = r.service then was else d.keepSub { r with enable := false } was } }
  | none => { d with out := d.out.setSub n { Subscriber.ofRec r with was := d.keepSub { r with enable := false } [] } }

/-- The service of a subscriber as the newest SUBSCRIBER_SET leaves it, landed or staged. -/
def Device.newestSub (n : Nat) (d : Device) : Option Nat :=
  let mine (s : Staged) : Bool := (s.op == 0x0403 || s.op == 0x0404) && s.ctx.handle == n
  match (d.rk.staged.filter mine).getLast? with
  | some s => if s.op = 0x0403 then some (s.ctx.b 0 2) else none
  | none => (d.sub? n).map (·.recd.service)

def subscriberSet : CmdSpec where
  op := 0x0403
  block := some (fun _ => 64)
  sel := .ift
  when_ := .commit
  reserved := [(15, 1), (60, 4)]
  check c d :=
    let r := parseSub c
    let svc := (Tab.find r.service d.out.services).map (·.recd)
    firstOf [
      badParam (4096 ≤ c.handle || 64 ≤ c.b 3 1 || r.bad || (d.port r.port).recd.direction == 2),
      absent (d.svc? r.service).isNone,
      badParam (match svc with | some s => (d.port r.port).recd.mtu < largestFrame r s | none => false),
      (if r.enable then (d.withSub c.handle r).portFull r.port else none)]
  chan c d := d.liveOfRend (c.b 0 2)
  apply c d := Done.ok (setSub c.handle (parseSub c) d)

def subscriberClear : CmdSpec where
  op := 0x0404
  sel := .ift
  when_ := .commit
  reserved := [(0, 40)]
  check c d := orElse (badParam (4096 ≤ c.handle)) (absent (d.sub? c.handle).isNone)
  chan c d := (d.newestSub c.handle).bind (fun s => d.liveOfRend s)
  apply c d :=
    let n := c.handle
    match Tab.find n d.out.subs with
    | none => Done.ok d
    | some s => match d.liveOfRend s.recd.service with
      | some _ => Done.ok { d with out := d.out.setSub n { s with gone := true, recd := { s.recd with enable := false }, was := d.keepSub s.recd s.was } }
      | none => Done.ok { d with out := { d.out with subs := Tab.del n d.out.subs } }

/-! ### SUBSCRIBER_KEY_SET (R228, R229) -/

/-- The slot whose key protects a subscriber's packets. -/
def Subscriber.slotInUse (x : Subscriber) (slot : Nat) : Bool := x.inUse == slot && (if slot = 0 then x.slot0.used else x.slot1.used)

def subscriberKeySet : CmdSpec where
  op := 0x0405
  block := some (fun _ => 128)
  reserved := [(3, 1), (52, 4), (72, 56)]
  check c d :=
    firstOf [
      badParam (4096 ≤ c.handle || !within 1 2 (c.b 0 1) || 2 ≤ c.b 1 1 || 5 ≤ c.b 2 1 || (c.b 0 1 == 1 && c.b 24 16 != 0) || !timeWordOk c.block 56),
      absent (d.sub? c.handle).isNone,
      badState (match d.sub? c.handle with | some s => s.slotInUse (c.b 1 1) | none => false) 0]
  apply c d :=
    match Tab.find c.handle d.out.subs with
    | none => Done.ok d
    | some s =>
      let k : KeySlot := ⟨true, c.b 0 1, c.b 2 1, c.b 4 4 % 2 ^ (8 * c.b 2 1), (c.block.drop 8).take (if c.b 0 1 = 1 then 16 else 32), (c.block.drop 40).take 12⟩
      let slot := c.b 1 1
      let y := { s with slot0 := if slot = 0 then k else s.slot0, slot1 := if slot = 1 then k else s.slot1, effect := some (slot, timeOfWord c.block 56) }
      Done.ok { d with out := d.out.setSub c.handle y }

/-! ### PROGRAMME_OUT_SET (R230, R231) -/

def parseProg (c : Ctx) : ProgOut :=
  let f := c.b 0 1
  { enable := natBit f 0, ipv6 := natBit f 1, vlan := natBit f 2, legB := natBit f 3, portA := c.b 1 1, portB := c.b 2 1, packing := c.b 3 1,
    pt := c.b 4 1, sender := c.b 5 1, vlanA := c.b 6 2, vlanB := c.b 8 2, dstUdpA := c.b 10 2, dstUdpB := c.b 12 2, dscp := c.b 14 1,
    dstA := c.b 16 16, dstB := c.b 32 16, ssrc := c.b 48 4, srcUdp := c.b 52 2 }

/-- A field of the record out of range; destinations are multicast only. -/
def ProgOut.bad (r : ProgOut) : Bool :=
  32 ≤ r.portA || (r.legB && 32 ≤ r.portB) || 2 ≤ r.packing || !within 96 127 r.pt || 3 ≤ r.sender
    || (r.vlan && (!within 1 4094 r.vlanA || (r.legB && !within 1 4094 r.vlanB))) || 64 ≤ r.dscp
    || !multicast r.ipv6 r.dstA || (r.legB && !multicast r.ipv6 r.dstB)

/-- Everything but the addresses (R233). -/
def ProgOut.fixed (r : ProgOut) : List Nat :=
  [bit01 r.enable, bit01 r.ipv6, bit01 r.vlan, bit01 r.legB, r.portA, r.portB, r.packing, r.pt, r.sender, r.vlanA, r.vlanB, r.dscp, r.ssrc, r.srcUdp]

/-- The ports an output sends on. -/
def ProgOut.ports (r : ProgOut) : List Nat := if r.legB then [r.portA, r.portB] else [r.portA]

/-- The live channel an output is bound to. -/
def Device.liveOut (h : Nat) (d : Device) : Option Nat := (d.outChannel h).bind (fun c => d.liveOnly c)

def programmeOutSet : CmdSpec where
  op := 0x0406
  block := some (fun _ => 64)
  when_ := .commit
  reserved := [(15, 1), (54, 10)]
  check c d :=
    let r := parseProg c
    let d' := { d with out := { d.out with progs := Tab.put c.handle r d.out.progs } }
    firstOf [
      badParam (64 ≤ c.handle || 16 ≤ c.b 0 1 || r.bad || r.ports.any (fun p => (d.port p).recd.direction == 2)),
      badState ((d.liveOut c.handle).isSome && (match Tab.find c.handle d.out.progs with | some o => o.fixed != r.fixed | none => false)) 0,
      (if r.enable then firstOf (r.ports.map (fun p => d'.portFull p)) else none)]
  chan c d := d.liveOut c.handle
  apply c d := Done.ok { d with out := { d.out with progs := Tab.put c.handle (parseProg c) d.out.progs } }

/-! ### Status (Table 7.10) -/

def serviceRecord (n : Nat) (d : Device) : Bytes :=
  match Tab.find n d.out.services with
  | none => []
  | some s =>
    let peak := lastPeak d.now s.peaks
    fields [(8, s.packets), (8, s.bytes), (8, s.fecPackets), (8, s.audioPackets), (8, s.lateDrops), (4, peak), (2, (d.subsOf n).length), (2, s.nextSeq),
      (4, d.ptsOf n s.recd), (12, 0)] ++ timeWordBytes s.lastLaunch ++ wrLE 32 0 ++ timeWordBytes d.now

def serviceStatusGet : CmdSpec where
  op := 0x0407
  when_ := .done
  reserved := [(8, 32)]
  check c d := firstOf [badParam (512 ≤ c.handle || targetBad 128 c d), absent (d.svc? c.handle).isNone, targetCheck 128 c d]
  apply c d := writeRecord (serviceRecord c.handle d) c d

def subscriberRecord (n : Nat) (d : Device) : Bytes :=
  match Tab.find n d.out.subs with
  | none => []
  | some s =>
    fields [(8, s.sent), (8, s.dropped), (8, s.packetsKey), (8, 0), (8, 0), (4, s.roc % 2 ^ 32), (2, s.inUse),
      (2, bit01 s.recd.enable + 2 * bit01 (d.lanes.isUp s.recd.port) + 4 * bit01 s.recd.srtp), (4, s.recd.skewNs), (12, 0)] ++
    (match s.firstLaunch with | none => wrLE 16 0 | some t => timeWordBytes t) ++ wrLE 32 0 ++ timeWordBytes d.now

def subscriberStatusGet : CmdSpec where
  op := 0x0408
  when_ := .done
  reserved := [(8, 32)]
  check c d := firstOf [badParam (4096 ≤ c.handle || targetBad 128 c d), absent (d.sub? c.handle).isNone, targetCheck 128 c d]
  apply c d := writeRecord (subscriberRecord c.handle d) c d

end Sys2Proof.Machine
end

