-- ==== Sys2Proof/Machine/Pixels.lean ====
section
/-!
DEFINITION. Samples: how ingest brings them to the module's form (03 R70, R98), colour conversion, blending and resampling in the compositor (04 R102 to R104,
R109), the rung scalers and the renditions' sampling (R116, R118), and the proxy (R121). Filter coefficients, transfer functions and the direction of rounding are
constants without a body (assumptions 207 to 209).
-/
namespace Sys2Proof.Machine

/-- Black (03 R81). -/
def Pix.black : Pix := ⟨64, 512, 512⟩

/-- `n / m` to the nearest whole number; which way a tie goes is open. -/
def nearest (n m : Nat) : Nat := n / m + (if m < 2 * (n % m) then 1 else if 2 * (n % m) = m then bit01 (Config.tieUp n) else 0)

/-- `n / m` as a whole number; which way it is rounded is open. -/
def eitherWay (n : Int) (m : Nat) : Int := n / m + (if n % m = 0 then 0 else if Config.roundsUp n m then 1 else 0)

/-! ### Ingest (03 R70, R98) -/

/-- A sample at 10 bits: two zero bits below 8, 12 rounded (R70). -/
def sample10 (depth v : Nat) : Nat := if depth = 8 then 4 * v else if depth = 12 then Nat.min 1023 (nearest v 4) else v

def Pix.at10 (depth : Nat) (p : Pix) : Pix := ⟨sample10 depth p.y, sample10 depth p.cb, sample10 depth p.cr⟩

/-- A line of 4:4:4 with its chroma filtered to 4:2:2, by the ingest chroma filter (R70) or by the compositor (04 R103). -/
def to422 (ingest : Bool) (l : VLine) : VLine :=
  l.zipIdx.map (fun e =>
    ⟨e.1.y, (Config.chroma422 ingest (l.map (·.cb)) (e.2 / 2)).toNat, (Config.chroma422 ingest (l.map (·.cr)) (e.2 / 2)).toNat⟩)

/-- A line of 4:2:0 whose chroma the ingest filter has doubled vertically (R98); `place` tells the lines of the module's pictures apart. -/
def doubled (place : List Nat) (l : VLine) : VLine :=
  l.zipIdx.map (fun e => ⟨e.1.y, (Config.chromaDouble place (e.2 / 2) false e.1.cb).toNat, (Config.chromaDouble place (e.2 / 2) true e.1.cr).toNat⟩)

/-- A line as a channel takes it from a source of another sampling (R70, R98). -/
def chromaFor (channel source : Nat) (place : List Nat) (l : VLine) : VLine :=
  if source = 1 then to422 true l else if source = 2 && channel = 0 then doubled place l else l

/-- Samples written into a line from a position on. -/
def overlay (first : Nat) (run line : VLine) : VLine :=
  (line ++ List.replicate (first - line.length) Pix.black).take first ++ run ++ line.drop (first + run.length)

/-- A position lies in one of the ranges (first, count). -/
def inRanges (rs : List (Nat × Nat)) (i : Nat) : Bool := rs.any (fun r => r.1 ≤ i && i < r.1 + r.2)

/-- A line of `w` positions: what has arrived in the ranges, and the rest from another line (R76). -/
def patched (w : Nat) (rs : List (Nat × Nat)) (new old : VLine) : VLine :=
  (List.range w).map (fun i => (if inRanges rs i then new else old).getD i Pix.black)

/-- A line of an image in a format of Table 3.5: `luma` and `chroma` are the bytes of its lines in the two planes, or of the packed line. -/
def imageLine (format width : Nat) (luma chroma : Bytes) : VLine :=
  (List.range width).map (fun i =>
    if format = 1 then
      let g := rdLE ((luma.drop (5 * (i / 2))).take 5).reverse 0 5
      let part (k : Nat) : Nat := g / 2 ^ (30 - 10 * k) % 1024
      ⟨part (if i % 2 = 0 then 1 else 3), part 0, part 2⟩
    else ⟨rdLE luma (2 * i) 2 % 1024, rdLE chroma (4 * (i / 2)) 2 % 1024, rdLE chroma (4 * (i / 2) + 2) 2 % 1024⟩)

/-! ### Colour (04 R103) -/

/-- A colour: BT.2020 (else BT.709), and the transfer: 0 SDR, 1 HLG, 2 PQ. -/
structure ColourSpace where
  wide : Bool
  tcs : Nat
  deriving DecidableEq, Repr

/-- The colour of a layer's or an asset's tag (R102). -/
def ColourSpace.ofTag (n : Nat) : ColourSpace := ⟨n != 0, n - 1⟩

/-- R'G'B' in 1/65535, or linear light. -/
structure Rgb where
  r : Int
  g : Int
  b : Int
  deriving DecidableEq, Repr

def Rgb.map (f : Int → Int) (x : Rgb) : Rgb := ⟨f x.r, f x.g, f x.b⟩

/-- Y'CbCr 4:4:4 at 16 bits, chroma as the signed difference from mid-level. -/
structure Ycc where
  y : Int
  cb : Int
  cr : Int
  deriving DecidableEq, Repr

/-- A pixel that is blended: premultiplied Y'CbCr, and its effective alpha in 1/65535. -/
structure Over where
  y : Int
  cb : Int
  cr : Int
  a : Nat
  deriving DecidableEq, Repr

/-- A pixel that is not there. -/
def Over.clear : Over := ⟨0, 0, 0, 0⟩

/-- The weights of red and blue in luma, in 1/10000 (ITU-R BT.709, BT.2020). -/
def ColourSpace.kr (c : ColourSpace) : Int := if c.wide then 2627 else 2126
def ColourSpace.kb (c : ColourSpace) : Int := if c.wide then 593 else 722
def ColourSpace.kg (c : ColourSpace) : Int := 10000 - c.kr - c.kb

/-- R'G'B' to Y'CbCr; `a` is the alpha by which it is premultiplied, in 1/65535. -/
def ColourSpace.ycc (c : ColourSpace) (x : Rgb) (a : Nat) : Ycc :=
  let y := eitherWay (c.kr * x.r + c.kg * x.g + c.kb * x.b) 10000
  let cb := eitherWay ((x.b - y) * 10000) (2 * (10000 - c.kb).toNat)
  let cr := eitherWay ((x.r - y) * 10000) (2 * (10000 - c.kr).toNat)
  ⟨eitherWay (4096 * a + y * 56064) 65535, eitherWay (cb * 57344) 65535, eitherWay (cr * 57344) 65535⟩

/-- Y'CbCr to R'G'B'. -/
def ColourSpace.rgb (c : ColourSpace) (p : Ycc) : Rgb :=
  let y := eitherWay ((p.y - 4096) * 65535) 56064
  let r := y + eitherWay (2 * (10000 - c.kr) * eitherWay (p.cr * 65535) 57344) 10000
  let b := y + eitherWay (2 * (10000 - c.kb) * eitherWay (p.cb * 65535) 57344) 10000
  ⟨r, eitherWay (10000 * y - c.kr * r - c.kb * b) c.kg.toNat, b⟩

/-- Linear light between the primaries (ITU-R BT.2087, BT.2407). -/
def primaries (from_ into : Bool) (x : Rgb) : Rgb :=
  let row (a b c : Int) : Int := eitherWay (a * x.r + b * x.g + c * x.b) 10000
  if from_ = into then x
  else if into then ⟨row 6274 3293 433, row 691 9195 114, row 164 880 8956⟩
  else ⟨row 16605 (-5876) (-728), row (-1246) 11329 (-83), row (-182) (-1006) 11187⟩

/-- The knee for HDR in SDR: as it is up into 90 %, above that compressed, up into 109 %; in 1/65536 of 100 %. -/
def softKnee (v : Int) : Int := if 10 * v ≤ 9 * 65536 then v else min (109 * 65536 / 100) (max (9 * 65536 / 10) (Config.knee v))

/-- R'G'B' into linear light, and back. -/
def lightOf (tcs : Nat) (x : Rgb) : Rgb := let v := Config.eotf tcs (x.r, x.g, x.b); ⟨v.1, v.2.1, v.2.2⟩
def signalOf (tcs : Nat) (x : Rgb) : Rgb := let v := Config.oetf tcs (x.r, x.g, x.b); ⟨v.1, v.2.1, v.2.2⟩

/-- A colour in another (R103): through linear light in cd/m², SDR 100 % at 203 cd/m². -/
def ColourSpace.convert (from_ into : ColourSpace) (x : Rgb) : Rgb :=
  if from_ = into then x
  else
    let l := lightOf from_.tcs x
    let m := primaries from_.wide into.wide l
    if from_.tcs = 0 && into.tcs = 0 then signalOf 0 m
    else if from_.tcs = 0 then signalOf into.tcs (m.map (· * 203))
    else if into.tcs = 0 then signalOf 0 (m.map (fun v => softKnee (eitherWay v 203)))
    else signalOf into.tcs m

/-- A video sample position in another colour (R103), at 10 bits. -/
def Pix.convert (from_ into : ColourSpace) (p : Pix) : Pix :=
  if from_ = into then p
  else
    let v := into.ycc (from_.convert into (from_.rgb ⟨64 * p.y, 64 * (p.cb : Int) - 32768, 64 * (p.cr : Int) - 32768⟩)) 65535
    ⟨Nat.min 1023 (nearest v.y.toNat 64), Nat.min 1023 (nearest (v.cb + 32768).toNat 64), Nat.min 1023 (nearest (v.cr + 32768).toNat 64)⟩

/-! ### Graphics (R102, R104) -/

/-- A surface pixel at 16 bits a component, premultiplied. -/
structure Rgba where
  r : Nat
  g : Nat
  b : Nat
  a : Nat
  deriving DecidableEq, Repr

/-- The components of a surface pixel (R102): FORMAT 0 in 4 bytes, FORMAT 1 in 8. -/
def Rgba.ofBytes (format : Nat) (b : Bytes) : Rgba :=
  let u (i : Nat) : Nat := if format = 0 then rdLE b i 1 * 257 else (eitherWay ((rdLE b (2 * i) 2 % 1024 * 65535 : Nat) : Int) 1023).toNat
  ⟨u 0, u 1, u 2, u 3⟩

/-- The pixels of a line of a surface. -/
def surfaceLine (format n : Nat) (b : Bytes) : List Rgba :=
  let k := if format = 0 then 4 else 8
  (List.range n).map (fun i => Rgba.ofBytes format ((b.drop (k * i)).take k))

/-- A function of the samples of pixels, component by component. -/
def Rgba.ofAll (f : List Nat → Nat) (l : List Rgba) : Rgba := ⟨f (l.map (·.r)), f (l.map (·.g)), f (l.map (·.b)), f (l.map (·.a))⟩

/-- The pre-decimation DECIM (R104). -/
def decimate (factor : Nat) (l : List Rgba) : List Rgba :=
  if factor = 1 then l
  else (List.range (l.length / factor)).map (fun i => Rgba.ofAll (fun v => (Config.decimate v).toNat) ((l.drop (factor * i)).take factor))

/-- The source places that a filter of `taps` taps reads around place `i` of `n` (edges repeat). -/
def window (n taps i : Nat) : List Nat := (List.range taps).map (fun t => Nat.min (n - 1) (i + t - (taps / 2 - 1)))

/-- The source place and the phase, of 64, of place `j` of `m` in a source of `n` (R104, R116). -/
def phaseOf (n m j : Nat) : Nat × Nat := (j * n * 64 / m / 64, j * n * 64 / m % 64)

/-- The value of a polyphase filter (0 and 1: a layer's, horizontal and vertical; 2 and 3: a rung's). -/
def filtered (filter phase : Nat) (v : List Nat) : Nat := (Config.polyphase filter phase v).toNat

/-- A line of `m` pixels from one of `n` (R104): 6 taps. -/
def stretch (m : Nat) (l : List Rgba) : List Rgba :=
  if l.length = m then l
  else (List.range m).map (fun j =>
    let p := phaseOf l.length m j
    Rgba.ofAll (filtered 0 p.2) ((window l.length 6 p.1).map (fun i => l.getD i ⟨0, 0, 0, 0⟩)))

/-- The lines of a column's filter together, pixel by pixel (R104): 4 taps, or the line itself. -/
def stacked (phase : Nat) : List (List Rgba) → List Rgba
  | [] => []
  | [l] => l
  | l :: r => (List.range l.length).map (fun i => Rgba.ofAll (filtered 1 phase) ((l :: r).map (fun q => q.getD i ⟨0, 0, 0, 0⟩)))

/-- A surface pixel on its way into the picture (R102, R103): the layer's global ALPHA on every component, and the channel's output colour. A colour is converted without
its alpha (assumption 208). -/
def Rgba.over (alpha : Nat) (from_ into : ColourSpace) (x : Rgba) : Over :=
  let s (v : Nat) : Nat := (eitherWay ((v * alpha : Nat) : Int) 1023).toNat
  let a := s x.a
  let c : Rgb := ⟨s x.r, s x.g, s x.b⟩
  let p := if from_ = into then c else if a = 0 then ⟨0, 0, 0⟩
    else (from_.convert into (c.map (fun v => eitherWay (v * 65535) a))).map (fun v => eitherWay (v * a) 65535)
  let q := into.ycc p a
  ⟨q.y, q.cb, q.cr, a⟩

/-! ### Blending (R103, R109) -/

/-- The share of what lies below a pixel of alpha `a`. -/
def below (a : Nat) (v : Int) : Int := eitherWay ((65535 - (a : Int)) * v) 65535

/-- A pixel on the picture below it. -/
def Over.onto (s : Over) (d : Ycc) : Ycc := ⟨s.y + below s.a d.y, s.cb + below s.a d.cb, s.cr + below s.a d.cr⟩

/-- A pixel on another of the same plane. -/
def Over.both (s d : Over) : Over := ⟨s.y + below s.a d.y, s.cb + below s.a d.cb, s.cr + below s.a d.cr, (s.a + below s.a d.a).toNat⟩

/-- A line of graphics on the picture. -/
def blendLine (s : List Over) (d : List Ycc) : List Ycc := List.zipWith Over.onto s d

/-- A video line as the blend takes it: 4:4:4 at 16 bits. -/
def blendStart (l : VLine) : List Ycc :=
  let up (c : List Nat) (i : Nat) : Int := ((Config.chroma444 c i).toNat : Int) - 32768
  l.zipIdx.map (fun e => ⟨64 * e.1.y, up (l.map (·.cb)) e.2, up (l.map (·.cr)) e.2⟩)

/-- A finished component: rounded to 10 bits, clamped to 4 to 1019. -/
def finished (v : Int) : Nat := Nat.min 1019 (Nat.max 4 (nearest v.toNat 64))

/-- A finished line (R103): rounded, clamped, and its chroma filtered to 4:2:2. -/
def blendEnd (l : List Ycc) : VLine := to422 false (l.map (fun p => ⟨finished p.y, finished (p.cb + 32768), finished (p.cr + 32768)⟩))

/-! ### Flat planes (R109) -/

def Over.store (p : Over) : PlanePix := ⟨nearest p.y.toNat 64, nearest (p.cb + 32768).toNat 64, nearest (p.cr + 32768).toNat 64, nearest (p.a * 1023) 65535⟩

def PlanePix.load (p : PlanePix) : Over := ⟨64 * p.y, 64 * (p.cb : Int) - 32768, 64 * (p.cr : Int) - 32768, nearest (p.a * 65535) 1023⟩

/-- The tiles of 64 × 16 pixels across a picture. -/
def tilesAcross (width : Nat) : Nat := ceilDiv width 64

/-- The tiles of a plane that hold a pixel with alpha above 0, in raster order, each with its pixels. -/
def tilesOf (width height : Nat) (lines : List (List PlanePix)) : Tab (List PlanePix) :=
  ((List.range (tilesAcross width * ceilDiv height 16)).map (fun k =>
    let x := k % tilesAcross width * 64
    let y := k / tilesAcross width * 16
    (k, ((lines.drop y).take 16).flatMap (fun l => (l ++ List.replicate (x + 64 - l.length) ⟨0, 512, 512, 0⟩).drop x |>.take 64)))).filter
      (fun t => t.2.any (fun p => p.a != 0))

/-- A line of a plane. -/
def planeLine (width y : Nat) (tiles : Tab (List PlanePix)) : List Over :=
  (List.range width).map (fun x => match Tab.find (y / 16 * tilesAcross width + x / 64) tiles with
    | none => .clear
    | some t => (t.getD (y % 16 * 64 + x % 64) ⟨0, 512, 512, 0⟩).load)

/-! ### Renditions (R116, R118) -/

/-- The Y, Cb or Cr samples of a line resampled from `n` to `m` places with 8 taps. -/
def rungLine (m : Nat) (v : List Nat) : List Nat :=
  if v.length = m then v
  else (List.range m).map (fun j =>
    let p := phaseOf v.length m j
    filtered 2 p.2 ((window v.length 8 p.1).map (fun i => v.getD i 0)) % 1024)

/-- The chroma of a 4:2:2 line, one sample for each pair. -/
def halves (v : List Nat) : List Nat := (List.range (ceilDiv v.length 2)).map (fun i => v.getD (2 * i) 0)

/-- A line put together from luma and half as many chroma samples. -/
def joined (y cb cr : List Nat) : VLine := y.zipIdx.map (fun e => ⟨e.1, cb.getD (e.2 / 2) 512, cr.getD (e.2 / 2) 512⟩)

/-- A rung line filtered horizontally (R116). -/
def rungAcross (m : Nat) (l : VLine) : VLine :=
  if l.length = m then l
  else joined (rungLine m (l.map (·.y))) (rungLine (ceilDiv m 2) (halves (l.map (·.cb)))) (rungLine (ceilDiv m 2) (halves (l.map (·.cr))))

/-- A rung line from the lines of its vertical filter (R116). -/
def rungDown (phase : Nat) (ls : List VLine) : VLine :=
  (List.range (ls.headD []).length).map (fun i =>
    let f (g : Pix → Nat) : Nat := filtered 3 phase (ls.map (fun l => g (l.getD i Pix.black))) % 1024
    ⟨f (·.y), f (·.cb), f (·.cr)⟩)

/-- The chroma of line `k` of a 4:2:0 rendition (R118), filtered vertically from the lines staged so far: the pair's, on both its lines. -/
def to420 (k : Nat) (lines : List VLine) (l : VLine) : VLine :=
  l.zipIdx.map (fun e =>
    let f (g : Pix → Nat) : Nat := (Config.chroma420 (lines.map (fun q => g (q.getD e.2 Pix.black))) (k / 2)).toNat
    ⟨e.1.y, f (·.cb), f (·.cr)⟩)

/-! ### The proxy (R121) -/

/-- The samples of a proxy, half the picture's size: of Y a filter of two positions on two lines, of chroma of two pairs. -/
def proxyLineOf (side : Nat) (a b : VLine) : List Nat × List Nat :=
  let at_ (g : Pix → Nat) (i : Nat) : List Nat := [g (a.getD i Pix.black), g (b.getD i Pix.black)]
  ((List.range side).map (fun i => (Config.proxyDown (at_ (·.y) (2 * i) ++ at_ (·.y) (2 * i + 1))).toNat),
    (List.range side).map (fun i =>
      let g : Pix → Nat := if i % 2 = 0 then (·.cb) else (·.cr)
      (Config.proxyDown (at_ g (4 * (i / 2)) ++ at_ g (4 * (i / 2) + 2))).toNat))

/-- The bytes of a plane's line: 10 bits in 16-bit words, low-aligned. -/
def wordsOf (v : List Nat) : Bytes := v.flatMap (fun n => wrLE 2 (n % 1024))

end Sys2Proof.Machine
end

