-- ==== Sys2Proof/Machine/Ingest.lean ====
section
/-!
DEFINITION. Ingest and contribution decode (chapter 3): the commands 0x0201 to 0x0206, packets and their merge, decoders, ancillary data,
host frame rings, and how the next line of a channel is taken at its fill point.
-/
namespace Sys2Proof.Machine

def Device.flow? (n : Nat) (d : Device) : Option Flow := Tab.find n d.ingest.flows

def Device.setFlow (n : Nat) (x : Flow) (d : Device) : Device := { d with ingest := d.ingest.setFlow n x }

def Device.updFlow (n : Nat) (f : Flow → Flow) (d : Device) : Device := match d.flow? n with
  | some x => d.setFlow n (f x)
  | none => d

def Device.bnd (c : Nat) (d : Device) : Binding := d.ingest.bind c

def Device.setBnd (c : Nat) (x : Binding) (d : Device) : Device := { d with ingest := d.ingest.setBind c x }

/-- A binding names a flow, as its video or its ancillary flow. -/
def BindRec.uses (b : BindRec) (n : Nat) : Bool := (b.source == 0 && b.videoIf == n) || (b.ancValid && b.ancIf == n)

/-- The records of a binding: the newest, and those of earlier frames (R33). -/
def Binding.recs (x : Binding) : List BindRec := (x.recd :: x.was.map (·.2)).filterMap id

/-- The channels with a frame that may take what a flow brings: bound to it now, or in frames before a change (01 R33). -/
def Device.takersOf (n : Nat) (d : Device) : List Nat := (d.ingest.binds.filter (fun e => e.2.recs.any (·.uses n))).map (·.1)

/-- The channels bound to a flow, in ascending order. -/
def Device.usersOf (n : Nat) (d : Device) : List Nat :=
  (d.ingest.binds.filter (fun e => match e.2.recd with | some b => b.uses n | none => false)).map (·.1)

/-- The channel that an audio source belongs to (14 R425): that of the lowest-numbered live service that names it. -/
def Device.sourceChan (src : Nat) (d : Device) : Option Nat :=
  ((d.out.services.filter (fun e => !e.2.gone && e.2.recd.audio.any (fun a => a.source == src) && (d.liveOfRend e.1).isSome)).head?).bind
    (fun e => d.liveOfRend e.1)

/-- The audio sources with a pair that takes an input (KIND 0 port, 1 flow). -/
def AudioState.sourcesOf (kind input : Nat) (x : AudioState) : List Nat :=
  (x.sources.filter (fun e => e.2.pairs.any (fun p => p.kind == kind && p.input == input))).map (·.1)

/-- The live channel that a flow belongs to (11 R330). -/
def Device.liveOfFlow (n : Nat) (d : Device) : Option Nat :=
  d.lowestLive (d.usersOf n ++ (d.audio.sourcesOf 1 n).filterMap (fun k => d.sourceChan k))

/-- The pairs of every source that take an input are lost, or return (14 R425): E424, E425 with the source and the pair. -/
def Device.audioInput (kind input : Nat) (lost : Bool) (d : Device) : Device :=
  let hit (p : Pair) : Bool := p.kind == kind && p.input == input && p.lost != lost
  let evs := d.audio.sources.flatMap (fun e => ((List.range e.2.pairs.length).filter (fun i => match e.2.pairs[i]? with
    | some p => hit p
    | none => false)).map (fun i => (if lost then 424 else 425, det2 e.1 i)))
  { d with audio := { d.audio with sources := Tab.mapVals (fun _ s => { s with
      losses := satAdd max64 s.losses (if lost then (s.pairs.filter hit).length else 0)
      pairs := s.pairs.map (fun p => if hit p then { p with lost := lost } else p) }) d.audio.sources } }.raise evs

/-! ### INGEST_FLOW_SET -/

def parseFlow (c : Ctx) : FlowRec :=
  let fl := c.b 1 1
  let video := c.b 0 1 ≤ 4
  let addr (off : Nat) : Nat := c.b off (if natBit fl 2 then 16 else 4)
  { kind := c.b 0 1, enable := natBit fl 0, legB := natBit fl 1, ipv6 := natBit fl 2, sourceSpecific := natBit fl 3, vlan := natBit fl 4,
    fromHost := natBit fl 5, portA := c.b 2 1, portB := c.b 3 1, udpA := c.b 4 2, udpB := c.b 6 2, groupA := addr 8, sourceA := addr 24,
    groupB := addr 40, sourceB := addr 56, vlanA := c.b 72 2, vlanB := c.b 74 2, pt := c.b 76 1, hostq := c.b 77 1,
    losMs := if c.b 78 2 = 0 then 20 else c.b 78 2, width := if video then c.b 80 2 else 0, height := if video then c.b 82 2 else 0,
    rateNum := if video then c.b 84 4 else 0, rateDen := if video then c.b 88 4 else 0, sampling := if video then c.b 92 1 else 0,
    depth := if video then c.b 93 1 else 0, colorimetry := if video then c.b 94 1 else 0, tcs := if video then c.b 95 1 else 0,
    coding := if video then c.b 96 1 else 0, cpbBits := if video then c.b 100 4 else 0, maxKbps := if video then c.b 104 4 else 0,
    audio := (c.block.drop 80).take 48 }

/-- The fields of an audio flow (14 Table 14.3). -/
def FlowRec.rateHz (r : FlowRec) : Nat := rdLE r.audio 0 4
def FlowRec.channels (r : FlowRec) : Nat := rdLE r.audio 4 1
def FlowRec.audioDepth (r : FlowRec) : Nat := rdLE r.audio 5 1
def FlowRec.packetUs (r : FlowRec) : Nat := rdLE r.audio 6 2

def FlowRec.isAudio (r : FlowRec) : Bool := r.kind == 5 || r.kind == 6

def vlanOk (v : Nat) : Bool := within 1 4094 v

/-- A field of Table 3.10, or of Table 14.3, out of range (R97, 14 R431). -/
def FlowRec.bad (r : FlowRec) : Bool :=
  8 ≤ r.kind || 32 ≤ r.portA || 32 ≤ r.portB || (r.vlan && !(vlanOk r.vlanA && (!r.legB || vlanOk r.vlanB)))
    || !(r.pt == 0 || within 96 127 r.pt) || 64 ≤ r.hostq || !within 1 1000 r.losMs
    || (r.kind ≤ 4 && (!within 64 7680 r.width || !within 64 4320 r.height || r.rateNum == 0 || r.rateDen == 0 || 3 ≤ r.sampling
        || !(r.depth == 8 || r.depth == 10 || r.depth == 12) || 2 ≤ r.colorimetry || 3 ≤ r.tcs || (if r.kind < 2 then 2 else 4) ≤ r.coding
        || (1 ≤ r.kind && !within 1 4000000 r.maxKbps) || (2 ≤ r.kind && !within 1 8388608 r.cpbBits)))
    || (r.kind == 5 && (!within 1 64 r.channels || !(r.audioDepth == 16 || r.audioDepth == 24)))
    || (r.kind == 6 && (!within 2 16 r.channels || r.channels % 2 != 0 || r.audioDepth != 0))
    || (r.isAudio && (!(r.rateHz == 48000 || r.rateHz == 96000) || rdLE r.audio 8 40 != 0))

/-- Outside Table 3.2 (R70), or a packet time that is not supported (14 R424). -/
def FlowRec.unsupported (r : FlowRec) : Bool :=
  (r.kind ≤ 4 && !rateOk r.rateNum r.rateDen)
    || (r.kind == 0 && !(r.sampling == 0 || r.depth == 10)) || (r.kind == 1 && !(r.sampling == 0 && r.depth == 10))
    || (r.isAudio && (!(r.packetUs == 1000 || r.packetUs == 125) || (8 < r.channels && r.packetUs != 125)))

/-- The ports of a flow's legs. -/
def FlowRec.ports (r : FlowRec) : List Nat := if r.fromHost then [] else if r.legB then [r.portA, r.portB] else [r.portA]

/-- What a bound flow may not change (R97, R98). -/
def FlowRec.fixed (r : FlowRec) : List Nat := [r.kind, r.width, r.height, r.rateNum, r.rateDen, r.sampling]

/-- Pixels a second (R88), in 1/1001. -/
def FlowRec.pixels (r : FlowRec) : Nat := r.width * r.height * r.rateNum * 1001 / r.rateDen

/-- The decoders of a kind: DX0 to DX3 are 0 to 3, XD0 to XD3 are 4 to 7 (Table 3.1). -/
def FlowRec.decoders (r : FlowRec) : List Nat :=
  if !r.enable then [] else if r.kind = 1 then [4, 5, 6, 7] else if compressedKind r.kind then [0, 1, 2, 3] else []

/-- Pixels a second on a decoder without flow `n`, in 1/1001. -/
def Device.decoderLoad (n k : Nat) (d : Device) : Nat :=
  ((d.ingest.flows.filter (fun e => e.1 != n && e.2.decoder == some k)).map (fun e => e.2.recd.pixels)).sum

/-- The decoder that takes a flow (R88): the one that holds it, or the first with room. -/
def Device.placeFlow (n : Nat) (r : FlowRec) (d : Device) : Option Nat :=
  let fits (k : Nat) : Bool := (d.serv.unit (0x300 + k)).service == 0 && d.decoderLoad n k + r.pixels ≤ (if k < 4 then 8000000000 else 16000000000) * 1001
  match (d.flow? n).bind (·.decoder) with
  | some k => if r.decoders.contains k then (if fits k then some k else none) else r.decoders.find? fits
  | none => r.decoders.find? fits

/-- An enabled flow reserves a coded-picture buffer (R89). -/
def FlowRec.cpbHeld (r : FlowRec) : Nat := if r.enable && compressedKind r.kind then r.cpbBits else 0

/-- An enabled audio flow's channels (14 R424). -/
def FlowRec.channelsHeld (r : FlowRec) : Nat := if r.enable && r.isAudio then r.channels else 0

/-- A sum over the other flows. -/
def Device.otherFlows (n : Nat) (f : FlowRec → Nat) (d : Device) : Nat := ((d.ingest.flows.filter (fun e => e.1 != n)).map (fun e => f e.2.recd)).sum

/-- The record that a packet of capture time `cap` meets: that of the frame it belongs to (R97; 01 R33). -/
def Flow.recAt (cap : Int) (x : Flow) : FlowRec := ((x.was.find? (fun w => cap < w.1)).map (·.2)).getD x.recd

/-- The records that packets still meet after a change that takes effect at the next frame of channel `c`: its boundary is half a period before that frame's tick,
where capture times begin to be nearest to it (R74). -/
def Device.flowWas (c : Option Nat) (x : Flow) (d : Device) : List (Int × FlowRec) :=
  let old := x.was.filter (fun w => (d.now : Int) < w.1 + second)
  match c with
  | none => old
  | some c =>
    let ch := d.chan c
    old ++ [((ch.tickOf ch.committed : Int) - framePeriod ch.recd / 2, x.recd)]

/-- A flow takes a record (R88, R89, R97): a flow that is enabled begins to count LOS_MS, and memberships are joined and left (R71). -/
def setFlowRec (n : Nat) (r : FlowRec) (d : Device) : Device :=
  let k := d.placeFlow n r
  let d1 := match d.flow? n with
    | none => d.setFlow n { Flow.ofRec d.now r with decoder := k }
    | some x =>
      let wakes := r.enable && !x.recd.enable
      d.setFlow n { x with
        recd := r, was := d.flowWas (d.liveOfFlow n) x, decoder := k, cpb := if r.enable then x.cpb else 0
        legA := if wakes then { x.legA with last := d.now, lost := false } else x.legA
        legB := if wakes || (r.legB && !x.recd.legB) then { x.legB with last := d.now, lost := false } else x.legB
        lost := x.lost && !wakes }
  d1.reportSince d.members

/-- A flow is gone (R89, R97): an audio input that it gave is lost, and its memberships are left (R71). -/
def clearFlow (n : Nat) (d : Device) : Device :=
  ({ d with ingest := { d.ingest with flows := Tab.del n d.ingest.flows } }.audioInput 1 n true).reportSince d.members

def ingestFlowSet : CmdSpec where
  op := 0x0201
  block := some (fun _ => 128)
  when_ := .commit
  check c d :=
    let r := parseFlow c
    let n := c.handle
    let old := (d.flow? n).map (·.recd)
    let zeros := r.isAudio || zerosIn c.block [(97, 3), (108, 20)]
    firstOf [
      badParam (256 ≤ n || 64 ≤ c.b 1 1 || !zeros || r.bad),
      (if r.unsupported then some (stNotSupported, 0) else none),
      badState (r.ports.any (fun p => !d.lanes.exists_ p)) 0,
      badParam (r.ports.any (fun p => (d.port p).recd.direction == 1)),
      badState (!(d.usersOf n).isEmpty && (match old with | some o => o.fixed != r.fixed | none => false)) 0,
      (if !r.decoders.isEmpty && (d.placeFlow n r).isNone then some (stNoBeads, 0x0201) else none),
      (if ((old.map (·.cpbHeld)).getD 0) < r.cpbHeld && 33554432 < d.otherFlows n FlowRec.cpbHeld + r.cpbHeld then some (stNoBeads, 0x0202) else none),
      (if ((old.map (·.channelsHeld)).getD 0) < r.channelsHeld && 1024 < d.otherFlows n FlowRec.channelsHeld + r.channelsHeld then some (stNoBeads, 0x0A02) else none)]
  chan c d := d.liveOfFlow c.handle
  apply c d := Done.ok (setFlowRec c.handle (parseFlow c) d)

def ingestFlowClear : CmdSpec where
  op := 0x0202
  reserved := [(0, 40)]
  check c d := firstOf [badParam (256 ≤ c.handle), absent (d.flow? c.handle).isNone, badState (!(d.usersOf c.handle).isEmpty) 0]
  apply c d := Done.ok (clearFlow c.handle d)

/-! ### INGEST_BIND -/

def parseBind (c : Ctx) : BindRec :=
  { source := c.p 0 1, holdUntilRap := natBit (c.p 1 1) 0, ancValid := natBit (c.p 1 1) 1, videoIf := c.p 2 2, ancIf := c.p 4 2,
    returnFrames := c.p 6 2, fillLagNs := if c.p 8 4 = 0 then 120000 else c.p 8 4, freezeMs := c.p 12 4, slate := c.p 16 2 }

def BindRec.bad (b : BindRec) : Bool :=
  3 ≤ b.source || 256 ≤ b.videoIf || 256 ≤ b.ancIf || 64 < b.returnFrames || !within 10000 10000000 b.fillLagNs || 600000 < b.freezeMs
    || !(b.slate < 64 || b.slate == 0xFFFF)

/-- A flow matches the channel (R98). -/
def FlowRec.suits (r : FlowRec) (ch : ChannelRec) : Bool :=
  r.kind ≤ 4 && r.width == ch.width && r.height == ch.height && r.rateNum * ch.rateDen == ch.rateNum * r.rateDen
    && (ch.sampling == 0 || r.sampling == 2)

/-- dec_row of a source (R78); the CTU and superblock sizes are the largest of each codec. -/
def decRow (r : Option FlowRec) : Nat := match r with
  | none => 0
  | some r => if r.kind = 0 then 0 else if r.kind = 1 then 16 else if r.coding = 0 then 16 else if r.coding = 1 then 64 else 128

/-- The lines of the ring granted at bind (R78). -/
def ringLinesOf (ch : ChannelRec) (lagNs dec : Nat) : Nat :=
  Nat.max (ceilDiv (lagNs * 65536 * ch.rateNum * ch.height) (tickUnits ch) + 4) (2 * dec + 4)

/-- The bytes of a line of a 4:2:2 10-bit picture. -/
def lineBytes (width : Nat) : Nat := ceilDiv (5 * width) 2

/-- The row ring storage: 24 MiB (R78). -/
def ringStorage : Nat := 24 * 1048576

/-- The host read rate that the link guarantees, in bytes per second (10 R292). -/
def Device.hostReadRate (d : Device) : Nat :=
  (if d.link.mode = 1 then 96000000000 else if d.link.mode = 2 then 46000000000 else 0) * d.link.width / 16

/-- The read rate charged to a channel (10 R292): 4 bytes a pixel, 3 at 4:2:0, twice unless NO_TRAILER is set. -/
def hostCharge (ch : ChannelRec) (noTrailer : Bool) : Nat :=
  ceilDiv (ch.width * ch.height * (if ch.sampling = 0 then 4 else 3) * ch.rateNum * (if noTrailer then 1 else 2)) ch.rateDen

/-- The lowest free check context of host frame rings (13 R411), or the one the channel holds. -/
def Device.hostContext (c : Nat) (d : Device) : Option Nat :=
  match (List.range 48).find? (fun k => (d.checks.ctx k).owner == 1 && (d.checks.ctx k).channel == c) with
  | some k => some k
  | none => (List.range 48).find? (fun k => (d.checks.ctx k).owner != 1)

/-- What a bind grants a channel: its ring in lines and bytes, and its read charge. -/
def Device.bindGrant (c : Nat) (b : BindRec) (d : Device) : Nat × Nat × Nat :=
  let ch := (d.chan c).recd
  let n := ringLinesOf ch b.fillLagNs (decRow (if b.source = 0 then (d.flow? b.videoIf).map (·.recd) else none))
  let nt := match (d.bnd c).host with
    | some h => h.noTrailer
    | none => false
  (n, n * lineBytes ch.width, if b.source = 1 then hostCharge ch nt else 0)

/-- What a bind needs (R78, R292; 13 R411), in that order. -/
def Device.bindRoom (c : Nat) (b : BindRec) (d : Device) : Refused :=
  let g := d.bindGrant c b
  let rest := d.ingest.binds.filter (fun e => e.1 != c && e.2.recd.isSome)
  firstOf [
    (if ringStorage < (rest.map (fun e => e.2.ringBytes)).sum + g.2.1 then some (stNoBeads, 0x0203) else none),
    (if b.source = 1 && d.hostReadRate < (rest.map (fun e => e.2.charge)).sum + g.2.2 then some (stNoBeads, 0x0204) else none),
    (if b.source = 1 && (d.hostContext c).isNone then some (stNoBeads, 0x0903) else none)]

/-- The slate a bind names (R98). -/
def Device.slateCheck (c : Nat) (b : BindRec) (d : Device) : Refused :=
  if b.slate = 0xFFFF then none
  else match Tab.find b.slate d.ingest.slates with
    | none => absent true
    | some s => badParam (s.width != (d.chan c).recd.width || s.height != (d.chan c).recd.height)

/-- The bind names another source than the one in force. -/
def Binding.moves (x : Binding) (b : BindRec) : Bool := match x.recd with
  | none => true
  | some o => o.source != b.source || (b.source == 0 && o.videoIf != b.videoIf)

/-- INGEST_BIND's effect (R33, R78, R83): on a live channel a new source puts it in freeze from the frame of effect, and a new transport stream is anchored anew (R91). -/
def setBind (c : Nat) (b : BindRec) (tag : Nat) (d : Device) : Device :=
  let x := d.bnd c
  let ch := d.chan c
  let g := d.bindGrant c b
  let moved := x.moves b
  let f := ch.committed
  let x1 := { x with
    recd := some b, ringLines := g.1, ringBytes := g.2.1, charge := g.2.2, ancTold := false
    was := if ch.running then keepWas f x.recd x.was else []
    anchors := if moved && b.source = 0 then Tab.del b.videoIf x.anchors else x.anchors
    switches := if ch.running && moved then x.switches ++ [f] else x.switches }
  let x2 := if ch.running then x1 else x1.start
  let k := d.hostContext c
  let d1 := d.setBnd c x2
  let d2 := match b.source == 1, k with
    | true, some k =>
      let y := { d1.checks.ctx k with owner := 1, channel := c, poly := 2 }
      { d1 with checks := { d1.checks with ctxs := Tab.put k y d1.checks.ctxs } }
    | _, _ => { d1 with checks := d1.checks.freeOf c }
  if moved then d2.asRun c 3 tag (d.frameNow c) (det2 b.source b.videoIf) else d2

def ingestBind : CmdSpec where
  op := 0x0203
  sel := .ift
  when_ := .commit
  reserved := [(18, 22)]
  check c d :=
    let b := parseBind c
    let k := c.handle
    let fl := d.flow? b.videoIf
    firstOf [
      badParam (64 ≤ k || 4 ≤ c.p 1 1 || b.bad),
      absent (!d.hasChan k),
      absent ((b.source == 0 && fl.isNone) || (b.ancValid && (d.flow? b.ancIf).isNone)),
      badParam (b.source == 0 && (match fl with | some x => !x.recd.suits (d.chan k).recd | none => false)),
      badParam (b.ancValid && (match d.flow? b.ancIf with | some x => x.recd.kind != 7 | none => false)),
      d.slateCheck k b,
      badState (b.source == 1 && (d.bnd k).host.isNone) 0,
      sealed (b.source == 2 && b.slate == 0xFFFF && d.sealHolds k),
      badParam ((d.rendsOf k).any (fun e => !fillLagOk (d.chan k).recd (d.delayOf e) b.fillLagNs e.2.recd)),
      d.bindRoom k b]
  chan c d := d.liveOnly c.handle
  apply c d := Done.ok (setBind c.handle (parseBind c) c.tag d)

/-! ### HOSTRING_SET and SLATE_LOAD -/

def hostringSet : CmdSpec where
  op := 0x0204
  reserved := [(19, 21)]
  check c d :=
    let n := c.p 16 2
    firstOf [
      badParam (64 ≤ c.handle || c.p 0 8 % 64 != 0 || c.p 8 8 % 64 != 0 || !within 4 256 n || !((List.range 9).any (fun k => n == 2 ^ k)) || 3 ≤ c.p 18 1),
      absent (!d.hasChan c.handle),
      (if d.link.mode = 1 || d.link.mode = 2 then none else some (stNotSupported, 0))]
  apply c d :=
    let h : HostRing :=
      { addr := c.p 0 8, tailAddr := c.p 8 8, entries := c.p 16 2, crcRequired := natBit (c.p 18 1) 0,
        noTrailer := natBit (c.p 18 1) 1, enabled := true, head := 0, lineHeld := d.link.up, queue := [] }
    Done.ok (d.setBnd c.handle { d.bnd c.handle with host := some h })

/-- The bytes of an image in a format (Table 3.5): the chroma plane follows the luma plane at the same pitch. -/
def imageBytes (format pitch height : Nat) : Nat := pitch * height + (if format = 0 then pitch * height else if format = 2 then pitch * (height / 2) else 0)

/-- The least pitch of a line in a format. -/
def leastPitch (format width : Nat) : Nat := if format = 1 then 5 * ceilDiv width 2 else 2 * width

/-- A slate's place in the slate space (12 R360). -/
def slateBytes (w h : Nat) : Nat := roundUp (ceilDiv (w * h * 325) 128) 4096

/-- The slate space: 1.5 GiB. -/
def slateSpace : Nat := 3 * 2 ^ 29

/-- The groups in service, in ascending order. -/
def Device.groupsUp (d : Device) : List Nat := (List.range 4).filter (fun g => (d.dram.group g).service == 0)

/-- The two groups that an item of the module store is written to (12 R360): the first two in service, or one twice where no second is. -/
def Device.twoGroups (d : Device) : Copies :=
  let a := d.groupsUp.getD 0 0
  ⟨a, d.groupsUp.getD 1 a⟩

def slateLoad : CmdSpec where
  op := 0x0205
  when_ := .done
  reserved := [(13, 3), (20, 20)]
  check c d :=
    let w := c.p 8 2
    let h := c.p 10 2
    let n := imageBytes (c.p 12 1) (c.p 16 4) h
    firstOf [
      badParam (64 ≤ c.handle || c.p 0 8 % 4096 != 0 || !within 64 7680 w || !within 64 4320 h || 3 ≤ c.p 12 1 || c.p 16 4 < leastPitch (c.p 12 1) w
        || !inWindow (c.p 0 8) n),
      badState (match Tab.find c.handle d.ingest.slates with
        | none => false
        | some s => (s.width != w || s.height != h) && d.ingest.binds.any (fun e => match e.2.recd with | some b => b.slate == c.handle | none => false)) 0,
      (if slateSpace < ((d.ingest.slates.filter (fun e => e.1 != c.handle)).map (fun e => slateBytes e.2.width e.2.height)).sum + slateBytes w h then
        some (stNoBeads, 0x0804) else none),
      (if d.poisoned (c.p 0 8) n then some (stBadParam, 3) else none)]
  apply c d := Done.ok { d with
    ingest := { d.ingest with slates := Tab.put c.handle ⟨c.p 8 2, c.p 10 2, c.p 12 1, c.p 16 4,
      d.readAt (c.p 0 8) (imageBytes (c.p 12 1) (c.p 16 4) (c.p 10 2))⟩ d.ingest.slates }
    dram := { d.dram with slates := Tab.put c.handle d.twoGroups d.dram.slates } }

/-! ### Packets (R72 to R76) -/

/-- 10 ms: the sequence window (R72). -/
def mergeWindow : Nat := 10 * msec

/-- Gaps not filled within the window are sequence numbers lost after merge (R72); the numbers taken are kept for a second, to measure skew (R73). -/
def Flow.prune (now : Nat) (x : Flow) : Flow :=
  { x with
    seqs := x.seqs.filter (fun e => now ≤ e.2.1 + second)
    lostMerged := satAdd max64 x.lostMerged (x.holes.filter (fun h => h.2 + mergeWindow < now)).length
    holes := x.holes.filter (fun h => now ≤ h.2 + mergeWindow) }

/-- A sequence number is taken, or it is a copy (R72). KIND 4 carries none. -/
def Flow.take (now seq : Nat) (legB : Bool) (x0 : Flow) : Flow × Bool :=
  let x := x0.prune now
  let fresh (y : Flow) : Flow := { y with seqs := y.seqs ++ [(seq, now, legB)] }
  if x.recd.kind = 4 then (x, true)
  else match x.top with
    | none => (fresh { x with top := some seq }, true)
    | some t =>
      let n := (seq + 65536 - t) % 65536
      if n = 0 || 32768 ≤ n then
        if x.holes.any (fun h => h.1 == seq) then (fresh { x with holes := x.holes.filter (fun h => h.1 != seq) }, true)
        else ({ x with duplicates := satAdd max64 x.duplicates 1 }, false)
      else (fresh { x with top := some seq, holes := x.holes ++ (List.range (n - 1)).map (fun i => ((t + 1 + i) % 65536, now)) }, true)

/-- The skew of a pair as a copy shows it (R73): leg B's arrival minus leg A's, against the newest packet of that number. -/
def Flow.noteSkew (now seq lag : Nat) (legB : Bool) (x : Flow) : Flow :=
  match x.seqs.reverse.find? (fun e => e.1 == seq && e.2.2 != legB) with
  | none => x
  | some e =>
    let s : Int := if legB then (now : Int) - e.2.1 else (e.2.1 : Int) - now
    let ovr := lag < s.natAbs
    { x with skew := s, skewSince := if ovr then some (x.skewSince.getD now) else none, skewTold := x.skewTold && ovr }

/-- A packet on a leg (R73): a lost leg, and a lost flow, deliver again. -/
def Flow.heard (now : Nat) (legB : Bool) (x : Flow) : Flow :=
  let on (l : Leg) : Leg := ⟨now, false, satAdd max64 l.packets 1⟩
  if legB then { x with legB := on x.legB, lost := false } else { x with legA := on x.legA, lost := false }

/-- What a packet on a leg raises (Table 3.8). -/
def Flow.heardEvents (n : Nat) (legB : Bool) (x : Flow) : List (Nat × Nat) :=
  (if x.recd.legB && (if legB then x.legB.lost else x.legA.lost) then [(355, n)] else []) ++ (if x.lost then [(353, n)] else [])

/-- An RTP timestamp extended to the Beam time nearest now, at a clock rate (R74; 14 R417). -/
def extendRtp (rate now rtp : Nat) : Int :=
  let n := now * rate / second
  let d : Nat := (rtp + 2 ^ 32 - n % 2 ^ 32 + 2 ^ 31) % 2 ^ 32
  ((n : Int) + (d : Int) - 2147483648) * (second : Int) / (rate : Int)

/-- The frame whose tick is nearest a capture time (R74); none before the first frame or from the last on. -/
def Channel.nearest (x : Channel) (cap : Int) : Option Nat :=
  if cap < 0 then none
  else
    let t := cap.toNat
    let a := x.frameAt t
    let f := if 0 < a && (t : Int) - x.tickOf (a - 1) ≤ (x.tickOf a : Int) - t then a - 1 else a
    let early := f == 0 && framePeriod x.recd < 2 * (x.tickOf 0 - t)
    if early || (match x.stop with | some s => s ≤ f | none => false) then none else some f

/-- The offset of line `l` from its frame's tick (R74, R76). -/
def lineAt (r : ChannelRec) (l : Nat) : Nat := l * tickUnits r / (r.rateNum * r.height)

/-- The binding that governs frame `f` of channel `c` (R33). -/
def Binding.at_ (x : Binding) (f : Nat) : Option BindRec := recAt x.was x.recd f

/-- FILL_LAG of a frame. -/
def Binding.lag (x : Binding) (f : Nat) : Nat := match x.at_ f with
  | some b => b.fillLagNs * 65536
  | none => 120000 * 65536

/-- The fill point of line `l` of frame `f` (R76). -/
def fillPointAt (x : Channel) (b : Binding) (f l : Nat) : Nat := x.tickOf f + lineAt x.recd l + b.lag f

/-- A frame as it is being filled. -/
def Binding.frame (x : Binding) (f : Nat) : SourceFrame := (Tab.find f x.frames).getD SourceFrame.empty

/-- A line can still take samples: its fill point has not come (R76). -/
def lineOpen (now : Nat) (x : Channel) (b : Binding) (f l : Nat) : Bool :=
  b.nextFrame ≤ f && !(f == b.nextFrame && l < (b.frame f).nextLine) && now < fillPointAt x b f l

/-- How far from sample 0 the ranges reach without a gap. -/
def coverTo (rs : List (Nat × Nat)) : Nat → Nat → Nat
  | 0, k => k
  | n + 1, k => coverTo rs n (rs.foldl (fun m r => if r.1 ≤ k then Nat.max m (r.1 + r.2) else m) k)

/-- The line is complete. -/
def RingLine.complete (w : Nat) (l : RingLine) : Bool := w ≤ coverTo l.ranges l.ranges.length 0

/-- Samples arrive in a line. -/
def SourceFrame.arrive (w l : Nat) (concealed : Bool) (first : Nat) (pix : VLine) (x : SourceFrame) : SourceFrame :=
  let y := Tab.read x.lines l ⟨[], [], false⟩
  let z : RingLine := ⟨y.ranges ++ [(first, pix.length)], overlay first pix y.pix, y.concealed || concealed⟩
  { x with lines := Tab.put l (if z.complete w then { z with ranges := [(0, w)] } else z) x.lines }

/-- The line is in the ring, complete. -/
def SourceFrame.has (w l : Nat) (x : SourceFrame) : Bool := match Tab.find l x.lines with
  | some y => y.complete w
  | none => false

/-- The lags of the last second, with a new one (Table 3.14, LAG_MAX_NS). -/
def Flow.noteLags (now : Nat) (ls : List Nat) (x : Flow) : Flow :=
  { x with lags := x.lags.filter (fun e => now ≤ e.1 + second) ++ ls.map (fun l => (now, l)) }

/-- A source frame reaches the channel's frame `f` (R75): the first to come is kept, a second is dropped with E361. The answer says whether
this one is kept. -/
def Device.claimFrame (n c f : Nat) (cap : Int) (d : Device) : Device × Bool :=
  let b := d.bnd c
  let fr := b.frame f
  match fr.capture with
  | some k =>
    if k = cap then (d, true)
    else if ((d.flow? n).bind (·.dropped)) = some cap then (d, false)
    else ((d.updFlow n (fun x => { x with dropped := some cap, framesDropped := satAdd max64 x.framesDropped 1 })).raise [(361, n)], false)
  | none =>
    if b.nextFrame ≤ f then (d.setBnd c { b with frames := Tab.put f { fr with capture := some cap } b.frames }, true) else (d, true)

/-- The channels whose frame nearest a capture time is bound to flow `n` for video, with that frame (R74). -/
def Device.framesOf (n : Nat) (cap : Int) (d : Device) : List (Nat × Nat) :=
  (d.takersOf n).filterMap (fun c =>
    let x := d.chan c
    if !x.running then none
    else match x.nearest cap with
      | none => none
      | some f => match (d.bnd c).at_ f with
        | some b => if b.source = 0 && b.videoIf = n then some (c, f) else none
        | none => none)

/-- Samples reach frame `f` of channel `c`, brought to 10 bits (R70): those of open lines are kept. The answer says whether one came late. -/
def Device.landRuns (n c f depth : Nat) (rs : List SampleRun) (d : Device) : Device × Bool :=
  let x := d.chan c
  let b := d.bnd c
  let w := x.recd.width
  let open_ := rs.filter (fun r => lineOpen d.now x b f r.line)
  let fr := b.frame f
  let fr1 := open_.foldl (fun y r => y.arrive w r.line false r.first (r.pix.map (Pix.at10 depth))) fr
  let done := (open_.map (·.line)).filter (fun l => fr1.has w l && !fr.has w l)
  let d1 := if open_.isEmpty then d else d.setBnd c { b with frames := Tab.put f fr1 b.frames }
  (d1.updFlow n (fun z => z.noteLags d.now (done.map (fun l => d.now - (x.tickOf f + lineAt x.recd l)))), open_.length < rs.length)

/-- Packets are discarded as late (R73, R76). -/
def Device.countLate (n k : Nat) (d : Device) : Device := d.updFlow n (fun z => { z with lateDiscard := satAdd max64 z.lateDiscard k })

/-- An uncompressed or JPEG XS packet reaches the rings (R74 to R76); a packet with a late sample is counted once. -/
def Device.landPacket (n depth : Nat) (cap : Int) (rs : List SampleRun) (d : Device) : Device :=
  let r := (d.framesOf n cap).foldl (fun (a : Device × Bool) e =>
    let k := a.1.claimFrame n e.1 e.2 cap
    let off : Int := (cap - ((k.1.chan e.1).tickOf e.2 : Int)) / 65536
    let d1 := k.1.updFlow n (fun z => { z with rtpOffset := off })
    if k.2 then
      let l := d1.landRuns n e.1 e.2 depth rs
      (l.1, a.2 || l.2)
    else (d1, a.2)) (d, false)
  if r.2 then r.1.countLate n 1 else r.1

/-- A copy that comes after its lines' fill points is late as well (R73). -/
def Device.lateCopy (n : Nat) (cap : Int) (rs : List SampleRun) (d : Device) : Device :=
  if (d.framesOf n cap).any (fun e => rs.any (fun r => !lineOpen d.now (d.chan e.1) (d.bnd e.1) e.2 r.line)) then d.countLate n 1 else d

/-- The largest half of a PCR's cycle (2^33 × 300 at 27 MHz), and the time a PCR stands for. -/
def pcrCycle : Int := (2 ^ 33 * 300 * 65536 * 1000 / 27 : Int)
def pcrTime (pcr : Nat) : Int := ((pcr * 65536000 / 27 : Nat) : Int)

/-- The difference of two readings of the Beam less a PCR, over the cycle. -/
def pcrDrift (a b : Int) : Int := (a - b + pcrCycle / 2) % pcrCycle - pcrCycle / 2

/-- A PCR of a transport stream (R91): a drift of half a frame period moves the anchor by one frame, with E361. -/
def Device.notePcr (n pcr : Nat) (d : Device) : Device :=
  let p : Int := (d.now : Int) - pcrTime pcr
  let d1 := d.updFlow n (fun x => { x with pcr := some p })
  (d1.takersOf n).foldl (fun d c =>
    let b := d.bnd c
    let t : Int := framePeriod (d.chan c).recd
    match Tab.find n b.anchors with
    | none => d
    | some a =>
      let g := pcrDrift p a.pcr
      let put (k : TsAnchor) : Device := (d.setBnd c { b with anchors := Tab.put n k b.anchors }).raise [(361, n)]
      if 2 * (g.natAbs : Int) < t then d
      else if 0 < g then put ⟨a.pts, a.frame + 1, a.pcr + t⟩
      else put ⟨a.pts, a.frame - 1, a.pcr - t⟩) d1

/-- A profile that the decoders accept (Table 3.2, R90), by coding, with the sampling and depth it is accepted at. AVC up to 2160p, HEVC up to level 6.2. -/
def StreamSig.accepted (kind : Nat) (s : StreamSig) : Bool :=
  if kind = 1 then (s.profile == .xsMain || s.profile == .xsHigh) && s.sampling == 0 && s.depth == 10
  else if s.coding = 0 then (s.profile == .avcHigh10 || s.profile == .avcHigh422) && s.width ≤ 3840 && s.height ≤ 2160
  else if s.coding = 1 then (s.profile == .hevcMain || s.profile == .hevcMain10 || s.profile == .hevcMain422) && s.level ≤ 62
  else if s.coding = 2 then s.profile == .vvcMain10 || (s.profile == .vvcMain444 && s.sampling != 1)
  else s.profile == .av1Main || (s.profile == .av1Professional && s.sampling == 0 && s.depth == 10)

/-- What a stream signals is accepted, and agrees with its flow's record (R90, R98); AES3 data is linear PCM (14 R424). -/
def FlowRec.fits (s : StreamSig) (r : FlowRec) : Bool :=
  if r.isAudio then r.kind == 5 || s.profile == .aes3Pcm
  else StreamSig.accepted r.kind s && (r.kind == 1 || s.coding == r.coding) && s.width == r.width && s.height == r.height && s.sampling == r.sampling && s.depth == r.depth

/-- A stream does not fit its flow (R90, R98): E370 at the first. -/
def Device.noteFit (n : Nat) (fits : Bool) (d : Device) : Device :=
  match d.flow? n with
  | none => d
  | some x => (d.setFlow n { x with unfit := !fits }).raise (if !fits && !x.unfit then [(370, n)] else [])

/-- The port of a leg receives: it is UP and no feed (R272, 09 Table 9.4). -/
def Device.legPort (r : FlowRec) (legB : Bool) (d : Device) : Bool :=
  let p := if legB then r.portB else r.portA
  r.enable && (!legB || r.legB) && (r.fromHost || (d.lanes.isUp p && (d.port p).recd.direction != 1))

/-- An audio packet (14 R417): its capture time. -/
def Flow.audioAt (now rtp : Nat) (x : Flow) : Flow := { x with capture := some (extendRtp x.recd.rateHz now rtp).toNat }

/-- The capture time of a packet (R74; 14 R417); a transport stream's is its arrival, for its timestamps are of another clock (R91). -/
def Flow.captureOf (now rtp : Nat) (x : Flow) : Int :=
  if x.recd.kind = 3 || x.recd.kind = 4 then now else extendRtp (if x.recd.isAudio then x.recd.rateHz else 90000) now rtp

/-- The fill lag that a pair's skew is held to (R73): of the lowest-numbered channel bound to the flow (assumption 211). -/
def Device.skewLimit (n : Nat) (d : Device) : Nat := match (d.usersOf n).head? with
  | some c => (d.bnd c).lag (d.chan c).committed
  | none => max64 * 65536

/-- INGEST_PACKET_RECEIVED: `bits` is what a compressed packet adds to its buffer, `runs` the samples of an uncompressed or JPEG XS packet, `pcr` a transport stream's
PCR at 27 MHz, and `sig` what the packet signals of its stream. -/
def ingestPacket (n : Nat) (legB : Bool) (seq rtp bits : Nat) (runs : List SampleRun) (pcr : Option Nat) (sig : Option StreamSig) (d : Device) : Device :=
  match d.flow? n with
  | none => d
  | some x =>
    let cap := x.captureOf d.now rtp
    let r := x.recAt cap
    if !d.legPort r legB then d
    else
      let p := if legB then r.portB else r.portA
      let d0 := if r.fromHost then d else d.setPort p { d.port p with framesRx := satAdd max64 (d.port p).framesRx 1 }
      let y := (x.heard d.now legB).take d.now seq legB
      let z := if y.2 then y.1 else y.1.noteSkew d.now seq (d.skewLimit n) legB
      let d1 := (d0.setFlow n z).raise (x.heardEvents n legB)
      let d2 := if x.lost then d1.audioInput 1 n false else d1
      if !y.2 then (if x.recd.kind < 2 then d2.lateCopy n cap runs else d2)
      else
        let fits := sig.all (fun s => r.fits s)
        let d3 := if sig.isSome then d2.noteFit n fits else d2
        if x.recd.isAudio then d3.updFlow n (fun w => w.audioAt d.now rtp)
        else if !fits then d3
        else if x.recd.kind < 2 then d3.landPacket n r.depth cap runs
        else if compressedKind x.recd.kind then
          let d4 := d3.updFlow n (fun w => if w.recd.cpbBits < w.cpb + bits then { w with decodeErrors := satAdd max64 w.decodeErrors 1 }
            else { w with cpb := w.cpb + bits })
          match pcr with
          | some q => if x.recd.kind = 2 then d4 else d4.notePcr n q
          | none => d4
        else d3

def execIngestPacketReceived (t : Nat) (flow : Fin 256) (legB : Bool) (seq : Fin 65536) (rtp : BitVec 32) (bits : Nat) (runs : List SampleRun)
    (pcr : Option Nat) (sig : Option StreamSig) (s : State) : Host.Outcome State Fault Refusal :=
  .next { s with dev := ingestPacket flow legB seq rtp.toNat bits runs pcr sig (s.dev.at_ t) }

/-- LEG_LOS_TIMEOUT (R73, Table 3.8): a leg of a pair that delivers nothing for LOS_MS is lost with E354; a flow, or both legs of a pair, with E352. -/
def legLos (n : Nat) (legB : Bool) (d : Device) : Device :=
  match d.flow? n with
  | none => d
  | some x =>
    let l := if legB then x.legB else x.legA
    if !x.recd.enable || (legB && !x.recd.legB) || l.lost || d.now < l.last + x.recd.losMs * msec then d
    else
      let other := if legB then x.legA.lost else x.legB.lost
      let whole := !x.recd.legB || other
      let y := if legB then { x with legB := { l with lost := true }, lost := whole } else { x with legA := { l with lost := true }, lost := whole }
      let d1 := (d.setFlow n y).raise ((if x.recd.legB then [(354, n)] else []) ++ (if whole then [(352, n)] else []))
      if whole then d1.audioInput 1 n true else d1

def execLegLosTimeout (t : Nat) (flow : Fin 256) (legB : Bool) (s : State) : Host.Outcome State Fault Refusal :=
  .next { s with dev := legLos flow legB (s.dev.at_ t) }

/-- PAIR_SKEW_EXCEEDED (R73): the skew has been beyond the fill lag for 1 s. -/
def pairSkew (n : Nat) (d : Device) : Device :=
  match d.flow? n with
  | none => d
  | some x => match x.skewSince with
    | some t => if x.recd.legB && !x.skewTold && t + second ≤ d.now then (d.setFlow n { x with skewTold := true }).raise [(356, n)] else d
    | none => d

def execPairSkewExceeded (t : Nat) (flow : Fin 256) (s : State) : Host.Outcome State Fault Refusal :=
  .next { s with dev := pairSkew flow (s.dev.at_ t) }

/-! ### Decoders (R90 to R92) -/

/-- The first frame from `f` on that is bound to flow `n` for video (01 R33). -/
def Device.boundFrom (n c f : Nat) (d : Device) : Option Nat :=
  ((List.range (Nat.max 1 ((d.chan c).committed + 1 - f))).map (f + ·)).find? (fun g => ((d.bnd c).at_ g).any (fun b => b.source == 0 && b.videoIf == n))

/-- Where a decoded picture goes: R74 for native RTP, R91 for a transport stream (`stamp` is then its PTS). The first picture of a stream at a random-access
point takes the first tick at which it can meet its fill points; where no PCR has come, the Beam less PCR counts as 0 (assumption 212). -/
def Device.pictureFrames (n stamp : Nat) (rap : Bool) (d : Device) : Device × List (Nat × Nat) × Int :=
  match d.flow? n with
  | none => (d, [], 0)
  | some x =>
    if x.recd.kind = 2 then
      let cap := extendRtp 90000 d.now stamp
      (d, d.framesOf n cap, cap)
    else
      let r := ((d.takersOf n).filter (fun c => (d.chan c).running)).foldl (fun (a : Device × List (Nat × Nat)) c =>
        let b := a.1.bnd c
        let ch := a.1.chan c
        match Tab.find n b.anchors with
        | some k =>
          let g : Int := ((stamp + 2 ^ 33 - k.pts + 2 ^ 32) % 2 ^ 33 : Nat) - (2 ^ 32 : Int)
          let m : Int := (2 * g * ch.recd.rateNum + 90000 * ch.recd.rateDen) / (2 * 90000 * ch.recd.rateDen)
          let f : Int := (k.frame : Int) + m
          if f < 0 || !((b.at_ f.toNat).any (fun y => y.source == 0 && y.videoIf == n)) then a else (a.1, a.2 ++ [(c, f.toNat)])
        | none => match rap, d.boundFrom n c (ch.frameAt (d.now - b.lag ch.committed + 1)) with
          | true, some f => (a.1.setBnd c { b with anchors := Tab.put n ⟨stamp, f, x.pcr.getD 0⟩ b.anchors }, a.2 ++ [(c, f)])
          | _, _ => a) (d, [])
      (r.1, r.2, (stamp : Int))

/-- The lines of a decoded picture (Table 3.6): an area that failed is copied from the most recent correctly decoded picture. -/
def DecodedPicture.shown (p : DecodedPicture) (depth : Nat) (good : List VLine) : List VLine :=
  p.lines.zipIdx.map (fun e =>
    let bad := (p.lost.filter (fun a => a.1 == e.2)).map (·.2)
    let l := e.1.map (Pix.at10 depth)
    if bad.isEmpty then l else patched l.length bad (good.getD e.2 []) l)

/-- The lines of frame `f` of channel `c` that a picture can still reach. -/
def Device.openLines (c f : Nat) (d : Device) : List Nat :=
  (List.range (d.chan c).recd.height).filter (fun l => lineOpen d.now (d.chan c) (d.bnd c) f l)

/-- A decoded picture's lines reach frame `f` of channel `c`: late ones are discarded and counted in LATE_LINES (Table 3.6). -/
def Device.landPicture (n c f : Nat) (concealed : Bool) (lines : List VLine) (t35 : Bytes) (d : Device) : Device :=
  let x := d.chan c
  let b := d.bnd c
  let w := x.recd.width
  let ls := d.openLines c f
  let fr := b.frame f
  let fr1 := ls.foldl (fun y l => y.arrive w l concealed 0 ((lines.getD l []).take w ++ List.replicate (w - (lines.getD l []).length) Pix.black)) { fr with
    concealed := fr.concealed || concealed, anc := if t35.isEmpty then fr.anc else fr.anc ++ [(0xB5, 0, t35)] }
  let d1 := if b.nextFrame ≤ f then d.setBnd c { b with frames := Tab.put f fr1 b.frames } else d
  d1.updFlow n (fun z => (z.noteLags d.now (ls.map (fun l => d.now - (x.tickOf f + lineAt x.recd l)))) |> fun z =>
    { z with lateLines := satAdd max64 z.lateLines (x.recd.height - ls.length) })

/-- The packets of a picture with a sample that comes late in one of the frames it goes to (R76). -/
def Device.latePackets (fs : List (Nat × Nat)) (p : DecodedPicture) (d : Device) : Nat :=
  (p.packets.filter (fun k => fs.any (fun e => (List.range k.2).any (fun i =>
    k.1 + i < (d.chan e.1).recd.height && !lineOpen d.now (d.chan e.1) (d.bnd e.1) e.2 (k.1 + i))))).length

/-- What a picture does to concealment (Table 3.6): the new reasons, whether it is concealed itself, and the events. `clean` says that it is a random-access
point or completes a refresh, which skipped pictures do not end at; `refers` that it refers to a concealed picture. -/
def Flow.conceal (n : Nat) (rap clean refers : Bool) (fault : Nat) (x : Flow) : Nat × Bool × List (Nat × Nat) :=
  let c0 := if rap then 0 else if clean then x.concealed / 4 * 4 else x.concealed
  let e0 := if natBit x.concealed 0 && !natBit c0 0 then [(366, n)] else []
  if fault = 1 then (c0 ||| 1, true, e0 ++ (if natBit c0 0 then [] else [(365, n)]))
  else if fault = 2 then (c0 ||| 2, true, e0 ++ [(367, n)])
  else if 3 ≤ fault then (if fault = 4 then c0 ||| 4 else c0, fault = 4, e0 ++ (if x.behind then [] else [(368, n)]))
  else (c0, natBit c0 0 || natBit c0 2 || (natBit c0 1 && refers), e0)

/-- The flow's decoder is in service: while it is not, frames of the flow are missing (17 Table 17.2). -/
def Device.decoderUp (x : Flow) (d : Device) : Bool := match x.decoder with
  | none => false
  | some k => (d.serv.unit (0x300 + k)).service == 0

/-- DECODER_PICTURE_DONE (R90 to R92): `stamp` is the picture's RTP timestamp or PTS, `bits` what it takes from the buffer; `fault` is 0 none, 1 a missing
reference, 2 a slice or tile that fails, 3 a non-reference picture skipped, 4 one skipped up to the next random-access point; `sig` is what the stream signals, and
`p` the picture, decoded from the reference that stands in for a missing one. -/
def pictureDone (n stamp bits : Nat) (rap clean refers : Bool) (fault : Nat) (sig : StreamSig) (p : DecodedPicture) (d : Device) : Device :=
  match d.flow? n with
  | none => d
  | some x =>
    if !x.recd.enable || !compressedKind x.recd.kind || !d.decoderUp x then d
    else
      let fits := x.recd.fits sig
      let d1 := (d.setFlow n { x with cpb := x.cpb - bits }).noteFit n fits
      if !fits then d1
      else
        let fault := if x.refsGone && !rap && fault < 3 then 1 else fault
        let k := x.conceal n rap clean refers fault
        let lines := DecodedPicture.shown p x.recd.depth x.good
        let d2 := (d1.updFlow n (fun y => { y with
          refsGone := y.refsGone && 3 ≤ fault
          concealed := k.1, behind := 3 ≤ fault, good := if fault = 0 && !k.2.1 then lines else y.good
          concealedPics := satAdd max64 y.concealedPics (bit01 k.2.1)
          decodeErrors := satAdd max64 y.decodeErrors (bit01 (fault == 2)) })).raise k.2.2
        if 3 ≤ fault then d2
        else
          let q := d2.pictureFrames n stamp rap
          (q.2.1.foldl (fun d e =>
            let m := d.claimFrame n e.1 e.2 q.2.2
            let d3 := if x.recd.kind = 2 then m.1.updFlow n (fun z => { z with rtpOffset := (q.2.2 - ((d.chan e.1).tickOf e.2 : Int)) / 65536 }) else m.1
            if m.2 then d3.landPicture n e.1 e.2 k.2.1 lines p.t35 else d3) q.1).countLate n (d2.latePackets q.2.1 p)

def execDecoderPictureDone (t : Nat) (flow : Fin 256) (stamp bits : Nat) (rap clean refers : Bool) (fault : Fin 5) (sig : StreamSig) (picture : DecodedPicture)
    (s : State) : Host.Outcome State Fault Refusal :=
  .next { s with dev := pictureDone flow stamp bits rap clean refers fault sig picture (s.dev.at_ t) }

/-! ### Ancillary data (R94) -/

/-- The DID and SDID pairs carried (Table 3.7). -/
def ancCarried (did sdid : Nat) : Bool := (did == 0x61 && (sdid == 1 || sdid == 2)) || (did == 0x41 && sdid == 5)

/-- The channels whose frame nearest a capture time takes its ancillary data from flow `n`, with that frame; a channel without such a frame by its binding
alone (R94; 01 R33). -/
def Device.ancFrames (n : Nat) (cap : Int) (d : Device) : List (Nat × Option Nat) :=
  let takes (b : Option BindRec) : Bool := b.any (fun r => r.ancValid && r.ancIf == n)
  d.ingest.binds.filterMap (fun e => match (if (d.chan e.1).running then (d.chan e.1).nearest cap else none) with
    | some f => if takes (e.2.at_ f) then some (e.1, some f) else none
    | none => if takes e.2.recd then some (e.1, none) else none)

/-- An ancillary packet meets a channel bound to its flow: it goes to its frame, or is dropped, with E371 at the first since binding. -/
def Device.landAnc (n did sdid : Nat) (data : Bytes) (d : Device) (e : Nat × Option Nat) : Device :=
  let b := d.bnd e.1
  if ancCarried did sdid then
    match e.2 with
    | some f => if b.nextFrame ≤ f then
        d.setBnd e.1 { b with frames := Tab.put f { b.frame f with anc := (b.frame f).anc ++ [(did, sdid, data)] } b.frames }
      else d
    | none => d
  else (d.setBnd e.1 { b with ancTold := true }).raise (if b.ancTold then [] else [(371, n)])

/-- ANC_PACKET_RECEIVED: an ST 291 packet of a KIND 7 flow. -/
def ancPacket (n rtp did sdid : Nat) (data : Bytes) (d : Device) : Device :=
  match d.flow? n with
  | none => d
  | some x =>
    let cap := x.captureOf d.now rtp
    if !(x.recAt cap).enable || x.recd.kind != 7 then d
    else
      let d1 := if ancCarried did sdid then d else d.setFlow n { x with ancDropped := x.ancDropped + 1 }
      (d.ancFrames n cap).foldl (Device.landAnc n did sdid data) d1

def execAncPacketReceived (t : Nat) (flow : Fin 256) (rtp : BitVec 32) (did sdid : Byte) (data : Bytes) (s : State) : Host.Outcome State Fault Refusal :=
  .next { s with dev := ancPacket flow rtp.toNat did.toNat sdid.toNat data (s.dev.at_ t) }

/-! ### Host frame rings (R84 to R87) -/

/-- A descriptor as fetched (Table 3.5); `bad` where it is unusable (R84, R98, Table 3.12). -/
def parseDesc (ch : ChannelRec) (h : HostRing) (index now : Nat) (b : Bytes) : HostDesc :=
  let fmt := rdLE b 32 1
  let crc := natBit (rdLE b 33 1) 0
  { frame := rdLE b 0 8, luma := rdLE b 8 8, chroma := rdLE b 16 8, pitchY := rdLE b 24 4, pitchC := rdLE b 28 4, format := fmt, crc := crc,
    crcAddr := rdLE b 40 8, index := index, came := now, begun := false, checked := none
    bad := 2 ≤ rdLE b 33 1 || rdLE b 34 2 != 0 || rdLE b 38 2 != 0 || rdLE b 8 8 % 64 != 0 || rdLE b 16 8 % 64 != 0 || rdLE b 40 8 % 64 != 0
      || 3 ≤ fmt /- assumption 213 -/ || rdLE b 24 4 < leastPitch fmt ch.width || (fmt != 1 && rdLE b 28 4 < leastPitch fmt ch.width)
      || (ch.sampling == 2 && fmt != 2) || (h.crcRequired && !crc) || (h.noTrailer && crc) }

/-- The address of descriptor `i` of a host frame ring. -/
def HostRing.descAddr (h : HostRing) (i : Nat) : Nat := h.addr + 64 * (i % h.entries)

/-- The host stores 64-byte descriptors in its ring, from index `i` up. -/
def HostRing.store (h : HostRing) : Nat → List Bytes → Mem → Mem
  | _, [], m => m
  | i, b :: r, m => h.store (i + 1) r (memStore m (h.descAddr i) (b.take 64))

/-- A descriptor is written back: WB_STATUS and WB_TIME (R84, 10 R291). -/
def Device.writeBack (h : HostRing) (x : HostDesc) (st : Nat) (d : Device) : Device :=
  if d.link.up then (d.dma (h.descAddr x.index + 36) (wrLE 2 st)).dma (h.descAddr x.index + 48) (timeWordBytes d.now) else d

/-- The host frame ring changes. -/
def Device.setRingOf (c : Nat) (f : HostRing → HostRing) (d : Device) : Device :=
  d.setBnd c { d.bnd c with host := (d.bnd c).host.map f }

/-- A descriptor leaves the ring with a status. -/
def Device.dropDesc (c : Nat) (x : HostDesc) (st : Nat) (evs : List (Nat × Nat)) (d : Device) : Device :=
  match (d.bnd c).host with
  | none => d
  | some h => ((d.writeBack h x st).setRingOf c (fun h => { h with queue := h.queue.filter (fun y => y.index != x.index) })).raise evs

/-- The moment by which a descriptor must be in the ring (R85): its frame's commit point, or the one before with a trailer. -/
def descDeadline (ch : Channel) (x : HostDesc) : Nat :=
  if x.crc then (if x.frame = 0 then ch.tickOf 0 - framePeriod ch.recd else ch.tickOf (x.frame - 1)) - commitLead else ch.tickOf x.frame - commitLead

/-- The descriptors of a running channel are consumed in ring order (R85), as far as they may be now. -/
def pumpRing (c : Nat) : Nat → Device → Device
  | 0, d => d
  | n + 1, d =>
    match (d.bnd c).host with
    | none => d
    | some h => match h.queue.find? (fun x => !x.begun) with
      | none => d
      | some x =>
        let ch := d.chan c
        if !ch.running || !d.link.up then d
        else if x.bad then pumpRing c n (d.dropDesc c x 5 [(363, c)])
        else if x.frame < ch.next || ch.tickOf x.frame ≤ d.now then pumpRing c n (d.dropDesc c x 4 [])
        else if descDeadline ch x < x.came then pumpRing c n (d.dropDesc c x 3 [(363, c)])
        else if x.frame + bit01 (!x.crc) ≤ ch.committed then
          pumpRing c n (d.setRingOf c (fun h => { h with queue := h.queue.map (fun y => if y.index = x.index then { y with begun := true } else y) }))
        else d

/-- The ring of channel `c` is worked on. -/
def Device.pump (c : Nat) (d : Device) : Device := pumpRing c ((((d.bnd c).host.map (fun h => h.queue.length)).getD 0) + 1) d

/-- The module reads the tail word and fetches the new descriptors (R291). -/
def Device.fetchRing (c : Nat) (d : Device) : Device :=
  match (d.bnd c).host with
  | none => d
  | some h =>
    let tail := rdLE (memBytes d.mem.host h.tailAddr 8) 0 8
    let n := tail - h.head
    if !d.link.up || !(d.link.mode == 1 || d.link.mode == 2) || !h.enabled || h.entries < n then d
    else
      let new := (List.range n).map (fun i => parseDesc (d.chan c).recd h (h.head + i) d.now (memBytes d.mem.host (h.descAddr (h.head + i)) 64))
      (d.setRingOf c (fun h => { h with head := h.head + n, lineHeld := true, queue := h.queue ++ new })).pump c

/-- SNOOP_INVALIDATE: the host has stored descriptors and frames, and writes the tail word. -/
def snoop (c tail : Nat) (x : HostStores) (d : Device) : Device :=
  match (d.bnd c).host with
  | none => d
  | some h =>
    let m := x.data.foldl (fun m e => memStore m e.1 e.2) (h.store h.head x.descs d.mem.host)
    { d with mem := { d.mem with host := memStore m h.tailAddr (wrLE 8 tail) } }.fetchRing c

def execSnoopInvalidate (t : Nat) (channel : Fin 64) (tail : BitVec 64) (stores : HostStores) (s : State) : Host.Outcome State Fault Refusal :=
  .next { s with dev := snoop channel tail.toNat stores (s.dev.at_ t) }

/-- The lines of a frame's chroma plane. -/
def chromaLines (format height : Nat) : Nat := if format = 0 then height else if format = 2 then height / 2 else 0

/-- Line `l` of a host frame (Table 3.5), as it lies in host memory. -/
def HostDesc.line (m : Mem) (w l : Nat) (x : HostDesc) : VLine :=
  let n := leastPitch x.format w
  imageLine x.format w (memBytes m (x.luma + x.pitchY * l) n)
    (if x.format = 1 then [] else memBytes m (x.chroma + x.pitchC * (if x.format = 2 then l / 2 else l)) n)

/-- The visible bytes of a host frame, plane by plane, top to bottom (R86). -/
def HostDesc.visible (m : Mem) (w h : Nat) (x : HostDesc) : Bytes :=
  let n := leastPitch x.format w
  (List.range h).flatMap (fun l => memBytes m (x.luma + x.pitchY * l) n) ++
    (List.range (chromaLines x.format h)).flatMap (fun l => memBytes m (x.chroma + x.pitchC * l) n)

/-- The trailer holds the CRC-64 of the frame's visible bytes (R86). -/
def HostDesc.trailerOk (m : Mem) (w h : Nat) (x : HostDesc) : Bool :=
  crcValue 2 (crcRun 2 (crcOnes 2) (x.visible m w h)) == rdLE (memBytes m x.crcAddr 8) 0 8

/-- HOST_FRAME_CHECK_DONE (R85, R86): the check read of the oldest unchecked frame ends; a mismatch returns CRC_MISMATCH with E362. -/
def frameChecked (c : Nat) (d : Device) : Device :=
  match (d.bnd c).host with
  | none => d
  | some h => match h.queue.find? (fun x => x.begun && x.crc && x.checked.isNone) with
    | none => d
    | some x =>
      if x.trailerOk d.mem.host (d.chan c).recd.width (d.chan c).recd.height then
        d.setRingOf c (fun h => { h with queue := h.queue.map (fun y => if y.index = x.index then { y with checked := some true } else y) })
      else d.dropDesc c x 2 [(362, c)]

def execHostFrameCheckDone (t : Nat) (channel : Fin 64) (_frame : Unit) (s : State) : Host.Outcome State Fault Refusal :=
  .next { s with dev := frameChecked channel (s.dev.at_ t) }

/-- A commit point as a host frame ring sees it (R85, Table 3.8): descriptors begin, and E364 tells of a ring that holds none for the frame whose deadline
this is. -/
def Device.hostDeadline (c f : Nat) (d : Device) : Device :=
  match (d.bnd c).at_ f, (d.bnd c).host with
  | some b, some h =>
    if b.source != 1 then d
    else
      let g := if h.crcRequired then f + 1 else f
      let d1 := d.pump c
      if h.queue.any (fun x => g ≤ x.frame) then d1 else d1.raise [(364, c)]
  | _, _ => d

/-- The host frame that frame `f` takes its lines from, while the link is up. -/
def Device.hostFrame (c f : Nat) (d : Device) : Option HostDesc :=
  match (d.bnd c).host with
  | none => none
  | some h => if d.link.up && (d.link.mode == 1 || d.link.mode == 2) then
      h.queue.find? (fun x => x.begun && x.frame == f && (!x.crc || x.checked == some true)) else none

/-! ### Taking lines (R76 to R82) -/

/-- What the compositor shows from line 0 of frame `f` on (R81 to R83): the binding after it, and the events and as-run entries. -/
def Binding.begin_ (x : Binding) (f tick : Nat) (any : Bool) : Binding × List (Nat × Nat) × List Nat :=
  let rf := match x.at_ f with | some b => b.returnFrames | none => 1
  if x.switches.contains f then
    ({ x with mode := .freeze, freezeTick := tick, run := 0, slateFrom := none, switches := x.switches.filter (f < ·) },
      if x.mode = .live then [(358, 0)] else [], [4])
  else if x.mode = .live then (x, [], [])
  else if (rf = 0 && any) || (rf != 0 && rf ≤ x.run) then ({ x with mode := .live, run := 0, slateFrom := none }, [(360, 0)], [6])
  else match x.mode, x.slateFrom with
    | .freeze, some g => if g ≤ f then ({ x with mode := .slate, slateFrom := none }, [], []) else (x, [], [])
    | _, _ => (x, [], [])

/-- The row flags of a line (Table 3.3). -/
def lineFlags (mode : FillMode) (filled concealed : Bool) : Nat :=
  match mode with
  | .live => bit01 filled + 4 * bit01 (concealed && !filled)
  | .freeze => 1 + 8
  | .slate => 2 + 8

/-- Two sets of row flags together. -/
def orFlags (a b : Nat) : Nat := a ||| b

/-- The next line of channel `c` that is due: frame, line, and its binding's record (R76). -/
def Device.lineDue (c : Nat) (d : Device) : Option (Nat × Nat) :=
  let x := d.chan c
  let b := d.bnd c
  let f := b.nextFrame
  let l := (b.frame f).nextLine
  if x.running && f < x.next && (match x.stop with | some s => f < s | none => true) && fillPointAt x b f l ≤ d.now then some (f, l) else none

/-- The end of a frame (R75, R81, R82): missing frames and the run of complete ones. -/
def Binding.endFrame (x : Binding) (f tick : Nat) (fr : SourceFrame) (compressed : Bool) : Binding × List (Nat × Nat) × List Nat × SourceFrame :=
  let rec_ := x.at_ f
  let src := match rec_ with | some b => b.source | none => 2
  let zero := match rec_ with | some b => b.freezeMs == 0 | none => false
  let hold := match rec_ with | some b => b.holdUntilRap && compressed | none => false
  let e361 := if fr.capture.isNone && src = 0 then [(361, 0)] else []
  let y := { x with nextFrame := f + 1, lastFilled := fr.filled != 0, was := x.was.filter (fun w => f + 1 < w.1) }
  if x.mode = .live then
    if fr.received then (y, e361, [], fr)
    else
      ({ y with mode := .freeze, freezeTick := tick, run := 0, slateFrom := if zero then some (f + 1) else none },
        e361 ++ [(358, 0)] ++ (if zero then [(359, 0)] else []), 4 :: (if zero then [5] else []), { fr with flags := orFlags fr.flags 8, shown := .freeze })
  else
    ({ y with run := if fr.filled = 0 && fr.received && !(hold && fr.concealed) then x.run + 1 else 0 }, e361, [], fr)

/-- What the compositor gets of a line's video (R80): frame, line, row flags, whether it is the frame's last, and its samples. -/
structure LineIn where
  frame : Nat
  line : Nat
  flags : Nat
  last : Bool
  pix : VLine

/-- Events and as-run entries of a channel at frame `f`. -/
def Device.tell (c f : Nat) (evs : List (Nat × Nat)) (runs : List Nat) (d : Device) : Device :=
  runs.foldl (fun d k => d.asRun c k 0 f 0) (d.raise (evs.map (fun e => (e.1, c))))

/-- The compositor takes up the slate that a channel shows (R99): at line 0. -/
def Device.takeSlate (c f : Nat) (d : Device) : Device :=
  match (d.bnd c).mode, (d.bnd c).at_ f with
  | .slate, some b =>
    { d with ingest := { d.ingest with shown := match Tab.find b.slate d.ingest.slates with
      | some s => Tab.put c s d.ingest.shown
      | none => Tab.del c d.ingest.shown } }
  | _, _ => d

/-- The colour of a channel's output and of a flow's video (04 R103). -/
def ChannelRec.space (r : ChannelRec) : ColourSpace := ⟨r.colorimetry == 1, r.tcs⟩
def FlowRec.space (r : FlowRec) : ColourSpace := ⟨r.colorimetry == 1, r.tcs⟩

/-- A line of the previous-frame store; black where it holds none (R79; 12 Table 12.5). -/
def Device.storeLine (c l : Nat) (d : Device) : VLine := Tab.read (d.bnd c).store l (List.replicate (d.chan c).recd.width Pix.black)

/-- What has come of line `l` of frame `f` at its fill point: the sample ranges, and the line in the channel's sampling and colour (R70, R98; 04 R103). -/
def Device.arrived (c f l : Nat) (d : Device) : List (Nat × Nat) × VLine :=
  let ch := d.chan c
  let w := ch.recd.width
  match (d.bnd c).at_ f with
  | none => ([], [])
  | some b =>
    if b.source = 0 then match Tab.find l ((d.bnd c).frame f).lines, d.flow? b.videoIf with
      | some y, some x =>
        let r := x.recAt (ch.tickOf f)
        (y.ranges, (chromaFor ch.recd.sampling r.sampling [c, f, l] (patched w y.ranges y.pix (d.storeLine c l))).map (Pix.convert r.space ch.recd.space))
      | _, _ => ([], [])
    else if b.source = 1 then match d.hostFrame c f with
      | some x => ([(0, w)], chromaFor ch.recd.sampling (if x.format = 2 then 2 else 0) [c, f, l] (x.line d.mem.host w l))
      | none => ([], [])
    else ([], [])

/-- A line of the slate that a channel shows: black where it has none (R81, R99). -/
def Device.slateLine (c f l : Nat) (d : Device) : VLine :=
  let ch := d.chan c
  match Tab.find c d.ingest.shown with
  | none => List.replicate ch.recd.width Pix.black
  | some s =>
    let part (o : Nat) : Bytes := (s.image.drop o).take s.pitch
    chromaFor ch.recd.sampling (if s.format = 2 then 2 else 0) [c, f, l]
      (imageLine s.format ch.recd.width (part (s.pitch * l)) (part (s.pitch * (s.height + if s.format = 2 then l / 2 else l))))

/-- Line `l` of frame `f` is taken (R76 to R82): what was received goes into the previous-frame store (R79), and what is missing is filled from it. -/
def Device.takeLine (c f l : Nat) (d : Device) : Device × LineIn :=
  let ch := d.chan c
  let w := ch.recd.width
  let b0 := d.bnd c
  let fr0 := b0.frame f
  let any := fr0.lines.any (fun e => e.2.complete w) || (d.hostFrame c f).isSome
  let o := if l = 0 then b0.begin_ f (ch.tickOf f) any else (b0, [], [])
  let rec_ := o.1.at_ f
  let src := match rec_ with | some b => b.source | none => 2
  let got := if src = 0 then fr0.has w l else if src = 1 then (d.hostFrame c f).isSome else false
  let now0 := match rec_ with | some b => b.returnFrames == 0 | none => false
  let back := l != 0 && got && now0 && o.1.mode != FillMode.live
  let b1 := if back then { o.1 with mode := .live, run := 0, slateFrom := none } else o.1
  let conc := match Tab.find l fr0.lines with | some y => y.concealed | none => false
  let flags := lineFlags b1.mode (!got) conc
  let flow := match rec_ with | some b => if b.source = 0 then some b.videoIf else none | none => none
  let kind := (flow.bind (fun n => (d.flow? n).map (fun x => x.recd.kind))).getD 0
  let xs := kind = 1 && !got && !fr0.toldXs
  let first := !got && !fr0.toldFill && !b0.lastFilled
  let fr1 := { fr0 with
    nextLine := l + 1, filled := fr0.filled + bit01 (!got), received := fr0.received || got, lines := Tab.del l fr0.lines
    flags := orFlags (if back then fr0.flags % 8 else fr0.flags) flags, shown := b1.mode, toldFill := fr0.toldFill || !got, toldXs := fr0.toldXs || xs }
  let last := l + 1 == ch.recd.height
  let e := if last then b1.endFrame f (ch.tickOf f) fr1 (compressedKind kind) else (b1, [], [], fr1)
  let old := d.storeLine c l
  let in_ := d.arrived c f l
  let line := patched w in_.1 in_.2 old
  let b2 := { e.1 with
    store := if d.bare c then [] else if in_.1.isEmpty then b0.store else Tab.put l line b0.store
    frames := Tab.put f e.2.2.2 b1.frames }
  let d1 := d.setBnd c b2
  let d2 := match flow with
    | none => d1
    | some n => d1.updFlow n (fun x => { x with
        linesFilled := satAdd max64 x.linesFilled (bit01 (!got)), missing := satAdd max64 x.missing (bit01 (last && !fr1.received)) })
  let d3 := d2.tell c f (o.2.1 ++ (if back then [(360, 0)] else []) ++ (if first then [(357, 0)] else [])) (o.2.2 ++ (if back then [6] else []))
  let d4 := match xs, flow with
    | true, some n => d3.raise [(369, n)]
    | _, _ => d3
  let d5 := d4.tell c f e.2.1 e.2.2.1
  let d6 := if l = 0 then d5.takeSlate c f else d5
  let d7 := match last, d6.hostFrame c f with
    | true, some x => d6.dropDesc c x 1 []
    | _, _ => d6
  (d7, ⟨f, l, flags, last, match b1.mode with
    | .live => line
    | .freeze => old
    | .slate => d6.slateLine c f l⟩)

/-- FREEZE_TIMEOUT (R81): freeze has lasted FREEZE_MS, and the slate replaces the store from the next tick, with E359. -/
def freezeTimeout (c : Nat) (d : Device) : Device :=
  let b := d.bnd c
  let ms := match b.at_ b.nextFrame with | some r => r.freezeMs | none => 2000
  if (d.chan c).running && b.mode = .freeze && b.slateFrom.isNone && b.freezeTick + ms * msec ≤ d.now then
    let f := (d.chan c).frameAt d.now
    (d.setBnd c { b with slateFrom := some f }).tell c f [(359, 0)] [5]
  else d

def execFreezeTimeout (t : Nat) (channel : Fin 64) (s : State) : Host.Outcome State Fault Refusal :=
  .next { s with dev := freezeTimeout channel (s.dev.at_ t) }

/-! ### INGEST_STATUS_GET (Table 3.14) -/

/-- The code of what a channel shows. -/
def FillMode.code : FillMode → Nat
  | .live => 0 | .freeze => 1 | .slate => 2

def flowRecord (n : Nat) (d : Device) : Bytes :=
  match d.flow? n with
  | none => []
  | some x0 =>
    let x := x0.prune d.now
    let c := (d.ingest.binds.filter (fun e => match e.2.recd with | some b => b.source == 0 && b.videoIf == n | none => false)).head?
    let mode := match c with | some e => e.2.mode | none => .live
    let lag := match c with | some e => e.2.lag (d.chan e.1).committed / 65536 | none => 0
    let since := match c with | some e => if e.2.mode = .live then 0 else (d.now - e.2.freezeTick) / msec | none => 0
    let lags := (x.lags.filter (fun e => d.now ≤ e.1 + second)).map (·.2)
    fields [(8, x.legA.packets), (8, x.legB.packets), (8, x.lostMerged), (8, x.duplicates), (8, x.lateDiscard), (8, x.linesFilled), (8, x.missing),
      (8, x.framesDropped), (8, x.concealedPics), (8, x.decodeErrors), (4, patternOf 32 (x.skew / 65536)), (4, patternOf 32 x.rtpOffset),
      (4, lags.foldl Nat.max 0 / 65536), (4, lag),
      (4, mode.code + 4 * bit01 (x.recd.enable && !x.legA.lost) + 8 * bit01 (x.recd.enable && x.recd.legB && !x.legB.lost) + 16 * bit01 (x.concealed != 0)),
      (4, Nat.min since (2 ^ 32 - 1)), (8, x.lateLines)] ++ timeWordBytes d.now

def ingestStatusGet : CmdSpec where
  op := 0x0206
  when_ := .done
  reserved := [(8, 32)]
  check c d := firstOf [badParam (256 ≤ c.handle || targetBad 128 c d), absent (d.flow? c.handle).isNone, targetCheck 128 c d]
  apply c d := writeRecord (flowRecord c.handle d) c d

end Sys2Proof.Machine
end

