-- ==== Sys2Proof/Machine/Journal.lean ====
section
/-!
DEFINITION. The journal and the check units: the commands 0x0901 to 0x090C and the journal's own steps (chapter 13).
-/
namespace Sys2Proof.Machine

/-! ### Records (R390) -/

/-- A record as it reads: one that has decayed holds its bytes as last read. -/
def JRec.read (r : JRec) : Bytes := if r.bad = 0 then r.stored else r.payload ++ List.replicate (roundUp r.payload.length 8 - r.payload.length) 0

/-- The payload of a GAP record. -/
def gapPayload (lost cause : Nat) : Bytes := fields [(8, lost), (1, cause), (7, 0)]

/-! ### The write path (R384, R391, R402) -/

/-- 2^20 bytes. -/
def mib : Nat := 1048576

/-- E(c) (R398), in mJ. -/
def flushEnergy (c : Nat) : Nat := 400 + 12 * c

/-- The largest cache that usable energy `u` (mJ) covers: a multiple of 32 MiB, at most `wanted` (R399). -/
def grantFor (u wanted : Nat) : Nat :=
  (((List.range 17).map (32 * ·)).filter (fun c => c ≤ wanted && 3 * flushEnergy c ≤ 2 * u)).foldl Nat.max 0

/-- The bytes that wait in the cache. -/
def JournalState.cacheBytes (j : JournalState) : Nat := (j.batches.map (·.2)).sum

/-- The cache held in force (R400): during an energy test, what 75 % of the last U covers. -/
def JournalState.limit (j : JournalState) : Nat :=
  mib * (if j.testing then Nat.min j.cacheMib (grantFor (j.energyMj * 3 / 4) j.wanted) else j.cacheMib)

/-- The cache has room for a record. -/
def JournalState.roomFor (j : JournalState) (n : Nat) : Bool := j.stopped == 0 && j.cacheBytes + n ≤ j.limit

/-- A record enters the cache, into the batch being formed. -/
def JournalState.store (now : Nat) (r : JRec) (j : JournalState) : JournalState :=
  { j with
    recs := j.recs ++ [{ r with batch := j.batch, committed := false }]
    batches := Tab.upd j.batches j.batch 0 (· + r.size)
    batchAt := some (j.batchAt.getD now) }

def JournalState.svc (j : JournalState) (n : Nat) : JService := Tab.read j.services n JService.reset

def JournalState.setSvc (n : Nat) (s : JService) (j : JournalState) : JournalState := { j with services := Tab.put n s j.services }

/-- A GAP record for what a source has lost (R402). -/
def gapRec (now src seq lost cause : Nat) : JRec :=
  { kind := 4, flags := 0, source := src, seq := seq, time := now, payload := gapPayload lost cause, lost := lost, cause := cause,
    committed := false, batch := 0, bad := 0 }

/-- The gap of a source is written where the cache has room (R402): the journal after it, and E342. -/
def JournalState.writeGap (now src : Nat) (j : JournalState) : JournalState × List (Nat × Nat) :=
  let s := j.svc src
  let r := gapRec now src (s.seq - 1) s.pendingLost s.pendingCause
  if s.pendingLost = 0 || j.session != 1 || !j.roomFor r.size then (j, [])
  else ((j.store now r).setSvc src { s with pendingLost := 0, pendingCause := 2 }, [(342, det2 src s.pendingCause)])

/-- A PACKET record (R390). -/
def packetRec (src seq launch : Nat) (first audio : Bool) (payload : Bytes) : JRec :=
  { kind := 1, flags := bit01 first + 2 * bit01 audio, source := src, seq := seq, time := launch, payload := payload, lost := 0, cause := 0,
    committed := false, batch := 0, bad := 0 }

/-- A packet of a journalled service is offered to the journal (R384, R390, R402): SEQ advances whether it is stored or not. -/
def JournalState.offerPacket (now src launch : Nat) (first audio : Bool) (payload : Bytes) (j : JournalState) : JournalState × List (Nat × Nat) :=
  let s := j.svc src
  let next (x : JService) : JService := { x with seq := x.seq + 1 }
  if j.session != 1 then (j.setSvc src (next { s with notJournalled := satAdd max64 s.notJournalled 1 }), [])
  else
    let g := j.writeGap now src
    let r := packetRec src s.seq launch first audio payload
    let s1 := g.1.svc src
    if s1.pendingLost = 0 && g.1.roomFor r.size then ((g.1.store now r).setSvc src (next s1), g.2)
    else (g.1.setSvc src (next { s1 with
      pendingLost := s1.pendingLost + 1, pendingCause := if natBit j.stopped 2 then 4 else s1.pendingCause, lost := satAdd max64 s1.lost 1 }), g.2)

def Device.journalPacket (src launch : Nat) (first audio : Bool) (payload : Bytes) (d : Device) : Device :=
  let r := d.journal.offerPacket d.now src launch first audio payload
  { d with journal := r.1 }.raise r.2

/-- GAP_RECORD_WRITE (R402): the lowest-numbered source with losses. -/
def gapRecordWrite (d : Device) : Device :=
  match d.journal.services.find? (fun e => e.2.pendingLost != 0) with
  | none => d
  | some (n, _) =>
    let r := d.journal.writeGap d.now n
    { d with journal := r.1 }.raise r.2

def execGapRecordWrite (t : Nat) (s : State) : Host.Outcome State Fault Refusal := .next { s with dev := gapRecordWrite (s.dev.at_ t) }

/-! ### Batches (R391) -/

/-- The COMMIT record that ends a batch: the newest SEQ of its last record, with the source in the upper 16 bits. -/
def JournalState.commitRec (now : Nat) (j : JournalState) : JRec :=
  let last := (j.recs.filter (fun r => r.batch == j.batch && !r.committed)).getLast?
  let v := match last with
    | some r => r.seq % 2 ^ 48 + 2 ^ 48 * (r.source % 65536)
    | none => 0
  { kind := 5, flags := 0, source := 0xFFFF, seq := j.batch, time := now, payload := fields [(8, v), (8, 0)], lost := 0, cause := 0, committed := false,
    batch := 0, bad := 0 }

/-- The batch being formed ends, and its codewords go to the NAND (R391, R394). -/
def JournalState.endBatch (now : Nat) (j : JournalState) : JournalState :=
  match j.batchAt with
  | none => j
  | some _ =>
    let j1 := j.store now (j.commitRec now)
    { j1.program j.batch (Tab.read j1.batches j.batch 0) with batch := j.batch + 1, batchAt := none }

/-- 50 ms after its first record, or at 32 MiB (R391). -/
def JournalState.batchDue (now : Nat) (j : JournalState) : Bool :=
  match j.batchAt with
  | none => false
  | some t => t + 50 * msec ≤ now || 32 * mib ≤ Tab.read j.batches j.batch 0

/-- BATCH_COMMIT. -/
def batchCommit (d : Device) : Device :=
  if d.journal.batchDue d.now then { d with journal := d.journal.endBatch d.now } else d

def execBatchCommit (t : Nat) (s : State) : Host.Outcome State Fault Refusal := .next { s with dev := batchCommit (s.dev.at_ t) }

/-- Commands of an opcode at work are decided. -/
def Device.decideWork (op : Nat) (status detail : Nat) (d : Device) : Device :=
  match takeWork (fun w => w.op == op) d.rk.works with
  | none => d
  | some (w, r) => { d with rk := { d.rk with works := r } }.decideCtx w.ctx status detail none d.now

/-- The closes that waited for the session's end are decided. -/
def Device.sessionClosed (d : Device) : Device :=
  (List.range (d.rk.works.filter (fun w => w.op == 0x0902)).length).foldl (fun d _ => d.decideWork 0x0902 stOk 0) d

/-- A closing session ends once its cache is programmed (R397, R400, R414). -/
def Device.sessionEnded (d : Device) : Device :=
  let j := d.journal
  if j.session = 2 && j.batches.isEmpty then
    ({ d with journal := { j with session := 0, cacheMib := 0, staging := 255, closing := 0 } }.raise [(337, j.closing)]).sessionClosed
  else d

/-- An open session closes: its last batch ends, and the cache is programmed. -/
def Device.closeSession (cause : Nat) (d : Device) : Device :=
  if d.journal.session = 1 then
    let j := d.journal.endBatch d.now
    { d with journal := { j with session := 2, closing := cause } }.sessionEnded
  else d

/-- The thresholds of R397 that wear falls to. -/
def wearEvents (old new : Nat) : List (Nat × Nat) :=
  (if 10 < old && new ≤ 10 then [(343, 1)] else []) ++ (if 5 < old && new ≤ 5 then [(343, 2)] else []) ++ (if 0 < old && new = 0 then [(343, 3)] else [])

/-- Retention is applied to every source (R387). -/
def JournalState.retain (j : JournalState) : JournalState :=
  (((j.recs.filter (fun r => r.kind == 1 || r.kind == 4)).map (·.source)).eraseDups).foldl (fun j n => j.release n false) j.reclaim

/-- BATCH_PROGRAMMED (R391, R397): a closed batch's records are committed. `wear` is WEAR_REMAINING as the erase counts give it. -/
def batchProgrammed (b wear : Nat) (d : Device) : Device :=
  let j := d.journal
  if j.stopped != 0 || j.batch ≤ b || (Tab.find b j.batches).isNone then d
  else
    let j1 := { j with
      recs := j.recs.map (fun (r : JRec) => if r.batch = b && !r.committed then { r with committed := true } else r)
      bytesWritten := satAdd max64 j.bytesWritten (Tab.read j.batches b 0)
      batches := Tab.del b j.batches
      wear := Nat.min j.wear wear
      wornOut := j.wornOut || wear = 0 }
    let d1 := { d with journal := j1.retain }.raise (wearEvents j.wear (Nat.min j.wear wear))
    (if j1.wornOut then d1.closeSession 1 else d1).sessionEnded

def execBatchProgrammed (t : Nat) (batch : Nat) (wear : Fin 101) (s : State) : Host.Outcome State Fault Refusal :=
  .next { s with dev := batchProgrammed batch wear (s.dev.at_ t) }

/-! ### The NAND (R392 to R395) -/

/-- NAND_PROGRAM_FAIL (R393): the block is retired; its data waits in the cache and is programmed again elsewhere. E343 tells when fewer than 1 % of the spare
blocks are left. -/
def nandProgramFail (fc block : Nat) (d : Device) : Device :=
  let j := d.journal
  let n := blockNumber fc block
  let j1 := if n < nandBlocks then j.retireBlock n else j
  let low := j1.spareShort
  { d with journal := { j1 with grownBad := satAdd max64 j.grownBad 1, spareLow := j.spareLow || low } }.raise
    ((344, det2 fc block) :: (if low && !j.spareLow then [(343, 4)] else []))

def execNandProgramFail (t : Nat) (fc : Fin 8) (block : Nat) (_spareLow : Unit) (s : State) : Host.Outcome State Fault Refusal :=
  .next { s with dev := nandProgramFail fc block (s.dev.at_ t) }

/-- A record as a read found it: its check values fail, with sound codewords (2) or without (1), and its bytes are these (R404, R405). -/
def JRec.decay (bad : Nat) (b : Bytes) (r : JRec) : JRec := if r.bad = 0 then { r with bad := bad, payload := b } else r

/-- JOURNAL_SCRUB (R392, R395): a block with committed data is read, and rewritten elsewhere where it must be. `stage` is the worst decode stage of its codewords (4: none decoded it),
`half` says that one showed more than half the hard-decode capacity, `soft` counts the stage 3 decodes, and `bad` lists the records
found to mismatch: source, SEQ, whether every codeword was sound, the bytes read. -/
def journalScrub (fc block stage soft : Nat) (half : Bool) (bad : List (Nat × Nat × Bool × Bytes)) (d : Device) : Device :=
  let j := d.journal
  let hit (r : JRec) : Option (Nat × Bytes) := (bad.find? (fun x => x.1 == r.source && x.2.1 == r.seq)).map (fun x => (if x.2.2.1 then 2 else 1, x.2.2.2))
  let j1 := j.scrubBlock (blockNumber fc block) d.now (d.modes.throttleIo == 0 && (half || 2 ≤ stage)) (d.modes.throttleIo == 0)
  { d with journal := { j1 with
    scrubbed := satAdd max64 j.scrubbed 1
    softDecodes := satAdd max64 j.softDecodes soft
    recs := j.recs.map (fun (r : JRec) => if r.committed && (r.kind == 1 || r.kind == 4) then (match hit r with
      | some (k, b) => r.decay k b
      | none => r) else r) } }.raise (if 4 ≤ stage then [(345, det2 fc block)] else [])

def execJournalScrub (t : Nat) (fc : Fin 8) (block stage soft : Nat) (half : Bool) (bad : List (Nat × Nat × Bool × Bytes)) (s : State) :
    Host.Outcome State Fault Refusal := .next { s with dev := journalScrub fc block stage soft half bad (s.dev.at_ t) }

/-- A record is delivered that fails its check (R404, R405). -/
def Device.mismatch (src seq : Nat) (suspect : Bool) (d : Device) : Device :=
  let j := d.journal
  let s := j.svc src
  let j1 := (j.setSvc src { s with mismatch := satAdd max64 s.mismatch 1, suspect := satAdd max64 s.suspect (bit01 suspect) })
  { d with journal := { j1 with mismatch := satAdd max64 j.mismatch 1, suspect := satAdd max64 j.suspect (bit01 suspect) } }.raise
    ((340, det2 src seq) :: (if suspect then [(341, det2 src seq)] else []))

/-! ### Sessions and energy (R397 to R400, R403, R414) -/

/-- A session is open only in ARMED, the live modes and DRAIN (R414). -/
def Device.sessionMode (d : Device) : Bool := d.modes.mode == mArmed || d.liveMode || d.modes.mode == mDrain

/-- The staging group: in service, the least loaded, the lower number in a tie (R399). -/
def Device.stagingGroup (d : Device) : Option Nat :=
  ((List.range 4).filter (fun g => (d.dram.group g).service == 0)).foldl (fun o g => match o with
    | none => some g
    | some b => if (d.dram.group g).loadPermille < (d.dram.group b).loadPermille then some g else some b) none

/-- CACHE_MIB asked for. -/
def cacheAsked (c : Ctx) : Nat := if c.p 0 2 = 0 then 512 else c.p 0 2

/-- What keeps a session from opening (R397, R399, R414; 18 R505). -/
def Device.openCheck (d : Device) : Refused :=
  firstOf [badState (!d.sessionMode) 0x0010, badState (d.journal.session != 0) 0x0905, badState (d.journal.wornOut || !d.journal.mounted) 0x0907]

/-- An energy test begins. -/
def Device.beginTest (d : Device) : Device := { d with journal := { d.journal with testing := true } }

def journalSessionOpen : CmdSpec where
  op := 0x0901
  when_ := .done
  reserved := [(2, 38)]
  check c d := firstOf [handleZero c, badParam (c.p 0 2 != 0 && !(within 64 512 (c.p 0 2) && c.p 0 2 % 32 == 0)), d.openCheck]
  apply c d := Done.goesOn (d.beginTest.beginWork 0x0901 c 0 none)

def journalSessionClose : CmdSpec where
  op := 0x0902
  when_ := .done
  reserved := [(0, 40)]
  check c _ := handleZero c
  apply c d := if d.journal.session = 0 then Done.ok d else Done.goesOn ((d.beginWork 0x0902 c 0 none).closeSession 0)

def energyTest : CmdSpec where
  op := 0x0909
  when_ := .done
  reserved := [(0, 40)]
  check c _ := handleZero c
  apply c d :=
    let d1 := d.beginTest.beginWork 0x0909 c 0 none
    let j := d1.journal
    Done.goesOn (if j.limit < j.cacheBytes then { d1 with journal := j.endBatch d.now } else d1)

/-- PERIODIC_ENERGY_TEST (R400): 24 h after the last test, with a session open. -/
def periodicEnergyTest (d : Device) : Device :=
  let j := d.journal
  if j.session = 1 && !j.testing && j.lastTest + 86400 * second ≤ d.now then
    let d1 := d.beginTest
    if d1.journal.limit < d1.journal.cacheBytes then { d1 with journal := d1.journal.endBatch d.now } else d1
  else d

def execPeriodicEnergyTest (t : Nat) (s : State) : Host.Outcome State Fault Refusal := .next { s with dev := periodicEnergyTest (s.dev.at_ t) }

/-- The cache is granted afresh from the new U (R400). -/
def Device.regrant (d : Device) : Device :=
  let j := d.journal
  let c := grantFor j.energyMj j.wanted
  if j.session != 1 then d
  else if c < 64 then ({ d with journal := { j with cacheMib := 0 } }.raise [(338, 0)]).closeSession 2
  else if c = j.cacheMib then d
  else { d with journal := { j with cacheMib := c } }.raise [(338, c)]

/-- The session opens with the cache that U covers, or the command fails with ENERGY (R399). -/
def Device.openSession (c : Ctx) (d : Device) : Device × Nat × Nat :=
  match d.openCheck with
  | some (s, k) => (d, s, k)
  | none =>
    let j := d.journal
    let g := grantFor j.energyMj (cacheAsked c)
    match d.stagingGroup with
    | none => (d, stBadState, 0)
    | some st =>
      if g < 64 then (d, stEnergy, j.energyMj)
      else ({ d with journal := { j with session := 1, cacheMib := g, wanted := cacheAsked c, staging := st, batches := [], batchAt := none } }.raise [(336, g)], stOk, g)

/-- ENERGY_TEST_DONE (R398 to R400): U in mJ and the capacitance in µF as measured, from full charge (18 R498). The bank is discharged only once
the cache is down to what the test leaves it. -/
def energyTestDone (u cap : Nat) (d : Device) : Device :=
  if !d.journal.testing || !d.phys.bankFull || d.journal.limit < d.journal.cacheBytes then d
  else
    let work := takeWork (fun w => w.op == 0x0901 || w.op == 0x0909) d.rk.works
    let more := 1 < (d.rk.works.filter (fun w => w.op == 0x0901 || w.op == 0x0909)).length
    let d1 := { d with journal := { d.journal with energyMj := u, capUf := cap, lastTest := d.now, testing := more } }.raise [(339, u)]
    match work with
    | none => d1.regrant
    | some (w, r) =>
      let d2 := { d1 with rk := { d1.rk with works := r } }
      if w.op = 0x0901 then
        let o := d2.openSession w.ctx
        o.1.decideCtx w.ctx o.2.1 o.2.2 none d.now
      else d2.regrant.decideCtx w.ctx stOk u none d.now

def execEnergyTestDone (t : Nat) (millijoules microfarads : Nat) (s : State) : Host.Outcome State Fault Refusal :=
  .next { s with dev := energyTestDone millijoules microfarads (s.dev.at_ t) }

/-- The packets that go with a record when it is lost: its own, or those that a GAP record tells of. -/
def JRec.packets (r : JRec) : Nat := if r.kind = 1 then 1 else if r.kind = 4 then r.lost else 0

/-- The staging group is gone (R403): what the cache held is lost, and a GAP record tells of it in a new cache. -/
def Device.stagingLost (d : Device) : Device :=
  let j := d.journal
  if j.session = 0 then d
  else
    let lost := j.recs.filter (fun r => !r.committed && (r.kind == 1 || r.kind == 4))
    let srcs := (lost.map (·.source)).eraseDups
    let count (n : Nat) : Nat := ((lost.filter (fun r => r.source == n)).map JRec.packets).sum
    let packets (n : Nat) : Nat := (lost.filter (fun r => r.source == n && r.kind == 1)).length
    let j1 := { j with
      recs := j.recs.filter (·.committed), batches := [], batchAt := none, batch := j.batch + 1
      services := srcs.foldl (fun m n => Tab.upd m n JService.reset (fun s => { s with lost := satAdd max64 s.lost (packets n) })) j.services }
    let j1 := j1.reclaim
    match d.stagingGroup with
    | none =>
      let d1 := { d with journal := { j1 with session := 0, cacheMib := 0, staging := 255, closing := 0 } }.raise
        (srcs.map (fun n => (342, det2 n 1)) ++ [(337, 3)])
      d1.sessionClosed
    | some g =>
      let j2 := { j1 with staging := g, cacheMib := if j.session = 1 then grantFor j.energyMj j.wanted else j.cacheMib }
      let j3 := if j.session = 1 then srcs.foldl (fun j n => j.store d.now (gapRec d.now n ((j.svc n).seq - 1) (count n) 1)) j2 else j2
      ({ d with journal := j3 }.raise (srcs.map (fun n => (342, det2 n 1)))).sessionEnded

/-- Records that a flush of `held` bytes takes, in order, and those it does not. -/
def splitHeld (held : Nat) : List JRec → List JRec × List JRec
  | [] => ([], [])
  | r :: rest =>
    if r.size ≤ held then
      let q := splitHeld (held - r.size) rest
      (r :: q.1, q.2)
    else ([], r :: rest)

/-- A source's gap at a power loss: what waited, and the packets the flush could not hold (R403). -/
def JournalState.cutGap (now : Nat) (left : List JRec) (n : Nat) (j : JournalState) : JRec :=
  let s := j.svc n
  let m := ((left.filter (fun r => r.source == n)).map JRec.packets).sum
  { gapRec now n (s.seq - 1) (s.pendingLost + m) (if m = 0 then s.pendingCause else 3) with committed := true, batch := j.batch }

/-- The COMMIT record that a power loss ends a session with (R401). -/
def JournalState.cutCommit (now : Nat) (j : JournalState) : List JRec :=
  if j.session = 0 then [] else [{ j.commitRec now with committed := true, batch := j.batch }]

/-- A power loss (R401, R403): the cache closes, and as much of it as the hold-up energy covers (`held` bytes) is flushed, with the gaps
that wait and a COMMIT record; the rest is discarded at the next power-up. -/
def JournalState.cut (now held : Nat) (j : JournalState) : JournalState :=
  let q := splitHeld held (j.recs.filter (fun r => !r.committed))
  let kept := q.1.map (fun (r : JRec) => { r with committed := true })
  let srcs := ((j.services.filter (fun e => e.2.pendingLost != 0)).map (·.1) ++ (q.2.filter (fun r => r.packets != 0)).map (·.source)).eraseDups
  let gaps := if j.session = 0 then [] else srcs.map (fun n => j.cutGap now q.2 n)
  let flushed := (kept.map JRec.size).sum
  let gaps := gaps ++ ({ j with recs := q.1 ++ gaps.map (fun r => { r with committed := false }) } : JournalState).cutCommit now
  let last := (((kept ++ gaps).filter (fun r => r.batch == j.batch)).map JRec.size).sum
  let held := ({ j with recs := j.recs.filter (·.committed) ++ kept ++ gaps } : JournalState)
  { held.program j.batch last with
    recs := held.recs, batches := [], batchAt := none, batch := j.batch + 1, session := 0, cacheMib := 0
    staging := 255, closing := 0, testing := false, bytesWritten := satAdd max64 j.bytesWritten flushed
    services := Tab.mapVals (fun _ s => { s with pendingLost := 0, pendingCause := 2 }) j.services
    lossFlush := if j.session = 0 then j.lossFlush else some (flushed, q.2.length) }

/-! ### Services, marks (R384 to R388) -/

def journalServiceSet : CmdSpec where
  op := 0x0903
  sel := .ift
  when_ := .commit
  reserved := [(1, 3), (8, 32)]
  check c d :=
    let n := c.handle
    let s := { d.jsvc n with cls := c.p 0 1, retainS := c.p 4 4 }
    let r := ((d.svc? n).map (·.recd))
    let d' := { d with journal := d.journal.setSvc n s }
    firstOf [
      badParam (512 ≤ n || 2 ≤ c.p 0 1 || !(if c.p 0 1 = 0 then within 10 86400 (c.p 4 4) else within 3600 7776000 (c.p 4 4))),
      absent r.isNone,
      badParam (c.p 0 1 == 1 && (match r with | some x => 4000 * 10000 < d.writeCharge n { x with audio := [] } * 100 / 103 | none => false)),
      (if (r.map (·.journal)).getD false then journalAdmit (d'.charges n (r.map (fun x => (x, s.retainS)))) d.journal.pinned else none)]
  chan c d := d.liveOfRend c.handle
  apply c d :=
    let n := c.handle
    let s := { d.jsvc n with cls := c.p 0 1, retainS := c.p 4 4 }
    Done.ok { d with journal := (d.journal.setSvc n s).release n false }

/-- The oldest record held of a source. -/
def JournalState.oldest (n : Nat) (j : JournalState) : Option Nat :=
  ((j.recs.filter (fun r => r.ofService n && r.committed)).map (·.time)).foldl (fun o t => match o with | none => some t | some a => some (Nat.min a t)) none

/-- The newest committed record of a source. -/
def JournalState.newest (n : Nat) (j : JournalState) : Option Nat :=
  ((j.recs.filter (fun r => r.ofService n && r.committed)).map (·.time)).foldl (fun o t => match o with | none => some t | some a => some (Nat.max a t)) none

/-- A journalled service now: JOURNAL is set (R384). -/
def Device.journalOn (n : Nat) (d : Device) : Bool := match d.svc? n with
  | some s => s.recd.journal
  | none => false

/-- A mark or a replay has let go of a source's records. -/
def Device.letGo (n : Nat) (d : Device) : Device := { d with journal := d.journal.release n (!d.journalOn n) }

/-- A time word in PARAMS. -/
def Ctx.timeAt (c : Ctx) (off : Nat) : Nat := timeOfWord c.entry (24 + off)

def journalMarkPin : CmdSpec where
  op := 0x0904
  reserved := [(2, 6)]
  check c d :=
    let m : Mark := ⟨c.p 0 2, c.timeAt 8, c.timeAt 24⟩
    let j' := { d.journal with marks := Tab.put c.handle m d.journal.marks }
    firstOf [
      badParam (256 ≤ c.handle || 512 ≤ m.source || !timeWordOk c.entry 32 || !timeWordOk c.entry 48),
      badState ((match d.journal.oldest m.source with | some o => m.from_ < o | none => false) || d.now + 3600 * second < m.to_) 0x0906,
      heldFull (d.charges 512 none) j'.pinned]
  apply c d :=
    let old := Tab.find c.handle d.journal.marks
    let d1 := { d with journal := { d.journal with marks := Tab.put c.handle ⟨c.p 0 2, c.timeAt 8, c.timeAt 24⟩ d.journal.marks } }
    Done.ok (match old with | some m => d1.letGo m.source | none => d1)

def journalMarkRelease : CmdSpec where
  op := 0x0905
  reserved := [(0, 40)]
  check c d := orElse (badParam (256 ≤ c.handle)) (absent (Tab.find c.handle d.journal.marks).isNone)
  apply c d := match Tab.find c.handle d.journal.marks with
    | none => Done.ok d
    | some m => Done.ok ({ d with journal := { d.journal with marks := Tab.del c.handle d.journal.marks } }.letGo m.source)

/-! ### Replay (R406 to R408) -/

/-- The start a replay asks for, and the one it gets (R407). -/
def replayAsked (c : Ctx) (now : Nat) : Nat := if c.effect = 2 then c.effectTime else now
def replayStart (c : Ctx) (now : Nat) : Nat := if replayAsked c now < now + 100 * msec then now + 100 * msec else replayAsked c now

/-- The TIME of the first committed record of a source at or after FROM; FROM itself where there is none yet. -/
def JournalState.firstFrom (src from_ to_ : Nat) (j : JournalState) : Nat :=
  ((j.recs.find? (fun r => r.kind == 1 && r.source == src && r.committed && from_ ≤ r.time && r.time < to_)).map (·.time)).getD from_

/-- The replay a command starts. -/
def parseReplay (c : Ctx) (d : Device) : Replay :=
  let src := c.b 2 2
  let from_ := timeOfWord c.block 8
  let to_ := timeOfWord c.block 24
  let start := replayStart c d.now
  ⟨src, c.b 4 2, from_, to_, start, start - d.journal.firstFrom src from_ to_,
    (match Tab.find src d.out.services with | some s => d.writeCharge src s.recd | none => 0), none, 0, false⟩

def journalReplayStart : CmdSpec where
  op := 0x0906
  block := some (fun _ => 64)
  sel := .it
  reserved := [(1, 1), (6, 2), (40, 8), (48, 8), (56, 8)]
  check c d :=
    let r := parseReplay c d
    let src := (d.svc? r.source).map (·.recd)
    firstOf [
      badParam (16 ≤ c.handle || c.b 0 1 != 0 || 512 ≤ r.source || 512 ≤ r.target || !timeWordOk c.block 8 || !timeWordOk c.block 24 || r.to_ ≤ r.from_),
      absent (d.svc? r.target).isNone,
      (match src, d.svc? r.target with
        | some a, some b => if a.format != b.recd.format || d.pace100 r.target < d.pace100 r.source then some (stBadParam, 0x090A) else none
        | _, _ => none),
      (if r.start < d.journal.firstFrom r.source r.from_ r.to_ + second then some (stBadParam, 0x090A) else none),
      badState ((d.liveOfRend r.target).isSome || d.replaying (· == r.target)) 0x0908,
      badState (Tab.find c.handle d.journal.replays).isSome 0,
      (if 8000000 * 10000 < (d.journal.replays.map (·.2.charge)).sum + r.charge then some (stNoBeads, 0x0904) else none)]
  apply c d :=
    let r := parseReplay c d
    let moved := r.start != replayAsked c d.now
    ⟨{ d with journal := { d.journal with replays := Tab.put c.handle r d.journal.replays } },
      some (if moved then (stStartedAt, usMoved (replayAsked c d.now) r.start) else (stOk, 0)), some r.start⟩

/-- A replay ends (R408). -/
def Device.endReplay (slot code : Nat) (d : Device) : Device :=
  match Tab.find slot d.journal.replays with
  | none => d
  | some r =>
    (({ d with journal := { d.journal with replays := Tab.del slot d.journal.replays } }.letGo r.source).raise
      ((if r.told then [] else [(346, slot)]) ++ [(347, det2 slot code)]))

/-- Copies of a target's packets whose own launch time is at or after a moment are not sent (R408). -/
def PortSched.withhold (target from_ : Nat) (x : PortSched) : PortSched :=
  let keep (c : Copy) : Bool := c.kind == 3 || c.service != target || c.base < from_
  { x with due := x.due.filter keep, calendar := x.calendar.filter (fun p => keep p.copy) }

def Device.withhold (target from_ : Nat) (d : Device) : Device :=
  { d with sched := { d.sched with ports := Tab.mapVals (fun _ x => x.withhold target from_) d.sched.ports } }

def journalReplayStop : CmdSpec where
  op := 0x0907
  sel := .it
  reserved := [(0, 40)]
  check c d := orElse (badParam (16 ≤ c.handle)) (badState (Tab.find c.handle d.journal.replays).isNone 0)
  apply c d := match Tab.find c.handle d.journal.replays with
    | none => Done.ok d
    | some r =>
      let at_ := Nat.max d.now (if c.effect = 2 then c.effectTime else d.now)
      let d1 := { d with journal := { d.journal with replays := Tab.put c.handle { r with stopAt := some at_ } d.journal.replays } }
      let d2 := d1.withhold r.target at_
      ⟨if at_ = d.now then d2.endReplay c.handle 1 else d2, some (stOk, 0), some at_⟩

/-- The records a replay still has to send (R407). -/
def JournalState.toReplay (r : Replay) (j : JournalState) : List JRec :=
  j.recs.filter (fun x => x.kind == 1 && x.source == r.source && x.committed && r.from_ ≤ x.time && x.time < r.to_ && r.nextSeq ≤ x.seq)

/-- REPLAY_END (R408): a stop's time, TO, or the end of the committed records once TO has passed. -/
def replayEnd (slot : Nat) (d : Device) : Device :=
  match Tab.find slot d.journal.replays with
  | none => d
  | some r =>
    if (match r.stopAt with | some s => Nat.ble s d.now | none => false) then d.endReplay slot 1
    else if Nat.ble (r.to_ + r.shift) d.now then d.endReplay slot 0
    else if Nat.ble r.to_ d.now && Nat.ble r.start d.now && (d.journal.toReplay r).isEmpty then d.endReplay slot 2
    else d

def execReplayEnd (t : Nat) (slot : Fin 16) (s : State) : Host.Outcome State Fault Refusal := .next { s with dev := replayEnd slot (s.dev.at_ t) }

/-! ### Export (R409) -/

/-- The event log and the as-run log as records. -/
def LogState.eventRecs (x : LogState) : List JRec :=
  ((List.range x.events.length).zip x.events).map (fun e =>
    { kind := 2, flags := 0, source := 0xFFFF, seq := x.eventsOut + e.1, time := e.2.time, payload := evRecBytes e.2, lost := 0, cause := 0, committed := true, batch := 0, bad := 0 })

/-- The payload of an as-run record (R390). -/
def AsRunRec.bytes (r : AsRunRec) : Bytes := fields [(2, r.channel), (2, r.entry), (4, r.tag), (8, r.frame), (8, r.detail), (8, 0)]

def LogState.asRunRecs (x : LogState) : List JRec :=
  ((List.range x.asRun.length).zip x.asRun).map (fun e =>
    { kind := 3, flags := 0, source := 0xFFFF, seq := x.asRunOut + e.1, time := e.2.time, payload := e.2.bytes, lost := 0, cause := 0, committed := true, batch := 0, bad := 0 })

/-- The records an export asks for. -/
def Device.exported (c : Ctx) (d : Device) : List JRec :=
  let from_ := timeOfWord c.block 8
  let to_ := timeOfWord c.block 24
  let l := if c.b 0 1 = 1 then d.journal.recs.filter (fun r => r.ofService (c.b 2 2) && r.committed)
    else if c.b 0 1 = 2 then d.logs.eventRecs else d.logs.asRunRecs
  l.filter (fun r => from_ ≤ r.time && r.time < to_)

/-- An export entry: the delivery word and the record. -/
def exportEntry (r : JRec) : Bytes :=
  let b := r.read
  fields [(2, if r.bad != 0 then 1 else if r.kind = 4 then 2 else 0), (2, 0), (4, b.length)] ++ b

/-- The whole entries that fit. -/
def fitEntries (room : Nat) : List JRec → List JRec
  | [] => []
  | r :: rest => if (exportEntry r).length ≤ room then r :: fitEntries (room - (exportEntry r).length) rest else []

/-- The export area: header, then entries. -/
def exportArea (all : List JRec) (room : Nat) : List JRec × Bytes :=
  let l := fitEntries (room - 64) all
  let body := l.flatMap exportEntry
  (l, fields [(8, l.length), (8, body.length), (8, (l.filter (fun r => r.bad != 0)).length), (8, (l.filter (fun r => r.kind == 4 && r.bad == 0)).length),
    (1, bit01 (l.length < all.length)), (31, 0)] ++ body)

def journalExport : CmdSpec where
  op := 0x0908
  block := some (fun _ => 64)
  when_ := .done
  reserved := [(1, 1), (4, 2), (6, 2), (56, 8)]
  check c d :=
    firstOf [
      handleZero c,
      badParam (!within 1 3 (c.b 0 1) || 512 ≤ c.b 2 2 || (c.b 0 1 != 1 && c.b 2 2 != 0) || !timeWordOk c.block 8 || !timeWordOk c.block 24
        || timeOfWord c.block 24 ≤ timeOfWord c.block 8 || c.b 40 8 % 4096 != 0 || c.b 48 8 < 4096 || !inWindow (c.b 40 8) (c.b 48 8)),
      badState (!d.rangeUp (c.b 40 8) (c.b 48 8)) 6]
  apply c d := Done.goesOn (d.beginWork 0x0908 c 0 none)

/-- JOURNAL_EXPORT_DONE (R409; 10 R301): the first export at work ends. -/
def journalExportDone (d : Device) : Device :=
  match takeWork (fun w => w.op == 0x0908) d.rk.works with
  | none => d
  | some (w, rest) =>
    let d0 := { d with rk := { d.rk with works := rest } }
    let c := w.ctx
    if !d0.rangeUp (c.b 40 8) (c.b 48 8) then (d0.raise [(436, c.b 40 8)]).decideCtx c stBadState 6 none d.now
    else
      let a := exportArea (d0.exported c) (c.b 48 8)
      let d1 := (a.1.filter (fun r => r.bad != 0)).foldl (fun d r => d.mismatch r.source r.seq (r.bad == 2)) d0
      let d2 := { d1 with journal := if d1.modes.throttleIo = 0 then d1.journal.readBatches (a.1.map JRec.batch) else d1.journal }
      ((d2.writeAt (c.b 40 8) a.2).raise [(348, a.1.length)]).decideCtx c stOk (Nat.min a.1.length (2 ^ 32 - 1)) none d.now

def execJournalExportDone (t : Nat) (s : State) : Host.Outcome State Fault Refusal := .next { s with dev := journalExportDone (s.dev.at_ t) }

/-! ### Status (Table 13.14) -/

/-- The bytes held of records that `p` picks. -/
def JournalState.bytesHeld (p : JRec → Bool) (j : JournalState) : Nat := ((j.recs.filter (fun r => r.committed && p r)).map JRec.size).sum

def Device.journalRecord (d : Device) : Bytes :=
  let j := d.journal
  fields [(1, j.session), (1, j.wear), (2, j.cacheMib), (4, j.energyMj), (8, j.bytesWritten), (8, j.bytesHeld (fun _ => true)), (8, j.pinned), (8, j.grownBad),
    (8, j.softDecodes), (8, j.mismatch), (8, j.suspect), (4, ((d.charges 512 none).map (·.1)).sum / 10000), (4, j.capUf), (2, j.staging), (6, 0)] ++
  timeWordBytes j.lastTest ++ wrLE 16 0 ++ timeWordBytes d.now

/-- A service's charge in 1/10000 kb/s. -/
def Device.chargeOf (n : Nat) (d : Device) : Nat := match d.svc? n with
  | some s => d.writeCharge n s.recd
  | none => 0

def Device.journalSvcRecord (n : Nat) (d : Device) : Bytes :=
  let j := d.journal
  let s := j.svc n
  let pinned := j.recs.any (fun r => r.ofService n && j.marks.any (fun m => m.2.holds r))
  let time (o : Option Nat) : Bytes := match o with | none => wrLE 16 0 | some t => timeWordBytes t
  fields [(1, s.cls), (1, bit01 (d.journalOn n && j.session == 1) + 2 * bit01 pinned), (2, 0), (4, s.retainS),
    (8, (j.recs.filter (fun r => r.ofService n && r.committed)).length), (8, j.bytesHeld (fun r => r.ofService n)), (8, s.notJournalled), (8, s.lost), (8, s.mismatch),
    (8, s.suspect), (8, s.seq), (4, d.chargeOf n / 10000), (4, 0), (2, 0), (6, 0)] ++ time (j.oldest n) ++ time (j.newest n) ++ timeWordBytes d.now

def journalStatusGet : CmdSpec where
  op := 0x090A
  when_ := .done
  reserved := [(8, 32)]
  check c d := firstOf [badParam (c.handle != 0 && !within 0x1000 0x11FF c.handle), targetCheck 128 c d]
  apply c d := writeRecord (if c.handle = 0 then d.journalRecord else d.journalSvcRecord (c.handle - 0x1000)) c d

/-! ### Check units (R411, R412) -/

def Device.setCheck (k : Nat) (x : CheckCtx) (d : Device) : Device := { d with checks := { d.checks with ctxs := Tab.put k x d.checks.ctxs } }

def checkContextSet : CmdSpec where
  op := 0x090B
  reserved := [(3, 1), (36, 4)]
  check c _ :=
    firstOf [
      badParam (64 ≤ c.handle || 3 ≤ c.p 0 1 || 3 ≤ c.p 1 1 || 2 ≤ c.p 2 1 || (c.p 0 1 < 2 && (2 ^ 32 ≤ c.p 20 8))
        || (c.p 1 1 != 0 && (c.p 12 8 == 0 || !inWindow (c.p 4 8) (c.p 12 8)))),
      badState (c.handle < 56) 0x0909]
  apply c d :=
    let x := d.checks.ctx c.handle
    if c.p 1 1 = 0 then Done.ok (d.setCheck c.handle { x with mode := 0, state := 0 })
    else Done.ok (d.setCheck c.handle { x with
      poly := c.p 0 1, mode := c.p 1 1, state := 1, running := if natBit (c.p 2 1) 0 then c.p 20 8 else crcOnes (c.p 0 1), bytes := 0
      offset := c.p 4 8, length := c.p 12 8, expect := c.p 28 8 })

/-- A context's record (Table 13.15). -/
def checkRecord (k : Nat) (d : Device) : Bytes :=
  let x := d.checks.ctx k
  fields [(1, x.poly), (1, x.mode), (1, x.state), (1, x.owner), (2, x.channel), (2, 0), (8, x.running), (8, crcValue x.poly x.running), (8, x.bytes), (16, 0)] ++
  timeWordBytes d.now

/-- What a context that the module owns has taken in is the module's own: its RUNNING, BYTES and STATE as read are free values (assumption 24). -/
def Device.measureCheck (k : Nat) (d : Device) : Device :=
  let x := d.checks.ctx k
  if x.owner = 0 then d
  else
    let st := (Config.free 2 (d.free + 2)).toNat
    { d.setCheck k { x with running := d.freeVal (if x.poly < 2 then 32 else 64), bytes := (Config.free 64 (d.free + 1)).toNat, state := if st = 1 then 0 else st } with
      free := d.free + 3 }

def checkContextGet : CmdSpec where
  op := 0x090C
  when_ := .done
  reserved := [(8, 32)]
  check c d := firstOf [badParam (64 ≤ c.handle), targetCheck 64 c d]
  apply c d :=
    let e := d.measureCheck c.handle
    if (e.checks.ctx c.handle).state = 1 then Done.goesOn (e.beginWork 0x090C c 0 none) else writeRecord (checkRecord c.handle e) c e

/-- A status command that waited writes its record now; its quarter may have been retired meanwhile (10 R301). -/
def Device.lateRecord (b : Bytes) (c : Ctx) (d : Device) : Device :=
  if !d.rescue && !d.rangeUp (c.p 0 8) b.length then (d.raise [(436, c.p 0 8)]).decideCtx c stBadState 6 none d.now
  else (d.writeAt (c.p 0 8) b).decideCtx c stOk 0 none d.now

/-- CHECK_RUN_DONE (R412): the run's bytes are taken in, VERIFY compares, the run feeds CHECK_RESULT queues (15 Table 15.10), and the
commands that wait for the context complete. Bytes of a quarter out of service give a free value. -/
def checkRunDone (k : Nat) (d : Device) : Device :=
  let x := d.checks.ctx k
  if x.state != 1 || k < 56 || 3 ≤ d.phys.shed then d
  else
    let up := !d.poisoned x.offset x.length
    let run := if up then crcRun x.poly x.running (d.readAt x.offset x.length) else d.freeVal (if x.poly < 2 then 32 else 64)
    let d0 := if up then d else d.useFree
    let bad := x.mode = 2 && crcValue x.poly run != x.expect
    let d1 := (d0.setCheck k { x with running := run, bytes := x.bytes + x.length, state := if bad then 3 else 2 }).raise (if bad then [(472, k)] else [])
    let mine := d1.rk.works.filter (fun w => w.op == 0x090C && w.ctx.handle == k)
    let d2 := { d1 with rk := { d1.rk with works := d1.rk.works.filter (fun w => !(w.op == 0x090C && w.ctx.handle == k)) } }
    let y := d2.checks.ctx k
    let d3 := d2.feed 5 (fun w => w.arg ≤ k && k ≤ w.arg2) [word64 (2 + 256 * k + 65536 * y.state), word64 (crcValue y.poly y.running)]
    mine.foldl (fun d w => d.lateRecord (checkRecord k d) w.ctx) d3

def execCheckRunDone (t : Nat) (context : Fin 64) (s : State) : Host.Outcome State Fault Refusal :=
  .next { s with dev := checkRunDone context (s.dev.at_ t) }

end Sys2Proof.Machine
end

