-- ==== Sys2Proof/Machine/Packets.lean ====
section
/-!
DEFINITION. The packetiser: service packets and their launch times, FEC, audio, and replays (chapter 7; 13 R407).
-/
namespace Sys2Proof.Machine

/-! ### Copies (R218, R224, R225) -/

/-- A packet whose copies are to be made: service, frame whose records govern it, launch time, sequence number, the RTP packet, and whether it is audio. -/
structure Packet where
  service : Nat
  frame : Nat
  launch : Nat
  seq : Nat
  rtp : Bytes
  audio : Bool

/-- An FEC packet that follows a media packet: its kind (1 column, 2 row), sequence number, RTP packet, and the subscribers that received its matrix's first packet. -/
structure FecPacket where
  kind : Nat
  seq : Nat
  rtp : Bytes
  takers : List Nat

/-- The bytes of a subscriber's frame, FCS included (R211, R228). -/
def frameBytes (x : Subscriber) (r : SubRec) (rtp : Nat) : Nat :=
  Nat.max 64 (r.headers - 12 + rtp + (if r.srtp then 16 + x.key.mkiLen else 0) + 4)

/-- The subscribers a packet goes to, ascending, with the record that governs the packet's frame (R207, R219). -/
def OutputState.takers (x : OutputState) (n f : Nat) : List (Nat × Subscriber × SubRec) :=
  (x.subs.map (fun e => (e.1, e.2, e.2.recFor n f))).filter (fun e => e.2.2.service == n && e.2.2.enable)

/-- The wire time of the copies of a packet already made for this port and skew (R218). -/
def copiesAhead (l : List (Nat × Nat × Nat)) (port skew : Nat) : Nat := ((l.filter (fun e => e.1 == port && e.2.1 == skew)).map (·.2.2)).sum

/-- A copy of a packet for one subscriber, then its FEC packets (R218, R219, R224, R225). `ahead` holds port, skew and wire time of the copies
made so far. A packet never launches before the one in front of it in its stream (assumption 230). -/
def Device.copyTo (k : Packet) (fec : List FecPacket) (e : Nat × Subscriber × SubRec) (a : Device × List (Nat × Nat × Nat)) : Device × List (Nat × Nat × Nat) :=
  let d := a.1
  let r := e.2.2
  match Tab.find e.1 d.out.subs with
  | none => a
  | some x =>
    let bytes := frameBytes x r k.rtp.length
    let wire := wireTime bytes (d.lanes.kbps r.port)
    let want := k.launch + r.skewNs * nsec + copiesAhead a.2 r.port r.skewNs
    let last := Tab.read x.order (rtpSsrc k.rtp) (0, 0)
    let nominal := if want < last.1 then last.2 else want
    let y := { x with order := Tab.put (rtpSsrc k.rtp) (nominal, nominal + wire) x.order }
    let d1 := { d with out := d.out.setSub e.1 y }
    let d2 := d1.offer r.port ⟨nominal, k.service, e.1, 0, k.seq, bytes, k.audio, k.launch, some (r, k.rtp)⟩
    let mine := if r.fec then fec.filter (fun q => q.takers.contains e.1) else []
    let d3 := mine.foldl (fun b q => b.offer r.port
      ⟨nominal, k.service, e.1, q.kind, q.seq, frameBytes x r q.rtp.length, false, k.launch, some (r, q.rtp)⟩) d2
    (d3, a.2 ++ [(r.port, r.skewNs, wire)])

/-- Every copy of a packet. -/
def Device.copies (k : Packet) (fec : List FecPacket) (d : Device) : Device :=
  ((d.out.takers k.service k.frame).foldl (fun a e => Device.copyTo k fec e a) (d, [])).1

/-! ### FEC (R222 to R225): SMPTE ST 2022-1 -/

/-- A matrix begun under a service record, its first packet received by these subscribers. -/
def FecMatrix.start (r : ServiceRec) (takers : List Nat) : FecMatrix := ⟨r.colFec, r.rowFec, r.fecL, r.fecD, takers, []⟩

/-- Bytes combined, the shorter filled up with zeros. -/
def xorPadded : Bytes → Bytes → Bytes
  | [], b => b
  | a, [] => a
  | x :: a, y :: b => (x ^^^ y) :: xorPadded a b

/-- What FEC protects of an RTP packet: marker and payload type, timestamp, the length of its payload, and the payload. -/
def fecParts (b : Bytes) : Bytes := (b.drop 1).take 1 ++ (b.drop 4).take 4 ++ beBytes 2 (b.length - 12) ++ b.drop 12

/-- The FEC header and payload over packets, `x` being their parts combined: SNBase, length recovery, E and payload type recovery, no mask, timestamp recovery, D,
offset and NA. -/
def fecBody (row : Bool) (l d base : Nat) (x : Bytes) : Bytes :=
  beBytes 2 base ++ (x.drop 5).take 2 ++ beBytes 1 (128 + byteAt x 0 % 128) ++ beBytes 3 0 ++ (x.drop 1).take 4 ++
    beBytes 1 (64 * bit01 row) ++ beBytes 1 (if row then 1 else l) ++ beBytes 1 (if row then l else d) ++ beBytes 1 0 ++ x.drop 7

/-- An FEC packet of service `n` over packets; its marker is theirs combined, its timestamp its launch (assumption 227). -/
def fecPacket (n : Nat) (row : Bool) (l d seq launch : Nat) (ps : List Bytes) : Bytes :=
  let x := (ps.map fecParts).foldl xorPadded []
  rtpHeader (natBit (byteAt x 0) 7) (Config.fecType row).toNat seq (at90 launch % 2 ^ 32) (Config.fecSsrc n row).toNat ++ fecBody row l d (rtpSeq (ps.headD [])) x

/-- The packets in column `c`, and in row `k`, of a matrix. -/
def FecMatrix.column (m : FecMatrix) (c : Nat) : List Bytes := ((List.range m.packets.length).filter (fun i => i % m.l == c)).map (fun i => m.packets.getD i [])
def FecMatrix.rowOf (m : FecMatrix) (k : Nat) : List Bytes := ((List.range m.packets.length).filter (fun i => i / m.l == k)).map (fun i => m.packets.getD i [])

/-- A media packet of service `n` enters the matrix: the service after it, and the FEC packets it completes, column before row. A new matrix begins under the
record that governs the packet. -/
def Service.fecTake (r : ServiceRec) (n launch : Nat) (takers : List Nat) (rtp : Bytes) (s : Service) : Service × List FecPacket :=
  let m0 := if s.matrix.packets.isEmpty then FecMatrix.start r takers else s.matrix
  if !m0.col && !m0.row then ({ s with matrix := { m0 with packets := [] } }, [])
  else
    let i := m0.packets.length
    let m := { m0 with packets := m0.packets ++ [rtp] }
    let cseq := Tab.read s.fecSeq 0 0
    let rseq := Tab.read s.fecSeq 1 0
    let c := m.col && (m.d - 1) * m.l ≤ i
    let w := m.row && i % m.l == m.l - 1
    let out := (if c then [(⟨1, cseq, fecPacket n false m.l m.d cseq launch (m.column (i % m.l)), m.takers⟩ : FecPacket)] else []) ++
      (if w then [(⟨2, rseq, fecPacket n true m.l m.d rseq launch (m.rowOf (i / m.l)), m.takers⟩ : FecPacket)] else [])
    ({ s with
      matrix := if i + 1 = m.l * m.d then { m with packets := [] } else m
      fecPackets := satAdd max64 s.fecPackets out.length
      fecSeq := Tab.put 0 ((cseq + bit01 c) % 65536) (Tab.put 1 ((rseq + bit01 w) % 65536) s.fecSeq) }, out)

/-! ### Service packets -/

/-- A packet is too late for its queue (R217). -/
def lateFor (now launch : Nat) : Bool := launch < now + usec

/-- E480, once a second at most (R217). -/
def Service.lateDrop (now : Nat) (s : Service) : Service × Bool :=
  let tell := oncePerSecond s.lastE480 now
  ({ s with lateDrops := satAdd max64 s.lateDrops 1, lastE480 := if tell then some now else s.lastE480 }, tell)

/-- A formed packet goes to the journal, and to every subscriber or, where it is late, to none (R207, R217). -/
def Device.sendPacket (r : ServiceRec) (k : Packet) (fec : List FecPacket) (first : Bool) (rtp : Bytes) (d : Device) : Device :=
  let d1 := if r.journal then d.journalPacket k.service k.launch first k.audio rtp else d
  if !r.enable then d1
  else if lateFor d.now k.launch then
    match Tab.find k.service d1.out.services with
    | none => d1
    | some s =>
      let y := s.lateDrop d.now
      { d1 with out := d1.out.setSvc k.service y.1 }.raise (if y.2 then [(480, k.service)] else [])
  else d1.copies k fec

/-- A video packet of a service: its RTP header, the next sequence number, FEC, counts (R206, R209, R212, R223). -/
def Device.videoPacket (n f launch tick : Nat) (marker first : Bool) (payload : Bytes) (r : ServiceRec) (d : Device) : Device :=
  match Tab.find n d.out.services with
  | none => d
  | some s =>
    let seq := s.nextSeq
    let rtp := rtpHeader (marker && r.format == 1) (if r.format = 0 then 33 else r.pt) seq (at90 tick % 2 ^ 32) r.ssrc ++ payload
    let q := if r.enable then s.fecTake r n launch ((d.out.takers n f).map (·.1)) rtp else (s, [])
    let y := { q.1 with
      nextSeq := (seq + 1) % 65536, packets := satAdd max64 s.packets 1, bytes := satAdd max64 s.bytes payload.length, lastLaunch := launch }
    { d with out := d.out.setSvc n y }.sendPacket r ⟨n, f, launch, seq, rtp, false⟩ q.2 first rtp

/-! ### Rows (R214 to R216) -/

/-- The pace of a row (R215, R216): the time, in whole nanoseconds, after which `beta` bits have gone out: the lesser of the times at the pace
and at b_n / g_n. `pace` is in 1/100 kb/s, `g` in 2^-16 ns. -/
def launchAfter (pace b g beta : Nat) : Nat :=
  let atPace := if pace = 0 then 0 else beta * 100000000 / pace
  let atRow := if b = 0 then 0 else beta * g / (b * 65536)
  if pace = 0 then atRow else if b = 0 then atPace else Nat.min atPace atRow

/-- u in kb/s. -/
def rowPace (pace b g : Nat) : Nat := Nat.max (pace / 100) (if g = 0 then 0 else b * 65536 * 1000000 / g)

/-- Payloads with their launch times, in sequence order (R216). -/
def launches (pace b g first : Nat) : Nat → List Bytes → List (Nat × Bytes)
  | _, [] => []
  | beta, p :: r => (first + launchAfter pace b g beta * nsec, p) :: launches pace b g first (beta + 8 * p.length) r

/-! ### The transport stream (R210, R213, R214) -/

/-- What forming a row's packets needs (R210). -/
structure RowTs where
  number : Nat
  service : ServiceRec
  codec : Nat
  tick : Nat
  row : Nat
  fresh : Bool
  launch : Nat
  pts : Nat
  pace : Nat
  gap : Nat

/-- The tables lead row 0 of such a picture (R210): the first of a refresh cycle, an IDR, or the previous PAT is 100 ms old. -/
def RowTs.tables (x : RowTs) (s : Service) : Bool :=
  x.row == 0 && (x.fresh || (match s.lastPat with | none => true | some t => t + 100 * msec ≤ x.tick))

/-- The row carries a PCR (R210). -/
def RowTs.pcr (x : RowTs) (s : Service) : Bool := x.row == 0 || (match s.lastPcr with | none => true | some t => t + 20 * msec ≤ x.launch)

/-- When TS packet `i` of a row of `bits` payload bits leaves (R214). -/
def RowTs.leaves (x : RowTs) (bits i : Nat) : Nat :=
  x.launch + launchAfter x.pace bits x.gap (1504 * (i / 7 * 7)) * nsec + launchAfter x.pace bits x.gap (1504 * (i % 7)) * nsec

/-- The row's video TS packets: row 0 begins the picture's PES, and the first packet carries what is due (R210, R213). -/
def RowTs.video (x : RowTs) (random : Bool) (pcr : Option Nat) (es : Bytes) : List Bytes :=
  tsPackets (x.row == 0) x.service.videoPid (tsField random pcr) (if x.row = 0 then pesHeader 0xE0 0 (at90 x.tick + x.pts) ++ es else es)

/-- The RTP payloads of a row in FORMAT 0, and the service after it: tables, audio that is ready, video, and null packets with FIXED_7 (R210, R227). -/
def RowTs.form (x : RowTs) (es : Bytes) (s : Service) : List Bytes × Service :=
  let lead := x.tables s
  let due := x.pcr s
  let audio := (s.audioTs.filter (fun a => a.1 ≤ x.launch)).flatMap (·.2)
  let front := (if lead then tsTables x.number x.codec x.service else []) ++ audio
  let n := front.length + (x.video lead (if due then some 0 else none) es).length
  let fill := if x.service.fixed7 then (7 - n % 7) % 7 else 0
  let video := x.video lead (if due then some (x.leaves (1504 * (n + fill)) front.length) else none) es
  let c := tsCountAll s.cc (front ++ video ++ List.replicate fill tsNull)
  ((inPieces 7 c.1).map List.flatten,
    { s with
      cc := c.2, audioTs := s.audioTs.filter (fun a => !(a.1 ≤ x.launch))
      lastPat := if lead then some x.tick else s.lastPat
      lastPcr := if due && !video.isEmpty then some x.launch else s.lastPcr })

/-! ### PAYLOAD_UNIT_ARRIVAL -/

/-- A row's packets, with their launch times, in order; the last of the picture's last row has the marker (R209). -/
def Device.sendRow (n f tick : Nat) (row0 last : Bool) (r : ServiceRec) : List (Nat × Bytes) → Bool → Device → Device
  | [], _, d => d
  | (t, p) :: rest, first, d =>
    (d.videoPacket n f t tick (last && rest.isEmpty) (row0 && first) p r).sendRow n f tick row0 last r rest false

/-- The end of a row's capture step (R215): the next row's, or row 0 of the next frame. -/
def nextCapture (ch : Channel) (p : Picture) (f k : Nat) : Nat :=
  if k + 1 < p.recd.rows then ch.tickOf f + rowOffset ch.recd p.recd (k + 1) else ch.tickOf (f + 1)

/-- A row's RTP payloads, and the service after it (R208 to R211). -/
def RowTs.payloads (x : RowTs) (last : Bool) (heads units : List Bytes) (s : Service) : List Bytes × Service :=
  if x.service.format = 0 then x.form (byteStream (heads ++ units)) s else (nativeRow x.codec x.service.payloadTop last heads units, s)

/-- What forming row `k` of picture `p` needs, the picture of frame `f` of rendition `n`. -/
def Device.rowTs (n f k : Nat) (r : ServiceRec) (p : Picture) (d : Device) : RowTs :=
  let ch := d.chan p.recd.channel
  let cap := ch.tickOf f + rowOffset ch.recd p.recd k
  { number := n, service := r, codec := p.recd.codec, tick := ch.tickOf f, row := k, fresh := p.kind == 0 || p.refreshPos == 0
    launch := rowLaunchAt ch p f k, pts := if r.ptsOffset = 0 then leastPts ch.recd p.recd p.delay r.audio else r.ptsOffset
    pace := if r.pace = 0 then 105 * p.recd.rateKbps else 100 * r.pace, gap := nextCapture ch p f k - cap }

/-- A row's units reach the packetiser (R207, R209, R216). `units` are its coded NAL units or OBUs, and `heads` those that RCT firmware wrote for the picture (R156),
which go with row 0. -/
def payloadUnit (n f k : Nat) (units heads : List Bytes) (d : Device) : Device :=
  match Tab.find n d.code.rends, Tab.find n d.out.services with
  | some x, some s =>
    match x.pic? f with
    | none => d
    | some p =>
      if (match Tab.find k p.rows with | some r => r.bits.isNone | none => true) then d
      else
        let r := recAt s.was s.recd f
        let s0 := { s with row := (f, k) }
        if !r.enable && !r.journal then { d with out := d.out.setSvc n s0 }
        else
          let y := d.rowTs n f k r p
          let last := k + 1 == p.recd.rows
          let formed := y.payloads last (if k = 0 then heads else []) units s0
          let bits := 8 * (formed.1.map List.length).sum
          let z := { formed.2 with peaks := notePeak d.now (rowPace y.pace bits y.gap) formed.2.peaks }
          { d with out := d.out.setSvc n z }.sendRow n f y.tick (k == 0) last r (launches y.pace bits y.gap y.launch 0 formed.1) true
  | _, _ => d

/-! ### Audio (R226, R227, R427) -/

/-- How long after its last sample an audio frame is ready (R227). -/
def readyLag (coding : Nat) : Nat := if coding = 1 then 2000 * usec else 500 * usec

/-- An audio source's count of frames coded and late. -/
def Device.countAudio (src : Nat) (late : Bool) (d : Device) : Device :=
  { d with audio := { d.audio with sources := Tab.upd d.audio.sources src ASource.reset (fun a =>
    { a with coded := satAdd max64 a.coded 1, late := satAdd max64 a.late (bit01 late) }) } }

/-- A frame of silence in the place of a frame (14 R427; assumption 231). -/
def silence (e : AudioEntry) (b : Bytes) : Bytes := if e.coding = 1 then Config.silentAac e.kbps else List.replicate b.length 0

/-- AUDIO_FRAME_READY (R227): a frame of one of a service's audio streams, PCM data or an AAC-LC access unit, with the capture time of its first sample. It comes
once its last sample is captured, joins a row by its ready time, and one that comes after that is sent as silence. -/
def audioFrameReady (n a capture : Nat) (payload : Bytes) (d : Device) : Device :=
  match Tab.find n d.out.services, Tab.find n d.code.rends with
  | some s, some x =>
    match s.recd.audio[a]? with
    | none => d
    | some e =>
      let ch := d.chan x.recd.channel
      let r := s.recd
      let dur := audioFrame ch.recd e
      let ready := capture + dur + readyLag e.coding
      if d.now < capture + dur || !x.live || (!r.enable && !r.journal) then d
      else
        let late := ready < d.now
        let frame := if late then silence e payload else payload
        let body := audioBody r.format e (Tab.read d.audio.sources e.source ASource.reset).pcmBits (at90 capture + d.ptsOf n r) frame
        let d1 := (d.countAudio e.source late).raise (if late then [(426, det2 e.source n)] else [])
        match Tab.find n d1.out.services with
        | none => d1
        | some s1 =>
          if r.format = 0 then
            let ts := tsPackets true e.pid [] body
            { d1 with out := d1.out.setSvc n { s1 with audioTs := s1.audioTs ++ [(ready, ts)], audioPackets := satAdd max64 s1.audioPackets ts.length } }
          else
            let launch := capture + dur + 2000 * usec
            let seq := Tab.read s1.audioSeq a 0
            let rtp := rtpHeader true e.pt seq (capture * 48000 / second % 2 ^ 32) e.ssrc ++ body
            let y := { s1 with
              audioSeq := Tab.put a ((seq + 1) % 65536) s1.audioSeq, audioPackets := satAdd max64 s1.audioPackets 1
              packets := satAdd max64 s1.packets 1, bytes := satAdd max64 s1.bytes body.length, lastLaunch := Nat.max s1.lastLaunch launch }
            { d1 with out := d1.out.setSvc n y }.sendPacket r ⟨n, (ch.next - 1), launch, seq, rtp, true⟩ [] false rtp
  | _, _ => d

def execAudioFrameReady (t : Nat) (service : Fin 512) (stream : Fin 4) (capture : Nat) (payload : Bytes) (s : State) : Host.Outcome State Fault Refusal :=
  .next { s with dev := audioFrameReady service stream capture payload (s.dev.at_ t) }

/-! ### Replays in the calendars (13 R407) -/

/-- A recorded packet as the target sends it (R407): with the target's SSRC, that of its own stream where it is audio (assumption 230). -/
def replayed (src target : ServiceRec) (audio : Bool) (b : Bytes) : Bytes :=
  if !audio then rtpFrom target.ssrc b
  else match (src.audio.zip target.audio).find? (fun e => e.1.ssrc == rtpSsrc b) with
    | some e => rtpFrom e.2.ssrc b
    | none => b

/-- The frame that stands for no change of a subscriber: later than any. -/
def afterAll : Nat := 2 ^ 64

/-- A recorded packet is offered to the target's subscribers: nominal launch at TIME + SHIFT, FEC as the target is set. One whose check fails is
treated as lost. -/
def Device.replayRecord (r : Replay) (x : JRec) (d : Device) : Device :=
  if x.bad != 0 then d.mismatch x.source x.seq (x.bad == 2)
  else match Tab.find r.target d.out.services with
  | none => d
  | some s =>
    let audio := natBit x.flags 1
    let rtp := replayed (((Tab.find r.source d.out.services).map (·.recd)).getD s.recd) s.recd audio x.payload
    let launch := x.time + r.shift
    let q := if audio then (s, []) else s.fecTake s.recd r.target launch ((d.out.takers r.target afterAll).map (·.1)) rtp
    { d with out := d.out.setSvc r.target q.1 }.copies ⟨r.target, afterAll, launch, rtpSeq rtp, rtp, audio⟩ q.2

/-- A replay's records whose placement window has opened. -/
def Device.feedReplay (slot : Nat) (d : Device) : Device :=
  match Tab.find slot d.journal.replays with
  | none => d
  | some r =>
    let ripe := (d.journal.toReplay r).filter (fun x => x.time + r.shift ≤ d.now + calendarLead && (match r.stopAt with | some s => x.time + r.shift < s | none => true))
    let next := ripe.foldl (fun n x => Nat.max n (x.seq + 1)) r.nextSeq
    let tell := !r.told && r.start ≤ d.now + calendarLead
    let j := { d.journal with replays := Tab.put slot { r with nextSeq := next, told := r.told || tell } d.journal.replays }
    let d1 := { d with journal := if d.modes.throttleIo = 0 then j.readBatches (ripe.map JRec.batch) else j }.raise
      (if tell then [(346, slot)] else [])
    ripe.foldl (fun d x => d.replayRecord r x) d1

/-- Every replay feeds the calendars. -/
def Device.feedReplays (d : Device) : Device := (d.journal.replays.map (·.1)).foldl (fun d k => d.feedReplay k) d

/-- CALENDAR_ENTRY (08 R238; 13 R407). -/
def execCalendarEntry (t : Nat) (port : Fin 32) (s : State) : Host.Outcome State Fault Refusal :=
  .next { s with dev := calendarEntry port (s.dev.at_ t).feedReplays }

end Sys2Proof.Machine
end

