-- ==== Sys2Proof/Machine/Audio.lean ====
section
/-!
DEFINITION. Audio ports, audio sources and the audio cores (chapter 14). Sample values are outside the model; what each channel carries (sound or zeros), the clocks,
the counts and the events are in it.
-/
namespace Sys2Proof.Machine

def Device.aport (n : Nat) (d : Device) : APort := d.audio.port n

def Device.setAport (n : Nat) (x : APort) (d : Device) : Device := { d with audio := { d.audio with ports := Tab.put n x d.audio.ports } }

/-- The rates of R415. -/
def audioRates : List Nat := [32000, 44100, 48000, 88200, 96000, 176400, 192000]

/-- A port's rate: as set, or with RATE_HZ 0 the one measured last (R418). -/
def APort.rate (x : APort) : Nat := if x.recd.rateHz = 0 then x.measured else x.recd.rateHz

/-- The port is to carry sound. -/
def APortRec.sounds (r : APortRec) : Bool := r.enable && !r.mute

/-- The clock is lost, or the port is re-locking. -/
def APort.unlocked (x : APort) : Bool := x.state == 3 || x.state == 4

/-- E416 + n (Table 14.5). -/
def portEvent (n cause : Nat) (x : APort) : Nat × Nat := (416 + n, det2 cause x.measured)

/-! ### Switches (R421, R422) -/

/-- A channel's switch: the one that waits, none where the channel is already as asked. -/
def zcSwitch (on want : Bool) (due : Nat) : Option ZcWait := if on == want then none else some ⟨want, due⟩

/-- Both channels are asked to be as the record says; each switches at a zero crossing. -/
def APort.request (now : Nat) (want : Bool) (x : APort) : APort :=
  let due := now + x.recd.zcMs * 1000 * usec
  { x with waitL := zcSwitch x.leftOn want due, waitR := zcSwitch x.rightOn want due }

/-- No switch waits. -/
def APort.quiet (x : APort) : Bool := x.waitL.isNone && x.waitR.isNone

/-- A port that waits for nothing takes the record that its stop was for, and starts (R431); else STATE is as its channels are. -/
def APort.settle (now : Nat) (x : APort) : APort :=
  if !x.quiet || x.unlocked then x
  else match x.next with
    | some r =>
      let y := { x with recd := r, next := none, measured := if r.master then r.rateHz else x.measured, state := if r.enable then 2 else 0 }
      y.request now r.sounds
    | none => { x with state := if !x.recd.enable then 0 else if x.leftOn && x.rightOn then 1 else 2 }

/-- The port is in the state last requested. -/
def APort.settled (x : APort) : Bool := x.quiet && x.next.isNone && (x.leftOn == x.recd.sounds && x.rightOn == x.recd.sounds)

/-- The AUDIO_PORT_SETs of a port that has reached the state requested are decided (R431). -/
def Device.portDone (n : Nat) (d : Device) : Device :=
  if (d.aport n).settled then
    let mine (w : Work) : Bool := w.op == 0x0A01 && w.ctx.handle == n
    let ws := d.rk.works.filter mine
    ws.foldl (fun d w => d.decideCtx w.ctx stOk 0 none d.now) { d with rk := { d.rk with works := d.rk.works.filter (fun w => !mine w) } }
  else d

/-- After a re-lock, cause 3 tells once both channels carry sound (R420). -/
def Device.portTell (n : Nat) (d : Device) : Device :=
  let x := d.aport n
  if x.retell && x.leftOn && x.rightOn && x.quiet then (d.setAport n { x with retell := false }).raise [portEvent n 3 x] else d

/-- A channel of a port switches. -/
def APort.switch (right : Bool) (x : APort) : APort :=
  if right then match x.waitR with
    | some w => { x with rightOn := w.on, waitR := none }
    | none => x
  else match x.waitL with
    | some w => { x with leftOn := w.on, waitL := none }
    | none => x

/-- What follows a switch: the port settles, its event and its commands' finals come. -/
def Device.portMoved (n : Nat) (x : APort) (d : Device) : Device :=
  ((d.setAport n (x.settle d.now)).portTell n).portDone n

/-- A source's pair takes its new input once both channels have switched. -/
def ASource.switch (pair : Nat) (right : Bool) (x : ASource) : ASource :=
  let ws := x.waits.map (fun w => if w.pair = pair then { w with leftDone := w.leftDone || !right, rightDone := w.rightDone || right } else w)
  { x with
    waits := ws.filter (fun w => !(w.leftDone && w.rightDone))
    pairs := (List.range x.pairs.length).map (fun i => match ws.find? (fun w => w.pair == i && w.leftDone && w.rightDone) with
      | some w => w.into
      | none => x.pairs.getD i ⟨0, 0, 0, false⟩) }

def Device.setSource (n : Nat) (x : ASource) (d : Device) : Device := { d with audio := { d.audio with sources := Tab.put n x d.audio.sources } }

/-- ZERO_CROSSING (R421): a channel of a port, or of a pair of a source, finds its crossing. -/
def zeroCrossing (source : Bool) (n pair : Nat) (right : Bool) (d : Device) : Device :=
  if source then match Tab.find n d.audio.sources with
    | some x => d.setSource n (x.switch pair right)
    | none => d
  else if n < 8 then d.portMoved n ((d.aport n).switch right)
  else d

def execZeroCrossing (t : Nat) (source : Bool) (n : Fin 256) (pair : Fin 4) (right : Bool) (s : State) : Host.Outcome State Fault Refusal :=
  .next { s with dev := zeroCrossing source n pair right (s.dev.at_ t) }

/-- The switch that a channel waits for. -/
def APort.waiting (right : Bool) (x : APort) : Option ZcWait := if right then x.waitR else x.waitL

/-- A timeout is counted on a port, with cause 4. -/
def Device.countTimeout (n : Nat) (d : Device) : Device :=
  let x := d.aport n
  (d.setAport n { x with zcTimeouts := satAdd max64 x.zcTimeouts 1 }).raise [portEvent n 4 x]

/-- The change of a source's pair that waits on a channel. -/
def ASource.waiting (pair : Nat) (right : Bool) (x : ASource) : Option PairWait :=
  x.waits.find? (fun w => w.pair == pair && !(if right then w.rightDone else w.leftDone))

/-- ZC_TIMEOUT (R421): no crossing within ZC_TIMEOUT_MS; the channel switches through a ramp. -/
def zcTimeout (source : Bool) (n pair : Nat) (right : Bool) (d : Device) : Device :=
  if source then match Tab.find n d.audio.sources with
    | some x => match x.waiting pair right with
      | some w =>
        if d.now < w.due then d
        else
          let d1 := d.setSource n (x.switch pair right)
          if w.into.kind = 0 && w.into.input < 8 then d1.countTimeout w.into.input else d1
      | none => d
    | none => d
  else if n < 8 then match (d.aport n).waiting right with
    | some w => if d.now < w.due then d else (d.countTimeout n).portMoved n (((d.countTimeout n).aport n).switch right)
    | none => d
  else d

def execZcTimeout (t : Nat) (source : Bool) (n : Fin 256) (pair : Fin 4) (right : Bool) (s : State) : Host.Outcome State Fault Refusal :=
  .next { s with dev := zcTimeout source n pair right (s.dev.at_ t) }

/-! ### Clock loss and re-lock (R418 to R420, R422) -/

/-- The port loses its clock (R419, R422): both channels carry zeros at once; a stop or mute that waits is complete, a start waits for the re-lock. -/
def APort.lose (x : APort) : APort :=
  let r := x.next.getD x.recd
  { x with
    recd := r, next := none, state := if r.enable then (if r.master then 2 else 3) else 0, leftOn := false, rightOn := false, waitL := none, waitR := none, stable := 0
    retell := r.enable && !r.master, clockLosses := satAdd max64 x.clockLosses 1 }

/-- A start or unmute that waits for the re-lock keeps its command waiting; where the port is as asked its commands are decided. -/
def clockLoss (n : Nat) (rateChange : Bool) (d : Device) : Device :=
  let x := d.aport n
  if x.recd.master || !x.recd.enable || x.state == 3 then d
  else
    let y0 := x.lose
    let y := if y0.recd.master && y0.recd.enable then y0.request d.now y0.recd.sounds else y0
    let d1 := (d.setAport n y).raise [portEvent n (if rateChange then 2 else 1) x]
    (if x.recd.output then d1 else d1.audioInput 0 n true).portDone n

def execAudioClockLoss (t : Nat) (port : Fin 8) (rateChange : Bool) (s : State) : Host.Outcome State Fault Refusal :=
  .next { s with dev := clockLoss port rateChange (s.dev.at_ t) }

/-- A measured rate is one of R415 within ±0.5 %. -/
def rateNear (hz : Nat) : Option Nat := audioRates.find? (fun r => (hz - r + (r - hz)) * 200 ≤ r)

/-- AUDIO_RATE_MEASURED (R420). -/
def rateMeasured (n hz : Nat) (d : Device) : Device :=
  let x := d.aport n
  if x.state != 3 then d
  else
    let y := { x with measured := hz }
    match rateNear hz with
    | some r => if x.recd.rateHz = 0 || x.recd.rateHz = r then d.setAport n { y with state := 4, stable := 0 }
      else (d.setAport n y).raise [portEvent n 7 y]
    | none => (d.setAport n y).raise [portEvent n 7 y]

def execAudioRateMeasured (t : Nat) (port : Fin 8) (hz : Nat) (s : State) : Host.Outcome State Fault Refusal :=
  .next { s with dev := rateMeasured port hz (s.dev.at_ t) }

/-- AUDIO_RELOCK (R420): 64 stable frames; each channel unmutes at its first zero crossing, where the port is not to stay muted. -/
def relock (n : Nat) (d : Device) : Device :=
  let x := d.aport n
  if x.state != 4 then d
  else
    let d1 := d.setAport n (({ x with stable := 64, state := if x.recd.enable then 2 else 0 } : APort).request d.now x.recd.sounds)
    (if x.recd.output then d1 else d1.audioInput 0 n false).portDone n

def execAudioRelock (t : Nat) (port : Fin 8) (s : State) : Host.Outcome State Fault Refusal :=
  .next { s with dev := relock port (s.dev.at_ t) }

/-! ### Alignment (R423, R424) -/

/-- A slave port that frames samples. -/
def APort.slave (x : APort) : Bool := x.recd.enable && !x.recd.master && x.state != 3

/-- FIFO_UNDERRUN and FIFO_OVERRUN (R423): a whole stereo frame is inserted, or dropped. -/
def fifoSlip (n : Nat) (ovr : Bool) (d : Device) : Device :=
  let x := d.aport n
  if !x.slave then d
  else if ovr then
    let tell := oncePerSecond x.lastE6 d.now
    (d.setAport n { x with dropped := satAdd max64 x.dropped 1, lastE6 := if tell then some d.now else x.lastE6 }).raise
      (if tell then [portEvent n 6 x] else [])
  else
    let tell := oncePerSecond x.lastE5 d.now
    (d.setAport n { x with inserted := satAdd max64 x.inserted 1, lastE5 := if tell then some d.now else x.lastE5 }).raise
      (if tell then [portEvent n 5 x] else [])

def execFifoUnderrun (t : Nat) (port : Fin 8) (s : State) : Host.Outcome State Fault Refusal :=
  .next { s with dev := fifoSlip port false (s.dev.at_ t) }

def execFifoOverrun (t : Nat) (port : Fin 8) (s : State) : Host.Outcome State Fault Refusal :=
  .next { s with dev := fifoSlip port true (s.dev.at_ t) }

/-- The pair that an output port sends takes an audio flow. -/
def Device.sendsFlow (n : Nat) (x : APort) (d : Device) : Bool :=
  x.recd.enable && x.recd.output && (match Tab.find x.recd.source d.audio.sources with
    | some s => (match s.pairs[x.recd.pair]? with
      | some p => p.kind == 1 && p.input == n
      | none => false)
    | none => false)

/-- AUDIO_PACKET_MISSING (R424): the flow's next packet is missing when its samples are due, and zeros replace it; output ports that send it count them (R429). -/
def packetMissing (n : Nat) (d : Device) : Device :=
  match d.flow? n with
  | none => d
  | some x => match x.capture with
    | none => d
    | some c =>
      let next := c + x.recd.packetUs * usec
      if !x.recd.enable || !x.recd.isAudio || d.now < next then d
      else
        let frames := x.recd.packetUs * x.recd.rateHz / 1000000
        let d1 := d.setFlow n { x with capture := some next }
        { d1 with audio := { d1.audio with ports := Tab.mapVals (fun _ (y : APort) =>
          if d1.sendsFlow n y then { y with zeroFrames := satAdd max64 y.zeroFrames frames } else y) d1.audio.ports } }.raise [(427, n)]

def execAudioPacketMissing (t : Nat) (flow : Fin 256) (s : State) : Host.Outcome State Fault Refusal :=
  .next { s with dev := packetMissing flow (s.dev.at_ t) }

/-! ### AUDIO_PORT_SET (R415, R422, R429, R431) -/

def parseAPort (c : Ctx) : APortRec :=
  let f := c.p 0 1
  { enable := natBit f 0, master := natBit f 1, output := natBit f 2, mute := natBit f 3, format := c.p 1 1, wordBits := c.p 2 1
    zcMs := if c.p 3 1 = 0 then 10 else c.p 3 1, rateHz := c.p 4 4, source := c.p 8 2, pair := c.p 10 1, delayUs := c.p 12 4 }

/-- A field of Table 14.7 out of range. -/
def APortRec.bad (r : APortRec) : Bool :=
  3 ≤ r.format || ! [16, 20, 24, 32].contains r.wordBits || 50 < r.zcMs
    || (if r.rateHz = 0 then r.master || r.output else !audioRates.contains r.rateHz)
    || (r.output && (256 ≤ r.source || 4 ≤ r.pair || !within 1000 1000000 r.delayUs))

/-- What an output asks of its source (R429). -/
def Device.outputCheck (r : APortRec) (d : Device) : Refused :=
  if !r.output then none
  else match Tab.find r.source d.audio.sources with
    | none => absent true
    | some s => badParam (s.rateHz != r.rateHz || s.pairs.length ≤ r.pair)

/-- The port with a record in force, for the units it would take. -/
def Device.withPort (n : Nat) (r : APortRec) (d : Device) : Device := d.setAport n { d.aport n with recd := r }

/-- What stops a running port (R431). -/
def APortRec.stops (a b : APortRec) : Bool := a.rateHz != b.rateHz || a.master != b.master || a.format != b.format || a.output != b.output

/-- A record on a port in re-lock is applied at once (R422, R431): a change of RATE_HZ, MASTER or FORMAT measures again. -/
def APort.applyUnlocked (r : APortRec) (x : APort) : APort :=
  let again := x.recd.rateHz != r.rateHz || x.recd.master != r.master || x.recd.format != r.format
  { x with
    recd := r, next := none, waitL := none, waitR := none, leftOn := false, rightOn := false
    state := if !r.enable then 0 else if again then 3 else x.state, stable := if again then 0 else x.stable }

/-- A record on a port with its clock: stopped first where the change asks it, else in force at once, and the channels asked to follow. -/
def APort.applyLocked (now : Nat) (r : APortRec) (x : APort) : APort :=
  if x.recd.enable && (x.leftOn || x.rightOn || !x.quiet) && x.recd.stops r then ({ x with next := some r }.request now false).settle now
  else
    let y := { x with recd := r, next := none, measured := if r.master then r.rateHz else x.measured, state := if r.enable && x.state = 0 then 2 else x.state }
    (y.request now r.sounds).settle now

def audioPortSet : CmdSpec where
  op := 0x0A01
  when_ := .done
  reserved := [(11, 1), (16, 24)]
  check c d :=
    let r := parseAPort c
    firstOf [badParam (8 ≤ c.handle || 16 ≤ c.p 0 1 || r.bad), d.outputCheck r, coreFull (!(d.withPort c.handle r).coresFit)]
  apply c d :=
    let n := c.handle
    let r := parseAPort c
    let x := d.aport n
    if x.unlocked && !(x.recd.master != r.master && r.master) then
      Done.ok (d.setAport n (x.applyUnlocked r))
    else
      let x0 : APort := if x.unlocked then { x with state := 2, retell := false } else x
      let d1 := d.setAport n (x0.applyLocked d.now r)
      if (d1.aport n).settled then Done.ok ((d1.portTell n).portDone n) else Done.goesOn (d1.beginWork 0x0A01 c 0 none)

/-! ### AUDIO_SOURCE_SET (R425, R431) -/

def parsePair (c : Ctx) (k : Nat) : Pair := ⟨c.p (8 + 4 * k) 1, c.p (9 + 4 * k) 1, c.p (10 + 4 * k) 2, false⟩

def parsePairs (c : Ctx) : List Pair := (List.range (Nat.min 4 (c.p 0 1))).map (parsePair c)

/-- A pair's input out of range, or one that gives no audio. -/
def Device.pairCheck (p : Pair) (d : Device) : Refused :=
  if 2 ≤ p.kind then badParam true
  else if p.kind = 0 then badParam (8 ≤ p.input || p.first != 0 || (d.aport p.input).recd.output)
  else firstOf [
    badParam (256 ≤ p.input || p.first % 2 != 0),
    absent (d.flow? p.input).isNone,
    badParam (match d.flow? p.input with
      | some x => !x.recd.isAudio || x.recd.channels < p.first + 2
      | none => true)]

/-- The pair's input gives nothing now. -/
def Device.pairLost (p : Pair) (d : Device) : Bool :=
  if p.kind = 0 then (d.aport p.input).unlocked
  else match d.flow? p.input with
    | some x => x.lost || !x.recd.enable
    | none => true

/-- The pair carries zeros now, so that a change of it needs no crossing (R421, R422): its input is lost or muted, or is AES3 data other than linear PCM (R424). -/
def Device.pairSilent (p : Pair) (d : Device) : Bool :=
  p.lost || d.pairLost p || (p.kind == 0 && !(d.aport p.input).leftOn && !(d.aport p.input).rightOn)
    || (p.kind == 1 && ((d.flow? p.input).map (·.unfit)).getD false)

/-- The core for a source (R427): the one it is on where it fits, else the one with fewer units in use. -/
def Device.coreFor (n : Nat) (x : ASource) (d : Device) : Nat :=
  let u := d.audioUnits n x
  let now := (Tab.find n d.audio.sources).map (·.core)
  let least := if d.coreUnits 1 (some n) < d.coreUnits 0 (some n) then 1 else 0
  match now with
  | some k => if d.coreUnits k (some n) + u ≤ 2048 then k else least
  | none => least

/-- The source with its new pairs all in force, on its core. -/
def Device.withSource (n : Nat) (ps : List Pair) (rate : Nat) (d : Device) : Device :=
  let y := { Tab.read d.audio.sources n ASource.reset with pairs := ps, rateHz := rate }
  d.setSource n { y with core := d.coreFor n y }

/-- A service that is enabled names the source. -/
def Device.sourceNamed (n : Nat) (d : Device) : Bool :=
  d.out.services.any (fun e => !e.2.gone && e.2.recd.enable && e.2.recd.audio.any (fun a => a.source == n))

/-- The timeout of a pair's change: that of the new input's port, else 10 ms. -/
def Device.pairDue (p : Pair) (d : Device) : Nat := d.now + (if p.kind = 0 then (d.aport p.input).recd.zcMs else 10) * 1000 * usec

/-- The source takes its new pairs: a changed input at its zero crossings, or at once where there was none or it carries zeros. -/
def Device.changeSource (n : Nat) (ps : List Pair) (rate : Nat) (d : Device) : Device :=
  let d1 := d.withSource n ps rate
  let old := Tab.read d.audio.sources n ASource.reset
  let x := Tab.read d1.audio.sources n ASource.reset
  let fresh (p : Pair) : Pair := { p with lost := d.pairLost p }
  let same (a b : Pair) : Bool := a.kind == b.kind && a.first == b.first && a.input == b.input
  let plan := (List.range ps.length).map (fun i =>
    let p := ps.getD i ⟨0, 0, 0, false⟩
    match old.pairs[i]? with
    | none => (fresh p, none)
    | some o => if same o p then (o, none) else if d.pairSilent o then (fresh p, none) else (o, some (⟨i, fresh p, d.pairDue p, false, false⟩ : PairWait)))
  d1.setSource n { x with pairs := plan.map (·.1), waits := plan.filterMap (·.2) }

def audioSourceSet : CmdSpec where
  op := 0x0A02
  sel := .ift
  when_ := .commit
  reserved := [(1, 3), (24, 16)]
  check c d :=
    let n := c.handle
    if c.p 0 1 = 0 then firstOf [badParam (256 ≤ n), absent (Tab.find n d.audio.sources).isNone, badState (d.sourceNamed n) 0]
    else firstOf ([badParam (256 ≤ n || 4 < c.p 0 1 || !audioRates.contains (c.p 4 4))] ++ (parsePairs c).map (fun p => d.pairCheck p)
      ++ [coreFull (!(d.withSource n (parsePairs c) (c.p 4 4)).coresFit)])
  chan c d := d.sourceChan c.handle
  apply c d :=
    if c.p 0 1 = 0 then Done.ok { d with audio := { d.audio with sources := Tab.del c.handle d.audio.sources } }
    else Done.ok (d.changeSource c.handle (parsePairs c) (c.p 4 4))

/-! ### AUDIO_ENCODER_SET (R428, R431) -/

/-- GAIN_CB, signed. -/
def gainOf (c : Ctx) : Int := if c.p 0 2 < 32768 then (c.p 0 2 : Int) else (c.p 0 2 : Int) - 65536

def audioEncoderSet : CmdSpec where
  op := 0x0A03
  sel := .ift
  when_ := .commit
  reserved := [(3, 1), (8, 32)]
  check c d := firstOf [
    badParam (256 ≤ c.handle || gainOf c < -600 || 200 < gainOf c || ! [0, 16, 20, 24].contains (c.p 2 1) || (c.p 4 4 != 0 && !within 12000 20000 (c.p 4 4))),
    absent (Tab.find c.handle d.audio.sources).isNone]
  chan c d := d.sourceChan c.handle
  apply c d := match Tab.find c.handle d.audio.sources with
    | none => Done.ok d
    | some x => Done.ok (d.setSource c.handle { x with gainCb := gainOf c, pcmBits := if c.p 2 1 = 0 then 24 else c.p 2 1, aacBw := c.p 4 4 })

/-! ### AUDIO_STATUS_GET (Table 14.9) -/

/-- FLAGS in force. -/
def APortRec.flags (r : APortRec) : Nat := bit01 r.enable + 2 * bit01 r.master + 4 * bit01 r.output + 8 * bit01 r.mute

def apRecord (n : Nat) (d : Device) : Bytes :=
  let x := d.aport n
  fields [(1, x.state), (1, x.recd.flags), (2, 0), (4, x.measured), (8, x.clockLosses), (8, x.inserted), (8, x.dropped), (8, x.zcTimeouts), (8, x.zeroFrames), (64, 0)]
    ++ timeWordBytes d.now

def sourceRecord (n : Nat) (x : ASource) (d : Device) : Bytes :=
  fields [(1, x.pairs.length), (1, x.core), (2, d.audioUnits n x), (4, x.rateHz), (8, x.coded), (8, x.late), (8, x.losses), (80, 0)] ++ timeWordBytes d.now

def audioStatusGet : CmdSpec where
  op := 0x0A04
  when_ := .done
  reserved := [(8, 32)]
  check c d := firstOf [
    badParam (8 ≤ c.handle && !within 0x100 0x1FF c.handle || targetBad 128 c d),
    absent (0x100 ≤ c.handle && (Tab.find (c.handle - 0x100) d.audio.sources).isNone),
    targetCheck 128 c d]
  apply c d := match Tab.find (c.handle - 0x100) d.audio.sources with
    | some x => writeRecord (if c.handle < 8 then apRecord c.handle d else sourceRecord (c.handle - 0x100) x d) c d
    | none => writeRecord (apRecord c.handle d) c d

end Sys2Proof.Machine
end

