-- ==== Sys2Proof/Machine/Compose.lean ====
section
/-!
DEFINITION. The compositor and the sealed layer (chapter 4): the commands 0x0301 to 0x0314, flattens, signed blocks, and how a line is
composited at its fill point.
-/
namespace Sys2Proof.Machine

/-! ### Layers (R101 to R115, R132) -/

/-- A layer record of 36 bytes (Table 4.6). -/
def parseLayer (b : Bytes) (o : Nat) : Layer :=
  let u (off n : Nat) : Nat := rdLE b (o + off) n
  { enable := natBit (u 0 1) 0, isStatic := natBit (u 0 1) 1, format := u 1 1, colour := u 2 1, z := u 3 1, surface := u 4 8, pitch := u 12 4,
    srcX := u 16 2, srcY := u 18 2, srcW := u 20 2, srcH := u 22 2, dstX := signedOf 16 (u 24 2), dstY := signedOf 16 (u 26 2), dstW := u 28 2,
    dstH := u 30 2, alpha := u 32 2, decim := u 34 1 }

/-- The reserved bits of a record are set. -/
def layerReserved (b : Bytes) (o : Nat) : Bool := 4 ≤ rdLE b o 1 || rdLE b (o + 35) 1 != 0

/-- The horizontal decimation. -/
def Layer.factor (l : Layer) : Nat := if l.decim = 1 then 2 else if l.decim = 2 then 4 else 1

/-- Bytes of a surface pixel (R102). -/
def Layer.pixelBytes (l : Layer) : Nat := if l.format = 0 then 4 else 8

/-- A field of an enabled layer out of range (Table 4.6, R104). -/
def Layer.bad (l : Layer) : Bool :=
  2 ≤ l.format || 4 ≤ l.colour || !within 1 6 l.z || l.surface % 64 != 0 || l.pitch < l.srcW * l.pixelBytes || !within 1 16384 l.srcW
    || !within 1 16384 l.srcH || !within 1 32767 l.dstW || !within 1 32767 l.dstH || 1023 < l.alpha || 3 ≤ l.decim
    || !inWindow l.surface (l.pitch * (l.srcY + l.srcH)) || 8 * l.srcW < l.dstW || 8 * l.dstW < l.srcW || 8 * l.srcH < l.dstH || 8 * l.dstH < l.srcH
    || (l.decim != 0 && l.srcW < l.dstW * l.factor)

/-- The enabled layers, in ascending Z. -/
def zOrder (t : Tab Layer) : List (Nat × Layer) :=
  (List.range 6).flatMap (fun k => t.filter (fun e => e.2.enable && e.2.z == k + 1))

/-- Two enabled layers share a Z (R105). -/
def zShared (t : Tab Layer) : Bool :=
  (List.range 6).any (fun k => decide (1 < (t.filter (fun e => e.2.enable && e.2.z == k + 1)).length))

/-- The extent of [`at_`, `at_ + n`) within [0, `top`). -/
def clipped (at_ : Int) (n top : Nat) : Nat := (min (at_ + n) (top : Int) - max at_ 0).toNat

/-- A layer's clipped destination area. -/
def Layer.area (l : Layer) (r : ChannelRec) : Nat := clipped l.dstX l.dstW r.width * clipped l.dstY l.dstH r.height

/-- The static layers' areas exceed twice the picture (R111). -/
def areaOver (t : Tab Layer) (r : ChannelRec) : Bool :=
  2 * r.width * r.height < ((t.filter (fun e => e.2.enable && e.2.isStatic)).map (fun e => e.2.area r)).sum

/-- A dynamic layer beyond its line buffer (Table 4.1). -/
def Layer.lineOver (l : Layer) : Bool := if l.dstH = l.srcH then 8192 < l.srcW else 4096 * l.factor < l.srcW

/-- Dynamic layers with vertical scaling. -/
def scaledLayers (t : Tab Layer) : Nat := (t.filter (fun e => e.2.enable && !e.2.isStatic && e.2.dstH != e.2.srcH)).length

/-- The runs of static layers adjacent in Z (R109): each run's layers and its Z. -/
def runsOf : List (Nat × Layer) → List (List Nat × Nat)
  | [] => []
  | [(n, l)] => if l.isStatic then [([n], l.z)] else []
  | (n, l) :: (m, k) :: r =>
    let rest := runsOf ((m, k) :: r)
    if !l.isStatic then rest
    else if k.isStatic then (match rest with
      | (ns, _) :: q => (n :: ns, l.z) :: q
      | [] => [([n], l.z)])
    else ([n], l.z) :: rest

/-- The static part of a configuration: what a flatten composes. -/
def staticPart (t : Tab Layer) : List (Nat × Layer) × List (List Nat × Nat) := (t.filter (fun e => e.2.enable && e.2.isStatic), runsOf (zOrder t))

/-- The configuration that a command gives: COMP_LAYERS_SET's six records, or COMP_LAYER_UPDATE's one. -/
def layersBy (op : Nat) (c : Ctx) (t : Tab Layer) : Tab Layer :=
  if op = 0x0301 then (List.range 6).map (fun k => (k + 1, parseLayer c.block (36 * k)))
  else if op = 0x0302 then Tab.put (c.p 0 1) (parseLayer c.entry 28) t
  else t

/-- The newest configuration of a channel (R113, R115): with everything staged for it and waiting for its flatten. -/
def Device.newestLayers (c : Nat) (d : Device) : Tab Layer :=
  let x := d.compChan c
  let staged := (d.rk.staged.filter (fun s => s.channel == c)).foldl (fun t s => layersBy s.op s.ctx t) x.layers
  match x.flatten with
  | some f => f.waits.foldl (fun t w => layersBy w.1 w.2 t) staged
  | none => staged

/-- The layers that differ between two configurations, as a mask: bit n for layer n. -/
def changedMask (a b : Tab Layer) : Nat :=
  ((List.range 7).map (fun n => if Tab.read a n Layer.off = Tab.read b n Layer.off then 0 else 2 ^ n)).sum

/-- LINEBUF (11 Table 11.12): its detail is the lowest layer that breaks Table 4.1, or 0x0100 where the module-wide limit is. -/
def Device.lineBuffers (c : Nat) (t : Tab Layer) (d : Device) : Refused :=
  match (List.range 7).find? (fun n => let l := Tab.read t n Layer.off; l.enable && !l.isStatic && l.lineOver) with
  | some n => some (stLinebuf, n)
  | none =>
    if 32 < scaledLayers t + ((d.comp.chans.filter (fun e => e.1 != c)).map (fun e => scaledLayers (d.newestLayers e.1))).sum then some (stLinebuf, 0x0100)
    else none

/-- R115's checks of a resulting configuration. -/
def Device.layersCheck (c : Nat) (t : Tab Layer) (d : Device) : Refused :=
  firstOf [
    badParam ((t.filter (fun e => e.2.enable)).any (fun e => e.2.bad) || zShared t || areaOver t (d.chan c).recd),
    d.lineBuffers c t]

/-- A configuration comes into force (R33): earlier frames keep theirs. -/
def Device.setLayers (c : Nat) (t : Tab Layer) (tag : Nat) (d : Device) : Device :=
  let x := d.compChan c
  let ch := d.chan c
  let m := changedMask x.layers t
  let d1 := d.setComp c { x with layers := t, was := if ch.running then keepWas ch.committed x.layers x.was else [] }
  if m = 0 then d1 else d1.asRun c 12 tag (d.frameNow c) m

/-- A command changes what a flatten composes (R112, R132). -/
def Device.flattens (op : Nat) (c : Ctx) (d : Device) : Bool :=
  let t := d.newestLayers c.handle
  staticPart t != staticPart (layersBy op c t)

def compLayersSet : CmdSpec where
  op := 0x0301
  block := some (fun _ => 216)
  sel := .ift
  when_ := .commit
  check c d := firstOf [
    badParam (64 ≤ c.handle || (List.range 6).any (fun k => layerReserved c.block (36 * k))),
    absent (!d.hasChan c.handle),
    d.layersCheck c.handle (layersBy 0x0301 c (d.newestLayers c.handle))]
  chan c d := d.liveOnly c.handle
  flat c d := d.flattens 0x0301 c
  apply c d := Done.ok (d.setLayers c.handle (layersBy 0x0301 c (d.compChan c.handle).layers) c.tag)

def compLayerUpdate : CmdSpec where
  op := 0x0302
  sel := .ift
  when_ := .commit
  reserved := [(1, 3), (39, 1)]
  check c d := firstOf [
    sealed (c.p 0 1 == 7),
    badParam (64 ≤ c.handle || !within 1 6 (c.p 0 1) || layerReserved c.entry 28),
    absent (!d.hasChan c.handle),
    d.layersCheck c.handle (layersBy 0x0302 c (d.newestLayers c.handle))]
  chan c d := d.liveOnly c.handle
  flat c d := d.flattens 0x0302 c
  apply c d := Done.ok (d.setLayers c.handle (layersBy 0x0302 c (d.compChan c.handle).layers) c.tag)

/-- COMP_REFLATTEN (R108): the static layers are read again. -/
def compReflatten : CmdSpec where
  op := 0x0303
  sel := .ift
  when_ := .commit
  reserved := [(0, 40)]
  check c d := firstOf [badParam (64 ≤ c.handle), absent (!d.hasChan c.handle)]
  chan c d := d.liveOnly c.handle
  flat c d := !(runsOf (zOrder (d.newestLayers c.handle))).isEmpty
  apply _ d := Done.ok d

/-! ### Drawing a layer (R102 to R104) -/

/-- The lines of a surface that a picture line reads (R104): one without vertical scaling, else the four of the vertical filter. -/
def Layer.sourceLines (l : Layer) (y : Nat) : List Nat × Nat :=
  let k := ((y : Int) - l.dstY).toNat
  if l.dstH = l.srcH then ([l.srcY + k], 0)
  else
    let p := phaseOf l.srcH l.dstH k
    ((window l.srcH 4 p.1).map (l.srcY + ·), p.2)

/-- A layer covers part of a picture line. -/
def Layer.covers (l : Layer) (r : ChannelRec) (y : Nat) : Bool :=
  l.dstY ≤ (y : Int) && (y : Int) < l.dstY + l.dstH && 0 < clipped l.dstX l.dstW r.width

/-- Where a line of the surface begins that a layer reads. -/
def Layer.lineAt (l : Layer) (k : Nat) : Nat := l.surface + l.pitch * k + l.srcX * l.pixelBytes

/-- The surface bytes that a line reads return poison (R119). -/
def Device.surfacePoison (l : Layer) (y : Nat) (d : Device) : Bool :=
  (l.sourceLines y).1.any (fun k => d.poisoned (l.lineAt k) (l.srcW * l.pixelBytes))

/-- Pixels from column `x` on, in a picture line of `w`; nothing else is there. -/
def placed (w : Nat) (x : Int) (l : List Over) : List Over :=
  (List.range w).map (fun (i : Nat) => if x ≤ i then l.getD ((i : Int) - x).toNat .clear else .clear)

/-- A layer's pixels in a picture line that it covers: decimated, filtered in its line buffers, then across (assumption 220), and converted. -/
def Device.layerLine (l : Layer) (r : ChannelRec) (y : Nat) (d : Device) : List Over :=
  let s := l.sourceLines y
  let row (k : Nat) : List Rgba := decimate l.factor (surfaceLine l.format l.srcW (d.readAt (l.lineAt k) (l.srcW * l.pixelBytes)))
  placed r.width l.dstX ((stretch l.dstW (stacked s.2 (s.1.map row))).map (Rgba.over l.alpha (ColourSpace.ofTag l.colour) r.space))

/-! ### Flattens (R109 to R113, R119) -/

/-- The entries of the flat-cache directory (R110). -/
def directoryEntries : Nat := 131072

def planeEntries (ps : List FlatPlane) : Nat := (ps.map (·.entries)).sum

/-- The entries in use: planes in force, those that earlier frames still show, and those ready to land. -/
def Comp.entries (x : Comp) : Nat :=
  planeEntries x.planes + (x.planesWas.map (fun e => planeEntries e.2)).sum + (x.ready.map (fun e => planeEntries e.2.1)).sum

def Device.freeEntries (d : Device) : Nat := directoryEntries - (d.comp.chans.map (fun e => e.2.entries)).sum

/-- A line of a flat plane: its layers, one on the other, at 10 bits (R109). A line of a surface that reads as poison is left out (assumption 221). -/
def Device.flatLine (r : ChannelRec) (t : Tab Layer) (ns : List Nat) (y : Nat) (d : Device) : List PlanePix :=
  (ns.foldl (fun g n =>
    let l := Tab.read t n Layer.off
    if l.covers r y && !d.surfacePoison l y then List.zipWith Over.both (d.layerLine l r y) g else g)
    (List.replicate r.width Over.clear)).map Over.store

/-- The planes of a configuration, one for each run (R109): the tiles in which a pixel has alpha above 0, with an entry each. -/
def Device.planesOf (c : Nat) (t : Tab Layer) (d : Device) : List FlatPlane :=
  let r := (d.chan c).recd
  (runsOf (zOrder t)).map (fun run =>
    let tiles := tilesOf r.width r.height ((List.range r.height).map (fun y => d.flatLine r t run.1 y))
    ⟨run.1, run.2, tiles.length, tiles, none⟩)

/-- The planes come into force: E387 where they replace planes lost with a group (R119). -/
def Device.setPlanes (c : Nat) (ps : List FlatPlane) (rebuilt : Bool) (d : Device) : Device :=
  let x := d.compChan c
  let ch := d.chan c
  let old := if x.planesLost then x.planes.map (fun p => { p with poisonFrom := some (p.poisonFrom.getD 0) }) else x.planes
  (d.setComp c { x with planes := ps, planesLost := false, planesWas := if ch.running then keepWas ch.committed old x.planesWas else [] }).raise
    (if rebuilt then [(387, c)] else [])

/-- The flatten that follows one which built planes again: that of the commands taken meanwhile. -/
def Flatten.next (now : Nat) (f : Flatten) : Option Flatten := if f.rebuild && f.again then some ⟨f.gen + 1, now, false, false, f.waits⟩ else none

/-- A flatten is over. -/
def Device.endFlatten (c : Nat) (f : Flatten) (d : Device) : Device :=
  let x := d.compChan c
  d.setComp c { x with flatten := f.next d.now, flatGen := Nat.max x.flatGen (((f.next d.now).map (·.gen)).getD 0) }

/-- A flatten that finds no room (R110): the commands that wait for it fail, with E385. -/
def Device.flattenFails (c : Nat) (f : Flatten) (d : Device) : Device :=
  let mine := d.rk.staged.filter (fun s => s.channel == c && s.flat == some f.gen)
  let d1 := { d with rk := { d.rk with staged := d.rk.staged.filter (fun s => !(s.channel == c && s.flat == some f.gen)) } }
  let waits := if (f.next d.now).isSome then [] else f.waits
  (mine.map (·.ctx) ++ waits.map (·.2)).foldl (fun d x => d.decideCtx x stNoBeads 0x0302 none d.now) ((d1.endFlatten c f).raise [(385, c)])

/-- The commands of a channel that was not live and waited for flatten `g` take effect. -/
def Device.landWaits (c g : Nat) (ws : List (Nat × Ctx)) (d : Device) : Device :=
  ws.foldl (fun d w =>
    if (d.chan c).running then d.stage w.1 w.2 c ((d.chan c).firstOpen d.now) (some g)
    else (d.setLayers c (layersBy w.1 w.2 (d.compChan c).layers) w.2.tag).decideCtx w.2 stOk 0 none d.now) d

/-- What a flatten composes: the newest configuration (R113), or that in force where it builds planes again (R119); a channel that runs bare has no home for
planes. -/
def Device.flattened (c : Nat) (f : Flatten) (d : Device) : List FlatPlane :=
  if d.bare c then [] else d.planesOf c (if f.rebuild then (d.compChan c).layers else d.newestLayers c)

/-- A finished flatten's planes are ready, and the commands that waited for it alone take effect with them. -/
def Device.flattenFits (c : Nat) (f : Flatten) (ps : List FlatPlane) (d : Device) : Device :=
  let x := d.compChan c
  let d1 := (d.setComp c (if (d.chan c).running then { x with ready := x.ready ++ [(f.gen, ps, f.rebuild)] } else x)).endFlatten c f
  let d2 := if (f.next d.now).isSome then d1 else d1.landWaits c f.gen f.waits
  if (d.chan c).running then d2 else d2.setPlanes c ps f.rebuild

/-- FLATTEN_DONE: with a later command it starts again (R113); while the flattener is shed it waits (18 R500). -/
def flattenDone (c : Nat) (d : Device) : Device :=
  let x := d.compChan c
  match x.flatten with
  | none => d
  | some f =>
    if 3 ≤ d.phys.shed then d
    else if f.again && !f.rebuild then d.setComp c { x with flatten := some { f with again := false, began := d.now } }
    else
      let ps := d.flattened c f
      if d.freeEntries < planeEntries ps then d.flattenFails c f else d.flattenFits c f ps

def execFlattenDone (t : Nat) (channel : Fin 64) (_planes : Unit) (s : State) : Host.Outcome State Fault Refusal :=
  .next { s with dev := flattenDone channel (s.dev.at_ t) }

/-- A staged command still waits for its flatten (R112). -/
def Device.flatWaits (s : Staged) (d : Device) : Bool := match s.flat, (d.compChan s.channel).flatten with
  | some g, some f => f.gen ≤ g
  | _, _ => false

/-- Ready planes may land: no command that asked for them, or for earlier ones, is still staged (R112). Planes built again wait for none. -/
def Device.mayLand (c : Nat) (d : Device) (e : Nat × List FlatPlane × Bool) : Bool :=
  e.2.2 || !d.rk.staged.any (fun s => s.channel == c && (match s.flat with | some h => Nat.ble h e.1 | none => false))

/-- The planes that are ready land with the commands that asked for them (R112), after these at a commit point. -/
def Device.landPlanes (c : Nat) (d : Device) : Device :=
  let x := d.compChan c
  let due := x.ready.filter (d.mayLand c)
  match due.getLast? with
  | none => d
  | some e => (d.setComp c { x with ready := x.ready.filter (fun q => !d.mayLand c q) }).setPlanes c e.2.1 (due.any (·.2.2))

/-- The planes of a channel lie in a group that is lost, or the channel has a home again (R119): finished planes that have not landed are lost too, those in force
are built again, and then what later commands asked for. A channel that runs bare has no place for planes. -/
def Device.rebuildPlanes (c : Nat) (d : Device) : Device :=
  let x := d.compChan c
  let mine (s : Staged) : Bool := s.channel == c && s.flat.isSome
  let waits := (x.flatten.map (·.waits)).getD []
  let later := d.rk.staged.any mine || !waits.isEmpty
  let again := !(runsOf (zOrder x.layers)).isEmpty
  let g := x.flatGen + 1
  if d.bare c || !(again || later) then d.setComp c { x with ready := [] }
  else
    { d with rk := { d.rk with staged := d.rk.staged.map (fun s => if mine s then { s with flat := some (g + bit01 again) } else s) } }.setComp c
      { x with ready := [], flatGen := g, flatten := some ⟨g, d.now, again && later, again, waits⟩ }

/-- The planes of a channel are lost (R119). -/
def Device.losePlanes (c : Nat) (d : Device) : Device :=
  let x := d.compChan c
  (d.setComp c { x with planesLost := x.planesLost || !x.planes.isEmpty }).rebuildPlanes c

/-! ### Confidence outputs (R120 to R122) -/

def parseConf (c : Ctx) : Confidence := ⟨c.p 0 1, c.p 1 1, c.p 2 2, c.p 8 8⟩

/-- The ring starts anew: it is a proxy ring that lies elsewhere, or has other slots. -/
def Confidence.moves (a b : Confidence) : Bool := b.mode == 1 && !(a.mode == 1 && a.slots == b.slots && a.ringOffset == b.ringOffset)

/-- COMP_CONFIDENCE_SET's effect: frames before the change keep the old record and ring (R33, R162). -/
def Device.setConf (c : Nat) (r : Confidence) (d : Device) : Device :=
  let x := d.compChan c
  let ch := d.chan c
  let moves := x.conf.moves r
  let splits := ch.running && (moves || x.conf.mode != r.mode || (r.mode == 2 && x.conf.outHandle != r.outHandle))
  let d1 := d.setComp c { x with
    conf := r
    prior := if splits then
        (x.prior ++ [(ch.committed, x.conf, x.proxy)]).map (fun q =>
          (q.1, q.2.1, if moves then q.2.2.held d.mem q.2.1.ringOffset r.ringOffset else q.2.2))
      else x.prior
    proxy := if moves then { RingAcct.reset with dropped := x.proxy.dropped } else x.proxy }
  if moves then d1.zeroIndices r.ringOffset else d1

def compConfidenceSet : CmdSpec where
  op := 0x0304
  sel := .ift
  when_ := .commit
  reserved := [(4, 4), (16, 24)]
  check c d :=
    let r := parseConf c
    let ext := (r.ringOffset, proxyRingBytes (d.chan c.handle).recd r)
    firstOf [
      badParam (64 ≤ c.handle || 3 ≤ r.mode || (r.mode == 1 && (!within 2 16 r.slots || r.ringOffset % 4096 != 0)) || (r.mode == 2 && 64 ≤ r.outHandle)),
      absent (!d.hasChan c.handle),
      absent (r.mode == 2 && (Tab.find r.outHandle d.out.progs).isNone),
      badParam (r.mode == 1 && (!inWindow ext.1 ext.2 || d.ringOverlap (128 + c.handle) ext)),
      (match r.mode == 2, Tab.find r.outHandle d.out.progs with
        | true, some o => if o.enable then
            let d' := d.setComp c.handle { d.compChan c.handle with conf := r }
            firstOf (o.ports.map (fun p => d'.portFull p)) else none
        | _, _ => none)]
  chan c d := d.liveOnly c.handle
  apply c d := Done.ok (d.setConf c.handle (parseConf c))

/-! ### Signed blocks (R124 to R130) -/

/-- The security core restarts: BUSY with the time that remains, in µs (R130). -/
def Device.securityBusy (d : Device) : Refused := if d.link.secUp then none else some (stBusy, Nat.min (ceilDiv (d.link.secRestartEnd - d.now) usec) (2 ^ 32 - 1))

/-- A block waits at the security core. -/
def Device.addJob (op : Nat) (c : Ctx) (d : Device) : Device := { d with comp := { d.comp with jobs := d.comp.jobs ++ [⟨op, c⟩] } }

/-- SEAL_KEY_REGISTER and SEAL_KEY_REVOKE share one block. -/
def sealKeySpec (op : Nat) (rs : List (Nat × Nat)) : CmdSpec where
  op := op
  block := some (fun _ => 224)
  when_ := .done
  reserved := rs
  check c d := firstOf [badParam (c.b 0 2 != 1 || 8 ≤ c.b 2 1 || c.handle != c.b 2 1), d.securityBusy]
  apply c d := Done.goesOn (d.addJob op c)

def sealKeyRegister : CmdSpec := sealKeySpec 0x0310 [(3, 5), (120, 8)]

def sealKeyRevoke : CmdSpec := sealKeySpec 0x0311 [(3, 5), (24, 104)]

/-- An asset's bytes in the sealed store. -/
def Asset.bytes (a : Asset) : Nat := a.width * a.height * 8 * a.images

/-- An activation that shows the asset has not ended (R126). -/
def Device.assetActive (n : Nat) (d : Device) : Bool :=
  d.comp.acts.any (fun a => a.asset == n && d.now < a.winEnd && (List.range 64).any (fun c => natBit a.mask c && !(Tab.read a.chans c ActChan.reset).ended))

/-- The asset of a SEAL_ASSET_LOAD block (Table 4.10), with its two groups. -/
def assetOf (c : Ctx) (groupA groupB : Nat) : Asset :=
  let a : Asset := ⟨c.b 4 2, c.b 6 2, c.b 3 1, c.b 16 2, groupA, groupB, []⟩
  { a with pixels := (c.block.drop 64).take a.bytes }

/-- The sealed store has no room for an asset beside the others (R126). -/
def Device.storeFull (n : Nat) (a : Asset) (d : Device) : Refused :=
  if 2 ^ 30 < ((d.comp.assets.filter (fun e => e.1 != n)).map (fun e => e.2.bytes)).sum + a.bytes then some (stNoBeads, 0x0304) else none

def sealAssetLoad : CmdSpec where
  op := 0x0312
  block := some (fun b => 160 + rdLE b 32 8)
  when_ := .done
  reserved := [(18, 6), (40, 24)]
  check c d :=
    let a := assetOf c 0 0
    firstOf [
      badParam (256 ≤ c.handle || c.b 0 2 != 1 || 8 ≤ c.b 2 1 || 4 ≤ c.b 3 1 || !within 1 7680 a.width || !within 1 4320 a.height || !within 1 4096 a.images
        || c.b 32 8 != a.bytes),
      d.securityBusy,
      sealed (d.assetActive c.handle),
      d.storeFull c.handle a]
  apply c d := Done.goesOn (d.addJob 0x0312 c)

def sealActivate : CmdSpec where
  op := 0x0313
  block := some (fun _ => 224)
  when_ := .done
  cr0 := true
  held := true
  reserved := [(6, 2), (72, 56)]
  check c d := firstOf [
    badParam (c.handle != 0 || c.b 0 2 != 1 || 8 ≤ c.b 2 1 || 3 ≤ c.b 3 1 || 256 ≤ c.b 4 2 || c.b 16 8 == 0 || !timeWordOk c.block 24 || !timeWordOk c.block 40
      || timeOfWord c.block 40 ≤ timeOfWord c.block 24 || (c.b 3 1 == 2 && !within 1 7680 (c.b 62 2))),
    d.securityBusy]
  apply c d := Done.goesOn (d.addJob 0x0313 c)

def sealClear : CmdSpec where
  op := 0x0314
  block := some (fun _ => 224)
  when_ := .done
  cr0 := true
  held := true
  reserved := [(3, 5), (48, 80)]
  check c d := firstOf [badParam (c.handle != 0 || c.b 0 2 != 1 || 8 ≤ c.b 2 1 || !timeWordOk c.block 24), d.securityBusy]
  apply c d := Done.goesOn (d.addJob 0x0314 c)

/-- SEQ, and where each block carries MODULE_SERIAL. -/
def blockSeq (c : Ctx) : Nat := c.b 8 8
def blockSerial (op : Nat) (c : Ctx) : Nat := if op = 0x0313 then c.b 64 8 else if op = 0x0314 then c.b 40 8 else if op = 0x0312 then c.b 24 8 else c.b 16 8

/-- The channels of a mask, in ascending order. -/
def maskChans (m : Nat) : List Nat := (List.range 64).filter (natBit m)

/-- The channel mask of a block: none for keys and assets. -/
def blockMask (op : Nat) (c : Ctx) : Nat := if op = 0x0313 || op = 0x0314 then c.b 16 8 else 0

/-- A block's signature holds (R124, R125): the last 96 bytes, over every byte before them. -/
def Ctx.signedBy (key : Bytes) (c : Ctx) : Bool := let n := c.block.length - 96; ecdsaVerifies key (c.block.take n) (c.block.drop n)

/-- Why the security core refuses a block (R125, Table 4.2): none where it accepts. -/
def Device.blockRefusal (op : Nat) (c : Ctx) (d : Device) : Option Nat :=
  let owner := op < 0x0312
  let key := Tab.find (c.b 2 1) d.comp.keys
  let last := if owner then d.comp.ownerSeq else (key.map (·.seq)).getD 0
  let asset := Tab.find (c.b 4 2) d.comp.assets
  let large := match asset with
    | none => true
    | some a => (maskChans (c.b 16 8)).any (fun k => d.hasChan k && ((d.chan k).recd.width < a.width || (d.chan k).recd.height < a.height))
  if !owner && key.isNone then some 0x0313
  else if !c.signedBy (if owner then d.serv.ownerKey else (key.map (·.pub)).getD []) then some 0x0310
  else if blockSeq c ≤ last then some 0x0311
  else if blockSerial op c != d.link.ident.serial then some 0x0312
  else if op = 0x0313 && timeOfWord c.block 40 ≤ d.now then some 0x0314
  else if op = 0x0313 && large then some 0x0315
  else none

/-- What has changed since a block was taken, so that an asset's load fails and changes nothing (R126, R129): the asset is active, or the store is full. -/
def Device.loadRefusal (op : Nat) (c : Ctx) (d : Device) : Refused :=
  if op = 0x0312 then firstOf [sealed (d.assetActive c.handle), d.storeFull c.handle (assetOf c 0 0)] else none

/-- The SEQ of an accepted block is recorded (R125). -/
def Device.recordSeq (op : Nat) (c : Ctx) (d : Device) : Device :=
  if op < 0x0312 then { d with comp := { d.comp with ownerSeq := blockSeq c } }
  else match Tab.find (c.b 2 1) d.comp.keys with
    | none => d
    | some k => { d with comp := { d.comp with keys := Tab.put (c.b 2 1) { k with seq := blockSeq c } d.comp.keys } }

/-- The final of an accepted activation or clear (R337): at the next commit point of the lowest-numbered live channel of its mask, or at once where none is
live. `eff` is the moment from which it holds, `asked` the time it named. -/
def Device.sealFinal (c : Ctx) (mask eff asked : Nat) (moves : Bool) (d : Device) : Device :=
  match d.lowestLive (maskChans mask) with
  | none => d.decideCtx c stOk 0 none d.now
  | some k =>
    let x := d.chan k
    let f := x.frameAt eff
    let g := x.frameAt asked
    let late := moves && g < f
    let w : SealWait := ⟨k, c, if late then stStartedAt else stOk, if late then usMoved (x.tickOf g) (x.tickOf f) else 0, f, x.tickOf f⟩
    { d with comp := { d.comp with waits := d.comp.waits ++ [w] } }.accept c.origin (some f) (x.tickOf f)

/-- An accepted block takes effect. E393 names no channel, 0xFFFF stands in its place; a key that is not registered may be revoked (assumption 222). -/
def Device.acceptBlock (op : Nat) (c : Ctx) (d0 : Device) : Device :=
  let d := d0.recordSeq op c
  let x := d.comp
  if op = 0x0310 then
    ({ d with comp := { x with keys := Tab.put (c.b 2 1) ⟨(c.block.drop 24).take 96, 0⟩ x.keys } }.raise [(393, det2 0xFFFF (c.b 2 1))]).decideCtx c stOk 0 none d.now
  else if op = 0x0311 then
    ({ d with comp := { x with keys := Tab.del (c.b 2 1) x.keys } }.raise [(393, det2 0xFFFF (c.b 2 1))]).decideCtx c stOk 0 none d.now
  else if op = 0x0312 then
    let g := d.twoGroups
    { d with comp := { x with assets := Tab.put c.handle (assetOf c g.a g.b) x.assets } }.decideCtx c stOk 0 none d.now
  else if op = 0x0313 then
    let a : Activation :=
      { accepted := d.now, asset := c.b 4 2, key := c.b 2 1, mode := c.b 3 1, mask := c.b 16 8, winStart := timeOfWord c.block 24,
        winEnd := timeOfWord c.block 40, dstX := signedOf 16 (c.b 56 2), dstY := signedOf 16 (c.b 58 2), speed := signedOf 16 (c.b 60 2),
        crawlWidth := c.b 62 2, chans := [] }
    { d with comp := { x with acts := x.acts ++ [a] } }.sealFinal c a.mask a.earliest a.winStart true
  else
    let eff := timeOfWord c.block 24
    let t := Nat.max eff (d.now + commitLead + 1)
    let cut (a : Activation) : Activation := { a with chans := (maskChans (c.b 16 8)).foldl (fun m k =>
      Tab.upd m k ActChan.reset (fun y => { y with clearFrom := some (match y.clearFrom with | some u => Nat.min u t | none => t) })) a.chans }
    { d with comp := { x with acts := x.acts.map cut, clears := x.clears ++ (maskChans (c.b 16 8)).map (fun k => (k, t)) } }.sealFinal c (c.b 16 8) t eff false

/-- SEAL_BLOCK_VERIFIED (R125): the security core has checked the oldest block. -/
def sealBlockVerified (d : Device) : Device :=
  match d.comp.jobs with
  | [] => d
  | j :: r =>
    let d1 := { d with comp := { d.comp with jobs := r } }
    if !d.link.secUp then d
    else match d1.blockRefusal j.op j.ctx with
      | some k => (d1.raise [(392, det2 ((maskChans (blockMask j.op j.ctx)).headD 0xFFFF) (j.ctx.b 2 1))]).decideCtx j.ctx stBadParam k none d1.now
      | none => match d1.loadRefusal j.op j.ctx with
        | some (st, k) => d1.decideCtx j.ctx st k none d1.now
        | none => d1.acceptBlock j.op j.ctx

def execSealBlockVerified (t : Nat) (_checked : Unit) (s : State) : Host.Outcome State Fault Refusal :=
  .next { s with dev := sealBlockVerified (s.dev.at_ t) }

/-- The finals that wait for a commit point of channel `c` are decided (R337). -/
def Device.sealCommit (c : Nat) (d : Device) : Device :=
  let mine := d.comp.waits.filter (fun w => w.channel == c)
  mine.foldl (fun d w => d.decideCtx w.ctx w.status w.detail (some w.frame) w.eff)
    { d with comp := { d.comp with waits := d.comp.waits.filter (fun w => w.channel != c) } }

/-- What a tick does to an activation on a channel (R127, R128): it starts, its window ends, or a clear ends it. -/
def Activation.tick (c f tick : Nat) (a : Activation) : Activation × List (Nat × Nat) × List (Nat × Nat) :=
  let x := Tab.read a.chans c ActChan.reset
  let cleared := match x.clearFrom with | some t => Nat.ble t tick | none => false
  let d := det2 a.asset a.key
  if !natBit a.mask c || x.ended then (a, [], [])
  else if a.winEnd ≤ tick then ({ a with chans := Tab.put c { x with ended := true } a.chans }, [(390, c)], [(8, d)])
  else if cleared then ({ a with chans := Tab.put c { x with ended := true } a.chans }, [], [(8, d)])
  else if a.governs c tick && x.started.isNone then ({ a with chans := Tab.put c { x with started := some f } a.chans }, [(388, c)], [(7, d)])
  else (a, [], [])

/-- The seal stage at a frame's tick: windows and clears are compared with Beam time (R127, R128), E388 to E390. -/
def Device.sealTick (c f tick : Nat) (d : Device) : Device :=
  let rs := d.comp.acts.map (fun a => a.tick c f tick)
  let due := d.comp.clears.filter (fun e => e.1 == c && Nat.ble e.2 tick)
  let left := rs.map (·.1) |>.filter (fun a => (maskChans a.mask).any (fun k => !(Tab.read a.chans k ActChan.reset).ended))
  let d1 := { d with comp := { d.comp with acts := left, clears := d.comp.clears.filter (fun e => !(e.1 == c && Nat.ble e.2 tick)) } }
  let d2 := (rs.flatMap (fun r => r.2.2)).foldl (fun d e => d.asRun c e.1 0 f e.2) d1
  d2.raise (rs.flatMap (fun r => r.2.1) ++ due.map (fun _ => (389, c)))

/-! ### Compositing a line -/

/-- The group that a channel's planes lie in holds its contents. -/
def Device.flatUp (c : Nat) (d : Device) : Bool := !(d.compChan c).planesLost

/-- The image and horizontal place at which an activation is drawn in frame `f` (R127). -/
def Activation.place (a : Activation) (c f : Nat) (x : Asset) : Nat × Int :=
  let k := f - ((Tab.read a.chans c ActChan.reset).started.getD f)
  if a.mode = 0 then (k % x.images, a.dstX)
  else if a.mode = 1 then (Nat.min k (x.images - 1), a.dstX)
  else
    let cycle : Int := (a.crawlWidth + x.width : Nat)
    let m : Int := (a.speed.natAbs * k / 16 : Nat)
    (0, if a.speed < 0 then a.dstX + a.crawlWidth - m % cycle else a.dstX - x.width + m % cycle)

/-- The asset's second copy is read where the first is lost (R126): E391 once, and a new second copy is made. -/
def Device.readAsset (c n : Nat) (d : Device) : Device :=
  match Tab.find n d.comp.assets with
  | none => d
  | some a =>
    if d.groupUp a.groupA then d
    else
      let other := (d.groupsUp.filter (· != a.groupB)).headD a.groupB
      { d with comp := { d.comp with assets := Tab.put n { a with groupA := a.groupB, groupB := other } d.comp.assets } }.raise [(391, det2 c n)]

/-- A line as its graphics are drawn over it: those drawn so far, from bottom to top, the dynamic layers that a poisoned read makes transparent, whether E386 is
to be told, and the picture. -/
structure Drawn where
  layers : List Nat
  lost : List Nat
  tell : Bool
  line : List Ycc
  deriving DecidableEq, Repr

/-- One layer of frame `f`, the next in ascending Z, is drawn over line `y` (R101, R103, R119): a static one as part of its plane, which is blended where its
lowest layer stands. -/
def Device.drawLayer (c f y : Nat) (d : Device) (g : Drawn) (e : Nat × Layer) : Drawn :=
  let x := d.compChan c
  let r := (d.chan c).recd
  let up := d.flatUp c
  if e.2.isStatic then
    match (recAt x.planesWas x.planes f).find? (fun p => p.layers.contains e.1) with
    | none => g
    | some p =>
      if d.bare c then g
      else if p.poisonFrom.isSome || !up then { g with tell := g.tell || !up }
      else { g with
        layers := g.layers ++ [e.1]
        line := if p.layers.head? = some e.1 then blendLine (planeLine r.width y p.tiles) g.line else g.line }
  else if !e.2.covers r y then g
  else if d.surfacePoison e.2 y then { g with lost := g.lost ++ [e.1], tell := true }
  else { g with layers := g.layers ++ [e.1], line := blendLine (d.layerLine e.2 r y) g.line }

/-- The graphics of frame `f` drawn over line `y`, in ascending Z. -/
def Device.drawLayers (c f y : Nat) (video : VLine) (d : Device) : Drawn :=
  (zOrder (recAt (d.compChan c).was (d.compChan c).layers f)).foldl (d.drawLayer c f y) ⟨[], [], false, blendStart video⟩

/-- What L7 draws on a line (R127): asset, image, horizontal place, and the columns it fills: those of the image that lie in the picture and, for a crawl, in its
band. -/
structure SealLine where
  asset : Nat
  image : Nat
  place : Int
  from_ : Int
  upTo : Int
  deriving DecidableEq, Repr

/-- The part of a line that an activation fills in frame `f`; none where it does not reach the line. -/
def Device.sealLine (c f y : Nat) (a : Activation) (d : Device) : Option SealLine :=
  match Tab.find a.asset d.comp.assets with
  | none => none
  | some s =>
    let p := a.place c f s
    let band : Int × Int := if a.mode = 2 then (a.dstX, a.dstX + a.crawlWidth) else (p.2, p.2 + s.width)
    let lo := max 0 (max p.2 band.1)
    let hi := min ((d.chan c).recd.width : Int) (min (p.2 + s.width) band.2)
    if a.dstY ≤ (y : Int) && (y : Int) < a.dstY + s.height && lo < hi then some ⟨a.asset, p.1, p.2, lo, hi⟩ else none

/-- An asset's line drawn over the picture (R123, R126). -/
def Asset.drawn (s : Asset) (z : SealLine) (row : Nat) (r : ChannelRec) (line : List Ycc) : List Ycc :=
  let pix := (surfaceLine 1 s.width ((s.pixels.drop (8 * s.width * (z.image * s.height + row))).take (8 * s.width))).map (Rgba.over 1023 (ColourSpace.ofTag s.colour) r.space)
  blendLine ((placed r.width z.place pix).zipIdx.map (fun e => if z.from_ ≤ (e.2 : Int) && (e.2 : Int) < z.upTo then e.1 else .clear)) line

/-- The seal stage (R123): L7 on top of everything. -/
def Device.drawSeal (c y : Nat) (a : Option Activation) (z : Option SealLine) (line : List Ycc) (d : Device) : List Ycc :=
  match a, z with
  | some a, some z => match Tab.find z.asset d.comp.assets with
    | none => line
    | some s => s.drawn z ((y : Int) - a.dstY).toNat (d.chan c).recd line
  | _, _ => line

/-! ### The renditions' lines (R116, R118) -/

/-- The lines of the channel that line `k` of a picture of `h` lines is made of, from the `v` lines of the rendition's view. -/
def rungLines (v h k : Nat) : List Nat := if v = h then [k] else window v 8 (phaseOf v h k).1

/-- Line `k` of a rendition's picture, in the channel's sampling: its view of the channel's lines, filtered across and then down (R116). -/
def RendRec.lineFrom (ch : ChannelRec) (r : RendRec) (lines : Tab VLine) (k : Nat) : VLine :=
  let v := r.viewH ch
  let row (j : Nat) : VLine := rungAcross r.width (((Tab.read lines (r.cropY + j) []).drop r.cropX).take (r.viewW ch))
  match (rungLines v r.height k).map row with
  | [l] => l
  | ls => rungDown (phaseOf v r.height k).2 ls

/-- The picture lines whose last source line is line `y` of the channel. -/
def RendRec.linesAt (ch : ChannelRec) (r : RendRec) (y : Nat) : List Nat :=
  (List.range r.height).filter (fun k => r.cropY + ((rungLines (r.viewH ch) r.height k).getLast?.getD 0) == y)

/-- A line of a rendition goes to its rods in the rendition's own sampling (R118): in 4:2:0 a pair of lines goes when its second line is there. -/
def RendRec.hand (ch : ChannelRec) (r : RendRec) (lines : Tab VLine) (done : Tab VLine) (k : Nat) : Tab VLine :=
  if r.chroma != 0 then Tab.put k (r.lineFrom ch lines k) done
  else if k % 2 = 0 && k + 1 != r.height then done
  else
    let pair := (List.range (k % 2 + 1)).map (fun i => k - k % 2 + i)
    let ls := pair.map (r.lineFrom ch lines)
    (pair.zip ls).foldl (fun t e => Tab.put e.1 (to420 e.1 ls e.2) t) done

/-- A rendition takes what line `y` of frame `f` completes of its picture; lines of pictures that are over go. -/
def Rendition.takeLines (ch : ChannelRec) (f y : Nat) (lines : Tab VLine) (x : Rendition) : Rendition :=
  let kept := x.lines.filter (fun e => (Tab.find e.1 x.pics).isSome)
  match Tab.find f x.pics with
  | none => { x with lines := kept }
  | some p => { x with lines := Tab.put f ((p.recd.linesAt ch y).foldl (p.recd.hand ch lines) (Tab.read kept f [])) kept }

/-- The channel's renditions take a composited line (R116, R118). -/
def Device.handLine (c f y : Nat) (d : Device) : Device :=
  { d with code := { d.code with rends := Tab.mapVals (fun _ (x : Rendition) =>
    if x.recd.channel = c then x.takeLines (d.chan c).recd f y (d.compChan c).lines else x) d.code.rends } }

/-! ### Confidence output -/

/-- The proxy record and ring of frame `f`: before a change, the old one, with the change's frame. -/
def Comp.confAt (x : Comp) (f : Nat) : Confidence × RingAcct × Option Nat := match x.prior.find? (fun q => f < q.1) with
  | some q => (q.2.1, q.2.2, some q.1)
  | none => (x.conf, x.proxy, none)

/-- A proxy slot's header (Table 4.11). -/
def proxyHeader (c f flags dropped tick now : Nat) (drawn : Bool) (r : ChannelRec) : Bytes :=
  let w := proxySide r.width
  let h := proxySide r.height
  fields [(8, f), (2, c), (2, w), (2, h), (1, flags), (1, bit01 drawn), (4, 2 * w), (4, 4096), (4, 4096 + 2 * w * h), (4, dropped)] ++
    timeWordBytes tick ++ timeWordBytes now ++ fields [(1, r.colorimetry), (1, r.tcs)]

/-- Confidence lines are dropped (R36, R121, R122): counted in the channel's tally, with E384 at the first. -/
def Device.dropConf (c : Nat) (d : Device) : Device :=
  let x := d.compChan c
  (d.setComp c { x with dropNow := true, dropping := true }).raise ((dtIndex (8 + c), 0) :: (if x.dropping then [] else [(384, c)]))

/-- The planes of a frame's proxy (R121): Y, then CbCr. -/
def proxyPlanes (r : ChannelRec) (lines : Tab VLine) : Bytes :=
  let at_ (j : Nat) : VLine := Tab.read lines (Nat.min j (r.height - 1)) []
  let rows := (List.range (proxySide r.height)).map (fun j => proxyLineOf (proxySide r.width) (at_ (2 * j)) (at_ (2 * j + 1)))
  rows.flatMap (fun e => wordsOf e.1) ++ rows.flatMap (fun e => wordsOf e.2)

/-- A frame's proxy is written: the planes, the header, WRITE_INDEX (R121). -/
def Device.writeProxy (c f : Nat) (d : Device) : Device :=
  let x := d.compChan c
  let ch := d.chan c
  let k := x.confAt f
  let size := proxySlotBytes ch.recd
  let a := k.1.ringOffset + 4096 + k.2.1.windex % k.1.slots * size
  let flags := ((d.bnd c).frame f).flags
  let n := 2 * (proxySide ch.recd.width * 2 * proxySide ch.recd.height)
  if !d.rangeUp a (4096 + n) || !d.rangeUp k.1.ringOffset 8 then
    (d.setComp c (match k.2.2 with
      | some g => { x with prior := x.prior.map (fun p => if p.1 = g then (p.1, p.2.1, { p.2.2 with lostToQuarter := true }) else p) }
      | none => { x with proxy := { x.proxy with lostToQuarter := true } })).raise (if k.2.1.lostToQuarter then [] else [(436, k.1.ringOffset)])
  else
    let h := proxyHeader c f flags x.proxy.dropped (ch.tickOf f) d.now x.sealDrawn ch.recd
    let d0 := (d.writeAt (a + 4096) (proxyPlanes ch.recd x.lines)).writeAt a (padTo 4096 h)
    let d1 := if k.2.1.rd.isSome then d0 else d0.writeAt k.1.ringOffset (wrLE 8 (k.2.1.windex + 1))
    let y := d1.compChan c
    d1.setComp c (match k.2.2 with
      | some g => { y with
        prior := y.prior.map (fun p => if p.1 = g then (p.1, p.2.1, { p.2.2 with windex := k.2.1.windex + 1, lostToQuarter := false }) else p), proxy := { y.proxy with dropped := 0 }, dropping := false }
      | none => { y with proxy := { RingAcct.reset with windex := k.2.1.windex + 1 }, dropping := false })

/-- Confidence outputs shed load (18 R500). -/
def Device.confShed (d : Device) : Bool := 1 ≤ d.phys.shed

/-- The proxy lines that picture line `y` completes (R121): one for two lines, and with the last line what rounding up to an even height adds. -/
def proxyLines (h y : Nat) (last : Bool) : Nat := bit01 (y % 2 == 0) + (if last then proxySide h - ceilDiv h 2 else 0)

/-- The proxy side of a line (R121): at line 0 a full ring drops the frame's proxy whole. -/
def Device.proxyLine (c f y : Nat) (last : Bool) (d : Device) : Device :=
  let k := (d.compChan c).confAt f
  let full := k.1.slots ≤ (k.2.1.windex + 2 ^ 64 - k.2.1.read d.mem k.1.ringOffset) % 2 ^ 64 || d.confShed
  let d0 := if y = 0 then d.setComp c { d.compChan c with
    dropNow := full, proxy := if full then { (d.compChan c).proxy with dropped := satAdd (2 ^ 32 - 1) (d.compChan c).proxy.dropped 1 } else (d.compChan c).proxy } else d
  let d1 := if (d0.compChan c).dropNow then (List.range (proxyLines (d.chan c).recd.height y last)).foldl (fun d _ => d.dropConf c) d0 else d0
  if last && !(d1.compChan c).dropNow then d1.writeProxy c f else d1

/-- The clean-programme side of a line (R122, R231): its frames wait in TC5, or a full queue or a port that is not UP drops it. -/
def Device.programLine (c h y : Nat) (last : Bool) (sizes full : List Nat) (d : Device) : Device :=
  match Tab.find h d.out.progs with
  | none => d
  | some o =>
    if !o.enable then d
    else
      let d0 := if y = 0 then d.setComp c { d.compChan c with dropNow := false } else d
      let bad (p : Nat) : Bool := full.contains p || !d.lanes.isUp p || d.confShed
      let d1 := (o.ports.filter (fun p => !bad p)).foldl (fun d p =>
        let x := d.sched.port p
        { d with sched := { d.sched with ports := Tab.put p { x with waiting := x.waiting ++ sizes.map (fun n => ⟨5, 0x2100 + h, n, d.now, 0⟩) } d.sched.ports } }) d0
      let d2 := if o.ports.any bad then
          { d1 with out := { d1.out with progDropped := Tab.upd d1.out.progDropped h 0 (fun n => satAdd max64 n 1) } }.dropConf c
        else d1
      if last && !(d2.compChan c).dropNow then d2.setComp c { d2.compChan c with dropping := false } else d2

/-- What earlier frames alone still needed goes, once frame `f` is done. -/
def Comp.forget (f : Nat) (x : Comp) : Comp :=
  { x with
    was := x.was.filter (fun e => f + 1 < e.1), planesWas := x.planesWas.filter (fun e => f + 1 < e.1)
    prior := x.prior.filter (fun p => f + 1 < p.1) }

/-- The activation that governs frame `f` of a channel: the most recently accepted one (R128). -/
def Device.governing (c f : Nat) (d : Device) : Option Activation := (d.comp.acts.filter (fun a => a.governs c ((d.chan c).tickOf f))).getLast?

/-- A line is composited (R101, R119, R123) and handed to the rods and the confidence output. `sizes` are the frames that a clean-programme line makes, `full` the
ports whose TC5 queue is full. -/
def Device.composeLine (c : Nat) (li : LineIn) (sizes full : List Nat) (d : Device) : Device :=
  let f := li.frame
  let y := li.line
  let g := d.drawLayers c f y li.pix
  let x := d.compChan c
  let act := d.governing c f
  let shown := act.bind (fun a => d.sealLine c f y a)
  let line := blendEnd (d.drawSeal c y act shown g.line)
  let tell := g.tell && x.poisonFrame != some f
  let d1 := d.setComp c { x with
    planes := if d.flatUp c then x.planes else x.planes.map (fun p => { p with poisonFrom := some (p.poisonFrom.getD y) })
    poisonFrame := if tell then some f else x.poisonFrame
    sealDrawn := shown.isSome || (y != 0 && x.sealDrawn)
    lines := Tab.put y line (if y = 0 then [] else x.lines)
    out := ⟨f, y, li.flags, g.layers, shown.map (fun z => (z.asset, z.image, z.place)), line⟩ }
  let d2 := d1.raise (g.lost.map (fun _ => (dtIndex (8 + c), 0)) ++ (if tell then [(386, c)] else []))
  let d3 : Device := match shown with
    | some z => d2.readAsset c z.asset
    | none => d2
  let k := (d3.compChan c).confAt f
  let d4 := if k.1.mode = 1 then d3.proxyLine c f y li.last
    else if k.1.mode = 2 then d3.programLine c k.1.outHandle y li.last sizes full else d3
  (if li.last then d4.setComp c ((d4.compChan c).forget f) else d4).handLine c f y

/-- LINE_FILL_POINT (R76, R101): the channel's next line is taken at its fill point and composited. -/
def lineFillPoint (c : Nat) (sizes full : List Nat) (d : Device) : Device :=
  match d.lineDue c with
  | none => d
  | some (f, l) =>
    let r := d.takeLine c f l
    r.1.composeLine c r.2 sizes full

def execLineFillPoint (t : Nat) (channel : Fin 64) (_line : Unit) (sizes : List Nat) (full : List (Fin 32)) (s : State) :
    Host.Outcome State Fault Refusal :=
  .next { s with dev := lineFillPoint channel sizes (full.map (·.val)) (s.dev.at_ t) }

end Sys2Proof.Machine
end

