-- ==== Sys2Proof/Machine/Dram.lean ====
section
/-!
DEFINITION. The DRAM subsystem (chapter 12): the address map, errors and freezes, the retirement of a group and what becomes of its contents, and the
memory commands.
-/
namespace Sys2Proof.Machine

/-! ### The address map (R356 to R359) -/

/-- Where a burst lies: channel, page of the channel, column slot, bank, and the page's address in its bank. -/
structure DramPlace where
  channel : Nat
  page : Nat
  slot : Nat
  bank : Nat
  row : Nat
  deriving DecidableEq, Repr

/-- The map of R357. -/
def dramPlace (g grainLog2 a : Nat) : DramPlace :=
  let grain := 2 ^ grainLog2
  let x := a / (8 * grain) * grain + a % grain
  let b := x / 64
  let page := b / 31
  { channel := 8 * g + a / grain % 8, page := page, slot := b % 31, bank := (page % 16).xor (page / 16 % 16), row := page / 16 }

/-- Data bytes of a group's device address space: 15.5 GiB. -/
def groupBytes : Nat := 31 * 2 ^ 29

/-- Data bursts of the module. -/
def dramBursts : Nat := 4 * groupBytes / 64

/-- A device address lies in the window quarter. -/
def inQuarter (a : Nat) : Bool := a < 2 ^ 32

/-- A group's state is replaced; a change of its service state raises E011 (17 R475). -/
def Device.setGroupFor (cause g : Nat) (x : Group) (d : Device) : Device :=
  { d with dram := { d.dram with groups := Tab.put g x d.dram.groups } }.noteUnit (0x500 + g) (d.dram.group g).service x.service cause

def Device.setGroup (g : Nat) (x : Group) (d : Device) : Device := d.setGroupFor 1 g x

def Device.setDram (c : Nat) (x : DramChannel) (d : Device) : Device := { d with dram := { d.dram with chans := Tab.put c x d.dram.chans } }

/-! ### Renditions that read a group (06 R201) -/

/-- A row in progress is floored for a fault, and its copies write no reconstruction (R176, R201 step 1). -/
def Device.poisonRow (n f k : Nat) (d : Device) : Device :=
  let d1 := d.floorRow n f k
  match d1.openRow n f k with
  | none => d1
  | some (_, p, r) => d1.setPic n f { p with rows := Tab.put k { r with poison := true } p.rows }

/-- The rows in progress of a rendition are floored for a fault (R201, step 1). -/
def Device.floorOpen (n : Nat) (d : Device) : Device :=
  match Tab.find n d.code.rends with
  | none => d
  | some x => (x.pics.flatMap (fun e => (e.2.rows.filter (fun r => r.2.bits.isNone)).map (fun r => (e.1, r.1)))).foldl (fun d r => d.poisonRow n r.1 r.2) d

/-- The live renditions of a channel. -/
def Device.liveRends (c : Nat) (d : Device) : List (Nat × Rendition) := d.code.rends.filter (fun e => e.2.recd.channel == c && e.2.live)

/-- References that older pictures left in a draining group: before frame `f`. -/
def Rendition.refersBefore (f : Nat) (x : Rendition) : Bool := x.pool.short.any (· < f) || x.pics.any (fun e => Nat.blt e.1 f && !e.2.reported)

/-- The channels whose references lie in group `g`: homed there, or still reading from it while it drains. -/
def Device.setsIn (g : Nat) (d : Device) : List (Nat × Bool) :=
  d.dram.places.filterMap (fun e =>
    if e.2.bare then none
    else if e.2.home = g then some (e.1, true)
    else match e.2.draining with
      | some (k, f) => if k = g && (d.liveRends e.1).any (fun r => r.2.refersBefore f) then some (e.1, false) else none
      | none => none)

/-- The renditions that read references from group `g`: those of its channels, and those that read their long-term reference from a shadow there. -/
def Device.readers (g : Nat) (d : Device) : List Nat :=
  ((d.setsIn g).flatMap (fun e => (d.liveRends e.1).map (·.1)))
    ++ (d.code.rends.filter (fun e => e.2.live && e.2.pool.fromShadow && e.2.pool.shadow.any (fun s => s.2 == g))).map (·.1)

/-- Reads of group `g` return poison: the rows being coded from it are floored (R201, step 1). -/
def Device.floorReaders (g : Nat) (d : Device) : Device := (d.readers g).foldl (fun d n => d.floorOpen n) d

/-! ### Freezes (R372, R373) -/

/-- What a freeze records of its error (Table 12.12). -/
structure FreezeInfo where
  cause : Nat
  rule : Nat
  bank : Nat
  page : Nat
  slot : Nat
  requester : Nat
  requesterId : Nat
  syndrome : Nat
  address : Nat
  history : List Nat

/-- A controller freezes: E288 + c, its group is to be retired, and the rows being coded from it are floored (06 Table 6.11). A group that is not in use notes an error only during a test (R377). -/
def Device.freezeChannel (c : Nat) (i : FreezeInfo) (d : Device) : Device :=
  let g := d.dram.group (c / 8)
  let x := d.dram.chan c
  if 2 ≤ g.service then d.setGroup (c / 8) { g with testFails := g.testFails + bit01 (g.service == 3) }
  else if x.cause != 0 then d
  else
    (((d.setDram c { x with
        cause := i.cause, rule := i.rule, bank := i.bank, page := i.page, slot := i.slot, requester := i.requester, requesterId := i.requesterId
        syndrome := i.syndrome, address := i.address, freezeTime := d.now, history := i.history.take 64 }).setGroup (c / 8)
      { g with retire := some (g.retire.getD (c, i.cause)) }).raise [(288 + c, i.cause)]).floorReaders (c / 8)

/-- The moments within a second of `now`. -/
def lastSecond (now : Nat) (l : List Nat) : List Nat := l.filter (fun t => now < t + second)

/-- A window burst becomes poisoned (10 R302; R372). -/
def MemState.poisonBurst (b : Nat) (m : MemState) : MemState := { m with poison := b :: m.poison.filter (· != b) }

/-- DRAM_UNCORRECTABLE_READ (R372): outside the window the controller freezes; in the window the burst is poisoned, and more than 16 in a second freeze. -/
def uncorrectableRead (g a requester requesterId syndrome : Nat) (history : List Nat) (d : Device) : Device :=
  let gr := d.dram.group g
  let p := dramPlace g gr.grainLog2 a
  if groupBytes ≤ a then d
  else if 2 ≤ gr.service then d.freezeChannel p.channel ⟨1, 0, p.bank, p.row, p.slot, requester, requesterId, syndrome, a, history⟩
  else if (d.dram.chan p.channel).cause != 0 then d
  else
    let info (cause : Nat) : FreezeInfo := ⟨cause, 0, p.bank, p.row, p.slot, requester, requesterId, syndrome, a, history⟩
    let d1 := d.setGroup g { gr with uncorrectable := satAdd max64 gr.uncorrectable 1, poisonReads := satAdd max64 gr.poisonReads 1 }
    if inQuarter a then
      let x := d1.dram.chan p.channel
      let errs := d.now :: lastSecond d.now x.windowErrs
      let d2 := { d1.setDram p.channel { x with windowErrs := errs } with mem := d1.mem.poisonBurst ((g * 2 ^ 32 + a) / 64) }
      if 16 < errs.length then d2.freezeChannel p.channel (info 4) else d2
    else d1.freezeChannel p.channel (info 1)

def execDramUncorrectableRead (t : Nat) (group : Fin 4) (address requester requesterId syndrome : Nat) (history : List Nat) (s : State) :
    Host.Outcome State Fault Refusal :=
  .next { s with dev := uncorrectableRead group address requester requesterId syndrome history (s.dev.at_ t) }

/-- DRAM_COMMAND_ERROR (R372): `rule` 0 is read data with no request, else the rule that a command broke (Table 12.12). -/
def commandError (c rule bank page slot requester requesterId address : Nat) (history : List Nat) (d : Device) : Device :=
  d.freezeChannel c ⟨if rule = 0 then 3 else 2, rule, bank, page, slot, requester, requesterId, 0, address, history⟩

def execDramCommandError (t : Nat) (channel : Fin 32) (rule : Fin 11) (bank page slot requester requesterId address : Nat) (history : List Nat) (s : State) :
    Host.Outcome State Fault Refusal :=
  .next { s with dev := commandError channel rule bank page slot requester requesterId address history (s.dev.at_ t) }

/-- DRAM_CORRECTION (R365). -/
def dramCorrection (g a : Nat) (d : Device) : Device :=
  let gr := d.dram.group g
  let c := (dramPlace g gr.grainLog2 a).channel
  let x := d.dram.chan c
  if 2 ≤ gr.service || groupBytes ≤ a then d
  else
    let recent := d.now :: lastSecond d.now x.recent
    let ovr := 64 < recent.length
    ((d.setGroup g { gr with corrected := satAdd max64 gr.corrected 1 }).setDram c
      { x with corrected := satAdd max64 x.corrected 1, recent := recent, warned := ovr }).raise (if ovr && !x.warned then [(329, c)] else [])

def execDramCorrection (t : Nat) (group : Fin 4) (address : Nat) (s : State) : Host.Outcome State Fault Refusal :=
  .next { s with dev := dramCorrection group address (s.dev.at_ t) }

/-- PATROL_SCRUB (R365): the next bursts are read, in turn; what a read finds comes as a correction or an uncorrectable read. The scrub pauses
while the I/O die throttles (16 R469). -/
def execPatrolScrub (t bursts : Nat) (s : State) : Host.Outcome State Fault Refusal :=
  let d := s.dev.at_ t
  .next { s with dev := if d.modes.throttleIo != 0 then d else { d with dram := { d.dram with scrubPos := (d.dram.scrubPos + bursts) % dramBursts } } }

/-- REFRESH_DUE (R363): one more refresh is owed to the bank and `placed` are issued; E328 where the count comes to half the postponement limit. -/
def refreshDue (c b placed : Nat) (d : Device) : Device :=
  let x := d.dram.chan c
  let before := Tab.read x.owed b 0
  let owed := before + 1 - placed
  (d.setDram c { x with owed := Tab.put b owed x.owed }).raise
    (if Config.refreshLimit ≤ 2 * owed && 2 * before < Config.refreshLimit then [(328, det2 c b)] else [])

def execRefreshDue (t : Nat) (channel : Fin 32) (bank : Fin 16) (placed : Nat) (s : State) : Host.Outcome State Fault Refusal :=
  .next { s with dev := refreshDue channel bank placed (s.dev.at_ t) }

/-- WCK2DQ_TRACK (R364): the DQ delays as the controller has moved them. -/
def execWck2dqTrack (t : Nat) (channel : Fin 32) (training : Bytes) (s : State) : Host.Outcome State Fault Refusal :=
  let d := s.dev.at_ t
  let x := d.dram.chan channel
  .next { s with dev := if 2 ≤ (d.dram.group (channel / 8)).service || x.cause != 0 then d else d.setDram channel { x with training := training } }

/-! ### References and shadows of a retired group (06 R201, R202) -/

/-- The picture is still being coded. -/
def Picture.open_ (p : Picture) : Bool := p.rows.length < p.recd.rows || p.rows.any (fun r => !r.2.entered)

/-- STATE bits of a picture on a recovery path: RECOVERY, and SHADOW where its references come from the shadow. -/
def Picture.recover (shadow : Bool) (p : Picture) : Picture :=
  { p with state := p.state + bit01 (!natBit p.state 0) + 16 * bit01 (shadow && !natBit p.state 4) }

/-- From the next row mark an inter picture's rows refer to these long-term references alone (R201, step 2). -/
def Picture.refersTo (l : List Nat) (p : Picture) : Picture := if p.intra then p else { p with refs := l, long := l }

/-- From the next row mark a picture's rows refer to no long-term reference. -/
def Picture.dropLong (p : Picture) : Picture := { p with refs := p.refs.filter (fun f => !p.long.contains f), long := [] }

/-- A valid shadow: the frame it holds, where its group holds its contents (06 R193). -/
def Rendition.validShadow (up : Nat → Bool) (x : Rendition) : Option Nat := match x.pool.shadow with
  | some (s, g) => if up g then some s else none
  | none => none

/-- The home of a rendition is gone (R201, R202): its long-term reference from the shadow, or no reference at all; a new refresh cycle from frame
`next`. On a channel that runs bare the path has no end yet (12 R376). -/
def Rendition.loseHome (up : Nat → Bool) (bare : Bool) (next : Nat) (x : Rendition) : Rendition :=
  let ends : Option Nat := if bare then none else some (next + x.recd.refreshFrames)
  let cur := x.pics.map (·.1)
  let y := { x with cycleStart := next, paths := x.paths ++ [(⟨3, ends⟩ : RecoveryPath)] }
  match (if bare then none else x.validShadow up) with
  | some s =>
    { y with
      pool := { x.pool with
        short := [], long := some s, oldLong := none, copying := some (s, shadowSpan x.recd), spoiled := x.pool.spoiled ++ cur, fromShadow := true }
      pics := Tab.mapVals (fun _ p => if p.open_ then (p.recover true).refersTo [s] else p) x.pics }
  | none =>
    { y with
      pool := { x.pool with
        short := [], long := none, oldLong := none, shadow := none, copying := none, spoiled := x.pool.spoiled ++ cur, fromShadow := false }
      pics := Tab.mapVals (fun _ p => if p.open_ then { p.recover false with lost := true } else p) x.pics }

/-- A rendition's shadow is gone, or moves, to group `g` (Table 12.5): a new copy starts. Where the shadow was the only copy, the long-term reference goes with it (R201). -/
def Rendition.loseShadow (g : Option Nat) (next : Nat) (x : Rendition) : Rendition :=
  if x.pool.fromShadow then
    let none_ := x.pool.short.isEmpty
    { x with
      pool := { x.pool with
        long := none, oldLong := none, shadow := none, copying := none, fromShadow := false
        spoiled := x.pool.spoiled ++ (if none_ then x.pics.map (·.1) else []) }
      pics := Tab.mapVals (fun _ p => if p.open_ then (if none_ then { p.recover false with lost := true } else p.dropLong) else p) x.pics
      cycleStart := if none_ then next else x.cycleStart
      paths := if none_ then x.paths ++ [⟨3, some (next + x.recd.refreshFrames)⟩] else x.paths }
  else
    { x with pool := { x.pool with shadow := none, copying := match g, x.pool.long with
      | some _, some s => some (s, shadowSpan x.recd)
      | _, _ => none } }

/-- A channel's working set is lost: references, the previous-frame store, decoder references, flat planes (Table 12.5). -/
def Device.loseSet (c : Nat) (d : Device) : Device :=
  let next := (d.chan c).next
  let bare := d.bare c
  let mine := d.liveRends c
  let d1 := (mine.filter (fun e => e.2.paths.isEmpty)).foldl (fun d e => d.asRun c 10 0 next e.1) d
  let up := d1.groupUp
  let d2 := { d1 with
    code := { d1.code with rends := Tab.mapVals (fun _ (x : Rendition) => if x.recd.channel = c && x.live then x.loseHome up bare next else x) d1.code.rends }
    ingest := { d1.ingest with
      binds := Tab.upd d1.ingest.binds c Binding.reset (fun b => { b with store := [] })
      flows := match (d1.ingest.bind c).recd with
        | some b => if d1.boundCompressed c then Tab.mapVals (fun n (x : Flow) => if n = b.videoIf then { x with refsGone := true, good := [] } else x) d1.ingest.flows
          else d1.ingest.flows
        | none => d1.ingest.flows } }
  d2.losePlanes c

/-- The renditions whose shadow lies in group `g`. -/
def Device.shadowsIn (g : Nat) (d : Device) : List (Nat × Nat) :=
  (d.dram.shadows.filter (fun e => e.2.group == g)).map (fun e => (e.1, e.2.extents))

/-- The group that a shadow moves to: other than the channel's home, with the most free extents that hold it. -/
def Device.shadowHome (n extents : Nat) (d : Device) : Option Nat :=
  let l := d.dram.layout
  let home := ((d.rendChan n).bind (fun c => Tab.find c d.dram.places)).map (·.home)
  mostFree l (fun g => some g != home && l.used g + extents ≤ areaExtents) d.groupsIn

/-- A shadow goes to another group: `drain` where the old group still holds it, so that nothing is lost (R378). -/
def Device.moveShadow (drain : Bool) (n extents : Nat) (d : Device) : Device :=
  let without := { d.dram with shadows := Tab.del n d.dram.shadows }
  let d0 := { d with dram := without }
  let g := d0.shadowHome n extents
  let d1 : Device := match g with
    | some k => { d0 with dram := { without with shadows := Tab.put n ⟨k, extents⟩ without.shadows } }
    | none => d0
  match Tab.find n d1.code.rends with
  | none => d1
  | some x =>
    if drain && g.isSome then d1.setRend n { x with pool := { x.pool with shadow := x.pool.shadow.map (fun s => (s.1, g.getD s.2)) } }
    else d1.setRend n (x.loseShadow g (d1.chan x.recd.channel).next)

/-! ### Homes of a retired group (R371, R375, R376) -/

/-- The groups that hold shadows of a channel. -/
def Device.shadowGroups (c : Nat) (d : Device) : List Nat :=
  (d.dram.shadows.filter (fun e => d.rendChan e.1 == some c)).map (·.2.group)

/-- Where firmware places a channel that has no plan it can take (R375): the group with the most free extents that hold the working set, one without its
shadows first. -/
def Device.freeHome (c extents : Nat) (d : Device) : Option Nat :=
  let l := d.dram.layout
  let fits (g : Nat) : Bool := l.used g + extents ≤ areaExtents
  let sh := d.shadowGroups c
  match mostFree l (fun g => fits g && !sh.contains g) d.groupsIn with
  | some g => some g
  | none => mostFree l fits d.groupsIn

/-- The new home of a channel: its plan where the planned group can hold it, else where firmware places it. -/
def Device.newHome (c : Nat) (p : Placement) (d : Device) : Option Nat :=
  match p.plan with
  | some k => if d.groupsIn.contains k && d.dram.layout.used k + p.extents ≤ areaExtents then some k else d.freeHome c p.extents
  | none => d.freeHome c p.extents

/-- A channel leaves a group: a new home, told by E324 at a row mark of frame `from_` or later, or bare coding, with E325. -/
def Device.moveHome (c old from_ : Nat) (drain : Bool) (d : Device) : Device :=
  match Tab.find c d.dram.places with
  | none => d
  | some p => match d.newHome c p with
    | some k => { d with dram := { d.dram with places := Tab.put c { p with
        home := k, plan := none, moved := some ((p.moved.map (·.1)).getD old, from_), draining := if drain then some (old, from_) else none } d.dram.places } }
    | none => { d with dram := { d.dram with places := Tab.put c { p with
        bare := true, plan := none, moved := none, draining := none } d.dram.places } }.raise [(325, c)]

/-- A rendition leaves bare coding with frame `next`. -/
def Rendition.leaveBare (next : Nat) (x : Rendition) : Rendition :=
  let end_ (q : RecoveryPath) : RecoveryPath := if q.kind = 3 && q.ends.isNone then { q with ends := some (next + x.recd.refreshFrames) } else q
  { x with cycleStart := next, paths := x.paths.map end_ }

/-- A channel leaves bare coding at the next frame (R376), with a new refresh cycle (06 R202). -/
def Device.unbare (c : Nat) (d : Device) : Device :=
  match Tab.find c d.dram.places with
  | none => d
  | some p =>
    if !p.bare then d
    else match d.freeHome c p.extents with
      | none => d
      | some k =>
        let next := (d.chan c).next
        let d1 := { d with
          dram := { d.dram with places := Tab.put c { p with home := k, bare := false } d.dram.places }
          code := { d.code with rends := Tab.mapVals (fun _ (x : Rendition) => if x.recd.channel = c && x.live then x.leaveBare next else x) d.code.rends } }
        (d1.raise [(326, c)]).rebuildPlanes c

/-- Firmware tries to place the channels that run bare, in ascending number (R376), and the plans are computed again (R371). -/
def Device.placeBare (d : Device) : Device := ((d.dram.places.map (·.1)).foldl (fun d c => d.unbare c) d).replan

/-! ### The module store (R360, Table 12.5) -/

/-- The slate space of one group: 768 MiB. -/
def slateArea : Nat := 768 * 2 ^ 20

/-- The bytes of slates that group `g` holds. -/
def Device.slateUsed (g : Nat) (d : Device) : Nat :=
  ((d.dram.slates.filter (fun e => e.2.a == g || e.2.b == g)).map (fun e => match Tab.find e.1 d.ingest.slates with
    | some s => slateBytes s.width s.height
    | none => 0)).sum

/-- A third group for a copy whose other copy lies in `keep`. -/
def Device.thirdGroup (keep : Nat) (ok : Nat → Bool) (d : Device) : Option Nat := d.groupsUp.find? (fun g => g != keep && ok g)

/-- An item with a copy in group `g`: the copy is made again in a third group where one has room. -/
def Copies.moved (g : Nat) (third : Nat → Option Nat) (x : Copies) : Copies × Bool :=
  let keep := if x.a = g then x.b else x.a
  match third keep with
  | some k => (⟨keep, k⟩, true)
  | none => (⟨keep, keep⟩, false)

/-- A slate's copies leave group `g`; on a loss E327 tells of it. -/
def Device.moveSlate (tell : Bool) (g n : Nat) (d : Device) : Device :=
  match Tab.find n d.dram.slates, Tab.find n d.ingest.slates with
  | some x, some s =>
    if x.a != g && x.b != g then d
    else
      let r := x.moved g (fun keep => d.thirdGroup keep (fun k => d.slateUsed k + slateBytes s.width s.height ≤ slateArea))
      { d with dram := { d.dram with slates := Tab.put n r.1 d.dram.slates } }.raise
        (if tell then [(327, det2 (Config.itemKind 0).toNat (bit01 r.2))] else [])
  | _, _ => d

/-- The copies of the module store leave group `g` (Table 12.5, R378). -/
def Device.moveStore (tell : Bool) (g : Nat) (d : Device) : Device :=
  let d1 := (d.dram.slates.map (·.1)).foldl (fun d n => d.moveSlate tell g n) d
  let m := d1.dram.mgmt
  if m.a != g && m.b != g then d1
  else
    let r := m.moved g (fun keep => d1.thirdGroup keep (fun _ => true))
    { d1 with dram := { d1.dram with mgmt := r.1 } }.raise (if tell then [(327, det2 (Config.itemKind 1).toNat (bit01 r.2))] else [])

/-! ### Retirement (R374, R377, R378) -/

/-- A group goes out of service: E320, and its window quarter is lost (10 R301). -/
def Device.groupOut (g frozen cause : Nat) (d : Device) : Device :=
  let x := d.dram.group g
  ({ d.setGroupFor (if frozen = 255 then 1 else 2) g { x with
      service := 2, retrained := false, tested := false, ready := false, retirements := satAdd max64 x.retirements 1, lastRetire := d.now
      drainBy := none, retire := none, testFails := 0 } with
    mem := { d.mem with
      hdm := memDrop d.mem.hdm (g * 2 ^ 32) ((g + 1) * 2 ^ 32)
      poison := d.mem.poison.filter (fun b => !(g * 2 ^ 26 ≤ b && b < (g + 1) * 2 ^ 26)) } }).raise [(320, det3 g frozen cause)]

/-- Older references are no longer read from group `g`. -/
def Placement.drained (g : Nat) (p : Placement) : Placement := { p with draining := p.draining.filter (fun q => q.1 != g) }

/-- No channel reads references from group `g`. -/
def DramState.drained (g : Nat) (x : DramState) : DramState := { x with places := Tab.mapVals (fun _ p => p.drained g) x.places }

/-- The retirement of a group (R374, Table 12.5): channels homed there move by their plans or run bare, shadows start anew, the module store keeps
its other copies, and the journal loses its staging. -/
def Device.retireGroup (g frozen cause : Nat) (d : Device) : Device :=
  let sets := d.setsIn g
  let d1 := (d.floorReaders g).groupOut g frozen cause
  let d2 := (sets.filter (·.2)).foldl (fun d e => d.moveHome e.1 g 0 false) d1
  let d3 := sets.foldl (fun d e => d.loseSet e.1) d2
  let d4 := (d3.shadowsIn g).foldl (fun d e => d.moveShadow false e.1 e.2) d3
  let d5 := d4.moveStore true g
  let d6 := if d5.journal.staging = g then d5.stagingLost else d5
  { d6 with dram := d6.dram.drained g }.replan

/-- GROUP_RETIREMENT: a retirement that a freeze or MODE 1 has begun is carried out. -/
def groupRetirement (g : Nat) (d : Device) : Device :=
  match (d.dram.group g).retire with
  | some (frozen, cause) => if 2 ≤ (d.dram.group g).service then d else d.retireGroup g frozen cause
  | none => d

def execGroupRetirement (t : Nat) (group : Fin 4) (s : State) : Host.Outcome State Fault Refusal :=
  .next { s with dev := groupRetirement group (s.dev.at_ t) }

/-- The longest a drain lasts: 17 frame periods of the slowest live channel and 100 ms. -/
def Device.drainTime (d : Device) : Nat :=
  17 * ((d.code.channels.filter (fun e => e.2.running)).foldl (fun m e => Nat.max m (framePeriod e.2.recd)) 0) + 100000 * usec

/-- A sealed asset's copy leaves a draining group. -/
def Device.moveAssets (g : Nat) (d : Device) : Device :=
  { d with comp := { d.comp with assets := Tab.mapVals (fun _ (a : Asset) =>
    if a.groupA = g then { a with groupA := (d.thirdGroup a.groupB (fun _ => true)).getD a.groupB }
    else if a.groupB = g then { a with groupB := (d.thirdGroup a.groupA (fun _ => true)).getD a.groupA } else a) d.comp.assets } }

/-- A drain begins (R378): from the next frame the channels homed there write to their planned groups; copies go at once. -/
def Device.drainGroup (g : Nat) (d : Device) : Device :=
  let x := d.dram.group g
  let sets := d.setsIn g
  let d1 := d.setGroup g { x with service := 1, drainBy := some (d.now + d.drainTime) }
  let d2 := sets.foldl (fun d e => (d.moveHome e.1 g (d.chan e.1).next true).rebuildPlanes e.1) d1
  let d3 := (d2.shadowsIn g).foldl (fun d e => d.moveShadow true e.1 e.2) d2
  let d4 := (d3.moveStore false g).moveAssets g
  let d5 := if d4.journal.session != 0 && d4.journal.staging = g then
    { d4 with journal := { d4.journal with staging := d4.stagingGroup.getD 255 } } else d4
  d5.replan

/-- GROUP_DRAIN_DONE (R378): nothing in the group is referenced any more, or the drain's time is over. -/
def groupDrainDone (g : Nat) (d : Device) : Device :=
  let x := d.dram.group g
  let ovr := match x.drainBy with
    | some b => b ≤ d.now
    | none => false
  if x.service != 1 || (!ovr && !(d.setsIn g).isEmpty) then d
  else
    let d1 := d.groupOut g 255 0
    { d1 with dram := d1.dram.drained g }

def execGroupDrainDone (t : Nat) (group : Fin 4) (s : State) : Host.Outcome State Fault Refusal :=
  .next { s with dev := groupDrainDone group (s.dev.at_ t) }

/-! ### Commands (R378 to R382) -/

/-- The groups other than `g` that are in service. -/
def Device.othersIn (g : Nat) (d : Device) : List Nat := d.groupsIn.filter (· != g)

/-- MEM_GROUP_RETIRE (R378). -/
def memGroupRetire : CmdSpec where
  op := 0x0801
  cr0 := true
  reserved := [(1, 39)]
  check c d :=
    let out := 2 ≤ (d.dram.group c.handle).service
    firstOf [
      badParam (4 ≤ c.handle || 2 ≤ c.p 0 1),
      badState (!out && (d.othersIn c.handle).isEmpty) 0x0805,
      badState (!out && c.p 0 1 == 0 && (d.dram.group c.handle).service == 0 && (d.dram.layout.plan d.groupsIn c.handle).isNone) 0x0801]
  apply c d :=
    let x := d.dram.group c.handle
    if 2 ≤ x.service then Done.ok d
    else if c.p 0 1 = 1 then Done.ok (d.setGroup c.handle { x with retire := some (x.retire.getD (255, 0)) })
    else if x.service = 1 then Done.ok d
    else Done.ok (d.drainGroup c.handle)

/-- The unit that stands for a group under retrain or test (11 R328). -/
def groupUnit (g : Nat) : Nat := 0x500 + g

/-- The group is out of service, or under a retrain or test that a command waits for (R379; 11 R328). -/
def Device.groupIdle (g : Nat) (d : Device) : Bool := (d.dram.group g).service == 2 || (d.dram.group g).service == 3

/-- A group's command ends. -/
def Device.endGroupWork (op g detail : Nat) (d : Device) : Device :=
  match takeWork (fun w => w.op == op && w.ctx.handle == g) d.rk.works with
  | none => d
  | some (w, r) => { d with rk := { d.rk with works := r } }.decideCtx w.ctx stOk detail none d.now

/-- A controller's frozen state is discarded; its counts stay. -/
def DramChannel.thaw (x : DramChannel) : DramChannel :=
  { x with
    cause := 0, rule := 0, bank := 0, page := 0, slot := 0, requester := 0, syndrome := 0, requesterId := 0, address := 2 ^ 64 - 1, freezeTime := 0
    history := [], windowErrs := [] }

/-- MEM_GROUP_RETRAIN (R379): the group's frozen state is discarded, and its channels train. -/
def memGroupRetrain : CmdSpec where
  op := 0x0802
  when_ := .done
  reserved := [(0, 40)]
  check c d := firstOf [badParam (4 ≤ c.handle), badState (!d.groupIdle c.handle) 0x0803]
  unit c _ := some (groupUnit c.handle)
  apply c d :=
    let d1 := d.setGroup c.handle { d.dram.group c.handle with service := 3 }
    let d2 := (List.range 8).foldl (fun d j => d.setDram (8 * c.handle + j) (d.dram.chan (8 * c.handle + j)).thaw) d1
    Done.goesOn (d2.beginWork 0x0802 c (groupUnit c.handle) none)

/-- MEM_GROUP_RETRAIN_DONE: `mask` marks the channels that failed, `trained` gives the mode registers and training values of each channel. -/
def groupRetrainDone (g mask : Nat) (trained : List (Bytes × Bytes)) (d : Device) : Device :=
  if !d.rk.works.any (fun w => w.op == 0x0802 && w.ctx.handle == g) then d
  else
    let x := d.dram.group g
    let d1 := (List.range trained.length).foldl (fun d j =>
      let v := trained.getD j ([], [])
      if j < 8 then d.setDram (8 * g + j) { d.dram.chan (8 * g + j) with modeRegs := v.1, training := v.2 } else d) d
    ((d1.setGroup g { x with service := 2, retrained := x.retrained || mask == 0 }).raise [(321, det2 g mask)]).endGroupWork 0x0802 g mask

def execMemGroupRetrainDone (t : Nat) (group : Fin 4) (mask : Fin 256) (trained : List (Bytes × Bytes)) (s : State) : Host.Outcome State Fault Refusal :=
  .next { s with dev := groupRetrainDone group mask trained (s.dev.at_ t) }

/-- MEM_GROUP_TEST (R379). -/
def memGroupTest : CmdSpec where
  op := 0x0803
  when_ := .done
  reserved := [(1, 39)]
  check c d := firstOf [badParam (4 ≤ c.handle || 2 ≤ c.p 0 1), badState (!d.groupIdle c.handle) 0x0803]
  unit c _ := some (groupUnit c.handle)
  apply c d :=
    Done.goesOn ((d.setGroup c.handle { d.dram.group c.handle with service := 3, testFails := 0 }).beginWork 0x0803 c (groupUnit c.handle) none)

/-- MEM_GROUP_TEST_DONE: `failing` bursts failed; an error met during the test counts too (R377). -/
def groupTestDone (g failing : Nat) (d : Device) : Device :=
  if !d.rk.works.any (fun w => w.op == 0x0803 && w.ctx.handle == g) then d
  else
    let x := d.dram.group g
    let n := Nat.min (failing + x.testFails) (2 ^ 32 - 1)
    ((d.setGroup g { x with service := 2, tested := x.tested || n == 0, ready := x.ready || (x.retrained && n == 0), testFails := 0 }).raise
      [(322, det2 g n)]).endGroupWork 0x0803 g n

def execMemGroupTestDone (t : Nat) (group : Fin 4) (failing : Nat) (s : State) : Host.Outcome State Fault Refusal :=
  .next { s with dev := groupTestDone group failing (s.dev.at_ t) }

/-- MEM_GROUP_RESTORE (R380). -/
def memGroupRestore : CmdSpec where
  op := 0x0804
  when_ := .done
  reserved := [(0, 40)]
  check c d := firstOf [badParam (4 ≤ c.handle), badState ((d.dram.group c.handle).service != 2 || !(d.dram.group c.handle).ready) 0x0802]
  apply c d := Done.goesOn ((d.setGroup c.handle { d.dram.group c.handle with service := 4 }).beginWork 0x0804 c 0 none)

/-- MEM_GROUP_RESTORE_DONE: the group is in service, bare channels are placed, and plans are computed again. -/
def groupRestoreDone (g : Nat) (d : Device) : Device :=
  if (d.dram.group g).service != 4 then d
  else (((d.setGroup g { d.dram.group g with service := 0 }).raise [(323, g)]).placeBare).endGroupWork 0x0804 g 0

def execMemGroupRestoreDone (t : Nat) (group : Fin 4) (s : State) : Host.Outcome State Fault Refusal :=
  .next { s with dev := groupRestoreDone group (s.dev.at_ t) }

/-- The contents of a group in service are undefined after a new grain (R358): its window quarter is the host's to write again, copies of the module store are
made again (R360), and the journal loses its staging. -/
def Device.regrain (g : Nat) (d : Device) : Device :=
  let d1 := { d with mem := { d.mem with
    hdm := memDrop d.mem.hdm (g * 2 ^ 32) ((g + 1) * 2 ^ 32)
    poison := d.mem.poison.filter (fun b => !(g * 2 ^ 26 ≤ b && b < (g + 1) * 2 ^ 26)) } }
  if d1.groupUp g then
    let d2 := (d1.moveStore true g).moveAssets g
    if d2.journal.staging = g then d2.stagingLost else d2
  else d1

/-- MEM_GRAIN_SET (R358): a new grain leaves the group's contents undefined. -/
def memGrainSet : CmdSpec where
  op := 0x0805
  reserved := [(1, 39)]
  check c d := firstOf [
    badParam (4 ≤ c.handle || !within 8 14 (c.p 0 1)),
    badState ((d.dram.group c.handle).service != 2 && d.anyLive) 0x0803]
  apply c d :=
    let g := c.handle
    let x := d.dram.group g
    if x.grainLog2 = c.p 0 1 then Done.ok d
    else Done.ok ((d.setGroup g { x with grainLog2 := c.p 0 1 }).regrain g)

/-- The channel diagnostic record (Table 12.12). The history of a channel that runs is what its traffic was: free values (assumption 3). -/
def diagRecord (c : Nat) (d : Device) : Bytes :=
  let x := d.dram.chan c
  let h := if x.cause = 0 then (List.range 64).map (fun i => (Config.free 64 (d.free + i)).toNat) else x.history
  fields [(1, x.cause), (1, c), (1, x.rule), (1, x.bank), (4, x.page), (1, x.slot), (1, x.requester), (2, x.syndrome), (4, x.requesterId),
    (8, x.address), (8, x.corrected)] ++ timeWordBytes x.freezeTime ++ List.replicate 16 0 ++
    ((List.range 64).flatMap (fun i => wrLE 8 (h.getD i 0))) ++ padTo 64 x.modeRegs ++ padTo 256 x.training ++ List.replicate 112 0 ++ timeWordBytes d.now

/-- `n` free bytes from the free value `k` on (assumption 3). -/
def freeBytes (k n : Nat) : Bytes := (List.range n).map (fun i => Config.free 8 (k + i))

/-- The mode registers and training values of a channel that no retrain has reported are what power-up training left: free values (assumption 3), kept
from the first record on. -/
def Device.measureChan (c : Nat) (d : Device) : Device :=
  let x := d.dram.chan c
  { d.setDram c { x with
      modeRegs := if x.modeRegs.isEmpty then freeBytes (d.free + 64) 64 else x.modeRegs
      training := if x.training.isEmpty then freeBytes (d.free + 128) 256 else x.training } with free := d.free + 384 }

/-- MEM_CHANNEL_DIAG_GET (R373, R382). -/
def memChannelDiagGet : CmdSpec where
  op := 0x0806
  when_ := .done
  reserved := [(8, 32)]
  check c d := firstOf [badParam (32 ≤ c.handle), targetCheck 1024 c d]
  apply c d :=
    let d1 := d.measureChan c.handle
    writeRecord (diagRecord c.handle { d1 with free := d.free }) c d1

/-- The traffic counts of a group grow by what its accesses were since they were last read, and its load is measured: free values (assumption 3). -/
def Device.measureGroup (g : Nat) (d : Device) : Device :=
  let x := d.dram.group g
  let v (i : Nat) : Nat := (Config.free 64 (d.free + i)).toNat
  { d.setGroup g { x with
      bytes := satAdd max64 x.bytes (v 0), attributed := satAdd max64 x.attributed (v 1), poisonReads := satAdd max64 x.poisonReads (v 2)
      discarded := satAdd max64 x.discarded (v 3), loadPermille := v 4 % 2 ^ 32 } with free := d.free + 5 }

/-- The group status record (Table 12.13). -/
def groupRecord (g : Nat) (d : Device) : Bytes :=
  let x := d.dram.group g
  let l := d.dram.layout
  let homes := ((l.homes.filter (fun e => e.2.1 == g)).map (·.2.2)).sum
  let shadows := ((l.shadows.filter (fun e => e.2.1 == g)).map (·.2.2)).sum
  fields [(1, x.service), (1, x.grainLog2), (1, bit01 x.retrained + 2 * bit01 x.tested), (1, 0), (4, areaExtents - (homes + shadows)), (4, homes), (4, shadows),
    (8, x.bytes), (8, x.attributed), (8, x.corrected), (8, x.uncorrectable), (8, x.poisonReads), (8, x.discarded), (8, x.retirements),
    (4, x.loadPermille), (4, 0)] ++ timeWordBytes x.lastRetire ++ List.replicate 16 0 ++ timeWordBytes d.now

/-- MEM_STATUS_GET (R382). -/
def memStatusGet : CmdSpec where
  op := 0x0807
  when_ := .done
  reserved := [(8, 32)]
  check c d := firstOf [badParam (4 ≤ c.handle), targetCheck 128 c d]
  apply c d := let d1 := d.measureGroup c.handle; writeRecord (groupRecord c.handle d1) c d1

end Sys2Proof.Machine
end

