-- ==== Sys2Proof/Machine/Host.lean ====
section
/-!
DEFINITION. The host link (chapter 10): register writes, the HDM window, Bus Master Enable, MSI-X, resets and losses of the link, its
return, DOE, SPDM, IDE, and the messages of the SMBus path; and HOSTLANE_TEST (chapter 9).
-/
namespace Sys2Proof.Machine

/-! ### BAR0 writes -/

/-- An access of unsupported size or alignment (R16): a read returns 0, a write is discarded, E437. -/
def Device.badAccess (off : Nat) (d : Device) : Device := d.raise [(dtIndex 5, 0), (437, off)]

def execBar0BadAccess (t : Nat) (offset : Nat) (s : State) : Host.Outcome State Fault Refusal :=
  .next { s with dev := ((s.dev.at_ t).badAccess offset).replyData (wrLE 8 0) }

/-- A write as a 64-bit register sees it: the bits of a 32-bit write lie in its half. -/
def placedBits (off v : Nat) (wide : Bool) : Nat := if wide then v else if off % 8 = 4 then v % 2 ^ 32 * 2 ^ 32 else v % 2 ^ 32

/-- What a 64-bit RW register holds after a write. -/
def mergedBits (off cur v : Nat) (wide : Bool) : Nat :=
  if wide then v else if off % 8 = 4 then v % 2 ^ 32 * 2 ^ 32 + cur % 2 ^ 32 else cur / 2 ^ 32 * 2 ^ 32 + v % 2 ^ 32

/-- A write of 1 to CRn_STATUS (Table 11.4): ERROR and BUSY_STOP are W1C. -/
def ringStatusClear (r v : Nat) (d : Device) : Device :=
  let g := d.rk.ring r
  d.setRing r { g with error := g.error && !natBit v 6, busyStop := g.busyStop && !natBit v 5 }

/-- A write to the DOORBELL region (Table 11.2), at an offset from its start; `low` says that bits 31 to 0 are written. -/
def doorbellWrite (o v : Nat) (low : Bool) (base : Nat) (d : Device) : Device :=
  if o < 0x200 then
    if o % 0x80 = 0x18 then ringStatusClear (o / 0x80) v d
    else if !low then d
    else if o % 0x80 = 0 then ringCfgWrite (o / 0x80) v d
    else if o % 0x80 = 8 then ringDoorbell (o / 0x80) (v % 2 ^ 32) d
    else d
  else if o = 0x200 then cqConfigWrite false base d
  else if o = 0x208 && low then cqConfigWrite true v d
  else if o = 0x218 && low then cqReadWrite (v % 2 ^ 32) d
  else if o = 0x220 && natBit v 6 then { d with rk := { d.rk with cq := { d.rk.cq with error := false } } }
  else d

/-- A write to the HOSTQ region (Tables 8.9 and 8.10). -/
def hostqWrite (o v : Nat) (low : Bool) (d : Device) : Device :=
  let q := o % 0x1000 / 0x40
  let r := o % 0x40
  if o < 0x1000 then
    if r = 0 && low then txDoorbell q (v % 2 ^ 32) [] d
    else if r = 0x10 && natBit v 6 then d.setTx q { d.txq q with error := false }
    else d
  else if o < 0x2000 then
    if r = 0 && low then rxDoorbell q (v % 2 ^ 32) [] d
    else if r = 0x10 && natBit v 6 then d.setRx q { d.rxq q with error := false }
    else d
  else d

/-- A W1C of WQq_STATUS (Table 15.13). -/
def wqStatusClear (q v : Nat) (d : Device) : Device :=
  let w := Tab.read d.wq.queues q WordQueue.reset
  { d with wq := { queues := Tab.put q { w with popEmpty := w.popEmpty && !natBit v 5, resetSeen := w.resetSeen && !natBit v 4 } d.wq.queues } }

/-- The registers that only take a 64-bit access (R16): the tallies' aliases and WQq_DATA. -/
def wideOnly (off : Nat) : Bool := within 0x16000 0x17BFF off || (within 0x18000 0x18FFF off && off % 0x40 < 8)

/-- A write to CMDSRAM (11 R317): the words written hold good data again. -/
def MemState.writeCmd (off n v : Nat) (m : MemState) : MemState :=
  { m with cmdsram := memStore m.cmdsram off (wrLE n v), cmdBad := m.cmdBad.filter (fun w => !(off ≤ 4 * w && 4 * w < off + n)) }

/-- A write to BAR0 (R13, R16, R296, R297). A write to reserved space, or to a register that is read-only, is discarded (R13, R15). -/
def barWrite (off v : Nat) (wide : Bool) (d : Device) : Device :=
  let o := off / 8 * 8
  let w := placedBits off v wide
  let low := wide || off % 8 == 0
  if (wide && off % 8 != 0) || off % 4 != 0 || (!wide && wideOnly off) then d.badAccess off
  else if within 0x1000 0x1FFF o then doorbellWrite (o - 0x1000) w low (mergedBits off d.rk.cq.base v wide) d
  else if within 0x2000 0xFFFF o then hostqWrite (o - 0x2000) w low d
  else if within 0x10000 0x11FFF o then
    if o % 16 = 0 then { d with events := eventClear false ((o - 0x10000) / 16) w d.events } else d
  else if within 0x12000 0x1203F o then { d with events := eventClear true ((o - 0x12000) / 8) w d.events }
  else if within 0x18000 0x18FFF o then
    if o % 0x40 = 0x10 then wqStatusClear ((o - 0x18000) / 0x40) w d else d
  else if within 0x19100 0x191FF o then
    if o % 0x20 = 0x18 && natBit w 0 then { d with time := captureRelease ((o - 0x19100) / 0x20) d.time } else d
  else if within 0x100000 0x1FFFFF o then
    { d with mem := d.mem.writeCmd (off - 0x100000) (if wide then 8 else 4) v }
  else d

def execRegisterWrite (t : Nat) (offset : Nat) (value : BitVec 64) (wide : Bool) (s : State) : Host.Outcome State Fault Refusal :=
  .next { s with dev := barWrite offset value.toNat wide (s.dev.at_ t) }

/-! ### The HDM window -/

/-- The window is reached through BAR4 (R288). -/
def LinkState.bar4 (x : LinkState) : Bool := x.mode == 3 || x.mode == 4

/-- A host read of the window: data, poison with E444 at most once per second (R302), or, from a retired quarter, poison or a completer
abort (R301). -/
def windowRead (off n : Nat) (d : Device) : Device :=
  if !d.link.up then d
  else if !d.rangeUp off n then { d with link := { d.link with reply := ⟨[], !d.link.bar4, d.link.bar4⟩ } }
  else if d.poisoned off n then
    let tell := oncePerSecond d.link.lastE444 d.now
    { d with link := { d.link with
        reply := ⟨[], true, false⟩
        lastE444 := if tell then some d.now else d.link.lastE444 } }.raise (if tell then [(444, off)] else [])
  else d.replyData (memBytes d.mem.hdm off n)

def execHdmWindowRead (t : Nat) (offset bytes : Nat) (s : State) : Host.Outcome State Fault Refusal :=
  if windowBytes < offset + bytes then .fault (.outsideWindow offset)
  else .next { s with dev := windowRead offset bytes (s.dev.at_ t) }

/-- The part of a write that falls in quarter `q`: its offset and bytes. -/
def quarterPart (q off : Nat) (b : Bytes) : Nat × Bytes :=
  let lo := Nat.max off (q * 2 ^ 32)
  let hi := Nat.min (off + b.length) ((q + 1) * 2 ^ 32)
  (lo, (b.drop (lo - off)).take (hi - lo))

/-- A host write within one quarter: stored, the poison of every burst it covers whole cleared (R302), or discarded and counted (R301). -/
def writeQuarter (q off : Nat) (b : Bytes) (d : Device) : Device :=
  let p := quarterPart q off b
  if p.2.isEmpty then d
  else if d.groupUp q then { d with mem := d.mem.write false true p.1 p.2 }
  else { d with dram := { d.dram with groups := Tab.upd d.dram.groups q Group.reset (fun g => { g with discarded := satAdd max64 g.discarded 1 }) } }

/-- A host write of the window. -/
def windowWrite (off : Nat) (b : Bytes) (d : Device) : Device :=
  if d.link.up then (List.range 4).foldl (fun d q => writeQuarter q off b d) d else d

def execHdmWindowWrite (t : Nat) (offset : Nat) (data : Bytes) (s : State) : Host.Outcome State Fault Refusal :=
  if windowBytes < offset + data.length then .fault (.outsideWindow offset)
  else .next { s with dev := windowWrite offset data (s.dev.at_ t) }

/-! ### DMA and MSI-X come and go -/

/-- A transmit queue's held write-backs are made (R308). -/
def Device.writeBackTx (q : Nat) (d : Device) : Device :=
  let g := d.txq q
  let r := txWriteBack d.dmaUp g.done.length d.mem.host g
  { d with mem := { d.mem with host := r.1 }, sched := { d.sched with tx := Tab.put q r.2 d.sched.tx } }

/-- DMA and MSI-X follow what Bus Master Enable, the power state and the link allow (R303): held records and write-backs first, then the
messages of the pending vectors, in ascending order. -/
def Device.resume (d : Device) : Device :=
  if d.dmaUp then
    let d1 := ((d.sched.tx.map (·.1)).foldl (fun d q => d.writeBackTx q) d).drainRecords.clearCqWait
    { d1 with msix := msixDrain { d1.msix with open_ := true } }
  else { d with msix := { d.msix with open_ := false } }

def execBusMasterEnable (t : Nat) (on : Bool) (s : State) : Host.Outcome State Fault Refusal :=
  let d := s.dev.at_ t
  .next { s with dev := if d.link.up then { d with link := { d.link with bme := on } }.resume else d }

def execPowerStateChange (t : Nat) (d3hot : Bool) (s : State) : Host.Outcome State Fault Refusal :=
  let d := s.dev.at_ t
  .next { s with dev := if d.link.up then { d with link := { d.link with d3hot := d3hot } }.resume else d }

/-- A vector's mask bit or the function mask is written (R303): what pends and may go is sent. -/
def msixMask (v : Nat) (masked func : Bool) (m : MsixState) : MsixState :=
  msixDrain (if func then { m with funcMask := masked }
    else { m with mask := if masked then m.mask ||| (1#256 <<< v) else m.mask &&& ~~~(1#256 <<< v) })

def execMsixUnmask (t : Nat) (vector : Fin 256) (masked func : Bool) (s : State) : Host.Outcome State Fault Refusal :=
  let d := s.dev.at_ t
  .next { s with dev := if d.link.up then { d with msix := msixMask vector masked func d.msix } else d }

/-! ### The link goes down -/

/-- 80 ms: how long the link may take to reach L0 (R310). -/
def trainTime : Nat := 80 * msec

/-- E440 for each IDE stream that ends (R306). -/
def ideEvent (cxl on : Bool) : Nat × Nat := (440, det2 (Config.ideStream cxl).toNat (Config.ideState on).toNat)

def LinkState.ideEnds (x : LinkState) : List (Nat × Nat) :=
  (if x.ideCm then [ideEvent true false] else []) ++ (if x.ideIo then [ideEvent false false] else [])

/-- What every reset and loss of the link does to it (R308, Table 13): sessions and IDE end, HOST_RESETS and LAST_RESET. -/
def LinkState.ended (code : Nat) (x : LinkState) : LinkState :=
  { x with sessions := [], ideCm := false, ideIo := false, hostResets := satAdd 0xFFFFFFFF x.hostResets 1, lastReset := code }

/-- Channels that do not outlive the host link are to stop (R311): at their commit point, with E445. -/
def CodingState.linkEnded (x : CodingState) : CodingState :=
  { x with channels := Tab.mapVals (fun _ c => { c with lossStop := c.lossStop || (c.running && !c.recd.hostIndependent) }) x.channels }

/-- A host frame ring while no descriptor can be read: what it has begun is judged afresh on return (03 R87). -/
def HostRing.unplugged (h : HostRing) : HostRing :=
  { h with lineHeld := false, queue := h.queue.map (fun x => { x with begun := false, checked := none }) }

/-- A host frame ring after a host-link reset: disabled until HOSTRING_SET. -/
def HostRing.dead (h : HostRing) : HostRing := { h with enabled := false, lineHeld := false, queue := [] }

def IngestState.rings (f : HostRing → HostRing) (x : IngestState) : IngestState :=
  { x with binds := Tab.mapVals (fun _ b => { b with host := b.host.map f }) x.binds }

/-- The link leaves L0 without a reset (R308). -/
def Device.linkLoss (code : Nat) (d : Device) : Device :=
  if d.link.up then
    let evs := d.link.ideEnds ++ [(dtIndex 4, 0), (432, code)]
    { d with
      link := { d.link.ended code with up := false, training := none }
      msix := { d.msix with open_ := false }
      ingest := d.ingest.rings HostRing.unplugged
      code := d.code.linkEnded }.raise evs
  else d

/-- A command ring after a host-link reset (R309, R347). -/
def Ring.hostReset (g : Ring) : Ring :=
  { g with enable := true, log2 := 8, tail := 0, head := 0, errorCode := 0, error := false, busyStop := false, busyHint := 0, cqWait := false,
           stamps := [], order := g.order.map (fun x => { x with writes := false, ackSlot := false, ack := none }) }

/-- Host packet queues after a host-link reset (08 R259): disabled, HEAD and TAIL 0; frames already placed launch with no write-back. -/
def SchedState.hostReset (x : SchedState) : SchedState :=
  let orphan (e : Placed) : Placed := { e with copy := { e.copy with sub := if e.copy.kind = 3 then e.copy.sub + 64 else e.copy.sub } }
  { x with
    tx := Tab.mapVals (fun _ g => { g with enable := false, head := 0, tail := 0, fetched := 0, eligible := 0, flushing := false, lastTime := 0, done := [] }) x.tx
    rx := Tab.mapVals (fun _ g => { g with enable := false, head := 0, tail := 0, seen := 0 }) x.rx
    ports := Tab.mapVals (fun _ p => { p with calendar := p.calendar.map orphan }) x.ports }

/-- A host-link reset (R308, Table 10.13). -/
def Device.hostReset (code : Nat) (stays : Bool) (training : Option Nat) (before : List (Nat × Nat)) (d : Device) : Device :=
  let evs := before ++ d.link.ideEnds ++ [(dtIndex 4, 0), (432, code)]
  { d with
    link := { d.link.ended code with up := d.link.up && stays, training := training, bme := false, d3hot := false }
    msix := { MsixState.reset with sent := d.msix.sent }
    rk := { d.rk with rings := Tab.mapVals (fun _ g => g.hostReset) d.rk.rings, cq := CompRing.reset }
    sched := d.sched.hostReset
    ingest := d.ingest.rings HostRing.dead
    code := d.code.linkEnded }.raise evs

def perstAssert (d : Device) : Device :=
  if d.link.perst then d
  else
    let d1 := d.hostReset 1 false none []
    { d1 with link := { d1.link with perst := true } }

def execPerstAssert (t : Nat) (s : State) : Host.Outcome State Fault Refusal := .next { s with dev := perstAssert (s.dev.at_ t) }

/-- PERST# is released (R310): the link trains, from power-up stage 0x03 on (18 R504). -/
def perstRelease (d : Device) : Device :=
  if d.link.perst then { d with link := { d.link with perst := false, training := if 3 ≤ d.link.bootStage then some (d.now + trainTime) else none } } else d

def execPerstRelease (t : Nat) (s : State) : Host.Outcome State Fault Refusal := .next { s with dev := perstRelease (s.dev.at_ t) }

/-- A reset that needs the link up, and after which it trains. -/
def resetAndTrain (code : Nat) (d : Device) : Device := if d.link.up then d.hostReset code false (some (d.now + trainTime)) [] else d

def execHotReset (t : Nat) (s : State) : Host.Outcome State Fault Refusal := .next { s with dev := resetAndTrain 2 (s.dev.at_ t) }

def execCxlReset (t : Nat) (s : State) : Host.Outcome State Fault Refusal := .next { s with dev := resetAndTrain 5 (s.dev.at_ t) }

/-- The port above disables the link, or ends the disable (R308, R310). -/
def linkDisable (on : Bool) (d : Device) : Device :=
  if on then
    if d.link.up then
      let d1 := d.hostReset 3 false none []
      { d1 with link := { d1.link with disabled := true } }
    else d
  else if d.link.disabled then { d with link := { d.link with disabled := false, training := some (d.now + trainTime) } }
  else d

def execLinkDisable (t : Nat) (disable : Bool) (s : State) : Host.Outcome State Fault Refusal := .next { s with dev := linkDisable disable (s.dev.at_ t) }

/-- FLR (R308): the link stays in L0. -/
def execFlr (t : Nat) (s : State) : Host.Outcome State Fault Refusal :=
  let d := s.dev.at_ t
  .next { s with dev := if d.link.up then d.hostReset 4 true none [] else d }

def execLinkLoss (t : Nat) (s : State) : Host.Outcome State Fault Refusal := .next { s with dev := (s.dev.at_ t).linkLoss 6 }

/-- An IDE integrity failure (R307). -/
def ideFailure (stream : Nat) (d : Device) : Device :=
  if d.link.up && (d.link.ideCm || d.link.ideIo) then d.hostReset 7 false (some (d.now + trainTime)) [(441, stream)] else d

def execIdeIntegrityFailure (t : Nat) (stream : Nat) (s : State) : Host.Outcome State Fault Refusal := .next { s with dev := ideFailure stream (s.dev.at_ t) }

/-- The 100 MHz reference is lost (09 R283): E442 and a link loss. -/
def refClockLost (d : Device) : Device := ({ d with link := { d.link with refClock := false } }.raise [(442, 0)]).linkLoss 8

def execReferenceClockLoss (t : Nat) (s : State) : Host.Outcome State Fault Refusal := .next { s with dev := refClockLost (s.dev.at_ t) }

/-! ### The link comes up -/

/-- A mode and width of Table 10.1. -/
def linkShapeOk (mode width : Nat) : Bool :=
  within 1 4 mode && (width == 16 || width == 8 || width == 4 || ((mode == 3 || mode == 4) && (width == 2 || width == 1)))

/-- The read charges of the bound host frame rings, in bytes per second (R292). -/
def Device.hostCharges (d : Device) : Nat := (d.ingest.binds.map (fun e => e.2.charge)).sum

/-- E434 (R289) and E435 (R293) for the mode and width in force; `trained` says that the link trained from Detect. -/
def Device.linkWarnings (trained : Bool) (d : Device) : List (Nat × Nat) :=
  let x := d.link
  (if x.width < 16 || (trained && (x.mode == 2 || x.mode == 4)) then [(434, det2 x.mode x.width)] else []) ++
  (if d.hostReadRate < d.hostCharges then [(435, d.hostCharges / 1000000)] else [])

/-- The link may train: PERST# is released, no disable holds it, the controller is configured, and the mode has a host link. -/
def Device.mayTrain (d : Device) : Bool :=
  !d.link.up && !d.link.perst && !d.link.disabled && (3 ≤ d.link.bootStage || d.link.rescue) && !d.phys.powerLost && d.modes.mode != mKeep && d.modes.mode != mTimekeep && d.lanes.hostTest.isNone

/-- The link is in L0 again (R287 to R289, R308): E433, and what was held goes out. -/
def linkUp (mode width : Nat) (d : Device) : Device :=
  if d.mayTrain && linkShapeOk mode width then
    let d1 : Device :=
      { d with link := { d.link with up := true, mode := mode, width := width, training := none, refClock := true }
               phys := { d.phys with wake := false } }
    let d2 := d1.raise ((433, det2 mode width) :: d1.linkWarnings true)
    (d2.ingest.binds.map (·.1)).foldl (fun d c => d.fetchRing c) d2.resume
  else d

def execLinkUp (t : Nat) (mode width : Nat) (s : State) : Host.Outcome State Fault Refusal := .next { s with dev := linkUp mode width (s.dev.at_ t) }

/-- A retrain through Recovery changes the width (R287). -/
def linkRetrain (width : Nat) (d : Device) : Device :=
  if d.link.up && linkShapeOk d.link.mode width then
    let d1 : Device := { d with link := { d.link with width := width } }
    d1.raise (d1.linkWarnings false)
  else d

def execLinkRetrain (t : Nat) (width : Nat) (s : State) : Host.Outcome State Fault Refusal := .next { s with dev := linkRetrain width (s.dev.at_ t) }

/-- More than 1000 replays in a second (Table 10.16). -/
def replayStorm (count : Nat) (d : Device) : Device :=
  { d with link := { d.link with replays := count } }.raise (if 1000 < count then [(443, count)] else [])

def execLinkReplayStorm (t : Nat) (count : Nat) (s : State) : Host.Outcome State Fault Refusal := .next { s with dev := replayStorm count (s.dev.at_ t) }

def execCxlCacheRefused (t : Nat) (channel : Fin 64) (s : State) : Host.Outcome State Fault Refusal :=
  .next { s with dev := (s.dev.at_ t).raise [(438, channel)] }

/-! ### DOE, SPDM and IDE -/

/-- The window's bandwidth in bytes per second (Table 10.12): 96 GB/s in mode 1 at x16, scaled with mode and width. DEDUCED: a mode scales as its line
rate and the figures of R292 (assumption 22). -/
def LinkState.windowRate (x : LinkState) : Nat := (if x.mode = 1 || x.mode = 3 then 96000000000 else 46000000000) * x.width / 16

/-- The SHA-384 digest of an image of a kind; the one with which the module left Caernos has a free digest (assumption 237). -/
def Image.measured (kind : Nat) (i : Image) : Bytes := if i.digest.isEmpty then wrLE 48 (Config.factoryImage kind).toNat else i.digest

/-- The slot of the RCT image on the lowest-numbered serving rod; with no rod serving, the active slot. -/
def Device.rctSlot (d : Device) : Nat :=
  ((rodNumbers.find? (fun n => (d.rod n).role == 0 && (d.rod n).service == 0)).map (fun n => Tab.read d.serv.rodImage n 0)).getD (d.serv.image 4).active

/-- The second RCT image on a rod during a rod update (R480), all zero otherwise. -/
def Device.secondRct (d : Device) : Bytes :=
  let n := 1 - d.rctSlot
  if d.serv.update.isSome && rodNumbers.any (fun r => Tab.read d.serv.rodImage r 0 == n) then ((d.serv.image 4).slot n).measured 4 else List.replicate 48 0

/-- The registrations of the operator keys in ascending KEY_ID: each is the KEY_ID and its public key (R124; assumption 237). -/
def CompState.registrations (x : CompState) : Bytes := x.keys.flatMap (fun k => BitVec.ofNat 8 k.1 :: k.2.pub)

/-- A measurement of Table 17.9 by its index (R491). -/
def Device.measurement (index : Nat) (d : Device) : Bytes :=
  let runs (k : Nat) : Bytes := (d.serv.image k).running.measured k
  match index with
  | 1 => wrLE 48 Config.bootRom.toNat
  | 2 => runs 1
  | 3 => runs 3
  | 4 => runs 2
  | 5 => ((d.serv.image 4).slot d.rctSlot).measured 4
  | 6 => d.secondRct
  | 7 => runs 5
  | 8 => runs 6
  | 9 => sha384 (d.serv.ownerChain ++ d.comp.registrations)
  | _ => sha384 [BitVec.ofNat 8 d.serv.lifecycle]

/-- The blocks that a GET_MEASUREMENTS returns for its Param2 (R491; PRESUMED: 0 asks for their number alone, 0xFF for all, any other value for that
index; assumption 110). -/
def Device.measurements (p2 : Nat) (d : Device) : List (Nat × Bytes) :=
  ((List.range 10).filter (fun n => p2 == 0xFF || p2 == n + 1)).map (fun n => (n + 1, d.measurement (n + 1)))

/-- The protocol of a DOE data object (Table 10.12; PRESUMED: PCI-SIG vendor 1 types 0 to 2, CXL vendor 0x1E98 type 2). -/
def doeProtocol (bandwidth vendor type : Nat) : Option DoeReply :=
  if vendor = 1 && type = 0 then some .discovery
  else if vendor = 1 && type = 1 then some (.spdm [])
  else if vendor = 1 && type = 2 then some .secured
  else if vendor = 0x1E98 && type = 2 then some (.cdat 380 bandwidth)
  else none

/-- A DOE request (R304). The security core answers SPDM; while it is not running there is no response object. -/
def doeRequest (vendor type : Nat) (d : Device) : Device :=
  if !d.link.up then d
  else
    let r := doeProtocol d.link.windowRate vendor type
    let r' := if vendor = 1 && within 1 2 type && !d.link.secUp then none else r
    { d with link := { d.link with doe := r' } }

def execDoeRequest (t : Nat) (vendor type : Nat) (s : State) : Host.Outcome State Fault Refusal := .next { s with dev := doeRequest vendor type (s.dev.at_ t) }

/-- The modes in which the AON domain answers MCTP on its own, and the stages before management firmware runs (R315; 18 R506). -/
def Device.mctpAsleep (d : Device) : Bool := d.modes.mode == mKeep || d.modes.mode == mTimekeep || (d.link.bootStage < 5 && !d.link.rescue)

/-- An MCTP response. -/
def Device.mctpAnswer (r : MctpReply) (d : Device) : Device := { d with rk := { d.rk with mctpReply := some r, mctpCount := d.rk.mctpCount + 1 } }

/-- A session opens or ends (R305; PRESUMED: KEY_EXCHANGE 0xE4, END_SESSION 0xEC): at most four at once. -/
def LinkState.spdm (mctp : Bool) (code session : Nat) (x : LinkState) : LinkState :=
  let y := { x with spdmCount := x.spdmCount + 1 }
  if code = 0xE4 then
    if x.sessions.length < 4 then { y with sessions := x.sessions ++ [⟨x.nextSession, mctp⟩], nextSession := x.nextSession + 1 } else y
  else if code = 0xEC then { y with sessions := x.sessions.filter (fun z => !(z.id == session && z.mctp == mctp)) }
  else y

/-- An SPDM request (R305, R315): GET_MEASUREMENTS (PRESUMED: 0xE0) returns the blocks its Param2 asks for (17 R491). -/
def spdmRequest (mctp : Bool) (code : Nat) (session : Nat × Nat) (d : Device) : Device :=
  if mctp && d.mctpAsleep then d.mctpAnswer .badState
  else if !d.link.secUp || (!mctp && !d.link.up) then d
  else
    let d1 : Device := { d with link := d.link.spdm mctp code session.1 }
    let blocks := if code = 0xE0 then d.measurements session.2 else []
    if mctp then d1.mctpAnswer (.spdm blocks) else { d1 with link := { d1.link with doe := some (.spdm blocks) } }

def execSpdmRequest (t : Nat) (mctp : Bool) (code : Nat) (session : Nat × Nat) (s : State) : Host.Outcome State Fault Refusal :=
  .next { s with dev := spdmRequest mctp code session (s.dev.at_ t) }

/-- IDE_KM (R306): only in a secured session over DOE, on a stream that the mode has; a refresh pauses nothing. -/
def ideKm (session : Nat) (cxl : Bool) (action : Nat) (d : Device) : Device :=
  let has := d.link.up && d.link.secUp && d.link.sessions.any (fun z => z.id == session && !z.mctp) &&
    (if cxl then within 1 2 d.link.mode else within 1 3 d.link.mode)
  let on := if cxl then d.link.ideCm else d.link.ideIo
  let want := action == 0
  if !has || action = 1 || on == want then d
  else { d with link := if cxl then { d.link with ideCm := want } else { d.link with ideIo := want } }.raise [ideEvent cxl want]

def execIdeKmRequest (t : Nat) (session : Nat) (cxl : Bool) (action : Fin 3) (s : State) : Host.Outcome State Fault Refusal :=
  .next { s with dev := ideKm session cxl action (s.dev.at_ t) }

/-! ### The SMBus path -/

def execMctpControlMessage (t : Nat) (_code : Nat) (s : State) : Host.Outcome State Fault Refusal :=
  .next { s with dev := (s.dev.at_ t).mctpAnswer .control }

/-- The thresholds of a sensor in °C (16 Table 16.8): warning, throttle, duty limit and trip. -/
structure Thermal where
  warn : Option Nat
  throttle : Option Nat
  duty : Option Nat
  trip : Option Nat

/-- Table 16.8. -/
def thermalOf (n : Nat) : Thermal :=
  if n = 1 then ⟨some 45, none, none, none⟩
  else if n = 2 || n = 3 then ⟨some 95, some 100, some 105, some 115⟩
  else if n = 4 then ⟨some 85, none, none, some 105⟩
  else if n = 5 then ⟨some 70, some 75, none, some 85⟩
  else ⟨none, none, none, none⟩

/-- A threshold as THERMAL_LIMIT_SET leaves it: 0 is the default (16 R470). -/
def lowered (dflt : Option Nat) (v : Nat) : Option Nat := if v = 0 then dflt else dflt.map (fun _ => v)

/-- The thresholds of a sensor in force. -/
def ModeState.thermal (n : Nat) (x : ModeState) : Thermal :=
  let t := thermalOf n
  let l := Tab.read x.limits n (0, 0)
  { t with warn := lowered t.warn l.1, throttle := lowered t.throttle l.2 }

/-- A sensor's value (Table 10.15): °C, mW, mA, mJ, %, and the codes of the state sensors. -/
def sensorValue (n : Nat) (d : Device) : Int :=
  if n ≤ 5 then Tab.read d.modes.temps n 0 / 256
  else if n = 6 then (d.modes.inputMw : Nat)
  else if n = 7 then (d.modes.edgeMa : Nat)
  else if n = 8 then (d.modes.auxMa : Nat)
  else if n = 9 then (d.journal.energyMj : Nat)
  else if n = 10 then (d.journal.wear : Nat)
  else if n = 11 then (d.modes.mode : Nat)
  else (d.time.servo.code : Nat)

/-- A sensor's warning and critical thresholds (18 R509, Table 18.9), in the same units. -/
def sensorLimits (n : Nat) (d : Device) : Option Nat × Option Nat :=
  let t := d.modes.thermal n
  if n = 1 then (t.warn, some 50)
  else if n ≤ 5 then (t.warn, if t.trip.isSome then t.trip else t.throttle)
  else if n = 6 then (some 215000, some 225000)
  else if n = 7 then (some 5200, some 5500)
  else if n = 8 then (some 11900, some 12500)
  else if n = 9 then (some 3000, some 1752)
  else if n = 10 then (some 10, some 5)
  else (none, none)

/-- A PLDM sensor read (R313, R315): while the module sleeps the AON domain answers sensors 1, 6, 11 and 12 alone. -/
def pldmSensor (n : Nat) (d : Device) : Device :=
  if !within 1 12 n || (d.mctpAsleep && !(n == 1 || n == 6 || n == 11 || n == 12)) then d.mctpAnswer .unavailable
  else
    let l := sensorLimits n d
    d.mctpAnswer (.sensor (sensorValue n d) (l.1.map Int.ofNat) (l.2.map Int.ofNat))

def execPldmSensorRequest (t : Nat) (sensor : Nat) (s : State) : Host.Outcome State Fault Refusal :=
  .next { s with dev := pldmSensor sensor (s.dev.at_ t) }

/-! ### Host lane tests (09 R284) -/

/-- The host lanes of a mask, as lane numbers 32 to 47. -/
def hostLanes (mask : Nat) : List Nat := (List.range 16).filterMap (fun h => if natBit mask h then some (32 + h) else none)

/-- Host lanes begin a test: their earlier results are gone. -/
def LanesState.beginHost (mask pattern speed ends : Nat) (x : LanesState) : LanesState :=
  let cleared := (List.range 16).foldl (fun s h => s.setLane (32 + h) { s.lane (32 + h) with bits := 0, errors := 0, symbolErrors := 0, test := Lane.reset.test }) x
  { (hostLanes mask).foldl (fun s l => s.setLane l { s.lane l with test := { (s.lane l).test with mode := 3, pattern := pattern, rate := speed } }) cleared with
    hostTest := some ⟨mask, pattern, speed, ends⟩ }

/-- HOSTLANE_TEST (R284): the completion is written before the link drops. -/
def hostlaneTest : CmdSpec where
  op := 0x0706
  reserved := [(8, 32)]
  held := true
  check c d :=
    let p := c.p 2 1
    firstOf [
      badParam (c.handle != 0 || !(p == 0 || p == 3 || p == 5 || p == 6 || p == 7) || 2 ≤ c.p 3 1 || (6 ≤ p) != (c.p 3 1 == 1) || !within 100 60000 (c.p 4 4)),
      badState (d.modes.mode != mMaintain) 0]
  apply c d :=
    let d1 := (d.decideCtx c stOk 0 none c.now).linkLoss 6
    Done.goesOn { d1 with lanes := d1.lanes.beginHost (c.p 0 2) (c.p 2 1) (c.p 3 1) (d.now + c.p 4 4 * msec) }

/-- The test ends: its results are kept, and the link trains without host action. -/
def hostlaneTestEnd (results : List (Nat × Nat)) (d : Device) : Device :=
  match d.lanes.hostTest with
  | none => d
  | some h =>
    if d.due h.ends then
      let put (s : LanesState) (e : Nat × Nat × Nat) : LanesState :=
        s.setLane e.1 { s.lane e.1 with bits := e.2.1, errors := e.2.2, test := { (s.lane e.1).test with mode := 0 } }
      let d1 : Device := { d with lanes := { ((hostLanes h.mask).zip results).foldl put d.lanes with hostTest := none } }
      if d1.link.perst || d1.link.disabled then d1 else { d1 with link := { d1.link with training := some (d1.now + trainTime) } }
    else d

def execHostlaneTestEnd (t : Nat) (results : List (Nat × Nat)) (s : State) : Host.Outcome State Fault Refusal :=
  .next { s with dev := hostlaneTestEnd results (s.dev.at_ t) }

end Sys2Proof.Machine
end

