-- ==== Sys2Proof/Machine/Modes.lean ====
section
/-!
DEFINITION. Modes (chapter 16): which rods serve in a mode, transitions and their ends, drains, scheduled starts, quiet windows, island
sleep, and the commands 0x0010 to 0x0014.
-/
namespace Sys2Proof.Machine

/-- A live mode (Table 16.1). -/
def isLive (m : Nat) : Bool := within mFrugal mDense m

/-- Two values of an event whose first is a thing that the spec names and does not number (assumption 19). -/
def codeOf (source thing : Nat) : Nat := (Config.code source thing).toNat

/-! ### Rods in a mode (05 R142; 17 R478) -/

/-- Rods in service, lowest first. -/
def Device.rodsUp (d : Device) : List Nat := rodNumbers.filter (fun n => (d.rod n).service == 0)

/-- Spare rods of a live mode: each rod out of service takes the place of one (05 Table 5.4; 17 R478). -/
def Device.spareCount (m : Nat) (d : Device) : Nat :=
  (if m = mGuarded then 2 else if m = mBalanced then 1 else 0) - (24 - d.rodsUp.length)

/-- The rods that may be spares, best first: the highest-numbered without a channel, then those whose channels have to move. -/
def Device.spareOrder (d : Device) : List Nat :=
  let whole := d.rodsUp.reverse.filter (fun n => (d.rod n).pes.length == 7)
  whole.filter (fun n => (d.channelsOn n).isEmpty) ++ whole.filter (fun n => !(d.channelsOn n).isEmpty)

/-- The 16 rods that serve in LIVE-FRUGAL (05 R142). -/
def Device.frugalRods (d : Device) : List Nat :=
  let carry := d.rodsUp.filter (fun n => !(d.channelsOn n).isEmpty)
  let best := ((byCost (carry.map (fun n => (n, d.usedBeads n none)))).map (·.1)).take 16
  best ++ (d.rodsUp.filter (fun n => !carry.contains n && (d.rod n).pes.length == 7)).take (16 - best.length)

/-- A rod's role in a mode: 0 serving, 1 spare, 2 off (Table 16.5). -/
def Device.roleIn (m n : Nat) (d : Device) : Nat :=
  if m = mDrain then (d.rod n).role
  else if m = mFrugal then (if d.frugalRods.contains n then 0 else 2)
  else if isLive m then bit01 ((d.spareOrder.take (d.spareCount m)).contains n)
  else 2

/-- The rods' clock in a mode (Table 16.6). -/
def Device.rodClock (m : Nat) (d : Device) : Nat := if m = mFrugal || d.modes.throttleCoding != 0 then 1440 else 1800

/-- E035 + 4n for a rod itself: its service state (5) or its spare role (6) has changed (05 Table 5.14). -/
def rodChange (n code new : Nat) : Nat × Nat := (35 + 4 * n, det3 0xFFFF code new)

/-- The events of roles that change to or from spare. -/
def roleEvents (n old new : Nat) : List (Nat × Nat) := if old != new && (old == 1 || new == 1) then [rodChange n 6 new] else []

/-- A rod takes a role. -/
def Device.setRole (n role : Nat) (d : Device) : Device := (d.setRod n { d.rod n with role := role }).raise (roleEvents n (d.rod n).role role)

/-- A rod's service state changes: E011 (17 R475) and E035 + 4n. -/
def Device.setRodService (n new cause : Nat) (d : Device) : Device :=
  if (d.rod n).service = new then d
  else ((d.setRod n { d.rod n with service := new }).noteUnit n (d.rod n).service new cause).raise [rodChange n 5 new]

/-- Every rod takes its role and its clock for a mode. -/
def Device.withRoles (m : Nat) (d : Device) : Device :=
  let mhz := d.rodClock m
  let new (n : Nat) : Rod := { d.rod n with role := d.roleIn m n, clockMhz := mhz }
  { d with code := { d.code with rods := rodNumbers.foldl (fun t n => Tab.put n (new n) t) d.code.rods } }.raise
    (rodNumbers.flatMap (fun n => roleEvents n (d.rod n).role (new n).role))

/-- Where a channel goes when its rods no longer serve it: its HOME_ROD fields where they can be honoured, else firmware's choice (05 R141). -/
def Device.placeFor (c m : Nat) (d : Device) : Except (Nat × Nat) Homed :=
  let r := (d.chan c).recd
  let go (w : Want) : Except (Nat × Nat) Homed := match d.chooseRods c w with
    | none => .error (stNoBeads, 0x0102)
    | some (a, b) => d.admitHome c m false (.move a b 0 0)
  match go (.home r.homeA r.homeB r.spanAllowed) with
  | .ok h => .ok h
  | .error _ => go (.home 255 255 r.spanAllowed)

/-- A move that firmware arranges: the channel, its rods, and its masks there (05 R515). -/
abbrev PlannedMove := Nat × Nat × Nat × Nat × Nat

/-- Channels placed one after another, each seeing those before, or none where one cannot be placed. -/
def placeAll (m : Nat) : List Nat → Device → Option (List PlannedMove)
  | [], _ => some []
  | c :: r, d => match d.placeFor c m with
    | .error _ => none
    | .ok h => (placeAll m r (d.setHomed c h)).map (fun l => (c, h.rodA, h.rodB, h.maskA, h.maskB) :: l)

/-- A channel lies on a rod that does not serve. -/
def Device.misplaced (c : Nat) (d : Device) : Bool :=
  let x := d.chan c
  (d.rod x.rodA).role != 0 || (x.rodB < 24 && (d.rod x.rodB).role != 0)

/-- The moves that a change to another live mode needs (05 R141), or none where the channels cannot be placed. -/
def Device.modeMoves (m : Nat) (d : Device) : Option (List PlannedMove) :=
  let d0 := d.withRoles m
  placeAll m (d0.homed.filter (fun c => d0.misplaced c)) d0

/-- A commanded move is arranged for a channel's next frame boundary (R457; 17 R475, R480). -/
def Device.planMove (m : PlannedMove) (d : Device) : Device := d.setChan m.1 { d.chan m.1 with planned := some m.2 }

/-! ### Channels of a START_MASK (R456) -/

/-- The channels of a mask. -/
def maskChannels (mask : Nat) : List Nat := (List.range 64).filter (natBit mask)

/-- A channel that a START_MASK may name: DEFINED, with a rendition and a source or slate; the servo lets it start (02 R43). -/
def Device.canStart (c : Nat) (d : Device) : Bool :=
  (d.chan c).state == .defined && !(d.rendsOf c).isEmpty && d.hasSource c && (d.time.servo.mayStart || (d.chan c).recd.freeRun)

/-- Admission of channels together (R456): each is judged with those before it placed. -/
def admitAll (m : Nat) : List Nat → Device → Refused
  | [], _ => none
  | c :: r, d => match d.allFields c, d.admitStart c m with
    | some e, _ => some e
    | none, .error e => some e
    | none, .ok h =>
      let d1 := d.setHomed c h
      admitAll m r (d1.setChan c { d1.chan c with state := .live })

/-- The channels of a mask that can start do so, with their first frame at or after a moment; the others stay DEFINED. -/
def Device.startAll (m tag from_ : Nat) (cs : List Nat) (d : Device) : Device :=
  cs.foldl (fun d c =>
    if d.canStart c && (d.allFields c).isNone then
      match d.admitStart c m with
      | .error _ => d
      | .ok h => d.startChannel c (gridFirst (d.chan c).recd from_) tag h
    else d) d

/-! ### Entering and leaving modes -/

/-- The transitions that a MODE_SET may ask for (Table 16.2). -/
def transitionOk (a b : Nat) : Bool :=
  if a = mKeep then b == mTimekeep || b == mArmed || b == mRescue
  else if a = mTimekeep then b == mArmed || b == mKeep
  else if a = mArmed then isLive b || b == mTimekeep || b == mKeep || b == mMaintain || b == mRescue
  else if isLive a then (isLive b && b != a) || b == mDrain
  else if a = mMaintain || a = mHold then b == mArmed || b == mRescue
  else a == mRescue && b == mArmed

/-- The configuration as KEEP's entry saves it (R453). -/
def Device.config (d : Device) : Saved :=
  { code := d.code, ingest := d.ingest, comp := d.comp, out := d.out, sched := d.sched, lanes := d.lanes, audio := d.audio, time := d.time
    events := d.events, wq := d.wq, services := d.journal.services, slates := d.dram.slates, limits := d.modes.limits }

/-- A channel as it is restored: DEFINED, its statistics ring at index 0 (R453). -/
def Channel.restored (x : Channel) : Channel :=
  if x.state == .idle then x else { Channel.reset with recd := x.recd, state := .defined }

/-- A compositor as it is restored: L1 to L6 with ENABLE clear, the proxy ring at index 0 (R453). -/
def Comp.restored (x : Comp) : Comp :=
  { Comp.reset with layers := Tab.mapVals (fun _ (l : Layer) => { l with enable := false }) x.layers, conf := x.conf, flatGen := x.flatGen }

/-- A domain whose source has yet to be found valid. -/
def Domain.unheard (x : Domain) : Domain := { Domain.reset x.set.priority with set := x.set, logSync := x.logSync }

/-- What the AON wake counter shows of Beam time (02 R43): 25 MHz, so steps of 40 ns, rounded up so that the Beam does not go back. -/
def TimeState.aonTime (x : TimeState) : Nat :=
  match x.aonFrom with
  | none => x.beam
  | some a => a + ceilDiv (x.beam - a) (40 * nsec) * (40 * nsec)

/-- The Beam as it leaves KEEP (R453; 02 R43, R511): reloaded from the AON wake counter, in state FREE on the oscillator, with the configured records. -/
def TimeState.leaveKeep (x : TimeState) : TimeState :=
  { x with
    beam := x.aonTime, aonFrom := none, sel := 3, lockRun := 0
    servo := .free, integ := 0, adj := 0, needStep := true, corr := none, assess := false, forced := false, slewFrom := 0
    clampOn := false, history := [], stepPending := false, holdHour := false, domA := x.domA.unheard, domB := x.domB.unheard, ppsOk := false
    tenOk := false, steps := [] }

/-- The port that keeps PTP in TIMEKEEP (02 R43): the active port of the selected domain, else of the preferred one. -/
def TimeState.ptpPort (x : TimeState) : Option Nat := (x.dom (if x.sel < 2 then x.sel else x.preferred)).active

/-- The event log ring starts again at index 0. -/
def EvLog.restart (x : EvLog) : EvLog := { x with windex := 0, full := false, wrote := false, held := none, lostToQuarter := false }

/-- The window's contents are lost (12 R366). -/
def Device.loseDram (d : Device) : Device := { d with mem := { d.mem with hdm := [], poison := [] } }

/-- The module leaves KEEP (R453): the configuration holds, with the exceptions of that rule, and the Beam is FREE. -/
def Device.leaveKeep (d : Device) : Device :=
  { d.loseDram with
    code := { d.code with channels := Tab.mapVals (fun _ c => c.restored) d.code.channels }
    comp := { d.comp with chans := Tab.mapVals (fun _ c => c.restored) d.comp.chans }
    events := { d.events with log := d.events.log.restart }
    time := d.time.leaveKeep
    rk := { d.rk with mgmtUp := true, mgmtUpSince := d.now } }

/-- The saved configuration is read back at a power-up (18 R504, with the exceptions of R453). -/
def Device.restoreConfig (v : Saved) (d : Device) : Device :=
  let rends := Tab.mapVals (fun _ (r : Rendition) => Rendition.ofRec r.recd) v.code.rends
  { d with
    code := { d.code with channels := Tab.mapVals (fun _ c => c.restored) v.code.channels, rends := rends }
    ingest := { v.ingest with
      flows := Tab.mapVals (fun _ (f : Flow) => { Flow.ofRec d.now f.recd with decoder := f.decoder }) v.ingest.flows
      binds := Tab.mapVals (fun _ (b : Binding) => { Binding.reset with
        recd := b.recd, ringLines := b.ringLines, ringBytes := b.ringBytes, charge := b.charge, host := b.host.map HostRing.dead }) v.ingest.binds }
    comp := { d.comp with
      chans := Tab.mapVals (fun _ c => c.restored) v.comp.chans, assets := v.comp.assets, acts := v.comp.acts, clears := v.comp.clears }
    out := v.out
    sched := { SchedState.reset with
      shapers := v.sched.shapers, quanta := v.sched.quanta, filters := v.sched.filters
      tx := Tab.mapVals (fun _ (q : TxQueue) => { TxQueue.reset with addr := q.addr, entries := q.entries, hold := q.hold, port := q.port, cls := q.cls, group := q.group }) v.sched.tx
      rx := Tab.mapVals (fun _ (q : RxQueue) => { RxQueue.reset with addr := q.addr, entries := q.entries }) v.sched.rx
      ports := Tab.mapVals (fun _ (p : PortSched) => { PortSched.reset with slackNs := p.slackNs, oper := p.oper, policers := p.policers }) v.sched.ports }
    lanes := { LanesState.reset with
      cages := v.lanes.cages, ports := Tab.mapVals (fun _ (p : Port) => { Port.reset with recd := p.recd }) v.lanes.ports
      synce := { v.lanes.synce with pdus := 0 } }
    audio := {
      ports := Tab.mapVals (fun _ (p : APort) => { APort.reset with recd := p.recd }) v.audio.ports
      sources := Tab.mapVals (fun _ (a : ASource) => { a with coded := 0, late := 0, losses := 0, waits := [] }) v.audio.sources }
    time := { v.time.leaveKeep with beam := d.time.beam, hold := 0, clamps := 0, latches := [] }
    events := { d.events with
      src := Tab.mapVals (fun _ (e : EvSrc) => { EvSrc.reset with vector := e.vector, route := e.route, enable := e.enable }) v.events.src
      log := { v.events.log.restart with enable := v.events.log.enable } }
    wq := { queues := Tab.mapVals (fun _ (q : WordQueue) =>
      { WordQueue.reset with producer := q.producer, arg := q.arg, arg2 := q.arg2, enabled := q.enabled }) v.wq.queues }
    journal := { d.journal with services := Tab.mapVals (fun n (s : JService) =>
      { JService.reset with cls := s.cls, retainS := s.retainS, seq := (d.journal.svc n).seq }) v.services }
    dram := { d.dram with slates := v.slates }
    modes := { d.modes with limits := v.limits } }

/-- The module at the start of a power-up: what lies in the journal, the key store and boot flash outlasts it, as do the host's memory,
the inputs and Beam time itself (assumption 6). -/
def Device.coldStart (d : Device) : Device :=
  { Device.reset with
    mem := { MemState.reset with host := d.mem.host }
    logs := d.logs
    time := { TimeState.reset with beam := d.time.beam }
    link := { LinkState.reset with perst := d.link.perst, ident := d.link.ident }
    comp := { CompState.reset with keys := d.comp.keys, ownerSeq := d.comp.ownerSeq }
    journal := { JournalState.reset with
      energyMj := d.journal.energyMj, capUf := d.journal.capUf, wear := d.journal.wear, bytesWritten := d.journal.bytesWritten, grownBad := d.journal.grownBad
      nand := d.journal.nand, filling := d.journal.filling, nextAddress := d.journal.nextAddress
      recs := d.journal.recs, batch := d.journal.batch, marks := d.journal.marks, spareLow := d.journal.spareLow, wornOut := d.journal.wornOut
      lossFlush := d.journal.lossFlush, services := Tab.mapVals (fun _ (s : JService) => { JService.reset with cls := s.cls, retainS := s.retainS, seq := s.seq }) d.journal.services }
    serv := { ServState.reset with
      images := d.serv.images, lastRuns := d.serv.lastRuns, nextRun := d.serv.nextRun, ownerChain := d.serv.ownerChain, ownerKey := d.serv.ownerKey
      aliasCount := d.serv.aliasCount, lifecycle := d.serv.lifecycle, rodImage := rodNumbers.map (fun n => (n, (d.serv.image 4).active)) }
    phys := { PhysState.reset with edge12 := d.phys.edge12, aux12 := d.phys.aux12, bankFull := d.phys.bankFull }
    modes := { ModeState.reset with auxPresent := d.modes.auxPresent, limits := d.modes.limits }
    saved := d.saved, free := d.free }

/-- Every group is trained and in service (12 R364; 18 R504 stage 0x06). -/
def Device.trainAll (d : Device) : Device :=
  { d with dram := { d.dram with groups := (List.range 4).foldl (fun t g => Tab.put g { Group.reset with service := 0 } t) d.dram.groups } }

/-- A staged boot image or RESCUE image that FW_ACTIVATE has made active runs from now on (17 Table 17.5); the IDENT registers follow the
images that run (10 Table 10.7). -/
def Device.identImages (d : Device) : Device :=
  let k2 := d.serv.image 2
  let k3 := d.serv.image 3
  let run (k : ImageKind) : Image := if k.active = 0 then k.slotA else k.slotB
  { d with link := { d.link with ident := { d.link.ident with
    ranrokMajor := (run k2).major, mgmtVersion := (run k2).version, mgmtSlot := k2.active, secVersion := (run k3).version, secSlot := k3.active } } }

/-- The full boot by which RESCUE is left (17 R493), with the host link as it stands, and E000. -/
def Device.fullBoot (d : Device) : Device :=
  let d1 := d.coldStart
  let d2 : Device := { d1.trainAll with
    mem := { d1.mem with host := d.mem.host, cmdsram := d.mem.cmdsram }
    msix := d.msix
    link := { d.link with heartbeat := d.beats, bootStage := 0xFF, bootError := 0, bootEnd := some d.now, uptime := 0, rescue := false, secUp := true, measured := true }
    rk := { d.rk with mgmtUp := true, mgmtUpSince := d.now, staged := [], waiting := [] } }
  (match d.saved with
    | some v => d2.restoreConfig v
    | none => d2).identImages.raise [(0, 0)]

/-- What leaving a mode does. -/
def Device.leaveMode (old new : Nat) (d : Device) : Device :=
  if old = mKeep then d.leaveKeep
  else if old = mHold then { d with
    modes := { d.modes with holdCause := 0, unlocked := [] }
    serv := { d.serv with sramSyndromes := [], bridgeLog := [], bridgeFault := false } }
  else if old = mRescue && new = mArmed then d.fullBoot
  else d

/-- What entering a mode does (Table 16.1, R453, R455). -/
def Device.arrive (new : Nat) (d : Device) : Device :=
  let d1 := if new = mArmed || isLive new || new = mDrain then d else d.closeSession 4
  let d2 := if new = mKeep then
      let d0 := ({ d1 with saved := some d1.config }.mgmtStop).loseDram.linkLoss 6
      { d0 with time := { d0.time with aonFrom := some d0.time.beam } }
    else if new = mTimekeep then
      let d0 := d1.linkLoss 6
      { d0 with time := { d0.time with keepPort := d0.time.ptpPort } }
    else if new = mRescue then
      let off : Device := { d1 with dram := { d1.dram with groups := (List.range 4).foldl (fun t g => Tab.put g Group.reset t) d1.dram.groups } }
      { off.loseDram with link := { d1.link with rescue := true }, time := { d1.time with servo := .free } }
    else d1
  { d2.withRoles new with modes := { d2.modes with mode := new } }

/-- The module passes from one mode to another. -/
def Device.enterMode (new : Nat) (d : Device) : Device :=
  let d1 := d.leaveMode d.modes.mode new
  { d1 with modes := { d1.modes with mode := d.modes.mode, transition := none } }.arrive new

/-- The end of a transition is told (R455): E001 with the old and the new mode, and the MODE_SET's final. -/
def Device.tellEnd (e : LateEnd) (d : Device) : Device :=
  let d1 := d.raise [(1, det2 e.old e.new)]
  match e.ctx with
  | none => d1
  | some c => d1.decideCtx c e.status e.detail none e.eff

/-- It is told at once, or when management firmware runs again (R460). -/
def Device.endTransition (e : LateEnd) (d : Device) : Device :=
  if d.rk.mgmtUp || d.modes.mode == mKeep then d.tellEnd e else { d with modes := { d.modes with late := d.modes.late ++ [e] } }

/-! ### Drains (R458) -/

/-- DRAIN is entered: every LIVE channel stops at its first frame whose commit point lies ahead. -/
def Device.startDrain (d : Device) : Device :=
  let tag := match d.modes.transition with
    | some t => (t.ctx.map Ctx.tag).getD 0
    | none => 0
  let live := (d.code.channels.filter (fun e => e.2.state == .live)).map (·.1)
  let d1 := live.foldl (fun d c => d.stopChannel c ((d.chan c).firstOpen d.now) tag) d
  { d1 with modes := { d1.modes with mode := mDrain } }.raise [(1, det2 d.modes.mode mDrain)]

/-- The drain is over. -/
def Device.drained (next : Nat) (d : Device) : Bool :=
  !d.anyLive && (d.journal.stopped != 0 || (d.journal.batches.isEmpty && d.journal.batchAt.isNone)) && (next == mArmed || d.journal.replays.isEmpty)

/-! ### Transitions end -/

/-- A drain that is over goes on to NEXT_MODE: to ARMED at once, to another mode by its transition. -/
def drainDone (d : Device) : Device :=
  match d.modes.transition with
  | none => d
  | some t =>
    if t.target = mDrain && d.modes.mode = mDrain && d.drained t.nextMode then
      if t.nextMode = mArmed then (d.enterMode mArmed).endTransition ⟨t.ctx, mDrain, mArmed, t.status, t.detail, t.effect⟩
      else { d with modes := { d.modes with transition := some { t with target := t.nextMode, nextMode := 0 } } }
    else d

def execDrainDone (t : Nat) (s : State) : Host.Outcome State Fault Refusal := .next { s with dev := drainDone (s.dev.at_ t) }

/-- The transition to its destination may end now: its moment has come, and every move that it needs has landed (R457). -/
def Device.transitionReady (t : Transition) (d : Device) : Bool :=
  Nat.ble t.effect d.now && !(isLive d.modes.mode && isLive t.target && d.code.channels.any (fun e => e.2.running && e.2.planned.isSome))

/-- A rest that a scheduled start owes begins once the transition before it is over (R461). -/
def Device.beginRest (d : Device) : Device :=
  match d.modes.schedule with
  | none => d
  | some s =>
    if s.owed && d.modes.transition.isNone && transitionOk d.modes.mode s.rest then
      { d with modes := { d.modes with
        schedule := some { s with owed := false }
        transition := some ⟨none, s.rest, d.now, 0, 0, stOk, 0⟩ } }
    else d

/-- MODE_TRANSITION_DONE (R455): the destination's mode holds; channels of a START_MASK start at its moment of effect (R456). -/
def modeTransitionDone (d : Device) : Device :=
  match d.modes.transition with
  | none => d
  | some t =>
    if !d.transitionReady t then d
    else if t.target = mDrain then (if d.modes.mode = mDrain then d else d.startDrain)
    else
      let old := d.modes.mode
      let d1 := d.enterMode t.target
      let d2 := if t.startMask = 0 then d1 else d1.startAll t.target ((t.ctx.map Ctx.tag).getD 0) t.effect (maskChannels t.startMask)
      (d2.endTransition ⟨t.ctx, old, t.target, t.status, t.detail, t.effect⟩).beginRest

def execModeTransitionDone (t : Nat) (s : State) : Host.Outcome State Fault Refusal := .next { s with dev := modeTransitionDone (s.dev.at_ t) }

/-! ### MODE_SET (R454 to R458) -/

/-- The modes that need the auxiliary input (R466). -/
def needsAux (m : Nat) : Bool := isLive m || m == mDrain || m == mMaintain

/-- MODE_SET's fields out of range (Table 16.11). -/
def modeSetBad (c : Ctx) : Bool :=
  let m := c.p 0 1
  let n := c.p 1 1
  c.handle != 0 || 0xB < m || (if m = mDrain then !(within 1 3 n || n == mMaintain) else n != 0) || (c.p 8 8 != 0 && !isLive m)

def modeSet : CmdSpec where
  op := 0x0010
  sel := .it
  when_ := .done
  reserved := [(2, 6), (16, 24)]
  unit _ _ := some uMode
  check c d :=
    let m := c.p 0 1
    let cur := d.modes.mode
    let cs := maskChannels (c.p 8 8)
    if d.unitHeld uMode then badParam (modeSetBad c)
    else firstOf [
      badParam (modeSetBad c || (c.p 8 8 != 0 && cur != mArmed)),
      badState (!transitionOk cur m) 0x0010,
      badState (needsAux m && !d.modes.auxPresent) 0x0011,
      sealed (m == mDrain && d.code.channels.any (fun e => d.sealHolds e.1)),
      badState (cs.any (fun k => !d.canStart k)) 0x0012,
      (if cur = mArmed && isLive m then admitAll m cs (d.withRoles m) else none),
      (if isLive cur && isLive m && (d.modeMoves m).isNone then some (stNoBeads, 0x0101) else none)]
  apply c d :=
    let m := c.p 0 1
    let cur := d.modes.mode
    let asked := if c.effect = 2 then c.effectTime else 0
    let least := d.now + (if cur = mArmed && isLive m then startLead else 0)
    let e := Nat.max asked least
    let late := c.effect == 2 && Nat.blt asked least
    let st := if late then stStartedAt else stOk
    let moved := if late then usMoved asked e else 0
    if cur = mArmed && isLive m then
      let t : Transition := ⟨some c, m, e, 0, c.p 8 8, st, moved⟩
      ⟨{ d with modes := { d.modes with transition := some t } }, none, some e⟩
    else
      let t : Transition := ⟨some c, m, e, c.p 1 1, 0, st, moved⟩
      let d1 : Device := { d with modes := { d.modes with transition := some t } }
      if m = mDrain then ⟨if asked ≤ d.now then d1.startDrain else d1, none, some e⟩
      else if isLive cur && isLive m then
        ⟨((d.modeMoves m).getD []).foldl (fun d x => d.planMove x) (d1.withRoles m), none, some e⟩
      else ⟨d1, none, some e⟩

/-! ### Scheduled starts (R461, R462) -/

/-- The Sync interval of a domain. -/
def Domain.syncInterval (x : Domain) : Nat := if x.logSync < 0 then second / 2 ^ (-x.logSync).toNat else second * 2 ^ x.logSync.toNat

/-- t_lock (R461). -/
def Device.lockTime (mask : Nat) (d : Device) : Nat :=
  if (maskChannels mask).all (fun c => (d.chan c).recd.freeRun) then 0
  else 2 * second + d.time.set.lockCount * d.time.set.filterN * (d.time.dom d.time.preferred).syncInterval

/-- The wake time of a rest mode (R461). -/
def Device.wakeTime (rest mask : Nat) (d : Device) : Nat :=
  if rest = mKeep then 3 * second + d.lockTime mask + 5 * msec else if rest = mTimekeep then 205 * msec else 5 * msec

/-- 500 ms (R461). -/
def wakeGuard : Nat := 500 * msec

/-- The deepest mode that can be left in time, no deeper than `deepest` (R461). -/
def Device.restFor (deepest mask start : Nat) (d : Device) : Nat :=
  let ok (m : Nat) : Bool := Nat.ble deepest m && Nat.ble (d.now + d.wakeTime m mask + wakeGuard) start
  if ok mKeep then mKeep else if ok mTimekeep then mTimekeep else mArmed

def scheduledStartSet : CmdSpec where
  op := 0x0011
  reserved := [(3, 5), (32, 8)]
  check c d :=
    let on := natBit (c.p 1 1) 0
    let start := c.timeAt 16
    firstOf [
      badParam (c.handle != 0 || 2 ≤ c.p 1 1 || !timeWordOk c.entry 40 || (on && (!isLive (c.p 0 1) || !within 1 3 (c.p 2 1)))),
      (if on then firstOf [
        badState (d.code.channels.any (fun e => e.2.state == .live)) 0x0016,
        badState (!within mKeep mArmed d.modes.mode) 0x0010,
        (if start < d.now + 10 * msec || d.now + 30 * 86400 * second < start then some (stBadParam, 0x0013) else none)]
      else none)]
  apply c d :=
    if natBit (c.p 1 1) 0 then
      let mask := c.p 8 8
      let start := c.timeAt 16
      let rest := d.restFor (c.p 2 1) mask start
      let s : Schedule := ⟨c.p 0 1, c.p 2 1, mask, start, rest, start - d.wakeTime rest mask - wakeGuard, false, rest != d.modes.mode⟩
      Done.ok { d with modes := { d.modes with schedule := some s } }.beginRest
    else Done.ok { d with modes := { d.modes with schedule := none } }

/-- The mode to which a scheduled start moves the module next: ARMED, and from ARMED, 505 ms before START_TIME, its live mode. -/
def Schedule.toward (s : Schedule) (d : Device) : Option Transition :=
  let m := d.modes.mode
  if d.unitHeld uMode then none
  else if m = mKeep || m = mTimekeep || m = mMaintain then some ⟨none, mArmed, d.now, 0, 0, stOk, 0⟩
  else if m = mArmed && d.modes.auxPresent && Nat.ble s.start (d.now + startLead + wakeGuard) then
    some ⟨none, s.mode, d.now + startLead, 0, 0, stOk, 0⟩
  else none

/-- SCHEDULED_WAKE (R460, R461): the wake timer fires, with E002; from then on the module moves toward the live mode. WAKE# is asserted
where ARMED is entered with the host link down (18 R501). -/
def scheduledWake (d : Device) : Device :=
  match d.modes.schedule with
  | none => d
  | some s =>
    if !d.due s.wakeAt then d
    else
      let s1 : Schedule := { s with woken := true, owed := false }
      let d1 := { d with modes := { d.modes with schedule := some s1 } }.raise (if s.woken then [] else [(2, 0)])
      match s1.toward d1 with
      | none => d1
      | some t =>
        let up := t.target = mArmed && d.modes.mode != mMaintain
        { d1 with modes := { d1.modes with transition := some t }, phys := { d1.phys with wake := d1.phys.wake || up } }

def execScheduledWake (t : Nat) (s : State) : Host.Outcome State Fault Refusal := .next { s with dev := scheduledWake (s.dev.at_ t) }

/-- The mask of a list of channels. -/
def channelMask (cs : List Nat) : Nat := cs.foldl (fun s c => s + 2 ^ c) 0

/-- SCHEDULED_START_TIME (R461, R462): the channels of the mask start; E002 names those that cannot. -/
def scheduledStartTime (d : Device) : Device :=
  match d.modes.schedule with
  | none => d
  | some s =>
    if !d.due s.start then d
    else
      let cs := maskChannels s.mask
      let d0 : Device := { d with modes := { d.modes with schedule := none } }
      let d1 := if d0.liveMode then d0.startAll d0.modes.mode 0 s.start cs else d0
      let failed := cs.filter (fun c => !(d1.chan c).running)
      d1.raise (if failed.isEmpty then [] else [(2, channelMask failed)])

def execScheduledStartTime (t : Nat) (s : State) : Host.Outcome State Fault Refusal := .next { s with dev := scheduledStartTime (s.dev.at_ t) }

/-! ### Quiet windows and island sleep (R463, R464) -/

/-- 24 h. -/
def day : Nat := 86400 * second

def quietWindowSet : CmdSpec where
  op := 0x0012
  reserved := [(1, 7)]
  check c _ :=
    let on := natBit (c.p 0 1) 0
    badParam (c.handle != 0 || 2 ≤ c.p 0 1 || !timeWordOk c.entry 32 || !timeWordOk c.entry 48
      || (on && !(c.timeAt 8 < c.timeAt 24 && c.timeAt 24 ≤ c.timeAt 8 + day)))
  apply c d := Done.ok { d with modes := { d.modes with quiet := if natBit (c.p 0 1) 0 then some (c.timeAt 8, c.timeAt 24) else none } }

/-- A quiet window is open. -/
def Device.quietNow (d : Device) : Bool := match d.modes.quiet with
  | none => false
  | some (a, b) => Nat.ble a d.now && Nat.blt d.now b

/-- Depth of a sleep state, and its wake time (Table 16.4). -/
def Sleep.depth : Sleep → Nat
  | .awake => 0
  | .nap => 1
  | .doze => 2
  | .sleep => 3
  | .off => 4

def Sleep.wake : Sleep → Nat
  | .awake => 0
  | .nap => 40 * nsec
  | .doze => 1500 * nsec
  | .sleep => 25 * usec
  | .off => 400 * usec

/-- The deepest state an island may take (Table 16.5). -/
def Device.islandCap (i : Nat) (d : Device) : Sleep :=
  if i < 24 then (if (d.rod i).role = 1 then .sleep else .off)
  else if i < 32 then
    (if d.ingest.flows.any (fun e => e.2.decoder == some (i - 24)) then (if d.quietNow then .sleep else .doze) else .off)
  else if i < 34 then (if d.quietNow then .off else .doze)
  else if i < 36 then .off
  else .doze

/-- The deepest state whose wake time and 2 µs lie no later than the next event, which may not be known (R463). -/
def deepest (cap : Sleep) (wait : Option Nat) : Sleep :=
  let ok (x : Sleep) : Bool := Nat.ble x.depth cap.depth && (match wait with
    | none => true
    | some w => Nat.ble (x.wake + 2 * usec) w)
  if ok .off then .off else if ok .sleep then .sleep else if ok .doze then .doze else if ok .nap then .nap else .awake

/-- ISLAND_IDLE: `next` is the island's next known event. -/
def islandIdle (i : Nat) (next : Option Nat) (d : Device) : Device :=
  { d with modes := { d.modes with islands := Tab.put i (deepest (d.islandCap i) (next.map (· - d.now))) d.modes.islands } }

def execIslandIdle (t : Nat) (island : Fin 40) (next : Option Nat) (s : State) : Host.Outcome State Fault Refusal :=
  .next { s with dev := islandIdle island next (s.dev.at_ t) }

/-- ISLAND_WAKE. -/
def islandWake (i : Nat) (d : Device) : Device := { d with modes := { d.modes with islands := Tab.del i d.modes.islands } }

def execIslandWake (t : Nat) (island : Fin 40) (s : State) : Host.Outcome State Fault Refusal := .next { s with dev := islandWake island (s.dev.at_ t) }

/-- An island no deeper than its cap. -/
def Device.capIsland (i : Nat) (x : Sleep) (d : Device) : Sleep := if (d.islandCap i).depth < x.depth then d.islandCap i else x

/-- QUIET_WINDOW_EDGE (R464): at TO the window is over, and islands with unknown events are capped at Doze again. -/
def quietWindowEdge (d : Device) : Device :=
  match d.modes.quiet with
  | none => d
  | some (_, b) =>
    if d.due b then
      let d1 : Device := { d with modes := { d.modes with quiet := none } }
      { d1 with modes := { d1.modes with islands := Tab.mapVals (fun i x => d1.capIsland i x) d1.modes.islands } }
    else d

def execQuietWindowEdge (t : Nat) (s : State) : Host.Outcome State Fault Refusal := .next { s with dev := quietWindowEdge (s.dev.at_ t) }

/-! ### Floor-only operation (R468) -/

/-- Every AFE and PE stops: pictures in progress are DEGRADED. -/
def Device.enterFloorOnly (d : Device) : Device :=
  if d.modes.floorOnly then d
  else { d with
    modes := { d.modes with floorOnly := true }
    code := { d.code with rends := Tab.mapVals (fun _ r => { r with
      pics := Tab.mapVals (fun _ p => { p with state := p.state + 4 * bit01 (!natBit p.state 2) }) r.pics }) d.code.rends } }

/-- PEs resume at each channel's next frame boundary. -/
def Device.leaveFloorOnly (d : Device) : Device :=
  if d.modes.floorOnly then { d with
    modes := { d.modes with floorOnly := false }
    code := { d.code with channels := Tab.mapVals (fun _ c => { c with floorTo := c.next }) d.code.channels } }
  else d

/-! ### Limits and the device's status -/

/-- A signed byte of a threshold: 0, or from 20 °C below the default to the default (R470). -/
def limitOk (dflt : Option Nat) (v : Nat) : Bool := v == 0 || (match dflt with
  | none => false
  | some k => within (k - 20) k v)

def thermalLimitSet : CmdSpec where
  op := 0x0014
  reserved := [(2, 38)]
  check c _ :=
    let t := thermalOf c.handle
    firstOf [
      badParam (!within 1 5 c.handle),
      (if limitOk t.warn (c.p 0 1) && limitOk t.throttle (c.p 1 1) then none else some (stBadParam, 0x0014))]
  apply c d := Done.ok { d with modes := { d.modes with limits := Tab.put c.handle (c.p 0 1, c.p 1 1) d.modes.limits } }

/-- A moment's time word, or 16 zero bytes. -/
def optTime (x : Option Nat) : Bytes := match x with
  | none => wrLE 16 0
  | some t => timeWordBytes t

/-- TARGET_MODE (10 Table 10.9). -/
def ModeState.targetMode (x : ModeState) : Nat := match x.transition with
  | none => x.mode
  | some t => if t.target = mDrain && x.mode = mDrain then t.nextMode else t.target

/-- TRANSITION: from 5 ms before a live mode's moment of effect (R456), otherwise from the transition's own. -/
def Device.inTransition (d : Device) : Bool := match d.modes.transition with
  | none => false
  | some t => Nat.ble (if isLive t.target then t.effect - startLead else t.effect) d.now

/-- THROTTLE (Table 16.14). -/
def ModeState.throttle (x : ModeState) : Nat :=
  x.throttleCoding + 4 * x.throttleIo + 16 * bit01 x.nandLimit + 32 * bit01 x.governor + 64 * bit01 x.floorOnly

/-- A signed number in two bytes. -/
def wrInt2 (v : Int) : Bytes := wrLE 2 (v % 65536).toNat

/-- How many islands are in a state. -/
def ModeState.inSleep (x : ModeState) (s : Sleep) : Nat := (x.islands.filter (fun e => e.2 == s)).length

/-- DEVICE_STATUS_GET's record (Table 16.14). -/
def deviceRecord (d : Device) : Bytes :=
  let m := d.modes
  fields [(1, m.mode), (1, if d.inTransition then m.targetMode else m.mode), (1, (m.schedule.map (·.rest)).getD 0), (1, m.throttle),
    (2, m.duty), (1, bit01 m.auxPresent), (1, 0), (4, m.inputMw), (4, m.edgeMw), (4, m.auxMw), (4, 0)] ++
  (List.range 5).flatMap (fun i => wrInt2 (Tab.read m.temps (i + 1) 0)) ++ wrLE 6 0 ++
  fields [(2, m.inSleep .nap), (2, m.inSleep .doze), (2, m.inSleep .sleep), (2, m.inSleep .off)] ++
  optTime (m.schedule.map (·.start)) ++ optTime (m.schedule.map (·.wakeAt)) ++ optTime (m.quiet.map (·.2)) ++
  fields [(8, m.dutyMs), (8, m.floorOnlyMs)] ++ timeWordBytes d.now

def deviceStatusGet : CmdSpec where
  op := 0x0013
  when_ := .done
  reserved := [(8, 32)]
  check c d := orElse (badParam (c.handle != 0)) (targetCheck 128 c d)
  apply c d := writeRecord (deviceRecord d) c d

end Sys2Proof.Machine
end

