-- ==== Sys2Proof/Machine/Service.lean ====
section
/-!
DEFINITION. Service in operation (chapter 17): units and their service states, firmware images, rod updates, self-test, and the commands 0x0C01 to
0x0C07.
-/
namespace Sys2Proof.Machine

/-! ### Units (R475, Table 17.4) -/

/-- An engine of a rod. -/
def isEngine (u : Nat) : Bool := within 0x100 0x27F u && u % 16 < 12

def isDecoder (u : Nat) : Bool := within 0x300 0x307 u
def isLane (u : Nat) : Bool := within 0x400 0x41F u

/-- A unit of Table 17.4. -/
def unitExists (u : Nat) : Bool :=
  u < 24 || isEngine u || isDecoder u || isLane u || within 0x500 0x503 u || within 0x600 0x607 u || within 0x700 0x703 u || u == 0x710
    || within 0x720 0x721 u || within 0x730 0x732 u

/-- A unit whose row gives an action. -/
def unitServed (u : Nat) : Bool := u < 24 || isEngine u || isDecoder u || isLane u

/-- The rod of an engine, and its number there. -/
def engineRod (u : Nat) : Nat := (u - 0x100) / 16
def engineNo (u : Nat) : Nat := u % 16

/-- A unit's service state: 0 in service, 1 draining, 2 out of service, 3 testing, 4 returning. -/
def Device.unitState (u : Nat) (d : Device) : Nat :=
  if u < 24 then (d.rod u).service else if within 0x500 0x503 u then (d.dram.group (u - 0x500)).service else (d.serv.unit u).service

/-- A rod whose engine goes in or out of service: a PE leaves when it drains, another engine when it is out. -/
def Rod.withEngine (e new : Nat) (r : Rod) : Rod :=
  if e < 7 then { r with pe := maskOf ((List.range 7).filter (fun i => if i = e then new == 0 else natBit r.pe i)) }
  else { r with engines := r.engines.filter (· != e) ++ (if 2 ≤ new then [e] else []) }

/-- A unit's service state changes (R475). -/
def Device.setUnit (u new cause : Nat) (d : Device) : Device :=
  if u < 24 then d.setRodService u new cause
  else if within 0x500 0x503 u then d.setGroupFor cause (u - 0x500) { d.dram.group (u - 0x500) with service := new }
  else
    let d1 := d.noteUnit u (d.serv.unit u).service new cause
    if isEngine u then d1.setRod (engineRod u) ((d1.rod (engineRod u)).withEngine (engineNo u) new) else d1

/-! ### Drains (R476) -/

/-- Every row of channel `c`'s frames before `f` has met its deadline. -/
def Device.rowsBefore (c f : Nat) (d : Device) : Bool :=
  d.code.rends.all (fun e => e.2.recd.channel != c || e.2.pics.all (fun p => Nat.ble f p.1
    || (p.2.rows.length == p.2.recd.rows && p.2.rows.all (fun r => r.2.entered))))

/-- A channel has left a unit, with its last rows there. -/
def Device.hasLeft (w : Nat × Option Nat) (d : Device) : Bool :=
  !(d.chan w.1).running || (match w.2 with
    | none => false
    | some f => d.rowsBefore w.1 f)

/-- The command of a drain is decided. -/
def Device.decideMaybe (c : Option Ctx) (status detail : Nat) (d : Device) : Device := match c with
  | none => d
  | some c => d.decideCtx c status detail none d.now

/-- A drained unit goes out of service (R476); with an engine other than a PE, its rod, which cannot code
without it. -/
def Device.endDrain (x : Drain) (d : Device) : Device :=
  let d1 := d.setUnit x.unit 2 1
  let d2 := if isEngine x.unit && 7 ≤ engineNo x.unit && (d1.rod (engineRod x.unit)).service < 2 then d1.setUnit (engineRod x.unit) 2 1 else d1
  d2.decideMaybe x.ctx stOk 0

/-- Drains whose last work has ended are over. -/
def Device.settleDrains (d : Device) : Device :=
  let ovr := d.serv.drains.filter (fun x => x.waits.all (fun w => d.hasLeft w))
  ovr.foldl (fun d x => d.endDrain x) { d with serv := { d.serv with drains := d.serv.drains.filter (fun x => !x.waits.all (fun w => d.hasLeft w)) } }

/-- Channel `c` has left its place with frame `f`: what waited for that knows it. -/
def markLeft (c f : Nat) (l : List (Nat × Option Nat)) : List (Nat × Option Nat) := l.map (fun w => if w.1 = c && w.2.isNone then (c, some f) else w)

/-- A commanded move or re-mask of channel `c` has landed with frame `f`. -/
def Device.noteLeft (c f : Nat) (d : Device) : Device :=
  { d with serv := { d.serv with
    drains := d.serv.drains.map (fun x => { x with waits := markLeft c f x.waits })
    update := d.serv.update.map (fun u => { u with waits := markLeft c f u.waits }) } }

/-- Whole spare rods, lowest first. -/
def Device.spareRods (d : Device) : List Nat :=
  rodNumbers.filter (fun n => (d.rod n).service == 0 && (d.rod n).role == 1 && (d.rod n).pes.length == 7)

/-- A channel's rods with `n` replaced by `s`. -/
def Channel.swapRod (n s : Nat) (x : Channel) : Nat × Nat := (if x.rodA = n then s else x.rodA, if x.rodB = n then s else x.rodB)

/-- The masks that firmware chooses for the channels of rod `n` on an empty rod `s`, in ascending channel number (05 R515). -/
def Device.swapMasks (n s : Nat) (d : Device) : Tab Nat := chosenMasks (d.rod s) ((d.channelsOn n).map (fun c => (c, d.shareOn c n))) []

/-- Channels of rod `n` arranged to move to rod `s`, which serves from now on. -/
def Device.planSwap (n s : Nat) (d : Device) : Device :=
  (d.channelsOn n).foldl (fun e c =>
    let x := d.chan c
    let p := x.swapRod n s
    let m := Tab.read (d.swapMasks n s) c 0
    e.planMove (c, p.1, p.2, if x.rodA = n then m else x.maskA, if x.rodB = n then m else x.maskB)) (d.setRole s 0)

/-- Where the channels of a draining rod go without a spare, or none where one has no place (Table 17.4). -/
def Device.placeAway (n : Nat) (d : Device) : Option (List PlannedMove) :=
  placeAll d.modes.mode (d.channelsOn n) (d.setRod n { d.rod n with service := 1 })

/-- The channels of a draining rod are arranged to leave it. -/
def Device.leaveRod (n : Nat) (d : Device) : Device :=
  match d.spareRods.filter (· != n) with
  | s :: _ => d.planSwap n s
  | [] => ((d.placeAway n).getD []).foldl (fun d x => d.planMove x) d

/-- The rod's channels can leave it. -/
def Device.mayLeave (n : Nat) (d : Device) : Bool := !(d.spareRods.filter (· != n)).isEmpty || (d.placeAway n).isSome

/-- A channel's masks on a rod without a PE. -/
def Channel.withoutPe (rod pe : Nat) (c : Channel) : Channel :=
  { c with maskA := if c.rodA = rod then cutMask pe c.maskA else c.maskA, maskB := if c.rodB = rod then cutMask pe c.maskB else c.maskB }

/-- The rod's masks pass R151 without a PE. -/
def Device.mayLosePe (rod pe : Nat) (d : Device) : Bool :=
  let d1 : Device := { d.setRod rod ((d.rod rod).withEngine pe 2) with
    code := { (d.setRod rod ((d.rod rod).withEngine pe 2)).code with channels := Tab.mapVals (fun _ c => c.withoutPe rod pe) d.code.channels } }
  masksOk (d1.rod rod) (d1.masksOn rod none)

/-- The unit carries live work (R476). -/
def Device.liveWork (u : Nat) (d : Device) : Bool :=
  if u < 24 then !(d.channelsOn u).isEmpty
  else if isEngine u then
    let n := engineRod u
    if engineNo u < 7 then (d.channelsOn n).any (fun c => natBit (if (d.chan c).rodA = n then (d.chan c).maskA else (d.chan c).maskB) (engineNo u))
    else !(d.channelsOn n).isEmpty
  else if isDecoder u then d.ingest.flows.any (fun e => e.2.decoder == some (u - 0x300))
  else isLane u && d.lanes.exists_ (d.lanes.portOf (u - 0x400)) && d.portInUse (d.lanes.portOf (u - 0x400))

/-- The rows in progress of a rod's channels. -/
def Device.openRows (n : Nat) (d : Device) : List (Nat × Nat × Nat) :=
  d.code.rends.flatMap (fun e =>
    e.2.pics.flatMap (fun p => if p.2.rods.contains n then
      (p.2.rows.filter (fun r => r.2.bits.isNone)).map (fun r => (e.1, p.1, r.1)) else []))

/-- A rod is taken out with its channels on it, as if it had faulted (R476): its rows are floored until they hand over. -/
def Device.rodFault (n : Nat) (d : Device) : Device :=
  let d1 := d.setRodService n 2 1
  let d2 := d1.setRod n { d1.rod n with handFrom := some ((d1.rod n).handFrom.getD (d.now + handLead)) }
  let d3 := (d2.channelsOn n).foldl (fun d c => d.faultPath c false none) d2
  ((d3.openRows n).foldl (fun d r => d.floorRow r.1 r.2.1 r.2.2) d3).updateHit n

/-- A lane's port leaves UP with it. -/
def Device.laneOut (l : Nat) (d : Device) : Device :=
  let p := d.lanes.portOf l
  if d.lanes.exists_ p && (d.port p).state == 2 then d.portTo p 1 7 else d

/-- A unit goes out of service at once (R476). -/
def Device.takeOut (u : Nat) (d : Device) : Device :=
  if d.liveWork u then
    if u < 24 then d.rodFault u
    else if isEngine u then
      (if engineNo u < 7 then peFault (engineRod u) (engineNo u) (d.openRows (engineRod u)) d else d.engineFault (engineRod u) (engineNo u))
    else if isLane u then (d.setUnit u 2 1).laneOut (u - 0x400)
    else d.setUnit u 2 1
  else if isLane u then (d.setUnit u 2 1).laneOut (u - 0x400)
  else d.endDrain ⟨u, none, []⟩

/-- UNIT_SERVICE_SET's refusals for a unit that gives an action. -/
def serviceCheck (u action : Nat) (force : Bool) (d : Device) : Refused :=
  let st := d.unitState u
  if action = 0 then
    let passed := if isLane u then (d.serv.unit u).anaPassed else (d.serv.unit u).memPassed
    orElse (badState (st != 2) 0) (badState (!passed) 0x0C03)
  else if action = 1 then
    orElse (badState (st != 0) 0) (
      if u < 24 then (if d.mayLeave u then none else some (stNoBeads, 0x0102))
      else if isEngine u then
        (if engineNo u < 7 then (if d.mayLosePe (engineRod u) (engineNo u) then none else some (stNoBeads, 0x0107))
         else if d.mayLeave (engineRod u) then none else some (stNoBeads, 0x0102))
      else if isDecoder u then badState (d.liveWork u) 0x0C02
      else badState (d.liveWork u && !force && d.recalBarred (d.lanes.portOf (u - 0x400))) 0x0C02)
  else orElse (badState (2 ≤ st) 0) (badState (d.liveWork u && !force) 0x0C02)

/-- ACTION 1: the unit drains, or goes out at once where nothing has to leave it. -/
def drainUnit (u : Nat) (c : Ctx) (d : Device) : Done :=
  let n := if u < 24 then u else engineRod u
  if u < 24 || isEngine u then
    let cs := d.channelsOn n
    let waits : List (Nat × Option Nat) := cs.map (fun k => (k, none))
    let x : Drain := ⟨u, some c, waits⟩
    let d1 := d.setUnit u 1 1
    let d2 := if isEngine u && engineNo u < 7 then cs.foldl (fun d k => d.setChan k { d.chan k with remask := (d.chan k).remask.filter (· != n) ++ [n] }) d1
      else ((if u < 24 || (d1.rod n).service != 0 then d1 else d1.setUnit n 1 1).leaveRod n)
    if cs.isEmpty then Done.ok (d2.endDrain { x with ctx := none })
    else Done.goesOn { d2 with serv := { d2.serv with drains := d2.serv.drains ++ [x] } }
  else if isLane u then Done.ok ((((d.ptpAside (d.lanes.portOf (u - 0x400))).setUnit u 1 1).setUnit u 2 1).laneOut (u - 0x400))
  else Done.ok ((d.setUnit u 1 1).setUnit u 2 1)

/-- The number under which a unit's service is at work. -/
def serviceWork (u : Nat) : Nat := 0x1000 + u

/-- UNIT_SERVICE_SET (R475 to R477). -/
def unitServiceSet : CmdSpec where
  op := 0x0C01
  when_ := .done
  reserved := [(2, 38)]
  check c d := firstOf [
    badParam (!unitExists c.handle || 3 ≤ c.p 0 1 || 2 ≤ c.p 1 1),
    (if unitServed c.handle then none else some (stBadParam, 0x0C04)),
    serviceCheck c.handle (c.p 0 1) (natBit (c.p 1 1) 0) d]
  apply c d :=
    let u := c.handle
    if c.p 0 1 = 0 then Done.goesOn ((d.setUnit u 4 0).beginWork 0x0C01 c (serviceWork u) none)
    else if c.p 0 1 = 1 then drainUnit u c d
    else
      let mine := d.serv.drains.filter (fun x => x.unit == u)
      let d1 := ({ d with serv := { d.serv with drains := d.serv.drains.filter (fun x => x.unit != u) } }).takeOut u
      Done.ok (mine.foldl (fun d x => d.decideMaybe x.ctx stOk 0) d1)

/-! ### Rod updates (R480, R484) -/

/-- Rod `n` runs the RCT image that is active. -/
def Device.hasImage (n : Nat) (d : Device) : Bool := Tab.read d.serv.rodImage n 0 == (d.serv.image 4).active

def Device.setUpdate (u : Option RodUpdate) (d : Device) : Device := { d with serv := { d.serv with update := u } }

/-- The update ends. -/
def Device.endUpdate (u : RodUpdate) (status detail : Nat) (d : Device) : Device := (d.setUpdate none).decideCtx u.ctx status detail none d.now

/-- The next step of a rod update (R480): a spare loads the image, or a serving rod's channels hand over to a spare that holds it; with no serving rod
left, the spares of the mask load it directly. -/
def Device.updateNext (d : Device) : Device :=
  match d.serv.update with
  | none => d
  | some u =>
    if u.loading.isSome || u.old.isSome || !d.rk.mgmtUp || !Nat.ble u.begins d.now then d
    else
      let spares := d.spareRods
      match u.left.filter (fun n => (d.rod n).service == 0 && (d.rod n).role == 0) with
      | n :: _ => match spares.filter (fun s => d.hasImage s), spares with
        | s :: _, _ =>
          let cs := d.channelsOn n
          (d.planSwap n s).setUpdate (some { u with old := some n, waits := cs.map (fun c => (c, none)), waitFrom := none })
        | [], s :: _ => d.setUpdate (some { u with loading := some s, waitFrom := none })
        | [], [] => d.setUpdate (some { u with waitFrom := some (u.waitFrom.getD d.now) })
      | [] => match u.left.filter (fun n => (d.rod n).role == 1 && !d.hasImage n) with
        | n :: _ => d.setUpdate (some { u with loading := some n })
        | [] => d.endUpdate u stOk 0

/-- A rod runs the new image. -/
def Device.loadImage (n : Nat) (d : Device) : Device := { d with serv := { d.serv with rodImage := Tab.put n (d.serv.image 4).active d.serv.rodImage } }

/-- ROD_UPDATE_STEP_DONE (R480): a rod has loaded the image. A rod whose channels have left it becomes a spare, with E499 and E035. -/
def rodUpdateStepDone (n : Nat) (d : Device) : Device :=
  match d.serv.update with
  | none => d
  | some u =>
    let left := u.left.filter (· != n)
    if u.loading = some n then
      let direct := !left.any (fun k => (d.rod k).role == 0)
      (((d.loadImage n).setUpdate (some { u with loading := none, left := left })).raise (if direct then [(499, det2 n left.length)] else [])).updateNext
    else if u.old = some n && u.waits.all (fun w => d.hasLeft w) then
      ((((d.loadImage n).setUpdate (some { u with old := none, waits := [], left := left })).raise [(499, det2 n left.length)]).setRole n 1).updateNext
    else d.updateNext

def execRodUpdateStepDone (t : Nat) (rod : Fin 24) (s : State) : Host.Outcome State Fault Refusal := .next { s with dev := rodUpdateStepDone rod (s.dev.at_ t) }

/-- ROD_UPDATE_SPARE_TIMEOUT (R484): no whole spare is free within 10 s. -/
def rodUpdateSpareTimeout (d : Device) : Device :=
  match d.serv.update with
  | none => d
  | some u => match u.waitFrom with
    | none => d
    | some w => if d.due (w + 10 * second) && d.spareRods.isEmpty then d.endUpdate u stBadState 0x0C0B else d

def execRodUpdateSpareTimeout (t : Nat) (s : State) : Host.Outcome State Fault Refusal := .next { s with dev := rodUpdateSpareTimeout (s.dev.at_ t) }

/-- The role of a rod that returns (R477): spare where the live mode is short of spares and the rod is whole, else serving. -/
def Device.returnRole (n : Nat) (d : Device) : Nat :=
  let want := if d.modes.mode = mGuarded then 2 else if d.modes.mode = mBalanced then 1 else 0
  if !(d.liveMode || d.modes.mode == mDrain) then 2
  else bit01 (d.spareRods.length < want && (d.rod n).pes.length == 7)

/-- A rod returns (R477, R478): its engines that have passed a test go in service with it. -/
def Device.rodReturns (n : Nat) (d : Device) : Device :=
  let back := (List.range 12).filter (fun e => (d.serv.unit (0x100 + 16 * n + e)).service == 2 && (d.serv.unit (0x100 + 16 * n + e)).memPassed)
  let d1 := back.foldl (fun d e => d.setUnit (0x100 + 16 * n + e) 0 0) d
  let d2 := (d1.setRod n { d1.rod n with handFrom := none, handTo := none, handMasks := [] }).setRodService n 0 0
  ((d2.loadImage n).setRole n (d2.returnRole n)).replan

/-- UNIT_RETURN_DONE (R477): initialisation is over and the unit is in service. -/
def unitReturnDone (u : Nat) (d : Device) : Device :=
  if d.unitState u != 4 || !unitServed u then d
  else
    let d1 := if u < 24 then d.rodReturns u else d.setUnit u 0 0
    let d2 := match takeWork (fun w => w.op == 0x0C01 && w.unit == serviceWork u) d1.rk.works with
      | none => d1
      | some (w, r) => { d1 with rk := { d1.rk with works := r } }.decideCtx w.ctx stOk 0 none d1.now
    d2.updateNext

def execUnitReturnDone (t : Nat) (unit : Nat) (s : State) : Host.Outcome State Fault Refusal := .next { s with dev := unitReturnDone unit (s.dev.at_ t) }

/-! ### Firmware images (R479 to R483) -/

/-- The image store as a unit (R479). -/
def unitImages : Nat := 2

def Device.setImage (n : Nat) (k : ImageKind) (d : Device) : Device := { d with serv := { d.serv with images := Tab.put n k d.serv.images } }

/-- FW_IMAGE_STAGE (R479, R483, R490). -/
def fwImageStage : CmdSpec where
  op := 0x0C02
  block := some (fun b => 224 + rdLE b 16 8)
  when_ := .done
  reserved := [(10, 6), (72, 56)]
  unit _ _ := some unitImages
  check c d :=
    let k := c.b 2 1
    firstOf [
      badParam (c.handle != 0 || c.b 0 2 != 1 || !within 1 7 k || (k != 2 && c.b 3 1 != 0) || 67108864 < c.b 16 8 || (k != 7 && c.b 16 8 == 0)),
      badState (k == 6 && d.modes.mode != mMaintain && d.modes.mode != mRescue) 0x0C09]
  apply c d := Done.goesOn (d.beginWork 0x0C02 c unitImages none)

/-- A staged image's verification (R479, R490): what is refused, by detail code. `good` says that Caernos' signature holds; an owner chain
that replaces another is signed by the present owner key. -/
def stageRefusal (good : Bool) (c : Ctx) (d : Device) : Option Nat :=
  let k := c.b 2 1
  if k = 7 then
    let empty := d.serv.ownerChain.isEmpty
    if (empty && (d.modes.mode != mMaintain || c.b 16 8 == 0)) || (!empty && !c.signedBy d.serv.ownerKey) then some 0x0C0C else none
  else if !good || sha384 ((c.block.drop 128).take (c.b 16 8)) != (c.block.drop 24).take 48 then some 0x0C05
  else if c.b 8 2 < (d.serv.image k).floor then some 0x0C06
  else none

/-- The image of a stage block. -/
def stagedImage (c : Ctx) : Image := ⟨c.b 4 4, c.b 8 2, c.b 3 1, (c.block.drop 24).take 48⟩

/-- The public key of the first certificate of a DER chain: what follows the first P-384 key header (assumption 218). -/
def certKey : Bytes → Bytes
  | [] => []
  | b :: r => if [0x2B, 0x81, 0x04, 0x00, 0x22, 0x03, 0x62, 0x00, 0x04].isPrefixOf (b :: r) then (r.drop 8).take 96 else certKey r

/-- The owner chain is installed, replaced or cleared (R490): clearing it removes the operator keys and the activations not yet begun. -/
def Device.setOwner (chain : Bytes) (d : Device) : Device :=
  let had := !d.serv.ownerChain.isEmpty
  let d1 : Device := { d with serv := { d.serv with ownerChain := chain, ownerKey := certKey chain } }
  let d2 : Device := if chain.isEmpty then { d1 with comp := { d1.comp with
      keys := [], acts := d1.comp.acts.filter (fun a => a.chans.any (fun e => e.2.started.isSome)) } } else d1
  d2.raise [(500, if chain.isEmpty then 2 else if had then 1 else 0)]

/-- FW_IMAGE_STAGE_DONE: the security core has verified the image, which is written to the inactive slot with E012, or refused with E497. -/
def fwImageStageDone (good : Bool) (d : Device) : Device :=
  match takeWork (fun w => w.op == 0x0C02) d.rk.works with
  | none => d
  | some (w, rest) =>
    let c := w.ctx
    let k := c.b 2 1
    let d1 : Device := { d with rk := { d.rk with works := rest } }
    match stageRefusal good c d with
    | some code => (d1.raise [(497, det2 k code)]).decideCtx c stBadParam code none d.now
    | none =>
      let d2 := if k = 7 then d1.setOwner ((c.block.drop 128).take (c.b 16 8))
        else
          let x := d.serv.image k
          (d1.setImage k { x.setSlot (1 - x.active) (stagedImage c) with staged := true }).raise [(12, 0)]
      d2.decideCtx c stOk 0 none d.now

def execFwImageStageDone (t : Nat) (good : Bool) (s : State) : Host.Outcome State Fault Refusal := .next { s with dev := fwImageStageDone good (s.dev.at_ t) }

/-- A kind's other slot becomes the active one; COMMIT_FLOOR raises the floor (R479). -/
def ImageKind.activate (commit : Bool) (k : ImageKind) : ImageKind :=
  { k with active := 1 - k.active, staged := false, floor := if commit then Nat.max k.floor k.other.secVersion else k.floor }

/-- Rods of a ROD_MASK, serving rods first (R480). -/
def Device.maskRods (mask : Nat) (d : Device) : List Nat :=
  let l := d.rodsUp.filter (fun n => mask == 0 || natBit mask n)
  l.filter (fun n => (d.rod n).role == 0) ++ l.filter (fun n => (d.rod n).role == 1)

/-- FW_ACTIVATE (R479 to R483): E012, and the activation that the kind takes; in RESCUE it marks the slot to boot (R493; assumption 246). -/
def fwActivate : CmdSpec where
  op := 0x0C03
  sel := .it
  when_ := .done
  reserved := [(2, 2), (8, 32)]
  unit _ _ := some unitImages
  check c d :=
    let k := c.p 0 1
    firstOf [
      badParam (c.handle != 0 || !within 1 6 k || 2 ≤ c.p 1 1 || 2 ^ 24 ≤ c.p 4 4),
      badState (!(d.serv.image k).staged) 0x0C08,
      badState (k == 2 && d.anyLive && (d.serv.image 2).other.major != (d.serv.image 2).running.major) 0x0C07,
      badState (k == 4 && d.spareRods.isEmpty) 0x0C01]
  apply c d :=
    let k := c.p 0 1
    let commit := natBit (c.p 1 1) 0
    let at_ := if c.effect = 2 then Nat.max c.effectTime d.now else d.now
    let d1 := d.raise [(12, 0)]
    if !d.rescue && (k = 2 || k = 3) then
      let a : Activating := ⟨k, some c, at_, false, false, none, commit⟩
      ⟨{ d1 with serv := { d1.serv with activating := some a } }.beginWork 0x0C03 c unitImages none, none, some at_⟩
    else
      let d2 := d1.setImage k ((d1.serv.image k).activate commit)
      if k = 4 then
        let u : RodUpdate := ⟨c, at_, d2.maskRods (c.p 4 4), none, none, [], none⟩
        ⟨((d2.setUpdate (some u)).updateNext), none, some at_⟩
      else ⟨d2, some (stOk, 0), some at_⟩

/-! ### Self-test (R485 to R488) -/

/-- A self-test as a unit (R485). -/
def unitTest : Nat := 4

/-- SELFTEST_RUN may test the target (R485, R487). -/
def Device.testAllowed (u level : Nat) (energy : Bool) (d : Device) : Bool :=
  (if u = 0xFFFF then d.modes.mode == mMaintain
   else d.unitState u == 2 || (level == 2 && d.unitState u == 0 && !isLane u && !within 0x500 0x503 u)) && !(energy && d.journal.session != 0)

def selftestRun : CmdSpec where
  op := 0x0C04
  when_ := .done
  reserved := [(3, 37)]
  unit _ _ := some unitTest
  check c d := firstOf [
    badParam (!(unitExists c.handle || c.handle == 0xFFFF) || !within 1 3 (c.p 0 1) || 2 ≤ c.p 1 1 || 2 ≤ c.p 2 1),
    badState (!d.unitHeld unitTest && !d.testAllowed c.handle (c.p 0 1) (natBit (c.p 2 1) 0)) 0x0C09]
  apply c d :=
    let n := d.serv.nextRun
    let r : TestRun := ⟨n, c.p 0 1, c.p 1 1, 0, c.handle, 0, 0, [], d.now, 0⟩
    let d1 := if c.handle != 0xFFFF && d.unitState c.handle = 2 then d.setUnit c.handle 3 0 else d
    Done.goesOn ({ d1 with serv := { d1.serv with testing := some r, nextRun := (n + 1) % 65536 } }.beginWork 0x0C04 c unitTest none)

/-- A run's record is kept: the last eight, newest first (R488). -/
def ServState.keepRun (r : TestRun) (x : ServState) : ServState := { x with lastRuns := (r :: x.lastRuns).take 8, testing := none }

/-- The run under way ends aborted (R488). -/
def Device.abortTest (d : Device) : Device := match d.serv.testing with
  | none => d
  | some r =>
    let d1 : Device := { d with serv := d.serv.keepRun { r with result := 2, finish := d.now } }
    if r.target != 0xFFFF && d1.unitState r.target = 3 then d1.setUnit r.target 2 0 else d1

/-- What a test says of a unit: a level passes where none of its checks has failed. -/
def UnitRec.tested (level : Nat) (checks : List Nat) (x : UnitRec) : UnitRec :=
  { x with
    memPassed := if natBit level 0 then !checks.any (· ≤ 3) else x.memPassed
    anaPassed := if natBit level 1 then !checks.any (4 ≤ ·) else x.anaPassed }

/-- The units that a run has tested: its target, with a rod its engines, or, in a whole-module run, every unit out of service. -/
def Device.testedUnits (target : Nat) (d : Device) : List Nat :=
  if target = 0xFFFF then (List.range 0x733).filter (fun u => unitExists u && d.unitState u == 2)
  else target :: (if target < 24 then (List.range 12).map (fun e => 0x100 + 16 * target + e) else [])

/-- The passes of a run are noted in the units' records. -/
def Device.notePasses (level target : Nat) (fails : List TestFail) (d : Device) : Device :=
  { d with serv := { d.serv with units := (d.testedUnits target).foldl (fun t u =>
    Tab.put u ((Tab.read t u UnitRec.reset).tested level ((fails.filter (fun f => f.unit == u)).map (·.check))) t) d.serv.units } }

/-- SELFTEST_DONE (R485, R488): the run's record is kept, the unit goes back out of service, E496 for each failed check, E014, and the final, which carries
the failed checks and the run. -/
def selftestDone (units : Nat) (fails : List TestFail) (d : Device) : Device :=
  match d.serv.testing, takeWork (fun w => w.op == 0x0C04) d.rk.works with
  | some r, some (w, rest) =>
    let r1 : TestRun := { r with
      result := bit01 (!fails.isEmpty), units := units, failures := fails.length, entries := fails.take 60, finish := d.now }
    let d1 : Device := { d with serv := d.serv.keepRun r1, rk := { d.rk with works := rest } }
    let d2 := d1.notePasses r.level r.target fails
    let cause := if fails.isEmpty then 0 else 5
    let d3 := if r.target != 0xFFFF && d2.unitState r.target = 3 then d2.setUnit r.target 2 cause else d2
    (d3.raise (fails.map (fun f => (496, det2 f.unit f.check)) ++ [(14, 0)])).decideCtx w.ctx stOk
      (Nat.min fails.length 65535 + 65536 * (r.run % 65536)) none d.now
  | _, _ => d

def execSelftestDone (t : Nat) (units : Nat) (fails : List (Nat × Nat × Nat × Int × Int × Int)) (s : State) : Host.Outcome State Fault Refusal :=
  .next { s with dev := selftestDone units (fails.map (fun f => ⟨f.1, f.2.1, f.2.2.1, f.2.2.2.1, f.2.2.2.2.1, f.2.2.2.2.2⟩)) (s.dev.at_ t) }

/-- A run's record (after Table 17.14). -/
def TestRun.record (r : TestRun) : Bytes :=
  padTo 1024 (fields [(4, r.run), (1, r.level), (1, r.algorithm), (1, r.result), (1, 0), (2, r.target), (2, r.units), (2, Nat.min r.failures 65535),
    (1, r.entries.length), (1, 0)] ++ timeWordBytes r.start ++ timeWordBytes r.finish ++ wrLE 16 0 ++
    r.entries.flatMap (fun f => fields [(2, f.unit), (1, f.check), (1, f.outcome)] ++ wrInt 4 f.measured ++ wrInt 4 f.lo ++ wrInt 4 f.hi))

def selftestResultGet : CmdSpec where
  op := 0x0C05
  when_ := .done
  reserved := [(8, 32)]
  check c d := firstOf [badParam (8 ≤ c.handle || targetBad 1024 c d), absent (d.serv.lastRuns.length ≤ c.handle), targetCheck 1024 c d]
  apply c d := match d.serv.lastRuns[c.handle]? with
    | none => Done.ok d
    | some r => writeRecord r.record c d

/-! ### Status and diagnosis -/

/-- The image that a unit runs (Table 17.14). -/
def Device.unitImage (u : Nat) (d : Device) : Nat :=
  if u < 24 then ((d.serv.image 4).slot (Tab.read d.serv.rodImage u 0)).version
  else if within 0x700 0x703 u then (d.serv.image 2).running.version
  else if u = 0x710 then (d.serv.image 3).running.version
  else if within 0x720 0x721 u then (d.serv.image 5).running.version
  else 0

/-- UNIT_STATUS_GET's record (Table 17.14). -/
def unitRecord (u : Nat) (d : Device) : Bytes :=
  let x := d.serv.unit u
  let corrected := if u < 24 then (d.rod u).sramCorrected else if within 0x500 0x503 u then (d.dram.group (u - 0x500)).corrected else x.corrected
  fields [(2, u), (1, d.unitState u), (1, bit01 x.memPassed + 2 * bit01 x.anaPassed), (1, x.cause), (1, if u < 24 then (d.rod u).role else 0), (2, 0),
    (4, d.unitImage u), (4, 0), (8, x.changes), (8, x.faults), (8, corrected), (8, 0)] ++ timeWordBytes x.lastChange ++ wrLE 48 0 ++ timeWordBytes d.now

def unitStatusGet : CmdSpec where
  op := 0x0C06
  when_ := .done
  reserved := [(8, 32)]
  check c d := firstOf [badParam (!unitExists c.handle), targetCheck 128 c d]
  apply c d := writeRecord (unitRecord c.handle d) c d

/-- DIAG_EXPORT (R492). -/
def diagExport : CmdSpec where
  op := 0x0C07
  block := some (fun _ => 64)
  when_ := .done
  reserved := [(20, 44)]
  check c d := firstOf [
    badParam (c.handle != 0 || c.b 0 8 % 64 != 0 || (!d.rescue && windowBytes < c.b 0 8 + c.b 8 8)),
    badState (!d.rescue && !d.rangeUp (c.b 0 8) (c.b 8 8)) 6]
  apply c d := Done.goesOn (d.beginWork 0x0C07 c 0 none)

/-- DIAG_EXPORT_DONE: what the module has gathered is written, as much of it as DEST_BYTES holds, with E502. -/
def diagExportDone (data : Bytes) (d : Device) : Device :=
  match takeWork (fun w => w.op == 0x0C07) d.rk.works with
  | none => d
  | some (w, rest) =>
    let b := data.take (w.ctx.b 8 8)
    let d1 : Device := { d with rk := { d.rk with works := rest } }
    ((d1.writeAt (w.ctx.b 0 8) b).raise [(502, b.length)]).decideCtx w.ctx stOk 0 none d.now

def execDiagExportDone (t : Nat) (data : Bytes) (s : State) : Host.Outcome State Fault Refusal := .next { s with dev := diagExportDone data (s.dev.at_ t) }

end Sys2Proof.Machine
end

