-- ==== Sys2Proof/Machine/CmdTable.lean ====
section
/-!
DEFINITION. Table 11.14: every opcode with what its chapter says of it, and how an entry runs (11 R321 to R334).
-/
namespace Sys2Proof.Machine

/-- The interface commands (11 Table 11.18). -/
def interfaceSpecs : List CmdSpec :=
  [ranrokInfoGet, ranrokNop]

/-- The mode commands (11 Table 11.18). -/
def modeSpecs : List CmdSpec :=
  [modeSet, scheduledStartSet, quietWindowSet, deviceStatusGet, thermalLimitSet]

/-- The channel commands (11 Table 11.18). -/
def channelSpecs : List CmdSpec :=
  [channelSet, channelStart, channelStop, channelClear, renditionSet, renditionClear, slotmaskSet, channelMove, renditionIdr, renditionStatusGet, rodStatusGet]

/-- The ingest commands (11 Table 11.18). -/
def ingestSpecs : List CmdSpec :=
  [ingestFlowSet, ingestFlowClear, ingestBind, hostringSet, slateLoad, ingestStatusGet]

/-- The compositor commands (11 Table 11.18). -/
def compositorSpecs : List CmdSpec :=
  [compLayersSet, compLayerUpdate, compReflatten, compConfidenceSet, sealKeyRegister, sealKeyRevoke, sealAssetLoad, sealActivate, sealClear]

/-- The output commands (11 Table 11.18). -/
def outputSpecs : List CmdSpec :=
  [serviceSet, serviceClear, subscriberSet, subscriberClear, subscriberKeySet, programmeOutSet, serviceStatusGet, subscriberStatusGet]

/-- The scheduler commands (11 Table 11.18). -/
def schedulerSpecs : List CmdSpec :=
  [portSchedSet, shaperSet, dwrrSet, gateListSet, gateListCancel, policerSet, hostqTxSet, hostqRxSet, rxFilterSet, schedStatusGet]

/-- The time commands (11 Table 11.18). -/
def timeSpecs : List CmdSpec :=
  [timeServoSet, timeDomainSet, timeSourceSelect, timeAsymSet, timeStep, timeCaptureSet, timeCaptureNow, timeTriggerSet, timeTriggerClear, timeRefioSet]

/-- The lane commands (11 Table 11.18). -/
def laneSpecs : List CmdSpec :=
  [cageSet, portSet, synceSet, laneTestSet, laneRecal, hostlaneTest, portStatusGet, laneStatusGet]

/-- The memory commands (11 Table 11.18). -/
def memorySpecs : List CmdSpec :=
  [memGroupRetire, memGroupRetrain, memGroupTest, memGroupRestore, memGrainSet, memChannelDiagGet, memStatusGet]

/-- The journal commands (11 Table 11.18). -/
def journalSpecs : List CmdSpec :=
  [journalSessionOpen, journalSessionClose, journalServiceSet, journalMarkPin, journalMarkRelease, journalReplayStart, journalReplayStop, journalExport, energyTest, journalStatusGet, checkContextSet, checkContextGet]

/-- The audio commands (11 Table 11.18). -/
def audioSpecs : List CmdSpec :=
  [audioPortSet, audioSourceSet, audioEncoderSet, audioStatusGet]

/-- The event commands (11 Table 11.18). -/
def eventSpecs : List CmdSpec :=
  [eventRouteSet, eventLogSet, wqueueSet, wqueueFlush]

/-- The service commands (11 Table 11.18). -/
def serviceSpecs : List CmdSpec :=
  [unitServiceSet, fwImageStage, fwActivate, selftestRun, selftestResultGet, unitStatusGet, diagExport]

/-- Every opcode of Ranrok 1.0 (11 Table 11.14). -/
def specs : List CmdSpec :=
  interfaceSpecs ++ modeSpecs ++ channelSpecs ++ ingestSpecs ++ compositorSpecs ++ outputSpecs ++ schedulerSpecs ++
  timeSpecs ++ laneSpecs ++ memorySpecs ++ journalSpecs ++ audioSpecs ++ eventSpecs ++ serviceSpecs

/-- What its chapter says of an opcode. -/
def specOf (op : Nat) : Option CmdSpec := specs.find? (fun sp => sp.op == op)

/-- A staged change as it would land (11 R330). -/
def Staged.landed (x : Staged) (d : Device) : Device := match specOf x.op with
  | some sp => (sp.apply x.ctx d).dev
  | none => d

/-- The module with everything staged applied, which a command's checks look at (11 R330, R334). -/
def aheadOf (d : Device) : Device := d.rk.staged.foldl (fun e x => x.landed e) d

/-- A 64-byte entry: its first 64 bytes, with zeros for bytes not given. -/
def entry64 (e : Bytes) : Bytes := (List.range 64).map (fun i => e.getD i 0)

/-- The context of an entry that ring `r` has just yielded. -/
def ringCtx (sp : CmdSpec) (r : Nat) (e : Bytes) (d : Device) : Ctx := ⟨.ring r (d.rk.ring r).taken, e, d.fetchBlock sp e, d.now⟩

/-- A taken entry is checked, answered and run; an opcode that the firmware does not implement changes nothing (11 R321). -/
def runTaken (sp : CmdSpec) (r : Nat) (c : Ctx) (d : Device) : Device :=
  if d.implements sp.op then sp.run aheadOf (some r) c d else d.decideCtx c stNotSupported 0 none c.now

/-- The command `sp` with the entry `entry` is taken from ring `r` (11 R320, R321). -/
def runRow (sp : CmdSpec) (r : Nat) (entry : Bytes) (d : Device) : Device :=
  let e := entry64 entry
  runTaken sp r (ringCtx sp r e d) (d.takeEntry r e none)

end Sys2Proof.Machine
end

