-- ==== Sys2Proof/Machine/Commands.lean ====
section
/-!
DEFINITION. The meanings of the Ranrok commands (11 Table 11.14): each entry, taken from its ring, is checked, answered and run
under the rules of its chapter.
-/
namespace Sys2Proof.Machine

/-- RANROK_INFO_GET (0x0001): Ranrok.lean. -/
def execRanrokInfoGet (t : Nat) (ring : Fin 4) (entry : Bytes) (s : State) : Host.Outcome State Fault Refusal :=
  .next { s with dev := runRow ranrokInfoGet ring entry (s.dev.at_ t) }

/-- RANROK_NOP (0x0002): Ranrok.lean. -/
def execRanrokNop (t : Nat) (ring : Fin 4) (entry : Bytes) (s : State) : Host.Outcome State Fault Refusal :=
  .next { s with dev := runRow ranrokNop ring entry (s.dev.at_ t) }

/-- MODE_SET (0x0010): Modes.lean. -/
def execModeSet (t : Nat) (ring : Fin 4) (entry : Bytes) (s : State) : Host.Outcome State Fault Refusal :=
  .next { s with dev := runRow modeSet ring entry (s.dev.at_ t) }

/-- SCHEDULED_START_SET (0x0011): Modes.lean. -/
def execScheduledStartSet (t : Nat) (ring : Fin 4) (entry : Bytes) (s : State) : Host.Outcome State Fault Refusal :=
  .next { s with dev := runRow scheduledStartSet ring entry (s.dev.at_ t) }

/-- QUIET_WINDOW_SET (0x0012): Modes.lean. -/
def execQuietWindowSet (t : Nat) (ring : Fin 4) (entry : Bytes) (s : State) : Host.Outcome State Fault Refusal :=
  .next { s with dev := runRow quietWindowSet ring entry (s.dev.at_ t) }

/-- DEVICE_STATUS_GET (0x0013): Modes.lean. -/
def execDeviceStatusGet (t : Nat) (ring : Fin 4) (entry : Bytes) (s : State) : Host.Outcome State Fault Refusal :=
  .next { s with dev := runRow deviceStatusGet ring entry (s.dev.at_ t) }

/-- THERMAL_LIMIT_SET (0x0014): Modes.lean. -/
def execThermalLimitSet (t : Nat) (ring : Fin 4) (entry : Bytes) (s : State) : Host.Outcome State Fault Refusal :=
  .next { s with dev := runRow thermalLimitSet ring entry (s.dev.at_ t) }

/-- CHANNEL_SET (0x0101): Channels.lean. -/
def execChannelSet (t : Nat) (ring : Fin 4) (entry : Bytes) (s : State) : Host.Outcome State Fault Refusal :=
  .next { s with dev := runRow channelSet ring entry (s.dev.at_ t) }

/-- CHANNEL_START (0x0102): Channels.lean. -/
def execChannelStart (t : Nat) (ring : Fin 4) (entry : Bytes) (s : State) : Host.Outcome State Fault Refusal :=
  .next { s with dev := runRow channelStart ring entry (s.dev.at_ t) }

/-- CHANNEL_STOP (0x0103): Channels.lean. -/
def execChannelStop (t : Nat) (ring : Fin 4) (entry : Bytes) (s : State) : Host.Outcome State Fault Refusal :=
  .next { s with dev := runRow channelStop ring entry (s.dev.at_ t) }

/-- CHANNEL_CLEAR (0x0104): Channels.lean. -/
def execChannelClear (t : Nat) (ring : Fin 4) (entry : Bytes) (s : State) : Host.Outcome State Fault Refusal :=
  .next { s with dev := runRow channelClear ring entry (s.dev.at_ t) }

/-- RENDITION_SET (0x0105): Channels.lean. -/
def execRenditionSet (t : Nat) (ring : Fin 4) (entry : Bytes) (s : State) : Host.Outcome State Fault Refusal :=
  .next { s with dev := runRow renditionSet ring entry (s.dev.at_ t) }

/-- RENDITION_CLEAR (0x0106): Channels.lean. -/
def execRenditionClear (t : Nat) (ring : Fin 4) (entry : Bytes) (s : State) : Host.Outcome State Fault Refusal :=
  .next { s with dev := runRow renditionClear ring entry (s.dev.at_ t) }

/-- SLOTMASK_SET (0x0107): Channels.lean. -/
def execSlotmaskSet (t : Nat) (ring : Fin 4) (entry : Bytes) (s : State) : Host.Outcome State Fault Refusal :=
  .next { s with dev := runRow slotmaskSet ring entry (s.dev.at_ t) }

/-- CHANNEL_MOVE (0x0108): Channels.lean. -/
def execChannelMove (t : Nat) (ring : Fin 4) (entry : Bytes) (s : State) : Host.Outcome State Fault Refusal :=
  .next { s with dev := runRow channelMove ring entry (s.dev.at_ t) }

/-- RENDITION_IDR (0x0109): Channels.lean. -/
def execRenditionIdr (t : Nat) (ring : Fin 4) (entry : Bytes) (s : State) : Host.Outcome State Fault Refusal :=
  .next { s with dev := runRow renditionIdr ring entry (s.dev.at_ t) }

/-- RENDITION_STATUS_GET (0x010A): Channels.lean. -/
def execRenditionStatusGet (t : Nat) (ring : Fin 4) (entry : Bytes) (s : State) : Host.Outcome State Fault Refusal :=
  .next { s with dev := runRow renditionStatusGet ring entry (s.dev.at_ t) }

/-- ROD_STATUS_GET (0x010B): Channels.lean. -/
def execRodStatusGet (t : Nat) (ring : Fin 4) (entry : Bytes) (s : State) : Host.Outcome State Fault Refusal :=
  .next { s with dev := runRow rodStatusGet ring entry (s.dev.at_ t) }

/-- INGEST_FLOW_SET (0x0201): Ingest.lean. -/
def execIngestFlowSet (t : Nat) (ring : Fin 4) (entry : Bytes) (s : State) : Host.Outcome State Fault Refusal :=
  .next { s with dev := runRow ingestFlowSet ring entry (s.dev.at_ t) }

/-- INGEST_FLOW_CLEAR (0x0202): Ingest.lean. -/
def execIngestFlowClear (t : Nat) (ring : Fin 4) (entry : Bytes) (s : State) : Host.Outcome State Fault Refusal :=
  .next { s with dev := runRow ingestFlowClear ring entry (s.dev.at_ t) }

/-- INGEST_BIND (0x0203): Ingest.lean. -/
def execIngestBind (t : Nat) (ring : Fin 4) (entry : Bytes) (s : State) : Host.Outcome State Fault Refusal :=
  .next { s with dev := runRow ingestBind ring entry (s.dev.at_ t) }

/-- HOSTRING_SET (0x0204): Ingest.lean. -/
def execHostringSet (t : Nat) (ring : Fin 4) (entry : Bytes) (s : State) : Host.Outcome State Fault Refusal :=
  .next { s with dev := runRow hostringSet ring entry (s.dev.at_ t) }

/-- SLATE_LOAD (0x0205): Ingest.lean. -/
def execSlateLoad (t : Nat) (ring : Fin 4) (entry : Bytes) (s : State) : Host.Outcome State Fault Refusal :=
  .next { s with dev := runRow slateLoad ring entry (s.dev.at_ t) }

/-- INGEST_STATUS_GET (0x0206): Ingest.lean. -/
def execIngestStatusGet (t : Nat) (ring : Fin 4) (entry : Bytes) (s : State) : Host.Outcome State Fault Refusal :=
  .next { s with dev := runRow ingestStatusGet ring entry (s.dev.at_ t) }

/-- COMP_LAYERS_SET (0x0301): Compose.lean. -/
def execCompLayersSet (t : Nat) (ring : Fin 4) (entry : Bytes) (s : State) : Host.Outcome State Fault Refusal :=
  .next { s with dev := runRow compLayersSet ring entry (s.dev.at_ t) }

/-- COMP_LAYER_UPDATE (0x0302): Compose.lean. -/
def execCompLayerUpdate (t : Nat) (ring : Fin 4) (entry : Bytes) (s : State) : Host.Outcome State Fault Refusal :=
  .next { s with dev := runRow compLayerUpdate ring entry (s.dev.at_ t) }

/-- COMP_REFLATTEN (0x0303): Compose.lean. -/
def execCompReflatten (t : Nat) (ring : Fin 4) (entry : Bytes) (s : State) : Host.Outcome State Fault Refusal :=
  .next { s with dev := runRow compReflatten ring entry (s.dev.at_ t) }

/-- COMP_CONFIDENCE_SET (0x0304): Compose.lean. -/
def execCompConfidenceSet (t : Nat) (ring : Fin 4) (entry : Bytes) (s : State) : Host.Outcome State Fault Refusal :=
  .next { s with dev := runRow compConfidenceSet ring entry (s.dev.at_ t) }

/-- SEAL_KEY_REGISTER (0x0310): Compose.lean. -/
def execSealKeyRegister (t : Nat) (ring : Fin 4) (entry : Bytes) (s : State) : Host.Outcome State Fault Refusal :=
  .next { s with dev := runRow sealKeyRegister ring entry (s.dev.at_ t) }

/-- SEAL_KEY_REVOKE (0x0311): Compose.lean. -/
def execSealKeyRevoke (t : Nat) (ring : Fin 4) (entry : Bytes) (s : State) : Host.Outcome State Fault Refusal :=
  .next { s with dev := runRow sealKeyRevoke ring entry (s.dev.at_ t) }

/-- SEAL_ASSET_LOAD (0x0312): Compose.lean. -/
def execSealAssetLoad (t : Nat) (ring : Fin 4) (entry : Bytes) (s : State) : Host.Outcome State Fault Refusal :=
  .next { s with dev := runRow sealAssetLoad ring entry (s.dev.at_ t) }

/-- SEAL_ACTIVATE (0x0313): Compose.lean. -/
def execSealActivate (t : Nat) (ring : Fin 4) (entry : Bytes) (s : State) : Host.Outcome State Fault Refusal :=
  .next { s with dev := runRow sealActivate ring entry (s.dev.at_ t) }

/-- SEAL_CLEAR (0x0314): Compose.lean. -/
def execSealClear (t : Nat) (ring : Fin 4) (entry : Bytes) (s : State) : Host.Outcome State Fault Refusal :=
  .next { s with dev := runRow sealClear ring entry (s.dev.at_ t) }

/-- SERVICE_SET (0x0401): Output.lean. -/
def execServiceSet (t : Nat) (ring : Fin 4) (entry : Bytes) (s : State) : Host.Outcome State Fault Refusal :=
  .next { s with dev := runRow serviceSet ring entry (s.dev.at_ t) }

/-- SERVICE_CLEAR (0x0402): Output.lean. -/
def execServiceClear (t : Nat) (ring : Fin 4) (entry : Bytes) (s : State) : Host.Outcome State Fault Refusal :=
  .next { s with dev := runRow serviceClear ring entry (s.dev.at_ t) }

/-- SUBSCRIBER_SET (0x0403): Output.lean. -/
def execSubscriberSet (t : Nat) (ring : Fin 4) (entry : Bytes) (s : State) : Host.Outcome State Fault Refusal :=
  .next { s with dev := runRow subscriberSet ring entry (s.dev.at_ t) }

/-- SUBSCRIBER_CLEAR (0x0404): Output.lean. -/
def execSubscriberClear (t : Nat) (ring : Fin 4) (entry : Bytes) (s : State) : Host.Outcome State Fault Refusal :=
  .next { s with dev := runRow subscriberClear ring entry (s.dev.at_ t) }

/-- SUBSCRIBER_KEY_SET (0x0405): Output.lean. -/
def execSubscriberKeySet (t : Nat) (ring : Fin 4) (entry : Bytes) (s : State) : Host.Outcome State Fault Refusal :=
  .next { s with dev := runRow subscriberKeySet ring entry (s.dev.at_ t) }

/-- PROGRAMME_OUT_SET (0x0406): Output.lean. -/
def execProgrammeOutSet (t : Nat) (ring : Fin 4) (entry : Bytes) (s : State) : Host.Outcome State Fault Refusal :=
  .next { s with dev := runRow programmeOutSet ring entry (s.dev.at_ t) }

/-- SERVICE_STATUS_GET (0x0407): Output.lean. -/
def execServiceStatusGet (t : Nat) (ring : Fin 4) (entry : Bytes) (s : State) : Host.Outcome State Fault Refusal :=
  .next { s with dev := runRow serviceStatusGet ring entry (s.dev.at_ t) }

/-- SUBSCRIBER_STATUS_GET (0x0408): Output.lean. -/
def execSubscriberStatusGet (t : Nat) (ring : Fin 4) (entry : Bytes) (s : State) : Host.Outcome State Fault Refusal :=
  .next { s with dev := runRow subscriberStatusGet ring entry (s.dev.at_ t) }

/-- PORT_SCHED_SET (0x0501): Sched.lean. -/
def execPortSchedSet (t : Nat) (ring : Fin 4) (entry : Bytes) (s : State) : Host.Outcome State Fault Refusal :=
  .next { s with dev := runRow portSchedSet ring entry (s.dev.at_ t) }

/-- SHAPER_SET (0x0502): Sched.lean. -/
def execShaperSet (t : Nat) (ring : Fin 4) (entry : Bytes) (s : State) : Host.Outcome State Fault Refusal :=
  .next { s with dev := runRow shaperSet ring entry (s.dev.at_ t) }

/-- DWRR_SET (0x0503): Sched.lean. -/
def execDwrrSet (t : Nat) (ring : Fin 4) (entry : Bytes) (s : State) : Host.Outcome State Fault Refusal :=
  .next { s with dev := runRow dwrrSet ring entry (s.dev.at_ t) }

/-- GATE_LIST_SET (0x0504): Sched.lean. -/
def execGateListSet (t : Nat) (ring : Fin 4) (entry : Bytes) (s : State) : Host.Outcome State Fault Refusal :=
  .next { s with dev := runRow gateListSet ring entry (s.dev.at_ t) }

/-- GATE_LIST_CANCEL (0x0505): Sched.lean. -/
def execGateListCancel (t : Nat) (ring : Fin 4) (entry : Bytes) (s : State) : Host.Outcome State Fault Refusal :=
  .next { s with dev := runRow gateListCancel ring entry (s.dev.at_ t) }

/-- POLICER_SET (0x0506): Sched.lean. -/
def execPolicerSet (t : Nat) (ring : Fin 4) (entry : Bytes) (s : State) : Host.Outcome State Fault Refusal :=
  .next { s with dev := runRow policerSet ring entry (s.dev.at_ t) }

/-- HOSTQ_TX_SET (0x0507): HostQueues.lean. -/
def execHostqTxSet (t : Nat) (ring : Fin 4) (entry : Bytes) (s : State) : Host.Outcome State Fault Refusal :=
  .next { s with dev := runRow hostqTxSet ring entry (s.dev.at_ t) }

/-- HOSTQ_RX_SET (0x0508): HostQueues.lean. -/
def execHostqRxSet (t : Nat) (ring : Fin 4) (entry : Bytes) (s : State) : Host.Outcome State Fault Refusal :=
  .next { s with dev := runRow hostqRxSet ring entry (s.dev.at_ t) }

/-- RX_FILTER_SET (0x0509): HostQueues.lean. -/
def execRxFilterSet (t : Nat) (ring : Fin 4) (entry : Bytes) (s : State) : Host.Outcome State Fault Refusal :=
  .next { s with dev := runRow rxFilterSet ring entry (s.dev.at_ t) }

/-- SCHED_STATUS_GET (0x050A): Sched.lean. -/
def execSchedStatusGet (t : Nat) (ring : Fin 4) (entry : Bytes) (s : State) : Host.Outcome State Fault Refusal :=
  .next { s with dev := runRow schedStatusGet ring entry (s.dev.at_ t) }

/-- TIME_SERVO_SET (0x0601): Time.lean. -/
def execTimeServoSet (t : Nat) (ring : Fin 4) (entry : Bytes) (s : State) : Host.Outcome State Fault Refusal :=
  .next { s with dev := runRow timeServoSet ring entry (s.dev.at_ t) }

/-- TIME_DOMAIN_SET (0x0602): Time.lean. -/
def execTimeDomainSet (t : Nat) (ring : Fin 4) (entry : Bytes) (s : State) : Host.Outcome State Fault Refusal :=
  .next { s with dev := runRow timeDomainSet ring entry (s.dev.at_ t) }

/-- TIME_SOURCE_SELECT (0x0603): Time.lean. -/
def execTimeSourceSelect (t : Nat) (ring : Fin 4) (entry : Bytes) (s : State) : Host.Outcome State Fault Refusal :=
  .next { s with dev := runRow timeSourceSelect ring entry (s.dev.at_ t) }

/-- TIME_ASYM_SET (0x0604): Time.lean. -/
def execTimeAsymSet (t : Nat) (ring : Fin 4) (entry : Bytes) (s : State) : Host.Outcome State Fault Refusal :=
  .next { s with dev := runRow timeAsymSet ring entry (s.dev.at_ t) }

/-- TIME_STEP (0x0605): Time.lean. -/
def execTimeStep (t : Nat) (ring : Fin 4) (entry : Bytes) (s : State) : Host.Outcome State Fault Refusal :=
  .next { s with dev := runRow timeStep ring entry (s.dev.at_ t) }

/-- TIME_CAPTURE_SET (0x0606): Time.lean. -/
def execTimeCaptureSet (t : Nat) (ring : Fin 4) (entry : Bytes) (s : State) : Host.Outcome State Fault Refusal :=
  .next { s with dev := runRow timeCaptureSet ring entry (s.dev.at_ t) }

/-- TIME_CAPTURE_NOW (0x0607): Time.lean. -/
def execTimeCaptureNow (t : Nat) (ring : Fin 4) (entry : Bytes) (s : State) : Host.Outcome State Fault Refusal :=
  .next { s with dev := runRow timeCaptureNow ring entry (s.dev.at_ t) }

/-- TIME_TRIGGER_SET (0x0608): Time.lean. -/
def execTimeTriggerSet (t : Nat) (ring : Fin 4) (entry : Bytes) (s : State) : Host.Outcome State Fault Refusal :=
  .next { s with dev := runRow timeTriggerSet ring entry (s.dev.at_ t) }

/-- TIME_TRIGGER_CLEAR (0x0609): Time.lean. -/
def execTimeTriggerClear (t : Nat) (ring : Fin 4) (entry : Bytes) (s : State) : Host.Outcome State Fault Refusal :=
  .next { s with dev := runRow timeTriggerClear ring entry (s.dev.at_ t) }

/-- TIME_REFIO_SET (0x060A): Time.lean. -/
def execTimeRefioSet (t : Nat) (ring : Fin 4) (entry : Bytes) (s : State) : Host.Outcome State Fault Refusal :=
  .next { s with dev := runRow timeRefioSet ring entry (s.dev.at_ t) }

/-- CAGE_SET (0x0701): Ports.lean. -/
def execCageSet (t : Nat) (ring : Fin 4) (entry : Bytes) (s : State) : Host.Outcome State Fault Refusal :=
  .next { s with dev := runRow cageSet ring entry (s.dev.at_ t) }

/-- PORT_SET (0x0702): Ports.lean. -/
def execPortSet (t : Nat) (ring : Fin 4) (entry : Bytes) (s : State) : Host.Outcome State Fault Refusal :=
  .next { s with dev := runRow portSet ring entry (s.dev.at_ t) }

/-- SYNCE_SET (0x0703): Ports.lean. -/
def execSynceSet (t : Nat) (ring : Fin 4) (entry : Bytes) (s : State) : Host.Outcome State Fault Refusal :=
  .next { s with dev := runRow synceSet ring entry (s.dev.at_ t) }

/-- LANE_TEST_SET (0x0704): Ports.lean. -/
def execLaneTestSet (t : Nat) (ring : Fin 4) (entry : Bytes) (s : State) : Host.Outcome State Fault Refusal :=
  .next { s with dev := runRow laneTestSet ring entry (s.dev.at_ t) }

/-- LANE_RECAL (0x0705): Ports.lean. -/
def execLaneRecal (t : Nat) (ring : Fin 4) (entry : Bytes) (s : State) : Host.Outcome State Fault Refusal :=
  .next { s with dev := runRow laneRecal ring entry (s.dev.at_ t) }

/-- HOSTLANE_TEST (0x0706): Host.lean. -/
def execHostlaneTest (t : Nat) (ring : Fin 4) (entry : Bytes) (s : State) : Host.Outcome State Fault Refusal :=
  .next { s with dev := runRow hostlaneTest ring entry (s.dev.at_ t) }

/-- PORT_STATUS_GET (0x0707): Ports.lean. -/
def execPortStatusGet (t : Nat) (ring : Fin 4) (entry : Bytes) (s : State) : Host.Outcome State Fault Refusal :=
  .next { s with dev := runRow portStatusGet ring entry (s.dev.at_ t) }

/-- LANE_STATUS_GET (0x0708): Ports.lean. -/
def execLaneStatusGet (t : Nat) (ring : Fin 4) (entry : Bytes) (s : State) : Host.Outcome State Fault Refusal :=
  .next { s with dev := runRow laneStatusGet ring entry (s.dev.at_ t) }

/-- MEM_GROUP_RETIRE (0x0801): Dram.lean. -/
def execMemGroupRetire (t : Nat) (ring : Fin 4) (entry : Bytes) (s : State) : Host.Outcome State Fault Refusal :=
  .next { s with dev := runRow memGroupRetire ring entry (s.dev.at_ t) }

/-- MEM_GROUP_RETRAIN (0x0802): Dram.lean. -/
def execMemGroupRetrain (t : Nat) (ring : Fin 4) (entry : Bytes) (s : State) : Host.Outcome State Fault Refusal :=
  .next { s with dev := runRow memGroupRetrain ring entry (s.dev.at_ t) }

/-- MEM_GROUP_TEST (0x0803): Dram.lean. -/
def execMemGroupTest (t : Nat) (ring : Fin 4) (entry : Bytes) (s : State) : Host.Outcome State Fault Refusal :=
  .next { s with dev := runRow memGroupTest ring entry (s.dev.at_ t) }

/-- MEM_GROUP_RESTORE (0x0804): Dram.lean. -/
def execMemGroupRestore (t : Nat) (ring : Fin 4) (entry : Bytes) (s : State) : Host.Outcome State Fault Refusal :=
  .next { s with dev := runRow memGroupRestore ring entry (s.dev.at_ t) }

/-- MEM_GRAIN_SET (0x0805): Dram.lean. -/
def execMemGrainSet (t : Nat) (ring : Fin 4) (entry : Bytes) (s : State) : Host.Outcome State Fault Refusal :=
  .next { s with dev := runRow memGrainSet ring entry (s.dev.at_ t) }

/-- MEM_CHANNEL_DIAG_GET (0x0806): Dram.lean. -/
def execMemChannelDiagGet (t : Nat) (ring : Fin 4) (entry : Bytes) (s : State) : Host.Outcome State Fault Refusal :=
  .next { s with dev := runRow memChannelDiagGet ring entry (s.dev.at_ t) }

/-- MEM_STATUS_GET (0x0807): Dram.lean. -/
def execMemStatusGet (t : Nat) (ring : Fin 4) (entry : Bytes) (s : State) : Host.Outcome State Fault Refusal :=
  .next { s with dev := runRow memStatusGet ring entry (s.dev.at_ t) }

/-- JOURNAL_SESSION_OPEN (0x0901): Journal.lean. -/
def execJournalSessionOpen (t : Nat) (ring : Fin 4) (entry : Bytes) (s : State) : Host.Outcome State Fault Refusal :=
  .next { s with dev := runRow journalSessionOpen ring entry (s.dev.at_ t) }

/-- JOURNAL_SESSION_CLOSE (0x0902): Journal.lean. -/
def execJournalSessionClose (t : Nat) (ring : Fin 4) (entry : Bytes) (s : State) : Host.Outcome State Fault Refusal :=
  .next { s with dev := runRow journalSessionClose ring entry (s.dev.at_ t) }

/-- JOURNAL_SERVICE_SET (0x0903): Journal.lean. -/
def execJournalServiceSet (t : Nat) (ring : Fin 4) (entry : Bytes) (s : State) : Host.Outcome State Fault Refusal :=
  .next { s with dev := runRow journalServiceSet ring entry (s.dev.at_ t) }

/-- JOURNAL_MARK_PIN (0x0904): Journal.lean. -/
def execJournalMarkPin (t : Nat) (ring : Fin 4) (entry : Bytes) (s : State) : Host.Outcome State Fault Refusal :=
  .next { s with dev := runRow journalMarkPin ring entry (s.dev.at_ t) }

/-- JOURNAL_MARK_RELEASE (0x0905): Journal.lean. -/
def execJournalMarkRelease (t : Nat) (ring : Fin 4) (entry : Bytes) (s : State) : Host.Outcome State Fault Refusal :=
  .next { s with dev := runRow journalMarkRelease ring entry (s.dev.at_ t) }

/-- JOURNAL_REPLAY_START (0x0906): Journal.lean. -/
def execJournalReplayStart (t : Nat) (ring : Fin 4) (entry : Bytes) (s : State) : Host.Outcome State Fault Refusal :=
  .next { s with dev := runRow journalReplayStart ring entry (s.dev.at_ t) }

/-- JOURNAL_REPLAY_STOP (0x0907): Journal.lean. -/
def execJournalReplayStop (t : Nat) (ring : Fin 4) (entry : Bytes) (s : State) : Host.Outcome State Fault Refusal :=
  .next { s with dev := runRow journalReplayStop ring entry (s.dev.at_ t) }

/-- JOURNAL_EXPORT (0x0908): Journal.lean. -/
def execJournalExport (t : Nat) (ring : Fin 4) (entry : Bytes) (s : State) : Host.Outcome State Fault Refusal :=
  .next { s with dev := runRow journalExport ring entry (s.dev.at_ t) }

/-- ENERGY_TEST (0x0909): Journal.lean. -/
def execEnergyTest (t : Nat) (ring : Fin 4) (entry : Bytes) (s : State) : Host.Outcome State Fault Refusal :=
  .next { s with dev := runRow energyTest ring entry (s.dev.at_ t) }

/-- JOURNAL_STATUS_GET (0x090A): Journal.lean. -/
def execJournalStatusGet (t : Nat) (ring : Fin 4) (entry : Bytes) (s : State) : Host.Outcome State Fault Refusal :=
  .next { s with dev := runRow journalStatusGet ring entry (s.dev.at_ t) }

/-- CHECK_CONTEXT_SET (0x090B): Journal.lean. -/
def execCheckContextSet (t : Nat) (ring : Fin 4) (entry : Bytes) (s : State) : Host.Outcome State Fault Refusal :=
  .next { s with dev := runRow checkContextSet ring entry (s.dev.at_ t) }

/-- CHECK_CONTEXT_GET (0x090C): Journal.lean. -/
def execCheckContextGet (t : Nat) (ring : Fin 4) (entry : Bytes) (s : State) : Host.Outcome State Fault Refusal :=
  .next { s with dev := runRow checkContextGet ring entry (s.dev.at_ t) }

/-- AUDIO_PORT_SET (0x0A01): Audio.lean. -/
def execAudioPortSet (t : Nat) (ring : Fin 4) (entry : Bytes) (s : State) : Host.Outcome State Fault Refusal :=
  .next { s with dev := runRow audioPortSet ring entry (s.dev.at_ t) }

/-- AUDIO_SOURCE_SET (0x0A02): Audio.lean. -/
def execAudioSourceSet (t : Nat) (ring : Fin 4) (entry : Bytes) (s : State) : Host.Outcome State Fault Refusal :=
  .next { s with dev := runRow audioSourceSet ring entry (s.dev.at_ t) }

/-- AUDIO_ENCODER_SET (0x0A03): Audio.lean. -/
def execAudioEncoderSet (t : Nat) (ring : Fin 4) (entry : Bytes) (s : State) : Host.Outcome State Fault Refusal :=
  .next { s with dev := runRow audioEncoderSet ring entry (s.dev.at_ t) }

/-- AUDIO_STATUS_GET (0x0A04): Audio.lean. -/
def execAudioStatusGet (t : Nat) (ring : Fin 4) (entry : Bytes) (s : State) : Host.Outcome State Fault Refusal :=
  .next { s with dev := runRow audioStatusGet ring entry (s.dev.at_ t) }

/-- EVENT_ROUTE_SET (0x0B01): Events.lean. -/
def execEventRouteSet (t : Nat) (ring : Fin 4) (entry : Bytes) (s : State) : Host.Outcome State Fault Refusal :=
  .next { s with dev := runRow eventRouteSet ring entry (s.dev.at_ t) }

/-- EVENT_LOG_SET (0x0B02): Events.lean. -/
def execEventLogSet (t : Nat) (ring : Fin 4) (entry : Bytes) (s : State) : Host.Outcome State Fault Refusal :=
  .next { s with dev := runRow eventLogSet ring entry (s.dev.at_ t) }

/-- WQUEUE_SET (0x0B03): Events.lean. -/
def execWqueueSet (t : Nat) (ring : Fin 4) (entry : Bytes) (s : State) : Host.Outcome State Fault Refusal :=
  .next { s with dev := runRow wqueueSet ring entry (s.dev.at_ t) }

/-- WQUEUE_FLUSH (0x0B04): Events.lean. -/
def execWqueueFlush (t : Nat) (ring : Fin 4) (entry : Bytes) (s : State) : Host.Outcome State Fault Refusal :=
  .next { s with dev := runRow wqueueFlush ring entry (s.dev.at_ t) }

/-- UNIT_SERVICE_SET (0x0C01): Service.lean. -/
def execUnitServiceSet (t : Nat) (ring : Fin 4) (entry : Bytes) (s : State) : Host.Outcome State Fault Refusal :=
  .next { s with dev := runRow unitServiceSet ring entry (s.dev.at_ t) }

/-- FW_IMAGE_STAGE (0x0C02): Service.lean. -/
def execFwImageStage (t : Nat) (ring : Fin 4) (entry : Bytes) (s : State) : Host.Outcome State Fault Refusal :=
  .next { s with dev := runRow fwImageStage ring entry (s.dev.at_ t) }

/-- FW_ACTIVATE (0x0C03): Service.lean. -/
def execFwActivate (t : Nat) (ring : Fin 4) (entry : Bytes) (s : State) : Host.Outcome State Fault Refusal :=
  .next { s with dev := runRow fwActivate ring entry (s.dev.at_ t) }

/-- SELFTEST_RUN (0x0C04): Service.lean. -/
def execSelftestRun (t : Nat) (ring : Fin 4) (entry : Bytes) (s : State) : Host.Outcome State Fault Refusal :=
  .next { s with dev := runRow selftestRun ring entry (s.dev.at_ t) }

/-- SELFTEST_RESULT_GET (0x0C05): Service.lean. -/
def execSelftestResultGet (t : Nat) (ring : Fin 4) (entry : Bytes) (s : State) : Host.Outcome State Fault Refusal :=
  .next { s with dev := runRow selftestResultGet ring entry (s.dev.at_ t) }

/-- UNIT_STATUS_GET (0x0C06): Service.lean. -/
def execUnitStatusGet (t : Nat) (ring : Fin 4) (entry : Bytes) (s : State) : Host.Outcome State Fault Refusal :=
  .next { s with dev := runRow unitStatusGet ring entry (s.dev.at_ t) }

/-- DIAG_EXPORT (0x0C07): Service.lean. -/
def execDiagExport (t : Nat) (ring : Fin 4) (entry : Bytes) (s : State) : Host.Outcome State Fault Refusal :=
  .next { s with dev := runRow diagExport ring entry (s.dev.at_ t) }

end Sys2Proof.Machine
end

