-- ==== Sys2Proof/Machine/Commit.lean ====
section
/-!
DEFINITION. A channel's commit points and ticks (01 R33, 02 R62), automatic handovers (06 R200), the stop of a channel when its host
link is gone (10 R311), and the end of a channel's last frame (05 R159).
-/
namespace Sys2Proof.Machine

/-! ### Automatic handover (R199, R200) -/

/-- The moment of the commit point of frame `f` of a channel. -/
def Channel.commitAt (x : Channel) (f : Nat) : Nat := x.tickOf f - commitLead

/-- A faulted rod's channels hand over at this commit point, if there is a spare (R199). -/
def Device.handReady (n at_ : Nat) (d : Device) : Bool :=
  n < 24 && (match (d.rod n).handFrom with
    | none => false
    | some t => Nat.ble t at_) && ((d.rod n).handTo.isSome || !(d.spareRods.filter (· != n)).isEmpty)

/-- The spare that takes a faulted rod's channels: the lowest-numbered whole one leaves its role at the first of them (R198), and firmware chooses the masks of all of
them there (05 R515). -/
def Device.spareFor (n : Nat) (d : Device) : Nat × Device :=
  match (d.rod n).handTo, d.spareRods.filter (· != n) with
  | some s, _ => (s, d)
  | none, s :: _ => (s, (d.setRod n { d.rod n with handTo := some s, handMasks := d.swapMasks n s }).setRole s 0)
  | none, [] => (n, d)

/-- The rods of a channel that hand over at the commit point of its frame `f`. -/
def Device.handRods (c f : Nat) (d : Device) : List Nat :=
  let x := d.chan c
  [x.rodA, x.rodB].filter (fun n => d.handReady n (x.commitAt f))

/-- A handover that falls due with no spare left is given up: the rod's channels run on until host software moves them (R198, R199). -/
def Device.handGiven (c f : Nat) (d : Device) : Device :=
  let x := d.chan c
  let due (n : Nat) : Bool := n < 24 && (d.rod n).handTo.isNone && (d.rod n).handFrom.any (fun t => Nat.ble t (x.commitAt f)) && !d.handReady n (x.commitAt f)
  ([x.rodA, x.rodB].filter due).foldl (fun d n => d.setRod n { d.rod n with handFrom := none }) d

/-- A channel's rod `n` hands over to a spare at frame `f` (R200): the spare's mask is firmware's choice (R515), and the path ends with the first
frame after `f` (R198). The faulted rod goes out of service. -/
def Device.handOver (c f : Nat) (d : Device) (n : Nat) : Device :=
  let p := d.spareFor n
  let x := d.chan c
  let m := Tab.read (p.2.rod n).handMasks c 0
  let a := if x.rodA = n then p.1 else x.rodA
  let b := if x.rodB = n then p.1 else x.rodB
  let ma := if x.rodA = n then m else x.maskA
  let mb := if x.rodB = n then m else x.maskB
  let h := match p.2.admitHome c d.modes.mode false (.move a b ma mb) with
    | .ok h => h
    | .error _ => p.2.forced c a b ma mb
  (p.2.moveEnds c f (f + 1) h).setRodService n 2 2

/-! ### Moves and masks that firmware has arranged -/

/-- The mask with which a channel lands on rod `n` of an arranged move: its own where it lies there already, else the one arranged, without PEs that have left. -/
def Device.landedMask (x : Channel) (n m : Nat) (d : Device) : Nat :=
  maskOf ((d.rod n).pes.filter (natBit (if x.rodA = n || x.rodB = n then x.maskOn n else m)))

/-- A commanded move that firmware has arranged lands (16 R457; 17 R475, R480). -/
def Device.landMove (c f : Nat) (d : Device) : Device :=
  let x := d.chan c
  match x.planned with
  | none => d
  | some (a, b, ma, mb) =>
    let m1 := d.landedMask x a ma
    let m2 := if b = 255 then 0 else d.landedMask x b mb
    let h := match d.admitHome c d.modes.mode false (.move a b m1 m2) with
      | .ok h => h
      | .error _ => d.forced c a b m1 m2
    let d1 := (d.moveTo c f h).noteLeft c f
    d1.setChan c { d1.chan c with planned := none }

/-- A live-mode change whose move a handover displaces is LATE_APPLIED, a frame later (06 R204). -/
def Device.displaced (c : Nat) (d : Device) : Device :=
  if (d.chan c).planned.isNone then d
  else { d with modes := { d.modes with transition := d.modes.transition.map (fun t =>
    if isLive d.modes.mode && isLive t.target then { t with status := stLate, detail := 1 } else t) } }

/-- A channel's masks without the PEs that have left (06 R198; 17 R475). -/
def Device.cutMasks (c : Nat) (d : Device) : Channel :=
  let x := d.chan c
  let cut (n m : Nat) : Nat := maskOf ((d.rod n).pes.filter (natBit m))
  { x with
    maskA := if x.remask.contains x.rodA then cut x.rodA x.maskA else x.maskA
    maskB := if x.remask.contains x.rodB then cut x.rodB x.maskB else x.maskB, remask := [] }

/-- The re-mask that waits for a commit point lands: E035 with code 4 on each rod that has one (R166). -/
def Device.landMasks (c f : Nat) (d : Device) : Device :=
  let x := d.chan c
  if x.remask.isEmpty then d
  else
    let d1 := d.setChan c (d.cutMasks c)
    (d1.raise (([x.rodA, x.rodB].filter (fun n => x.remask.contains n)).flatMap (rodEvent c 4 f))).noteLeft c f

/-! ### Landing -/

/-- A staged change lands at frame `f` (11 R330, R337): its final is that of its staging, or the refusal of a change that no longer stands. -/
def Device.landStaged (f : Nat) (d : Device) (s : Staged) : Device :=
  let tick := (d.chan s.channel).tickOf f
  match specOf s.op with
  | none => d
  | some sp =>
    let r := sp.apply s.ctx d
    match r.final with
    | none => r.dev
    | some (st, k) =>
      if stBusy ≤ st && st != stLate && st != stStartedAt then r.dev.decideCtx s.ctx st k none d.now
      else r.dev.decideCtx s.ctx s.status (if s.status = stOk then k else s.detail) (some f) tick

/-- A staged change moves to the next frame: LATE_APPLIED where it named a frame, or where a handover displaced it (11 R334; 06 R204). -/
def Staged.put_off (f : Nat) (always : Bool) (s : Staged) : Staged :=
  if always || s.ctx.effect != 0 then { s with frame := f + 1, status := stLate, detail := s.detail + (f + 1 - s.frame) }
  else { s with frame := f + 1 }

/-- SLOTMASK_SET and CHANNEL_MOVE: what an automatic handover displaces (06 R204). -/
def Staged.movesRods (s : Staged) : Bool := s.op == 0x0107 || s.op == 0x0108

/-- The changes due at a commit point, divided: those that land, and those put off with everything taken after them: a flatten still runs (04 R112),
or a handover takes the boundary (06 R204). -/
def splitDue (f : Nat) (handed : Bool) (d : Device) : Bool → List Staged → List Staged × List Staged
  | _, [] => ([], [])
  | off, s :: r =>
    let mine := handed && s.movesRods
    if off || mine || d.flatWaits s then
      let q := splitDue f handed d true r
      (q.1, s.put_off f mine :: q.2)
    else
      let q := splitDue f handed d false r
      (s :: q.1, q.2)

/-- The changes staged for frame `f` of channel `c` land, in the order taken (11 R334). -/
def Device.landDue (c f : Nat) (handed : Bool) (d : Device) : Device :=
  let due (s : Staged) : Bool := s.channel == c && Nat.ble s.frame f
  let q := splitDue f handed d false (d.rk.staged.filter due)
  let rest := d.rk.staged.filter (fun s => !due s)
  q.1.foldl (Device.landStaged f) { d with rk := { d.rk with staged := q.2 ++ rest } }

/-! ### Commit points -/

/-- The commit point of the channel's next frame has come (01 R33). -/
def Device.commitDue (c : Nat) (d : Device) : Bool :=
  let x := d.chan c
  x.running && (match x.stop with
    | none => true
    | some s => Nat.blt x.committed s) && Nat.ble (x.commitAt x.committed) d.now

/-- The changes due at frame `f` of the channel that were taken before the change `s` (11 R334). -/
def Device.beforeStop (c f : Nat) (s : Staged) (d : Device) : List Staged :=
  (d.rk.staged.takeWhile (fun x => !(x == s))).filter (fun x => x.channel == c && Nat.ble x.frame f)

/-- A CHANNEL_STOP lands at frame `f`: the frame before it is the last (05 R159). It waits behind a change whose flatten still runs (04 R112). -/
def Device.stopStaged (c f : Nat) (d : Device) : Option Staged :=
  match d.rk.staged.find? (fun s => s.op == 0x0103 && s.channel == c && Nat.ble s.frame f) with
  | none => none
  | some s => if (d.beforeStop c f s).any d.flatWaits then none else some s

/-- The channel stops because its host link is gone (10 R311): not while a seal holds it. -/
def Device.lossDue (c : Nat) (d : Device) : Bool :=
  let x := d.chan c
  x.lossStop && x.state == .live && !d.sealHolds c

/-- Ticks are kept while a frame may still be asked for. -/
def Channel.passCommit (f : Nat) (x : Channel) : Channel :=
  let tick := x.tickOf f
  { x with
    committed := f + 1, grid := x.grid + 1, lastTick := tick
    ticks := Tab.put f tick (x.ticks.filter (fun e => Nat.ble f (e.1 + 64))) }

/-- Frame `f` is committed: the reference pools move on (06 R193). -/
def Device.passCommit (c f : Nat) (d : Device) : Device :=
  { d with code := { d.code with
    channels := Tab.put c ((d.chan c).passCommit f) d.code.channels
    rends := Tab.mapVals (fun _ r => if r.codes c f then r.commitPool f else r) d.code.rends } }

/-- A frame's changes come into force: handovers, firmware's moves and masks, and what is staged. -/
def Device.landFrame (c f : Nat) (d : Device) : Device :=
  let d0 := d.handGiven c f
  let hs := d0.handRods c f
  let d1 := hs.foldl (Device.handOver c f) d0
  let d2 := if hs.isEmpty then (d1.landMove c f).landMasks c f else d1.displaced c
  ((d2.landDue c f (!hs.isEmpty)).landPlanes c)

/-- COMMIT_POINT (01 R33): staged changes become active and their finals are decided; or the channel stops. -/
def commitPoint (c : Nat) (d : Device) : Device :=
  if d.commitDue c then
    let f := (d.chan c).committed
    if d.lossDue c then ((d.stopChannel c f 0).raise [(445, c)]).sealCommit c
    else match d.stopStaged c f with
      | some s =>
        let b := d.beforeStop c f s
        let d1 : Device := { d with rk := { d.rk with staged := d.rk.staged.filter (fun x => !(x == s || b.contains x)) } }
        ((b.foldl (Device.landStaged f) d1).landStaged f s).sealCommit c
      | none => (((d.landFrame c f).sealCommit c).passCommit c f).hostDeadline c f
  else d

/-! ### The end of a channel (R159) -/

/-- Every frame of a stopping channel is over: its last packet has launched (R159). -/
def Device.stopOver (c : Nat) (d : Device) : Bool :=
  let x := d.chan c
  x.state == .stopping && (match x.stop with
    | none => false
    | some s => Nat.ble s x.next) && d.code.rends.all (fun e => e.2.recd.channel != c || !e.2.live || d.rendOut e.1 e.2)

/-- A service's and a subscriber's history goes, with those that were cleared. -/
def OutputState.settle (rs : List Nat) (x : OutputState) : OutputState :=
  { x with
    services := (x.services.filter (fun e => !(rs.contains e.1 && e.2.gone))).map (fun e => if rs.contains e.1 then (e.1, { e.2 with was := [] }) else e)
    subs := (x.subs.filter (fun e => !(rs.contains e.2.recd.service && e.2.gone))).map (fun e =>
      if rs.contains e.2.recd.service then (e.1, { e.2 with was := [] }) else e) }

/-- A rendition whose channel has stopped. -/
def Rendition.defined (x : Rendition) : Rendition :=
  { x with live := false, start := 0, stop := none, idrAt := none, pics := [], paths := [], pool := RefPool.reset, occ := 0, lines := [] }

/-- The channel is DEFINED again (R159): its rods, beads and memory are free. -/
def Device.toDefined (c : Nat) (d : Device) : Device :=
  let mine := (d.code.rends.filter (fun e => e.2.recd.channel == c)).map (·.1)
  let ended := (d.code.rends.filter (fun e => e.2.recd.channel == c && e.2.stop.isSome)).map (·.1)
  let d1 := ended.foldl (fun d n => d.dropRend n) d
  let x := d1.chan c
  let d2 : Device := { d1 with
    code := { d1.code with
      channels := Tab.put c { Channel.reset with recd := x.recd, state := .defined, stats := x.stats } d1.code.channels
      rends := Tab.mapVals (fun _ r => if r.recd.channel = c then r.defined else r) d1.code.rends }
    comp := d1.comp.setChan c (d1.comp.chan c).start
    out := d1.out.settle mine
    dram := { d1.dram with places := Tab.del c d1.dram.places, shadows := d1.dram.shadows.filter (fun e => !mine.contains e.1) } }
  d2.placeBare

/-- A change whose frame never comes applies now, under the checks for a channel that is not live (11 R332). -/
def landLeft (d : Device) (s : Staged) : Device :=
  let c : Ctx := { s.ctx with now := d.now }
  match specOf s.op with
  | none => d
  | some sp => match sp.check c (aheadOf d) with
    | some (st, k) => d.decideCtx c st k none d.now
    | none => (sp.apply c d).settle c

/-- The channel reaches DEFINED, and what was staged for it applies. -/
def Device.finishChannel (d : Device) (c : Nat) : Device :=
  if d.stopOver c then
    let left := d.rk.staged.filter (fun s => s.channel == c)
    let d1 : Device := { d with rk := { d.rk with staged := d.rk.staged.filter (fun s => s.channel != c) } }
    left.foldl landLeft ((d1.toDefined c).sealCommit c)
  else d.dropEnded c

/-- Channels whose frames are over reach DEFINED, renditions that were cleared go, and drained units leave service (17 R476). -/
def Device.finishStops (d : Device) : Device := ((d.code.channels.map (·.1)).foldl Device.finishChannel d).settleDrains

def execCommitPoint (t : Nat) (channel : Fin 64) (s : State) : Host.Outcome State Fault Refusal :=
  .next { s with dev := (commitPoint channel (s.dev.at_ t)).finishStops }

/-! ### Ticks, deadlines and launches -/

/-- FRAME_TICK (02 R62): a frame's capture starts; the seal stage compares windows and clears with the tick (04 R127, R128). -/
def frameTick (c : Nat) (d : Device) : Device :=
  if d.tickDue c then
    let x := d.chan c
    (d.sealTick c x.next (x.tickOf x.next)).tickRods c
  else d

def execFrameTick (t : Nat) (channel : Fin 64) (s : State) : Host.Outcome State Fault Refusal :=
  .next { s with dev := frameTick channel (s.dev.at_ t) }

/-! ### Row marks (02 R63) -/

/-- The last source line of row `k` of a rendition: of the lines that the row is scaled from, within the crop. -/
def lastLine (ch : ChannelRec) (r : RendRec) (k : Nat) : Nat :=
  r.cropY + ceilDiv (Nat.min ((k + 1) * r.rowH) r.height * r.viewH ch) r.height - 1

/-- Line `l` of frame `f` has been taken or waits whole in the ring, or its host frame is being read. -/
def Device.lineHere (c f l : Nat) (d : Device) : Bool :=
  let b := d.bnd c
  Nat.blt f b.nextFrame || (b.nextFrame == f && Nat.blt l (b.frame f).nextLine) || (b.frame f).has (d.chan c).recd.width l || (d.hostFrame c f).isSome

/-- Row `k` of frame `f` may start (R63): its fill point has come, or all its lines have come before it and its last line has been staged (04 R117; assumption 201). -/
def Device.rowStaged (c f k : Nat) (r : RendRec) (d : Device) : Bool :=
  let x := d.chan c
  let l := lastLine x.recd r k
  Nat.ble (fillPointAt x (d.bnd c) f l) d.now
    || (Nat.ble (x.tickOf f + lineAt x.recd (l + 1 + stageLines x.recd r)) d.now && (List.range (l + 1)).all (fun i => d.lineHere c f i))

/-- ROW_MARK (R63; 05 R157; 06 R182): the rod starts the rendition's next row, once its capture has started and its last line is staged. -/
def rowMark (n : Nat) (plan : Option RctWrite) (d : Device) : Device :=
  match Tab.find n d.code.rends with
  | none => d
  | some x => match nextRow x.pics with
    | none => d
    | some (f, k, p) =>
      let c := x.recd.channel
      let ch := d.chan c
      if ch.tickOf f + rowOffset ch.recd p.recd k ≤ d.now && d.rowStaged c f k p.recd then d.beginRow n f k p c plan else d

def execRowMark (t : Nat) (rendition : Fin 512) (plan : Option RctWrite) (s : State) : Host.Outcome State Fault Refusal :=
  .next { s with dev := rowMark rendition plan (s.dev.at_ t) }

/-- The item of a coded row for the word queues that record its rendition (15 Table 15.10): row and ROW_BITS entry, then FRAME_INDEX. -/
def Device.feedRow (n f k : Nat) (d : Device) : Device :=
  match Tab.find n d.code.rends with
  | none => d
  | some x => match (x.pic? f).bind (fun p => Tab.find k p.rows) with
    | none => d
    | some r => d.feed 3 (fun w => w.arg == n)
        [word64 (2 + 256 * (k % 65536) + 2 ^ 32 * (r.bits.getD 0 % 2 ^ 31 + 2 ^ 31 * bit01 r.cause.isSome)), word64 f]

/-- ROW_DEADLINE (06 R170, R179): a complete row enters the sender occupancy. -/
def rowDeadline (n f k : Nat) (d : Device) : Device := if d.deadlineDue n f k then (d.enterRow n f k).feedRow n f k else d

def execRowDeadline (t : Nat) (rendition : Fin 512) (frame row : Nat) (s : State) : Host.Outcome State Fault Refusal :=
  .next { s with dev := (rowDeadline rendition frame row (s.dev.at_ t)).finishStops }

def execStatsSlotDue (t : Nat) (channel : Fin 64) (scene : Fin 16) (changeRow : Nat) (quality : List (Nat × Quality)) (dram : List (Nat × Nat)) (stored : List (Nat × List Nat))
    (mf : List MotionBlock) (cx : List Region) (s : State) : Host.Outcome State Fault Refusal :=
  .next { s with dev := (statsSlotDue channel scene changeRow quality dram stored mf cx (s.dev.at_ t)).finishStops }

def execPayloadUnitArrival (t : Nat) (rendition : Fin 512) (frame row : Nat) (units tables : List Bytes) (s : State) : Host.Outcome State Fault Refusal :=
  .next { s with dev := (payloadUnit rendition frame row units tables (s.dev.at_ t)).finishStops }

def execCopyLaunch (t : Nat) (port : Fin 32) (s : State) : Host.Outcome State Fault Refusal :=
  .next { s with dev := (copyLaunch port (s.dev.at_ t)).finishStops }

end Sys2Proof.Machine
end

