-- ==== Sys2Proof/Machine/Intake.lean ====
section
/-!
DEFINITION. How commands come in (11 R320, R324 to R328, R339, 10 R314): the module takes the head entry of a ring; a unit is
released to the command that waits for it; a command arrives over MCTP.
-/
namespace Sys2Proof.Machine

/-! ### Taking an entry -/

/-- The answer deadlines of CR0 to CR3 (11 Table 11.1). -/
def deadlineOf (r : Nat) : Nat := if r = 0 then 100 * usec else if r = 1 then 2000 * usec else if r = 2 then 10000 * usec else 200000 * usec

/-- The moment from which an entry's deadline counts: its posting, or the end of a restart after it (11 R344). -/
def Device.countsFrom (stamp : Nat) (d : Device) : Nat := Nat.max stamp d.rk.mgmtUpSince

/-- The posting stamp of a ring's head entry. -/
def Device.headStamp (r : Nat) (d : Device) : Nat := Tab.read (d.rk.ring r).stamps (d.rk.ring r).head d.now

/-- The moment by which a ring's head entry is to be answered. -/
def Device.answerBy (r : Nat) (d : Device) : Nat := d.countsFrom (d.headStamp r) + deadlineOf r

/-- A ring holds an entry that may be taken, but for its completion slots (11 R319, R339). An entry of CR0 waits for the answer of the one
before it (11 R327). -/
def Device.offers (r : Nat) (d : Device) : Bool :=
  let g := d.rk.ring r
  g.enable && g.head != g.tail && !(r == 0 && d.comp.jobs.any (fun j => match j.ctx.origin with
    | .ring 0 _ => true
    | _ => false))

/-- A ring whose head entry cannot reserve its slots sets CQ_WAIT (11 R339). -/
def Device.stallRing (d : Device) (r : Nat) : Device :=
  let g := d.rk.ring r
  if d.offers r && d.cqShort r then
    if g.cqWait then d
    else
      let old := match d.rk.cq.lastStall with
        | none => true
        | some x => x + second ≤ d.now
      let rk' : RanrokState := { d.rk with cq := { d.rk.cq with lastStall := some d.now }, rings := Tab.put r { g with cqWait := true } d.rk.rings }
      { d with rk := rk' }.raise (if old then [(18, r)] else [])
  else d.setRing r { g with cqWait := false }

/-- Of two rings, the one whose head entry has the earlier deadline; the lower-numbered where they tie. -/
def Device.sooner (d : Device) (best : Option Nat) (r : Nat) : Option Nat := match best with
  | none => some r
  | some b => if d.answerBy r < d.answerBy b then some r else some b

/-- The ring that is served next (11 R320): CR0 first, then the earliest answer deadline. -/
def Device.nextRing (d : Device) : Option Nat :=
  let able := (List.range 4).filter (fun r => d.offers r && !d.cqShort r)
  if able.contains 0 then some 0 else able.foldl d.sooner none

/-- The head entry, or, where CMDSRAM cannot correct it, an entry with nothing but a free tag (11 R322; assumption 3). -/
def Device.takenBytes (r : Nat) (bad : Bool) (d : Device) : Bytes :=
  if bad then wrLE 4 0 ++ wrLE 4 (d.freeVal 32) ++ wrLE 56 0 else d.headEntry r

/-- The head entry of a ring holds a word that ECC cannot correct. -/
def Device.headBad (r : Nat) (d : Device) : Bool :=
  let g := d.rk.ring r
  let at_ := (0x40000 * r + 64 * (g.head % g.size)) / 4
  d.mem.cmdBad.any (fun w => at_ ≤ w && w < at_ + 16)

/-- HEAD moves past the entry that has been copied (11 R318). -/
def Ring.pass (g : Ring) : Ring := { g with head := (g.head + 1) % 2 ^ 32, stamps := Tab.del g.head g.stamps }

/-- The entry of ring `r` is answered BUSY: the ring is stopped, or the estimate lies beyond its deadline (11 R324, R326). -/
def Device.mustBusy (r estimate : Nat) (d : Device) : Bool := (d.rk.ring r).busyStop || (r != 0 && d.answerBy r < estimate)

/-- The opcode's chapter, as the running firmware has it. -/
def runEntry (r : Nat) (e : Bytes) (ctx : Bytes → Ctx) (d : Device) : Device := match specOf (rdLE e 0 2) with
  | none => d.decideCtx (ctx []) stNotSupported 0 none d.now
  | some sp => runTaken sp r (ctx (d.fetchBlock sp e)) d

/-- The head entry of ring `r` is taken and answered. `estimates` holds the moment at which management firmware could answer the head entry of
CR0 to CR3 at the present load, `hint` the retry hint, µs (11 R324). -/
def takeHead (r estimate hint : Nat) (d : Device) : Device :=
  let bad := d.headBad r
  let e := d.takenBytes r bad
  let g := d.rk.ring r
  let d1 := ((d.setRing r g.pass).takeEntry r e (some (d.headStamp r)))
  let ctx (b : Bytes) : Ctx := ⟨.ring r g.taken, e, b, d.now⟩
  if d.mustBusy r estimate then d1.decideCtx (ctx []) stBusy (if g.busyStop then g.busyHint else hint) none d.now
  else if bad then d1.useFree.decideCtx (ctx []) stBadParam 3 none d.now
  else runEntry r e ctx d1

/-- The module takes the next entry (11 R320, R344): while management firmware runs and the completion ring is ACTIVE. -/
def cmdEntryTake (estimates : List Nat) (hint : Nat) (d : Device) : Device :=
  if d.rk.mgmtUp && d.cqActive then
    let d1 := (List.range 4).foldl Device.stallRing d
    match d1.nextRing with
    | none => d1
    | some r => takeHead r (estimates.getD r 0) hint d1
  else d

def execCmdEntryTake (t : Nat) (estimates : List Nat) (hint : Nat) (s : State) : Host.Outcome State Fault Refusal :=
  .next { s with dev := cmdEntryTake estimates hint (s.dev.at_ t) }

/-! ### Waiting for a unit -/

/-- The command that waited runs (11 R328): its target is looked at again, since the unit's earlier command may have changed it. -/
def runWaiting (sp : CmdSpec) (w : Work) (d : Device) : Device :=
  let c : Ctx := { w.ctx with now := d.now }
  match sp.check c (aheadOf d) with
  | some (s, k) => d.decideCtx c s k none d.now
  | none => (sp.apply c d).settle c

/-- A unit is free for the first command that waits for one (11 R328). -/
def unitReleased (d : Device) : Device :=
  match takeWork (fun w => !d.unitHeld w.unit) d.rk.waiting with
  | none => d
  | some (w, rest) =>
    let d1 : Device := { d with rk := { d.rk with waiting := rest } }
    match specOf w.op with
    | none => d1
    | some sp => runWaiting sp w d1

def execUnitReleased (t : Nat) (s : State) : Host.Outcome State Fault Refusal := .next { s with dev := unitReleased (s.dev.at_ t) }

/-! ### MCTP -/

/-- The commands of the MCTP path (10 R314): inline, writing nothing to the window, of ranges 0x00xx and 0x0Cxx, and HOSTLANE_TEST. -/
def mctpOpcodes : List Nat := [0x0002, 0x0010, 0x0011, 0x0012, 0x0014, 0x0C01, 0x0C03, 0x0C04, 0x0706]

/-- The mode commands that wake the module (10 R315). -/
def wakeOpcodes : List Nat := [0x0010, 0x0011]

/-- A command of the MCTP path runs; its final is its response. -/
def runMctp (e : Bytes) (d : Device) : Device :=
  let c : Ctx := ⟨.mctp, e, [], d.now⟩
  let d1 : Device := { d with rk := { d.rk with mctpOpen := true, mctpReply := none, mctpCount := d.rk.mctpCount + 1 } }
  if mctpOpcodes.contains c.opcode && d.implements c.opcode then
    match specOf c.opcode with
    | none => d1.decideCtx c stNotSupported 0 none d.now
    | some sp => sp.run aheadOf none c d1
  else d1.decideCtx c stNotSupported 0 none d.now

/-- A type 0x7E message (10 R314, R315): commands are served one at a time, while management firmware runs; asleep, the AON domain takes only the
mode commands that wake the module. -/
def mctpVendor (entry : Bytes) (d : Device) : Device :=
  let e := entry64 entry
  if d.rk.mctpOpen then d
  else if d.mctpAsleep then
    if wakeOpcodes.contains (rdLE e 0 2) && 5 ≤ d.link.bootStage then runMctp e d else d.mctpAnswer .badState
  else if d.rk.mgmtUp then runMctp e d else d

def execMctpVendorMessage (t : Nat) (entry : Bytes) (s : State) : Host.Outcome State Fault Refusal :=
  .next { s with dev := mctpVendor entry (s.dev.at_ t) }

end Sys2Proof.Machine
end

