-- ==== Sys2Proof/Machine/Faults.lean ====
section
/-!
DEFINITION. Device faults and restarts: HOLD (16 R459, R460), the restarts of management firmware and of the security core (11 R344 to R346;
17 R481, R482), the die bridge (01 R22, R23), SRAM errors (01 R26; 17 R473) and losses of lock (16 R465).
-/
namespace Sys2Proof.Machine

/-! ### HOLD -/

/-- HOLD may be entered: from every mode but OFF and KEEP (16 Table 16.2); during power-up also from OFF (18 R506). -/
def Device.canHold (d : Device) : Bool :=
  d.modes.mode != mKeep && d.modes.mode != mHold && !(d.modes.mode == mOff && d.phys.powerLost)

/-- A running channel stops at once and is DEFINED without further pictures (16 R459); what was staged for it applies as it does for a channel that is not
live. -/
def Device.haltChannel (d : Device) (c : Nat) : Device :=
  let x := d.chan c
  let left := d.rk.staged.filter (fun s => s.channel == c)
  let d0 := if x.state == .live then d.asRun c 2 0 (x.next - 1) (x.next - 1) else d
  let d1 : Device := { d0 with rk := { d0.rk with staged := d0.rk.staged.filter (fun s => s.channel != c) } }
  left.foldl landLeft ((d1.toDefined c).sealCommit c)

/-- A port's media launches stop; host queues and PTP go on (16 Table 16.1). -/
def PortSched.quiet (x : PortSched) : PortSched :=
  { x with
    due := x.due.filter (fun k => k.kind == 3)
    calendar := x.calendar.filter (fun k => k.copy.kind == 3)
    waiting := x.waiting.filter (fun w => w.cls != 5) }

/-- The self-test under way is recorded as aborted (17 R488), and its command is decided with its run. -/
def Device.dropTest (d : Device) : Device :=
  let run := (d.serv.testing.map (·.run)).getD 0
  match takeWork (fun w => w.op == 0x0C04) d.rk.works with
  | none => d.abortTest
  | some (w, r) => ({ d with rk := { d.rk with works := r } }.abortTest).decideCtx w.ctx stOk (65536 * (run % 65536)) none d.now

/-- HOLD is entered (16 R459): E015 with the cause, live blocks and launches stop, and a transition under way is abandoned (16 R460). -/
def Device.enterHold (cause : Nat) (d : Device) : Device :=
  if d.canHold then
    let old := d.modes.mode
    let ctx := d.modes.transition.bind (·.ctx)
    let live := (d.code.channels.filter (fun e => e.2.running)).map (·.1)
    let d1 := live.foldl Device.haltChannel (d.raise [(15, cause)])
    let d2 : Device := { d1 with sched := { d1.sched with ports := Tab.mapVals (fun _ p => p.quiet) d1.sched.ports } }
    let d3 := (d2.journal.replays.map (·.1)).foldl (fun d n => d.endReplay n 1) d2
    let d4 := match d3.serv.update with
      | none => d3
      | some u => d3.endUpdate u stBadState 0x0C0B
    let d5 := d4.dropTest.settleDrains
    let d6 : Device := { d5 with modes := { d5.modes with transition := none, holdCause := cause } }
    (d6.arrive mHold).endTransition ⟨ctx, old, mHold, stBadState, 0x15, d6.now⟩
  else d

/-! ### Restarts of management firmware (11 R344 to R346) -/

/-- An image of a kind switches to the other slot. -/
def Device.switchImage (k : Nat) (d : Device) : Device := d.setImage k ((d.serv.image k).activate false)

/-- The activation of a kind that has begun. -/
def Device.activatingKind (k : Nat) (d : Device) : Option Activating := d.serv.activating.filter (fun a => a.kind == k)

def Device.setActivating (a : Activating) (d : Device) : Device := { d with serv := { d.serv with activating := some a } }

/-- The activation of a kind may restart its firmware now. -/
def Device.restartAsked (k : Nat) (d : Device) : Option Activating :=
  (d.activatingKind k).filter (fun a => !a.restarted && a.ctx.isSome && Nat.ble a.began d.now)

/-- Every command that has been taken has its outcome (11 R345), but for those that wait for a unit and the activation itself. -/
def Device.allDecided (d : Device) : Bool :=
  d.rk.works.all (fun w => w.op == 0x0C03) && d.comp.jobs.isEmpty && d.comp.waits.isEmpty && d.serv.update.isNone && d.serv.drains.isEmpty
    && d.modes.transition.isNone

/-- Management firmware goes down: E019. -/
def Device.mgmtDown (cause : Nat) (d : Device) : Device :=
  { d.mgmtStop with rk := { d.rk with mgmtUp := false, restartBegan := d.now, restartCause := cause } }.raise [(19, det2 (codeOf 19 0) cause)]

/-- A commanded restart begins (11 R345; 17 R481): commands that wait for a unit are returned with BUSY first; the new image is the one to start. -/
def Device.commandedRestart (a : Activating) (hint : Nat) (d : Device) : Device :=
  let d1 : Device := { d with rk := { d.rk with waiting := [] } }
  let d2 := d.rk.waiting.foldl (fun d w => d.decideCtx w.ctx stBusy hint none d.now) d1
  ((d2.switchImage 2).setActivating { a with restarted := true }).mgmtDown 1

/-- MGMT_RESTART_BEGIN (11 R344): `cause` is 1 commanded, 2 watchdog, 3 firmware fault; `hint` the expected end of the restart, µs. -/
def mgmtRestart (cause hint : Nat) (d : Device) : Device :=
  if !d.rk.mgmtUp then d
  else if cause = 1 then match d.restartAsked 2 with
    | none => d
    | some a => if d.allDecided then d.commandedRestart a hint else d
  else d.mgmtDown cause

def execMgmtRestartBegin (t : Nat) (cause : Fin 4) (hint : Nat) (s : State) : Host.Outcome State Fault Refusal :=
  .next { s with dev := if cause.val = 0 then s.dev.at_ t else mgmtRestart cause hint (s.dev.at_ t) }

/-- Work that hardware carries on through a restart: AUDIO_PORT_SET's zero crossing, a check unit's run, and an activation. -/
def Work.inHardware (w : Work) : Bool := w.op == 0x0A01 || w.op == 0x090C || w.op == 0x0C03

/-- Commands that an unplanned restart has caught before they were committed are decided INTERNAL (11 R346); the units of their work are out of service. -/
def Device.interrupted (d : Device) : Device :=
  let cut := d.rk.works.filter (fun w => !w.inHardware)
  let all := cut ++ d.rk.waiting
  let d1 : Device := { d with rk := { d.rk with works := d.rk.works.filter Work.inHardware, waiting := [] } }
  let d2 := d1.abortTest
  let d3 := (List.range 4).foldl (fun (d : Device) g => if (d.dram.group g).service = 3 || (d.dram.group g).service = 4 then
    d.setGroupFor 0 g { d.dram.group g with service := 2 } else d) d2
  let d4 := (cut.filter (fun w => w.op == 0x0C01 && d3.unitState (w.unit - 0x1000) == 4)).foldl (fun (d : Device) w => d.setUnit (w.unit - 0x1000) 2 0) d3
  all.foldl (fun d w => d.decideCtx w.ctx stInternal 1 none d.now) d4

/-- The activation's command is decided: OK, or, where the previous slot runs, BAD_STATE (17 R481, R482). -/
def Device.endActivation (k : Nat) (d : Device) : Device :=
  match d.activatingKind k with
  | none => d
  | some a => match a.ctx with
    | none => d
    | some c =>
      if !a.restarted then d
      else
        let x := d.serv.image k
        let d1 := if a.fellBack then d else if a.commitFloor then d.setImage k { x with floor := Nat.max x.floor x.running.secVersion } else d
        let d2 := d1.setActivating { a with ctx := none, upAt := some d.now }
        let d3 : Device := { d2 with rk := { d2.rk with works := d2.rk.works.filter (fun w => w.op != 0x0C03) } }
        d3.decideCtx c (if a.fellBack then stBadState else stOk) (if a.fellBack then 0x0C0A else 0) none d.now

/-- MGMT_RESTART_END (11 R344, R346): firmware takes entries again. -/
def mgmtRestartEnd (d : Device) : Device :=
  if d.rk.mgmtUp || d.rk.restartCause = 0 || d.modes.mode == mKeep || d.modes.mode == mOff then d
  else
    let x := d.rk
    let up : RanrokState := { x with
      mgmtUp := true, mgmtUpSince := d.now, restarts := satAdd 0xFFFFFF x.restarts 1, restartMs := Nat.min ((d.now - x.restartBegan) / msec) 0xFFFFFF }
    let d1 := { d with rk := up }.raise [(19, det2 (codeOf 19 1) x.restartCause)]
    let d2 := if x.restartCause = 1 then d1 else d1.interrupted
    let d3 := (d2.endActivation 2).identImages
    let late := d3.modes.late
    (late.foldl (fun (d : Device) e => d.tellEnd e) { d3 with modes := { d3.modes with late := [] } }).updateNext

def execMgmtRestartEnd (t : Nat) (s : State) : Host.Outcome State Fault Refusal := .next { s with dev := mgmtRestartEnd (s.dev.at_ t) }

/-! ### Restarts of the security core (17 R482) -/

/-- 400 ms (17 R482). -/
def secRestartTime : Nat := 400 * msec

/-- The commands at the security core are answered BUSY (04 R130). -/
def Device.busyJobs (d : Device) : Device :=
  d.comp.jobs.foldl (fun d j => d.decideCtx j.ctx stBusy (secRestartTime / usec) none d.now) { d with comp := { d.comp with jobs := [] } }

/-- The security core goes down: E013, SPDM sessions end, IDE streams run on. -/
def Device.secDown (d : Device) : Device :=
  ({ d with link := { d.link with secUp := false, secRestartEnd := d.now + secRestartTime, sessions := [] } }.raise [(13, codeOf 13 0)]).busyJobs

/-- A restart that has failed (17 Table 17.10): the third within ten minutes is a cause of HOLD. -/
def Device.secFailed (d : Device) : Device :=
  let recent := d.serv.secFails.filter (fun t => Nat.ble d.now (t + 600 * second)) ++ [d.now]
  let d1 := { d with serv := { d.serv with secFails := recent } }.secDown
  if 3 ≤ recent.length then d1.enterHold 6 else d1

/-- The security core restarts by itself. -/
def Device.secRestart (d : Device) : Device := if d.link.secUp then d.secDown else d.secFailed

/-- SEC_RESTART_BEGIN (17 R482): `commanded` for an activation, otherwise by its watchdog; a restart while it is down is a restart that has failed. -/
def secRestartBegin (commanded : Bool) (d : Device) : Device :=
  if d.modes.mode == mKeep || d.modes.mode == mOff then d
  else if commanded then match d.restartAsked 3 with
    | none => d
    | some a => if d.link.secUp then ((d.switchImage 3).setActivating { a with restarted := true }).secDown else d
  else d.secRestart

def execSecRestartBegin (t : Nat) (commanded : Bool) (s : State) : Host.Outcome State Fault Refusal :=
  .next { s with dev := secRestartBegin commanded (s.dev.at_ t) }

/-- SEC_RESTART_END: E013; a new image has derived a new alias key, with E501. -/
def secRestartEnd (d : Device) : Device :=
  if d.link.secUp || d.modes.mode == mKeep || d.modes.mode == mOff then d
  else
    let d1 := { d with link := { d.link with secUp := true } }.raise [(13, codeOf 13 1)]
    let fresh := (d.activatingKind 3).any (fun a => a.restarted && a.ctx.isSome && !a.fellBack)
    let d2 := if fresh then { d1 with serv := { d1.serv with aliasCount := d1.serv.aliasCount + 1 } }.raise [(501, codeOf 501 0)] else d1
    (d2.endActivation 3).identImages

def execSecRestartEnd (t : Nat) (s : State) : Host.Outcome State Fault Refusal := .next { s with dev := secRestartEnd (s.dev.at_ t) }

/-! ### Falling back (17 R481, R482) -/

/-- The new image of an activation has failed: it has not come up in its time, or its watchdog has restarted it within its first 60 s. `began` is the moment
of the restart under way, `limit` the time it has, `own` that firmware has restarted by itself. -/
def Activating.failed (a : Activating) (now began limit : Nat) (own : Bool) : Bool :=
  a.restarted && !a.fellBack && (match a.upAt with
    | none => Nat.ble (began + limit) now
    | some u => own && Nat.ble began (u + 60 * second))

/-- The previous slot is restored: E498. -/
def Device.fallBack (a : Activating) (d : Device) : Device :=
  let x := d.serv.image a.kind
  ((d.setImage a.kind { x with active := 1 - x.active, staged := true }).setActivating { a with fellBack := true }).raise [(498, a.kind)]

/-- FW_ACTIVATE_FALLBACK. -/
def fwFallback (d : Device) : Device :=
  match d.serv.activating with
  | none => d
  | some a =>
    if a.kind = 2 then
      (if !d.rk.mgmtUp && a.failed d.now d.rk.restartBegan (2 * second) (d.rk.restartCause == 2) then d.fallBack a else d)
    else if !d.link.secUp && a.failed d.now (d.link.secRestartEnd - secRestartTime) secRestartTime true then
      let d1 := d.fallBack a
      { d1 with link := { d1.link with secRestartEnd := d1.now + secRestartTime } }
    else d

def execFwActivateFallback (t : Nat) (s : State) : Host.Outcome State Fault Refusal := .next { s with dev := fwFallback (s.dev.at_ t) }

/-! ### The die bridge (01 R22, R23) -/

/-- DIE_BRIDGE_CRC_FAIL: a transfer was replayed `replays` times; one that fails after 8 replays is a bridge fault. -/
def dieBridge (replays : Nat) (d : Device) : Device :=
  let n := Nat.min replays 8
  let before := d.serv.bridgeRecent.filter (fun t => Nat.blt d.now (t + msec))
  let recent := before ++ List.replicate n d.now
  let d1 := { d with serv := { d.serv with
    bridgeReplays := satAdd max64 d.serv.bridgeReplays n, bridgeRecent := recent, bridgeLog := d.serv.bridgeLog ++ List.replicate n d.now } }.raise
      (List.replicate n (dtIndex 0, 0) ++ (if before.length ≤ 64 && 64 < recent.length then [(8, 0)] else []))
  if replays ≤ 8 then d1
  else ({ d1 with serv := { d1.serv with bridgeFault := true } }.raise [(9, 0)]).enterHold 1

def execDieBridgeCrcFail (t replays : Nat) (s : State) : Host.Outcome State Fault Refusal := .next { s with dev := dieBridge replays (s.dev.at_ t) }

/-! ### SRAM (01 R26; 17 R473) -/

/-- A unit's corrected errors count one. -/
def Device.countCorrected (u : Nat) (d : Device) : Device :=
  let x := d.serv.unit u
  { d with serv := { d.serv with units := Tab.put u { x with corrected := satAdd max64 x.corrected 1 } d.serv.units } }

/-- SRAM_CORRECTED_ERROR: counted for the rod that owns the macro, or in the tally of the die; `unit` is a handle of 17 Table 17.4. -/
def sramCorrected (unit : Nat) (coding : Bool) (d : Device) : Device :=
  if unit < 24 then d.setRod unit { d.rod unit with sramCorrected := satAdd max64 (d.rod unit).sramCorrected 1 }
  else if isEngine unit then
    let n := engineRod unit
    (d.setRod n { d.rod n with sramCorrected := satAdd max64 (d.rod n).sramCorrected 1 }).countCorrected unit
  else (d.countCorrected unit).raise [(dtIndex (2 + bit01 coding), 0)]

def execSramCorrectedError (t unit : Nat) (coding : Bool) (s : State) : Host.Outcome State Fault Refusal :=
  .next { s with dev := sramCorrected unit coding (s.dev.at_ t) }

/-- Ingest row rings, compositor line and scaler buffers: the line being taken is filled from the previous-frame store. -/
def Device.spoilLine (c : Nat) (d : Device) : Device :=
  let b := d.bnd c
  let x := b.frame b.nextFrame
  let flow := match b.at_ b.nextFrame with
    | some r => if r.source = 0 then some r.videoIf else none
    | none => none
  if (d.chan c).running then
    let y := match flow with
      | some _ => { x with lines := Tab.del x.nextLine x.lines }
      | none => { x with filled := x.filled + 1, flags := orFlags x.flags 1 }
    d.setBnd c { b with frames := Tab.put b.nextFrame y b.frames }
  else d

/-- A packet is discarded for every subscriber, as a late one is (07 R217). -/
def Device.discardPacket (service seq : Nat) (d : Device) : Device :=
  let keep (c : Copy) : Bool := c.kind == 3 || c.service != service || c.seq != seq
  let d1 : Device := { d with sched := { d.sched with ports := Tab.mapVals (fun _ (x : PortSched) => { x with
    due := x.due.filter keep, calendar := x.calendar.filter (fun p => keep p.copy) }) d.sched.ports } }
  match Tab.find service d1.out.services with
  | none => d1
  | some s =>
    let y := s.lateDrop d1.now
    { d1 with out := d1.out.setSvc service y.1 }.raise (if y.2 then [(480, service)] else [])

/-- The flat-cache directory of a channel is lost: it is flattened again (04 R119). -/
def Device.loseDirectory (c : Nat) (d : Device) : Device := d.losePlanes c

/-- A tally is set to its largest value with its carry bit (15 R439). -/
def Device.spoilTally (k : Nat) (d : Device) : Device :=
  { d with events := { d.events with tally := Tab.put k max64 d.events.tally, carry := Tab.put k true d.events.carry } }.raise [(31, k)]

/-- What Table 17.2 does for each store: 0 row rings and line buffers of channel `place`, 1 the flat-cache directory of channel `place`, 2 the buffers of decoder
`place`, 3 the packet (service `place`, RTP sequence number `item`), 4 management memories, 5 security memories, 6 tally `place`, 7 word queue
`place`, 8 Beam, fabric and scheduler state. -/
def Device.storeError (store place item : Nat) (d : Device) : Device :=
  if store = 0 then d.spoilLine place
  else if store = 1 then d.loseDirectory place
  else if store = 2 then (if place < 8 then d.setUnit (0x300 + place) 2 3 else d)
  else if store = 3 then d.discardPacket place item
  else if store = 4 then mgmtRestart 3 0 d
  else if store = 5 then d.secRestart
  else if store = 6 then d.spoilTally place
  else if store = 7 then wqMismatch (place % 64) d
  else d.enterHold 4

/-- The cause of units that are out of service (17 Table 17.14). -/
def Device.causeUnits (k : Nat) (us : List Nat) (d : Device) : Device :=
  { d with serv := { d.serv with units := us.foldl (fun t u => Tab.upd t u UnitRec.reset (fun x => if x.service = 2 then { x with cause := k } else x)) d.serv.units } }

/-- The engine that an error in a rod is a fault of (01 R26): the engine whose macro failed, 0 to 11; from 12 on a macro of the rod's own SRAM: 12 staged lines and search
areas, so the AFE; 13 the RCT's tables; 14 and 15 the output of BU0 and BU1; any other, the AFE (assumption 200). -/
def sramEngine (item : Nat) : Nat := if item < 12 then item else if item = 13 then 7 else if item = 14 then 9 else if item = 15 then 10 else 8

/-- SRAM_UNCORRECTED_ERROR: a store outside the rods raises E010; store 9 is macro `item` of rod `place` (06 Table 6.9), with the rows that a PE was working on, and store 10 the 32-bit word
`place` of CMDSRAM (11 R322). -/
def sramUncorrected (store place item : Nat) (hit : SramHit) (d : Device) : Device :=
  let d0 : Device := { d with serv := { d.serv with sramSyndromes := d.serv.sramSyndromes ++ [(store, hit.syndrome)] } }
  if store < 9 then (d0.raise [(10, codeOf 10 store)]).storeError store place item
  else if store = 9 then
    (if 24 ≤ place then d0
     else
       let e := sramEngine item
       (if e < 7 then peFault place e hit.rows d0 else d0.engineFault place e).causeUnits 3 [0x100 + 16 * place + e])
  else { d0 with mem := { d0.mem with cmdBad := place :: d0.mem.cmdBad.filter (· != place) } }

def execSramUncorrectedError (t : Nat) (store : Fin 11) (place item : Nat) (hit : SramHit) (s : State) : Host.Outcome State Fault Refusal :=
  .next { s with dev := sramUncorrected store place item hit (s.dev.at_ t) }

/-! ### Clocks and supplies (16 R465; 17 R492) -/

/-- Every engine of a rod faults (16 Table 16.6). -/
def Device.wholeRod (n : Nat) (d : Device) : Device :=
  let d1 := (List.range 7).foldl (fun d e => peFault n e (d.openRows n) d) d
  [7, 8, 9, 10, 11].foldl (fun d e => d.engineFault n e) d1

/-- The group is retired as by MEM_GROUP_RETIRE MODE 1 (12 R378). -/
def Device.retireNow (g : Nat) (d : Device) : Device :=
  let x := d.dram.group g
  if 2 ≤ x.service then d else d.setGroup g { x with retire := some (x.retire.getD (255, 0)) }

/-- Every port leaves UP (09 Table 9.4). The cause that E128 gives is not stated (assumption 19). -/
def Device.allPortsDown (d : Device) : Device :=
  (List.range 32).foldl (fun d p => if d.lanes.isUp p then d.portTo p 1 (codeOf 128 0) else d) d

/-- PLL_LOCK_LOSS: the consequence of clock domain CD`domain` (16 Table 16.6); `place` is the rod, decoder, group, lane or audio core of one that has several. -/
def pllLoss (domain place : Nat) (d : Device) : Device :=
  if domain = 1 || domain = 4 || domain = 7 || domain = 11 then
    { d with modes := { d.modes with unlocked := d.modes.unlocked ++ [(domain, place)] } }.enterHold 3
  else if domain = 2 then mgmtRestart 2 0 d
  else if domain = 3 then d.secRestart
  else if domain = 5 || domain = 6 then
    (if place < 24 then (d.wholeRod place).causeUnits 4 ((List.range 12).map (fun e => 0x100 + 16 * place + e)) else d)
  else if domain = 8 then (if place < 8 then d.setUnit (0x300 + place) 2 4 else d)
  else if domain = 9 || domain = 10 then (if place < 4 then d.retireNow place else d)
  else if domain = 12 then d.allPortsDown
  else if domain = 13 then (if place < 32 then laneSignalLoss place true d else d)
  else if domain = 14 then d.linkLoss 8
  else if domain = 15 then
    let d1 : Device := { d with journal := { d.journal with stopped := d.journal.stopped + bit01 (!natBit d.journal.stopped 0) } }
    (List.range 8).foldl (fun d k => d.setUnit (0x600 + k) 2 4) d1
  else if domain = 16 then
    (if place < 2 then d.raise [(11, det3 (0x720 + place) (d.unitState (0x720 + place)) (d.unitState (0x720 + place)))] else d)
  else d

def execPllLockLoss (t : Nat) (domain : Fin 18) (place : Nat) (s : State) : Host.Outcome State Fault Refusal :=
  .next { s with dev := pllLoss domain place (s.dev.at_ t) }

def execSupplyRailFault (t : Nat) (s : State) : Host.Outcome State Fault Refusal := .next { s with dev := (s.dev.at_ t).enterHold 5 }

end Sys2Proof.Machine
end

