-- ==== Sys2Proof/Machine/Power.lean ====
section
/-!
DEFINITION. Temperatures (16 R469, R470), the power governor (16 R467; 18 R499), the supplies (18 R497 to R500), power loss (13 R401) and power-up
(18 R504 to R506).
-/
namespace Sys2Proof.Machine

/-! ### Temperatures (16 R469) -/

/-- A threshold is passed: reached, and until the value lies 3 °C below it. Values are in 1/256 °C. -/
def pastLimit (old : Bool) (limit : Option Nat) (v : Int) : Bool := match limit with
  | none => false
  | some k => if old then decide ((k : Int) * 256 - 768 < v) else decide ((k : Int) * 256 ≤ v)

/-- The thresholds that a sensor has passed: bit 0 warning, 1 throttle, 2 duty limit, 3 trip. -/
def overMask (t : Thermal) (old : Nat) (v : Int) : Nat :=
  bit01 (pastLimit (natBit old 0) t.warn v) + 2 * bit01 (pastLimit (natBit old 1) t.throttle v) + 4 * bit01 (pastLimit (natBit old 2) t.duty v)
    + 8 * bit01 (pastLimit (natBit old 3) t.trip v)

/-- A die's throttle level: the duty limit lasts until the die falls below its throttle threshold. -/
def throttleLevel (old ovr : Nat) : Nat :=
  if natBit ovr 2 || (old == 2 && natBit ovr 1) then 2 else if natBit ovr 1 then 1 else 0

/-- A bit of the mask of what has stopped the journal's write path. -/
def setStop (k : Nat) (on : Bool) (m : Nat) : Nat :=
  if natBit m k == on then m else if on then m + 2 ^ k else m - 2 ^ k

/-- The rods' clocks follow the coding die's throttle (16 R457, R469). -/
def Device.clockRods (d : Device) : Device :=
  let mhz := d.rodClock d.modes.mode
  { d with code := { d.code with rods := rodNumbers.foldl (fun t n =>
    if (d.rod n).role = 0 then Tab.put n { d.rod n with clockMhz := mhz } t else t) d.code.rods } }

/-- THERMAL_SAMPLE: the temperatures of sensors 1 to 5, in 1/256 °C. -/
def thermalSample (temps : List Int) (d : Device) : Device :=
  let m := d.modes
  let temp (n : Nat) : Int := temps.getD (n - 1) (Tab.read m.temps n 0)
  let tt := (List.range 5).foldl (fun t i => Tab.put (i + 1) (temp (i + 1)) t) m.temps
  if d.phys.powerLost then { d with modes := { m with temps := tt } }
  else
    let ovr (n : Nat) : Nat := overMask (m.thermal n) (Tab.read m.ovr n 0) (temp n)
    let warned := ([1, 2, 3, 4, 5].filter (fun n => natBit (ovr n) 0 && !natBit (Tab.read m.ovr n 0) 0)).map (fun n => (3, n))
    let lc := throttleLevel m.throttleCoding (ovr 2)
    let li := throttleLevel m.throttleIo (ovr 3)
    let levels := (if lc != m.throttleCoding then [(4, det2 (codeOf 4 0) lc)] else []) ++ (if li != m.throttleIo then [(4, det2 (codeOf 4 1) li)] else [])
    let ot := [1, 2, 3, 4, 5].foldl (fun t n => Tab.put n (ovr n) t) m.ovr
    let m1 : ModeState := { m with temps := tt, ovr := ot, throttleCoding := lc, throttleIo := li, nandLimit := natBit (ovr 5) 1 }
    let j1 : JournalState := { d.journal with stopped := setStop 1 (natBit (ovr 5) 3) d.journal.stopped }
    let d1 := { d with modes := m1, journal := j1 }.raise (warned ++ levels)
    let d2 := if lc != m.throttleCoding then d1.clockRods else d1
    if natBit (ovr 2) 3 || natBit (ovr 3) 3 || natBit (ovr 4) 3 then d2.enterHold 2 else d2

def execThermalSample (t : Nat) (temps : List Int) (s : State) : Host.Outcome State Fault Refusal := .next { s with dev := thermalSample temps (s.dev.at_ t) }

/-! ### Power and its governor (16 R466 to R468; 18 R499, R500) -/

/-- A live mode or DRAIN is in force. -/
def Device.onAir (d : Device) : Bool := d.liveMode || d.modes.mode == mDrain

/-- An input exceeds its current limit (16 R466), or LIVE-FRUGAL its cap of 110 W (16 R467). -/
def overPower (mode edgeMw auxMw edgeMa auxMa : Nat) : Bool :=
  (mode == mFrugal && Nat.blt 110000 (edgeMw + auxMw)) || Nat.blt 12500 auxMa || Nat.blt 5500 edgeMa

/-- POWER_GOVERNOR_TICK: each millisecond, with the inputs' power and current averaged over 10 ms and the duty that the governor settles on, in permille.
E005 tells when limiting begins and ends. Without the edge +12 V, a duty of 0 that does not suffice makes way for floor-only operation. -/
def governorTick (edgeMw auxMw edgeMa auxMa duty : Nat) (d : Device) : Device :=
  let m := d.modes
  let ovr := overPower m.mode edgeMw auxMw edgeMa auxMa
  let gov := ovr || (m.governor && Nat.blt duty 1000)
  let limited := gov || m.throttleCoding == 2 || m.throttleIo == 2
  let force := if limited then Nat.min duty 1000 else 1000
  let m1 : ModeState := { m with
    inputMw := edgeMw + auxMw, edgeMw := edgeMw, auxMw := auxMw, edgeMa := edgeMa, auxMa := auxMa, governor := gov, duty := force
    dutyMs := satAdd max64 m.dutyMs (bit01 (Nat.blt force 1000)), floorOnlyMs := satAdd max64 m.floorOnlyMs (bit01 m.floorOnly) }
  let d1 := { d with modes := m1 }.raise (if gov != m.governor then [(5, 0)] else [])
  if d.phys.edge12 = 2 && force = 0 && 12500 < auxMa && d.onAir && !m.floorOnly then
    let d2 := d1.enterFloorOnly
    { d2 with phys := { d2.phys with shedAt := d2.now } }
  else d1

def execPowerGovernorTick (t edgeMw auxMw edgeMa auxMa duty : Nat) (s : State) : Host.Outcome State Fault Refusal :=
  .next { s with dev := governorTick edgeMw auxMw edgeMa auxMa duty (s.dev.at_ t) }

/-- E006 for an input (0 edge, 1 auxiliary) whose condition changes (18 R500): not for its first connection. -/
def inputEvents (input old new : Nat) : List (Nat × Nat) := if old = new || old = 3 then [] else [(6, codeOf 6 input)]

/-- AUX_INPUT_CHANGE (18 R497, R500; 16 R468): `condition` is 0 within range, 1 low, 2 lost. -/
def auxChange (condition : Nat) (d : Device) : Device :=
  let d1 := { d with
    phys := { d.phys with aux12 := condition }
    modes := { d.modes with auxPresent := condition == 0 || (condition == 1 && d.modes.auxPresent) } }.raise (inputEvents 1 d.phys.aux12 condition)
  if condition = 2 && d.modes.auxPresent && d.onAir then (if d.modes.floorOnly then d1 else (d1.raise [(5, 0)]).enterFloorOnly)
  else if condition = 0 && d.modes.floorOnly && d.phys.edge12 != 2 then (d1.leaveFloorOnly).raise [(5, 0)]
  else d1

def execAuxInputChange (t : Nat) (condition : Fin 3) (s : State) : Host.Outcome State Fault Refusal := .next { s with dev := auxChange condition (s.dev.at_ t) }

/-- The sheds of R500 end with the return of the edge +12 V. -/
def Device.endSheds (d : Device) : Device :=
  { d with phys := { d.phys with shed := 0 }, journal := { d.journal with stopped := setStop 2 false d.journal.stopped } }

/-- EDGE_12V_CHANGE (18 R500). -/
def edgeChange (condition : Nat) (d : Device) : Device :=
  let d1 := { d with phys := { d.phys with edge12 := condition } }.raise (inputEvents 0 d.phys.edge12 condition)
  if condition != 2 && d.phys.edge12 = 2 then (if d1.modes.auxPresent then d1.endSheds.leaveFloorOnly else d1.endSheds) else d1

def execEdge12vChange (t : Nat) (condition : Fin 3) (s : State) : Host.Outcome State Fault Refusal := .next { s with dev := edgeChange condition (s.dev.at_ t) }

/-- The auxiliary input carries the module alone, in floor-only operation, and is still above its limit. -/
def Device.stillOver (d : Device) : Bool := d.phys.edge12 == 2 && d.modes.floorOnly && Nat.blt 12500 d.modes.auxMa

/-- SHED_STEP (18 R500): 1 clean-programme outputs and proxies, 2 the journal's write path, 3 the flattener and the copy engine. -/
def shedStep (d : Device) : Device :=
  if d.stillOver && Nat.blt d.phys.shed 3 && d.due (d.phys.shedAt + 10 * msec) then
    let n := d.phys.shed + 1
    { d with
      phys := { d.phys with shed := n, shedAt := d.now }
      journal := { d.journal with stopped := if n = 2 then setStop 2 true d.journal.stopped else d.journal.stopped } }
  else d

def execShedStep (t : Nat) (s : State) : Host.Outcome State Fault Refusal := .next { s with dev := shedStep (s.dev.at_ t) }

/-- SHED_HOLD_TIMEOUT (18 R500): HOLD with cause 7. -/
def shedHold (d : Device) : Device :=
  if d.stillOver && d.phys.shed == 3 && d.due (d.phys.shedAt + 100 * msec) then d.enterHold 7 else d

def execShedHoldTimeout (t : Nat) (s : State) : Host.Outcome State Fault Refusal := .next { s with dev := shedHold (s.dev.at_ t) }

/-- EDGE_3V3_LOW (18 R500): a link loss; live service continues. -/
def execEdge3v3Low (t : Nat) (s : State) : Host.Outcome State Fault Refusal := .next { s with dev := (s.dev.at_ t).linkLoss 6 }

/-- HOLDUP_CHARGED (18 R498): the bank charges from the auxiliary input. -/
def holdupCharged (d : Device) : Device :=
  if d.modes.auxPresent then { d with phys := { d.phys with bankFull := true } } else d

def execHoldupCharged (t : Nat) (s : State) : Host.Outcome State Fault Refusal := .next { s with dev := holdupCharged (s.dev.at_ t) }

/-! ### Power loss (13 R401; 18 R504) -/

/-- POWER_LOSS: both 12 V inputs are lost. `held` is how many bytes of the cache the hold-up energy covers; with +3.3 Vaux (`vaux`) alone the module is in
KEEP, and without it in OFF. What is not in non-volatile store is gone. -/
def powerLoss (held : Nat) (vaux : Bool) (d : Device) : Device :=
  if d.phys.powerLost then (if vaux then d else { d with modes := { d.modes with mode := mOff } })
  else
    let d1 := { d with journal := d.journal.cut d.now held }.abortTest.coldStart
    { d1 with
      modes := { d1.modes with mode := if vaux then mKeep else mOff, auxPresent := false }
      link := { d1.link with bootStage := 0 }
      phys := { d1.phys with edge12 := 2, aux12 := 2, bankFull := false, powerLost := true } }

def execPowerLoss (t held : Nat) (vaux : Bool) (s : State) : Host.Outcome State Fault Refusal := .next { s with dev := powerLoss held vaux (s.dev.at_ t) }

/-! ### Power-up (18 R504 to R506) -/

/-- The stage that follows (18 Table 18.4). -/
def nextStage (stage : Nat) : Nat := if stage < 8 then stage + 1 else 0xFF

/-- What boot flash and the fuses hold, as a module that has not been powered before first reads it: serial, RANROK_MINOR, MODULE_REV, DIE_REV, RANROK_MAJOR, the
versions of management and security firmware, and their slots (10 Tables 10.6 and 10.7). -/
def Device.readFlash (i : List Nat) (d : Device) : Device :=
  if (Tab.find 2 d.serv.images).isSome then d.identImages
  else
    let v (k : Nat) : Nat := i.getD k 0
    let img (major version slot : Nat) : ImageKind := ({ ImageKind.reset with active := slot % 2 }.setSlot (slot % 2) ⟨version, 0, major, []⟩)
    { (d.setImage 2 (img (v 4) (v 5) (v 7))).setImage 3 (img 1 (v 6) (v 8)) with
      link := { d.link with ident := { d.link.ident with serial := v 0, ranrokMinor := v 1, moduleRev := v 2, dieRev := v 3 } } }.identImages

/-- RESCUE runs: the security core and minimal management firmware (17 R493). -/
def Device.bootRescue (d : Device) : Device :=
  let d1 := d.arrive mRescue
  { d1 with
    link := { d1.link with rescue := true, secUp := true, measured := true, training := if d1.link.perst then none else some (d1.now + trainTime) }
    rk := { d1.rk with mgmtUp := true, mgmtUpSince := d1.now } }.raise [(1, det2 mOff mRescue)]

/-- An image kind that fell back to its other slot during the power-up (17 R483). -/
def Device.bootFell (k : Nat) (d : Device) : Device :=
  let d1 := d.switchImage k
  { d1 with serv := { d1.serv with bootFallback := d1.serv.bootFallback ++ [k] } }.identImages

/-- What an error does (18 Table 18.5); those of a stage's own work are looked at there. -/
def Device.bootErrorDo (error : Nat) (d : Device) : Device :=
  let d1 : Device := if error = 0 || d.link.bootError != 0 then d else { d with link := { d.link with bootError := error } }
  if error = 1 then d1.bootFell 1
  else if error = 3 then d1.bootFell 3
  else if error = 4 then d1.bootFell 2
  else if error = 2 || error = 6 then d1.bootRescue
  else if error = 9 then d1.enterHold 1
  else d1

/-- E349 after a power loss that needed a flush (13 R401): bytes flushed, records discarded. -/
def Device.tellFlush (d : Device) : Device := match d.journal.lossFlush with
  | none => d
  | some (b, n) => { d with journal := { d.journal with lossFlush := none } }.raise [(349, packDetail [(4, b), (4, n)])]

/-- The groups that training has brought up (12 R364). -/
def Device.trainBut (failed : Nat) (d : Device) : Device :=
  { d with dram := { d.dram with groups := (List.range 4).foldl (fun t g =>
    Tab.put g (if natBit failed g then Group.reset else { Group.reset with service := 0 }) t) d.dram.groups } }

/-- What a stage does (18 Table 18.4). -/
def Device.stageDo (stage error failed : Nat) (ident : List Nat) (d : Device) : Device :=
  if stage = 1 then { d with modes := { d.modes with mode := mOff }, phys := { d.phys with powerLost := false, edge12 := 0 } }
  else if stage = 2 then d.readFlash ident
  else if stage = 3 then { d with link := { d.link with measured := true, training := if d.link.perst then none else some (d.now + trainTime) } }
  else if stage = 4 then { d with link := { d.link with secUp := true } }
  else if stage = 5 then { d with rk := { d.rk with mgmtUp := true, mgmtUpSince := d.now } }
  else if stage = 6 then d.trainBut failed
  else if stage = 7 then { d with journal := { d.journal with mounted := error != 7 } }.tellFlush
  else if stage = 8 then (if error = 8 then { d with saved := none } else match d.saved with
    | none => d
    | some v => d.restoreConfig v)
  else
    let d1 : Device := { d with link := { d.link with uptime := 0, bootEnd := some d.now } }
    let d2 := (d1.arrive mArmed).raise ((0, d1.link.bootError) :: d1.serv.bootFallback.map (fun k => (498, k)))
    { d2 with serv := { d2.serv with bootFallback := [] } }

/-- POWER_UP_STAGE: power-up reaches its next stage. `error` is the code of 18 Table 18.5 that arose on the way (0 none), `failed` masks the groups that did not
train, `ident` is what boot flash holds. -/
def powerUpStage (stage error failed : Nat) (ident : List Nat) (d : Device) : Device :=
  let first := d.phys.powerLost
  if !(first || d.modes.mode == mOff) || stage != nextStage d.link.bootStage then d
  else
    let d1 := ({ d with link := { d.link with bootStage := stage } }).bootErrorDo error
    if first || d1.modes.mode == mOff then d1.stageDo stage error failed ident else d1

def execPowerUpStage (t stage error failed : Nat) (ident : List Nat) (s : State) : Host.Outcome State Fault Refusal :=
  .next { s with dev := powerUpStage stage error failed ident (s.dev.at_ t) }

end Sys2Proof.Machine
end

