-- ==== Sys2Proof/Machine/Dispatch.lean ====
section
/-!
DEFINITION. The meaning of every command: one arm for each constructor, one direct call.
-/
namespace Sys2Proof.Machine

def exec (i : Instr) (s : State) : Host.Outcome State Fault Refusal :=
  match i with
  | .ranrokInfoGet t ring entry => Sys2Proof.Machine.execRanrokInfoGet t ring entry s
  | .ranrokNop t ring entry => Sys2Proof.Machine.execRanrokNop t ring entry s
  | .modeSet t ring entry => Sys2Proof.Machine.execModeSet t ring entry s
  | .scheduledStartSet t ring entry => Sys2Proof.Machine.execScheduledStartSet t ring entry s
  | .quietWindowSet t ring entry => Sys2Proof.Machine.execQuietWindowSet t ring entry s
  | .deviceStatusGet t ring entry => Sys2Proof.Machine.execDeviceStatusGet t ring entry s
  | .thermalLimitSet t ring entry => Sys2Proof.Machine.execThermalLimitSet t ring entry s
  | .channelSet t ring entry => Sys2Proof.Machine.execChannelSet t ring entry s
  | .channelStart t ring entry => Sys2Proof.Machine.execChannelStart t ring entry s
  | .channelStop t ring entry => Sys2Proof.Machine.execChannelStop t ring entry s
  | .channelClear t ring entry => Sys2Proof.Machine.execChannelClear t ring entry s
  | .renditionSet t ring entry => Sys2Proof.Machine.execRenditionSet t ring entry s
  | .renditionClear t ring entry => Sys2Proof.Machine.execRenditionClear t ring entry s
  | .slotmaskSet t ring entry => Sys2Proof.Machine.execSlotmaskSet t ring entry s
  | .channelMove t ring entry => Sys2Proof.Machine.execChannelMove t ring entry s
  | .renditionIdr t ring entry => Sys2Proof.Machine.execRenditionIdr t ring entry s
  | .renditionStatusGet t ring entry => Sys2Proof.Machine.execRenditionStatusGet t ring entry s
  | .rodStatusGet t ring entry => Sys2Proof.Machine.execRodStatusGet t ring entry s
  | .ingestFlowSet t ring entry => Sys2Proof.Machine.execIngestFlowSet t ring entry s
  | .ingestFlowClear t ring entry => Sys2Proof.Machine.execIngestFlowClear t ring entry s
  | .ingestBind t ring entry => Sys2Proof.Machine.execIngestBind t ring entry s
  | .hostringSet t ring entry => Sys2Proof.Machine.execHostringSet t ring entry s
  | .slateLoad t ring entry => Sys2Proof.Machine.execSlateLoad t ring entry s
  | .ingestStatusGet t ring entry => Sys2Proof.Machine.execIngestStatusGet t ring entry s
  | .compLayersSet t ring entry => Sys2Proof.Machine.execCompLayersSet t ring entry s
  | .compLayerUpdate t ring entry => Sys2Proof.Machine.execCompLayerUpdate t ring entry s
  | .compReflatten t ring entry => Sys2Proof.Machine.execCompReflatten t ring entry s
  | .compConfidenceSet t ring entry => Sys2Proof.Machine.execCompConfidenceSet t ring entry s
  | .sealKeyRegister t ring entry => Sys2Proof.Machine.execSealKeyRegister t ring entry s
  | .sealKeyRevoke t ring entry => Sys2Proof.Machine.execSealKeyRevoke t ring entry s
  | .sealAssetLoad t ring entry => Sys2Proof.Machine.execSealAssetLoad t ring entry s
  | .sealActivate t ring entry => Sys2Proof.Machine.execSealActivate t ring entry s
  | .sealClear t ring entry => Sys2Proof.Machine.execSealClear t ring entry s
  | .sealBlockVerified t checked => Sys2Proof.Machine.execSealBlockVerified t checked s
  | .serviceSet t ring entry => Sys2Proof.Machine.execServiceSet t ring entry s
  | .serviceClear t ring entry => Sys2Proof.Machine.execServiceClear t ring entry s
  | .subscriberSet t ring entry => Sys2Proof.Machine.execSubscriberSet t ring entry s
  | .subscriberClear t ring entry => Sys2Proof.Machine.execSubscriberClear t ring entry s
  | .subscriberKeySet t ring entry => Sys2Proof.Machine.execSubscriberKeySet t ring entry s
  | .programmeOutSet t ring entry => Sys2Proof.Machine.execProgrammeOutSet t ring entry s
  | .serviceStatusGet t ring entry => Sys2Proof.Machine.execServiceStatusGet t ring entry s
  | .subscriberStatusGet t ring entry => Sys2Proof.Machine.execSubscriberStatusGet t ring entry s
  | .portSchedSet t ring entry => Sys2Proof.Machine.execPortSchedSet t ring entry s
  | .shaperSet t ring entry => Sys2Proof.Machine.execShaperSet t ring entry s
  | .dwrrSet t ring entry => Sys2Proof.Machine.execDwrrSet t ring entry s
  | .gateListSet t ring entry => Sys2Proof.Machine.execGateListSet t ring entry s
  | .gateListCancel t ring entry => Sys2Proof.Machine.execGateListCancel t ring entry s
  | .policerSet t ring entry => Sys2Proof.Machine.execPolicerSet t ring entry s
  | .hostqTxSet t ring entry => Sys2Proof.Machine.execHostqTxSet t ring entry s
  | .hostqRxSet t ring entry => Sys2Proof.Machine.execHostqRxSet t ring entry s
  | .rxFilterSet t ring entry => Sys2Proof.Machine.execRxFilterSet t ring entry s
  | .schedStatusGet t ring entry => Sys2Proof.Machine.execSchedStatusGet t ring entry s
  | .timeServoSet t ring entry => Sys2Proof.Machine.execTimeServoSet t ring entry s
  | .timeDomainSet t ring entry => Sys2Proof.Machine.execTimeDomainSet t ring entry s
  | .timeSourceSelect t ring entry => Sys2Proof.Machine.execTimeSourceSelect t ring entry s
  | .timeAsymSet t ring entry => Sys2Proof.Machine.execTimeAsymSet t ring entry s
  | .timeStep t ring entry => Sys2Proof.Machine.execTimeStep t ring entry s
  | .timeCaptureSet t ring entry => Sys2Proof.Machine.execTimeCaptureSet t ring entry s
  | .timeCaptureNow t ring entry => Sys2Proof.Machine.execTimeCaptureNow t ring entry s
  | .timeTriggerSet t ring entry => Sys2Proof.Machine.execTimeTriggerSet t ring entry s
  | .timeTriggerClear t ring entry => Sys2Proof.Machine.execTimeTriggerClear t ring entry s
  | .timeRefioSet t ring entry => Sys2Proof.Machine.execTimeRefioSet t ring entry s
  | .cageSet t ring entry => Sys2Proof.Machine.execCageSet t ring entry s
  | .portSet t ring entry => Sys2Proof.Machine.execPortSet t ring entry s
  | .synceSet t ring entry => Sys2Proof.Machine.execSynceSet t ring entry s
  | .laneTestSet t ring entry => Sys2Proof.Machine.execLaneTestSet t ring entry s
  | .laneRecal t ring entry => Sys2Proof.Machine.execLaneRecal t ring entry s
  | .hostlaneTest t ring entry => Sys2Proof.Machine.execHostlaneTest t ring entry s
  | .portStatusGet t ring entry => Sys2Proof.Machine.execPortStatusGet t ring entry s
  | .laneStatusGet t ring entry => Sys2Proof.Machine.execLaneStatusGet t ring entry s
  | .memGroupRetire t ring entry => Sys2Proof.Machine.execMemGroupRetire t ring entry s
  | .memGroupRetrain t ring entry => Sys2Proof.Machine.execMemGroupRetrain t ring entry s
  | .memGroupTest t ring entry => Sys2Proof.Machine.execMemGroupTest t ring entry s
  | .memGroupRestore t ring entry => Sys2Proof.Machine.execMemGroupRestore t ring entry s
  | .memGrainSet t ring entry => Sys2Proof.Machine.execMemGrainSet t ring entry s
  | .memChannelDiagGet t ring entry => Sys2Proof.Machine.execMemChannelDiagGet t ring entry s
  | .memStatusGet t ring entry => Sys2Proof.Machine.execMemStatusGet t ring entry s
  | .journalSessionOpen t ring entry => Sys2Proof.Machine.execJournalSessionOpen t ring entry s
  | .journalSessionClose t ring entry => Sys2Proof.Machine.execJournalSessionClose t ring entry s
  | .journalServiceSet t ring entry => Sys2Proof.Machine.execJournalServiceSet t ring entry s
  | .journalMarkPin t ring entry => Sys2Proof.Machine.execJournalMarkPin t ring entry s
  | .journalMarkRelease t ring entry => Sys2Proof.Machine.execJournalMarkRelease t ring entry s
  | .journalReplayStart t ring entry => Sys2Proof.Machine.execJournalReplayStart t ring entry s
  | .journalReplayStop t ring entry => Sys2Proof.Machine.execJournalReplayStop t ring entry s
  | .journalExport t ring entry => Sys2Proof.Machine.execJournalExport t ring entry s
  | .energyTest t ring entry => Sys2Proof.Machine.execEnergyTest t ring entry s
  | .journalStatusGet t ring entry => Sys2Proof.Machine.execJournalStatusGet t ring entry s
  | .checkContextSet t ring entry => Sys2Proof.Machine.execCheckContextSet t ring entry s
  | .checkContextGet t ring entry => Sys2Proof.Machine.execCheckContextGet t ring entry s
  | .audioPortSet t ring entry => Sys2Proof.Machine.execAudioPortSet t ring entry s
  | .audioSourceSet t ring entry => Sys2Proof.Machine.execAudioSourceSet t ring entry s
  | .audioEncoderSet t ring entry => Sys2Proof.Machine.execAudioEncoderSet t ring entry s
  | .audioStatusGet t ring entry => Sys2Proof.Machine.execAudioStatusGet t ring entry s
  | .eventRouteSet t ring entry => Sys2Proof.Machine.execEventRouteSet t ring entry s
  | .eventLogSet t ring entry => Sys2Proof.Machine.execEventLogSet t ring entry s
  | .wqueueSet t ring entry => Sys2Proof.Machine.execWqueueSet t ring entry s
  | .wqueueFlush t ring entry => Sys2Proof.Machine.execWqueueFlush t ring entry s
  | .unitServiceSet t ring entry => Sys2Proof.Machine.execUnitServiceSet t ring entry s
  | .fwImageStage t ring entry => Sys2Proof.Machine.execFwImageStage t ring entry s
  | .fwActivate t ring entry => Sys2Proof.Machine.execFwActivate t ring entry s
  | .selftestRun t ring entry => Sys2Proof.Machine.execSelftestRun t ring entry s
  | .selftestResultGet t ring entry => Sys2Proof.Machine.execSelftestResultGet t ring entry s
  | .unitStatusGet t ring entry => Sys2Proof.Machine.execUnitStatusGet t ring entry s
  | .diagExport t ring entry => Sys2Proof.Machine.execDiagExport t ring entry s
  | .mctpVendorMessage t entry => Sys2Proof.Machine.execMctpVendorMessage t entry s
  | .pldmSensorRequest t sensor => Sys2Proof.Machine.execPldmSensorRequest t sensor s
  | .mctpControlMessage t code => Sys2Proof.Machine.execMctpControlMessage t code s
  | .doeRequest t vendor type => Sys2Proof.Machine.execDoeRequest t vendor type s
  | .spdmRequest t mctp code session => Sys2Proof.Machine.execSpdmRequest t mctp code session s
  | .ideKmRequest t session cxl action => Sys2Proof.Machine.execIdeKmRequest t session cxl action s
  | .cmdEntryTake t estimates hint => Sys2Proof.Machine.execCmdEntryTake t estimates hint s
  | .unitReleased t => Sys2Proof.Machine.execUnitReleased t s
  | .cmdRingDoorbell t ring tail => Sys2Proof.Machine.execCmdRingDoorbell t ring tail s
  | .ringCfgWrite t ring value => Sys2Proof.Machine.execRingCfgWrite t ring value s
  | .busyStopClear t ring => Sys2Proof.Machine.execBusyStopClear t ring s
  | .cqReadWrite t value => Sys2Proof.Machine.execCqReadWrite t value s
  | .cqConfigWrite t cfg value => Sys2Proof.Machine.execCqConfigWrite t cfg value s
  | .timeLatchRead t latch => Sys2Proof.Machine.execTimeLatchRead t latch s
  | .captureRelease t unit => Sys2Proof.Machine.execCaptureRelease t unit s
  | .hostqTxDoorbell t queue tail descs => Sys2Proof.Machine.execHostqTxDoorbell t queue tail descs s
  | .hostqRxDoorbell t queue tail descs => Sys2Proof.Machine.execHostqRxDoorbell t queue tail descs s
  | .eventPendingClear t summary index value => Sys2Proof.Machine.execEventPendingClear t summary index value s
  | .tallySnapshotClear t index => Sys2Proof.Machine.execTallySnapshotClear t index s
  | .wqDataPop t queue => Sys2Proof.Machine.execWqDataPop t queue s
  | .bar0BadAccess t offset => Sys2Proof.Machine.execBar0BadAccess t offset s
  | .registerWrite t offset value wide => Sys2Proof.Machine.execRegisterWrite t offset value wide s
  | .hdmWindowRead t offset bytes => Sys2Proof.Machine.execHdmWindowRead t offset bytes s
  | .hdmWindowWrite t offset data => Sys2Proof.Machine.execHdmWindowWrite t offset data s
  | .snoopInvalidate t channel tail descs => Sys2Proof.Machine.execSnoopInvalidate t channel tail descs s
  | .busMasterEnable t on => Sys2Proof.Machine.execBusMasterEnable t on s
  | .msixUnmask t vector masked func => Sys2Proof.Machine.execMsixUnmask t vector masked func s
  | .powerStateChange t d3hot => Sys2Proof.Machine.execPowerStateChange t d3hot s
  | .syncReceived t domain port logSync sec1 sub1 t2 t3 sec4 sub4 => Sys2Proof.Machine.execSyncReceived t domain port logSync sec1 sub1 t2 t3 sec4 sub4 s
  | .servoUpdate t domain => Sys2Proof.Machine.execServoUpdate t domain s
  | .announceReceived t domain port clockClass gm rank info => Sys2Proof.Machine.execAnnounceReceived t domain port clockClass gm rank info s
  | .announceTimeout t domain port => Sys2Proof.Machine.execAnnounceTimeout t domain port s
  | .revertHoldExpiry t => Sys2Proof.Machine.execRevertHoldExpiry t s
  | .holdoverHour t => Sys2Proof.Machine.execHoldoverHour t s
  | .ppsInEdge t edge => Sys2Proof.Machine.execPpsInEdge t edge s
  | .ppsInLoss t => Sys2Proof.Machine.execPpsInLoss t s
  | .tenMhzInLoss t => Sys2Proof.Machine.execTenMhzInLoss t s
  | .captureEvent t source edge => Sys2Proof.Machine.execCaptureEvent t source edge s
  | .triggerFire t slot => Sys2Proof.Machine.execTriggerFire t slot s
  | .timeStepApply t => Sys2Proof.Machine.execTimeStepApply t s
  | .timeCopyLockLoss t => Sys2Proof.Machine.execTimeCopyLockLoss t s
  | .timeCopyLockReturn t => Sys2Proof.Machine.execTimeCopyLockReturn t s
  | .frameTick t channel => Sys2Proof.Machine.execFrameTick t channel s
  | .commitPoint t channel => Sys2Proof.Machine.execCommitPoint t channel s
  | .ingestPacketReceived t flow legB seq rtp bits ranges pcr fits => Sys2Proof.Machine.execIngestPacketReceived t flow legB seq rtp bits ranges pcr fits s
  | .legLosTimeout t flow legB => Sys2Proof.Machine.execLegLosTimeout t flow legB s
  | .pairSkewExceeded t flow => Sys2Proof.Machine.execPairSkewExceeded t flow s
  | .lineFillPoint t channel line sizes full => Sys2Proof.Machine.execLineFillPoint t channel line sizes full s
  | .freezeTimeout t channel => Sys2Proof.Machine.execFreezeTimeout t channel s
  | .hostFrameCheckDone t channel matches_ => Sys2Proof.Machine.execHostFrameCheckDone t channel matches_ s
  | .decoderPictureDone t flow stamp bits rap clean refers fault fits t35 => Sys2Proof.Machine.execDecoderPictureDone t flow stamp bits rap clean refers fault fits t35 s
  | .ancPacketReceived t flow rtp did sdid data => Sys2Proof.Machine.execAncPacketReceived t flow rtp did sdid data s
  | .flattenDone t channel planes => Sys2Proof.Machine.execFlattenDone t channel planes s
  | .rowMark t rendition plan => Sys2Proof.Machine.execRowMark t rendition plan s
  | .peBlockDelivered t rendition frame row bits => Sys2Proof.Machine.execPeBlockDelivered t rendition frame row bits s
  | .rowCoded t rendition frame row bits => Sys2Proof.Machine.execRowCoded t rendition frame row bits s
  | .floorTrigger t rendition frame row bits => Sys2Proof.Machine.execFloorTrigger t rendition frame row bits s
  | .rowDeadline t rendition frame row => Sys2Proof.Machine.execRowDeadline t rendition frame row s
  | .statsSlotDue t channel scene satd intra inter coded mf cx => Sys2Proof.Machine.execStatsSlotDue t channel scene satd intra inter coded mf cx s
  | .shadowCopyDone t rendition => Sys2Proof.Machine.execShadowCopyDone t rendition s
  | .peFault t rod pe rows => Sys2Proof.Machine.execPeFault t rod pe rows s
  | .engineFault t rod engine => Sys2Proof.Machine.execEngineFault t rod engine s
  | .payloadUnitArrival t rendition frame row units tables => Sys2Proof.Machine.execPayloadUnitArrival t rendition frame row units tables s
  | .calendarEntry t port => Sys2Proof.Machine.execCalendarEntry t port s
  | .copyLaunch t port => Sys2Proof.Machine.execCopyLaunch t port s
  | .audioFrameReady t service stream capture payload => Sys2Proof.Machine.execAudioFrameReady t service stream capture payload s
  | .portFrameStart t port => Sys2Proof.Machine.execPortFrameStart t port s
  | .gateListTakeover t port => Sys2Proof.Machine.execGateListTakeover t port s
  | .gateEntryChange t port => Sys2Proof.Machine.execGateEntryChange t port s
  | .gateCycleDrop t port node => Sys2Proof.Machine.execGateCycleDrop t port node s
  | .rxFrameReceived t port frame => Sys2Proof.Machine.execRxFrameReceived t port frame s
  | .portUp t port => Sys2Proof.Machine.execPortUp t port s
  | .faultReceived t port remote => Sys2Proof.Machine.execFaultReceived t port remote s
  | .opticsChange t cage inserted cmis milliwatts temp => Sys2Proof.Machine.execOpticsChange t cage inserted cmis milliwatts temp s
  | .laneSignalLoss t lane cdr => Sys2Proof.Machine.execLaneSignalLoss t lane cdr s
  | .laneDegrade t lane => Sys2Proof.Machine.execLaneDegrade t lane s
  | .checkerLock t lane => Sys2Proof.Machine.execCheckerLock t lane s
  | .checkerLockLost t lane errors => Sys2Proof.Machine.execCheckerLockLost t lane errors s
  | .recalTimeout t => Sys2Proof.Machine.execRecalTimeout t s
  | .hostlaneTestEnd t results => Sys2Proof.Machine.execHostlaneTestEnd t results s
  | .esmcPduSend t => Sys2Proof.Machine.execEsmcPduSend t s
  | .eyeRefresh t lane h0 h1 h2 v0 v1 v2 errors symbols => Sys2Proof.Machine.execEyeRefresh t lane h0 h1 h2 v0 v1 v2 errors symbols s
  | .perstAssert t => Sys2Proof.Machine.execPerstAssert t s
  | .perstRelease t => Sys2Proof.Machine.execPerstRelease t s
  | .hotReset t => Sys2Proof.Machine.execHotReset t s
  | .linkDisable t disable => Sys2Proof.Machine.execLinkDisable t disable s
  | .flr t => Sys2Proof.Machine.execFlr t s
  | .cxlReset t => Sys2Proof.Machine.execCxlReset t s
  | .linkLoss t => Sys2Proof.Machine.execLinkLoss t s
  | .referenceClockLoss t => Sys2Proof.Machine.execReferenceClockLoss t s
  | .linkUp t mode width => Sys2Proof.Machine.execLinkUp t mode width s
  | .linkRetrain t width => Sys2Proof.Machine.execLinkRetrain t width s
  | .ideIntegrityFailure t stream => Sys2Proof.Machine.execIdeIntegrityFailure t stream s
  | .linkReplayStorm t count => Sys2Proof.Machine.execLinkReplayStorm t count s
  | .dmaWriteRefused t old => Sys2Proof.Machine.execDmaWriteRefused t old s
  | .cxlCacheRefused t channel => Sys2Proof.Machine.execCxlCacheRefused t channel s
  | .mgmtRestartBegin t cause hint => Sys2Proof.Machine.execMgmtRestartBegin t cause hint s
  | .mgmtRestartEnd t => Sys2Proof.Machine.execMgmtRestartEnd t s
  | .fwActivateFallback t => Sys2Proof.Machine.execFwActivateFallback t s
  | .secRestartBegin t commanded => Sys2Proof.Machine.execSecRestartBegin t commanded s
  | .secRestartEnd t => Sys2Proof.Machine.execSecRestartEnd t s
  | .rodUpdateStepDone t rod => Sys2Proof.Machine.execRodUpdateStepDone t rod s
  | .dieBridgeCrcFail t replays => Sys2Proof.Machine.execDieBridgeCrcFail t replays s
  | .sramCorrectedError t unit coding => Sys2Proof.Machine.execSramCorrectedError t unit coding s
  | .sramUncorrectedError t store place item syndrome => Sys2Proof.Machine.execSramUncorrectedError t store place item syndrome s
  | .pllLockLoss t domain place => Sys2Proof.Machine.execPllLockLoss t domain place s
  | .supplyRailFault t => Sys2Proof.Machine.execSupplyRailFault t s
  | .dramUncorrectableRead t group address requester requesterId syndrome history => Sys2Proof.Machine.execDramUncorrectableRead t group address requester requesterId syndrome history s
  | .dramCommandError t channel rule bank page slot requester requesterId address history => Sys2Proof.Machine.execDramCommandError t channel rule bank page slot requester requesterId address history s
  | .groupRetirement t group => Sys2Proof.Machine.execGroupRetirement t group s
  | .groupDrainDone t group => Sys2Proof.Machine.execGroupDrainDone t group s
  | .dramCorrection t group address => Sys2Proof.Machine.execDramCorrection t group address s
  | .patrolScrub t bursts => Sys2Proof.Machine.execPatrolScrub t bursts s
  | .refreshDue t channel bank placed => Sys2Proof.Machine.execRefreshDue t channel bank placed s
  | .wck2dqTrack t channel training => Sys2Proof.Machine.execWck2dqTrack t channel training s
  | .batchCommit t => Sys2Proof.Machine.execBatchCommit t s
  | .batchProgrammed t batch wear => Sys2Proof.Machine.execBatchProgrammed t batch wear s
  | .nandProgramFail t fc block spareLow => Sys2Proof.Machine.execNandProgramFail t fc block spareLow s
  | .journalScrub t fc block stage soft half bad => Sys2Proof.Machine.execJournalScrub t fc block stage soft half bad s
  | .periodicEnergyTest t => Sys2Proof.Machine.execPeriodicEnergyTest t s
  | .gapRecordWrite t => Sys2Proof.Machine.execGapRecordWrite t s
  | .powerLoss t held vaux => Sys2Proof.Machine.execPowerLoss t held vaux s
  | .replayEnd t slot => Sys2Proof.Machine.execReplayEnd t slot s
  | .checkRunDone t context => Sys2Proof.Machine.execCheckRunDone t context s
  | .audioClockLoss t port rateChange => Sys2Proof.Machine.execAudioClockLoss t port rateChange s
  | .audioRateMeasured t port hz => Sys2Proof.Machine.execAudioRateMeasured t port hz s
  | .audioRelock t port => Sys2Proof.Machine.execAudioRelock t port s
  | .zeroCrossing t source n pair right => Sys2Proof.Machine.execZeroCrossing t source n pair right s
  | .zcTimeout t source n pair right => Sys2Proof.Machine.execZcTimeout t source n pair right s
  | .fifoUnderrun t port => Sys2Proof.Machine.execFifoUnderrun t port s
  | .fifoOverrun t port => Sys2Proof.Machine.execFifoOverrun t port s
  | .audioPacketMissing t flow => Sys2Proof.Machine.execAudioPacketMissing t flow s
  | .eventOccurrence t source detail => Sys2Proof.Machine.execEventOccurrence t source detail s
  | .eventLogHeldWrite t => Sys2Proof.Machine.execEventLogHeldWrite t s
  | .wqItemPush t queue words last => Sys2Proof.Machine.execWqItemPush t queue words last s
  | .wqFlushForced t queue => Sys2Proof.Machine.execWqFlushForced t queue s
  | .wqPointerMismatch t queue => Sys2Proof.Machine.execWqPointerMismatch t queue s
  | .modeTransitionDone t => Sys2Proof.Machine.execModeTransitionDone t s
  | .drainDone t => Sys2Proof.Machine.execDrainDone t s
  | .scheduledWake t => Sys2Proof.Machine.execScheduledWake t s
  | .scheduledStartTime t => Sys2Proof.Machine.execScheduledStartTime t s
  | .islandIdle t island next => Sys2Proof.Machine.execIslandIdle t island next s
  | .islandWake t island => Sys2Proof.Machine.execIslandWake t island s
  | .thermalSample t temps => Sys2Proof.Machine.execThermalSample t temps s
  | .powerGovernorTick t edgeMw auxMw edgeMa auxMa duty => Sys2Proof.Machine.execPowerGovernorTick t edgeMw auxMw edgeMa auxMa duty s
  | .auxInputChange t condition => Sys2Proof.Machine.execAuxInputChange t condition s
  | .edge12vChange t condition => Sys2Proof.Machine.execEdge12vChange t condition s
  | .shedStep t => Sys2Proof.Machine.execShedStep t s
  | .shedHoldTimeout t => Sys2Proof.Machine.execShedHoldTimeout t s
  | .edge3v3Low t => Sys2Proof.Machine.execEdge3v3Low t s
  | .holdupCharged t => Sys2Proof.Machine.execHoldupCharged t s
  | .powerUpStage t stage error failed ident => Sys2Proof.Machine.execPowerUpStage t stage error failed ident s
  | .tenMhzInPresent back => Sys2Proof.Machine.execTenMhzInPresent back s
  | .beamSecondBoundary t => Sys2Proof.Machine.execBeamSecondBoundary t s
  | .delayReqSend t domain => Sys2Proof.Machine.execDelayReqSend t domain s
  | .membershipReportRepeat t => Sys2Proof.Machine.execMembershipReportRepeat t s
  | .faultCleared t port => Sys2Proof.Machine.execFaultCleared t port s
  | .laneCalibrationDone t => Sys2Proof.Machine.execLaneCalibrationDone t s
  | .memGroupRetrainDone t group mask trained => Sys2Proof.Machine.execMemGroupRetrainDone t group mask trained s
  | .memGroupTestDone t group failing => Sys2Proof.Machine.execMemGroupTestDone t group failing s
  | .memGroupRestoreDone t group => Sys2Proof.Machine.execMemGroupRestoreDone t group s
  | .energyTestDone t millijoules microfarads => Sys2Proof.Machine.execEnergyTestDone t millijoules microfarads s
  | .journalExportDone t => Sys2Proof.Machine.execJournalExportDone t s
  | .diagExportDone t data => Sys2Proof.Machine.execDiagExportDone t data s
  | .fwImageStageDone t good => Sys2Proof.Machine.execFwImageStageDone t good s
  | .selftestDone t units fails => Sys2Proof.Machine.execSelftestDone t units fails s
  | .unitReturnDone t unit => Sys2Proof.Machine.execUnitReturnDone t unit s
  | .rodUpdateSpareTimeout t => Sys2Proof.Machine.execRodUpdateSpareTimeout t s
  | .quietWindowEdge t => Sys2Proof.Machine.execQuietWindowEdge t s

end Sys2Proof.Machine
end

