-- ==== Sys2Proof/Safety.lean ====
section
/-!
DEFINITION. The words in which statements about the module are made: how a ring command passes its checks (11 R321 to R329), what answering
it may touch besides its effect, and the forms of the state that every step keeps.
-/
namespace Sys2Proof.Machine

/-! ### Ring commands -/

/-- A row that carries a ring command: its command, the Beam moment, the ring and the entry (11 Table 11.14). -/
def ringRow : Instr → Option (CmdSpec × Nat × Fin 4 × Bytes)
  | .ranrokInfoGet t ring entry => some (ranrokInfoGet, t, ring, entry)
  | .ranrokNop t ring entry => some (ranrokNop, t, ring, entry)
  | .modeSet t ring entry => some (modeSet, t, ring, entry)
  | .scheduledStartSet t ring entry => some (scheduledStartSet, t, ring, entry)
  | .quietWindowSet t ring entry => some (quietWindowSet, t, ring, entry)
  | .deviceStatusGet t ring entry => some (deviceStatusGet, t, ring, entry)
  | .thermalLimitSet t ring entry => some (thermalLimitSet, t, ring, entry)
  | .channelSet t ring entry => some (channelSet, t, ring, entry)
  | .channelStart t ring entry => some (channelStart, t, ring, entry)
  | .channelStop t ring entry => some (channelStop, t, ring, entry)
  | .channelClear t ring entry => some (channelClear, t, ring, entry)
  | .renditionSet t ring entry => some (renditionSet, t, ring, entry)
  | .renditionClear t ring entry => some (renditionClear, t, ring, entry)
  | .slotmaskSet t ring entry => some (slotmaskSet, t, ring, entry)
  | .channelMove t ring entry => some (channelMove, t, ring, entry)
  | .renditionIdr t ring entry => some (renditionIdr, t, ring, entry)
  | .renditionStatusGet t ring entry => some (renditionStatusGet, t, ring, entry)
  | .rodStatusGet t ring entry => some (rodStatusGet, t, ring, entry)
  | .ingestFlowSet t ring entry => some (ingestFlowSet, t, ring, entry)
  | .ingestFlowClear t ring entry => some (ingestFlowClear, t, ring, entry)
  | .ingestBind t ring entry => some (ingestBind, t, ring, entry)
  | .hostringSet t ring entry => some (hostringSet, t, ring, entry)
  | .slateLoad t ring entry => some (slateLoad, t, ring, entry)
  | .ingestStatusGet t ring entry => some (ingestStatusGet, t, ring, entry)
  | .compLayersSet t ring entry => some (compLayersSet, t, ring, entry)
  | .compLayerUpdate t ring entry => some (compLayerUpdate, t, ring, entry)
  | .compReflatten t ring entry => some (compReflatten, t, ring, entry)
  | .compConfidenceSet t ring entry => some (compConfidenceSet, t, ring, entry)
  | .sealKeyRegister t ring entry => some (sealKeyRegister, t, ring, entry)
  | .sealKeyRevoke t ring entry => some (sealKeyRevoke, t, ring, entry)
  | .sealAssetLoad t ring entry => some (sealAssetLoad, t, ring, entry)
  | .sealActivate t ring entry => some (sealActivate, t, ring, entry)
  | .sealClear t ring entry => some (sealClear, t, ring, entry)
  | .serviceSet t ring entry => some (serviceSet, t, ring, entry)
  | .serviceClear t ring entry => some (serviceClear, t, ring, entry)
  | .subscriberSet t ring entry => some (subscriberSet, t, ring, entry)
  | .subscriberClear t ring entry => some (subscriberClear, t, ring, entry)
  | .subscriberKeySet t ring entry => some (subscriberKeySet, t, ring, entry)
  | .programmeOutSet t ring entry => some (programmeOutSet, t, ring, entry)
  | .serviceStatusGet t ring entry => some (serviceStatusGet, t, ring, entry)
  | .subscriberStatusGet t ring entry => some (subscriberStatusGet, t, ring, entry)
  | .portSchedSet t ring entry => some (portSchedSet, t, ring, entry)
  | .shaperSet t ring entry => some (shaperSet, t, ring, entry)
  | .dwrrSet t ring entry => some (dwrrSet, t, ring, entry)
  | .gateListSet t ring entry => some (gateListSet, t, ring, entry)
  | .gateListCancel t ring entry => some (gateListCancel, t, ring, entry)
  | .policerSet t ring entry => some (policerSet, t, ring, entry)
  | .hostqTxSet t ring entry => some (hostqTxSet, t, ring, entry)
  | .hostqRxSet t ring entry => some (hostqRxSet, t, ring, entry)
  | .rxFilterSet t ring entry => some (rxFilterSet, t, ring, entry)
  | .schedStatusGet t ring entry => some (schedStatusGet, t, ring, entry)
  | .timeServoSet t ring entry => some (timeServoSet, t, ring, entry)
  | .timeDomainSet t ring entry => some (timeDomainSet, t, ring, entry)
  | .timeSourceSelect t ring entry => some (timeSourceSelect, t, ring, entry)
  | .timeAsymSet t ring entry => some (timeAsymSet, t, ring, entry)
  | .timeStep t ring entry => some (timeStep, t, ring, entry)
  | .timeCaptureSet t ring entry => some (timeCaptureSet, t, ring, entry)
  | .timeCaptureNow t ring entry => some (timeCaptureNow, t, ring, entry)
  | .timeTriggerSet t ring entry => some (timeTriggerSet, t, ring, entry)
  | .timeTriggerClear t ring entry => some (timeTriggerClear, t, ring, entry)
  | .timeRefioSet t ring entry => some (timeRefioSet, t, ring, entry)
  | .cageSet t ring entry => some (cageSet, t, ring, entry)
  | .portSet t ring entry => some (portSet, t, ring, entry)
  | .synceSet t ring entry => some (synceSet, t, ring, entry)
  | .laneTestSet t ring entry => some (laneTestSet, t, ring, entry)
  | .laneRecal t ring entry => some (laneRecal, t, ring, entry)
  | .hostlaneTest t ring entry => some (hostlaneTest, t, ring, entry)
  | .portStatusGet t ring entry => some (portStatusGet, t, ring, entry)
  | .laneStatusGet t ring entry => some (laneStatusGet, t, ring, entry)
  | .memGroupRetire t ring entry => some (memGroupRetire, t, ring, entry)
  | .memGroupRetrain t ring entry => some (memGroupRetrain, t, ring, entry)
  | .memGroupTest t ring entry => some (memGroupTest, t, ring, entry)
  | .memGroupRestore t ring entry => some (memGroupRestore, t, ring, entry)
  | .memGrainSet t ring entry => some (memGrainSet, t, ring, entry)
  | .memChannelDiagGet t ring entry => some (memChannelDiagGet, t, ring, entry)
  | .memStatusGet t ring entry => some (memStatusGet, t, ring, entry)
  | .journalSessionOpen t ring entry => some (journalSessionOpen, t, ring, entry)
  | .journalSessionClose t ring entry => some (journalSessionClose, t, ring, entry)
  | .journalServiceSet t ring entry => some (journalServiceSet, t, ring, entry)
  | .journalMarkPin t ring entry => some (journalMarkPin, t, ring, entry)
  | .journalMarkRelease t ring entry => some (journalMarkRelease, t, ring, entry)
  | .journalReplayStart t ring entry => some (journalReplayStart, t, ring, entry)
  | .journalReplayStop t ring entry => some (journalReplayStop, t, ring, entry)
  | .journalExport t ring entry => some (journalExport, t, ring, entry)
  | .energyTest t ring entry => some (energyTest, t, ring, entry)
  | .journalStatusGet t ring entry => some (journalStatusGet, t, ring, entry)
  | .checkContextSet t ring entry => some (checkContextSet, t, ring, entry)
  | .checkContextGet t ring entry => some (checkContextGet, t, ring, entry)
  | .audioPortSet t ring entry => some (audioPortSet, t, ring, entry)
  | .audioSourceSet t ring entry => some (audioSourceSet, t, ring, entry)
  | .audioEncoderSet t ring entry => some (audioEncoderSet, t, ring, entry)
  | .audioStatusGet t ring entry => some (audioStatusGet, t, ring, entry)
  | .eventRouteSet t ring entry => some (eventRouteSet, t, ring, entry)
  | .eventLogSet t ring entry => some (eventLogSet, t, ring, entry)
  | .wqueueSet t ring entry => some (wqueueSet, t, ring, entry)
  | .wqueueFlush t ring entry => some (wqueueFlush, t, ring, entry)
  | .unitServiceSet t ring entry => some (unitServiceSet, t, ring, entry)
  | .fwImageStage t ring entry => some (fwImageStage, t, ring, entry)
  | .fwActivate t ring entry => some (fwActivate, t, ring, entry)
  | .selftestRun t ring entry => some (selftestRun, t, ring, entry)
  | .selftestResultGet t ring entry => some (selftestResultGet, t, ring, entry)
  | .unitStatusGet t ring entry => some (unitStatusGet, t, ring, entry)
  | .diagExport t ring entry => some (diagExport, t, ring, entry)
  | _ => none

/-- The module with the entry taken from its ring at Beam moment `t` (11 R320). -/
def takenAt (t : Nat) (ring : Fin 4) (entry : Bytes) (s : State) : Device := (s.dev.at_ t).takeEntry ring (entry64 entry) none

/-- The entry's context: its origin, its bytes, its block and the moment it is answered. -/
def ctxAt (sp : CmdSpec) (t : Nat) (ring : Fin 4) (entry : Bytes) (s : State) : Ctx := ringCtx sp ring (entry64 entry) (s.dev.at_ t)

/-- The checks of 11 R321 to R323 and R329 find nothing against the command. -/
def passes (sp : CmdSpec) (t : Nat) (ring : Fin 4) (entry : Bytes) (s : State) : Bool :=
  let d := takenAt t ring entry s
  let c := ctxAt sp t ring entry s
  d.implements sp.op && (entryCheck sp (some ring) c).isNone && (blockCheck sp d false c).isNone && (sp.check c (aheadOf d)).isNone

/-- The command's effect comes at its answer: no frame boundary and no unit is waited for (11 R328 to R332). -/
def CmdSpec.atOnce (sp : CmdSpec) (c : Ctx) (d : Device) : Bool :=
  match sp.when_ with
  | .commit => (sp.chan c d).isNone && c.effect == 0 && !sp.flat c d
  | _ => sp.held || (match sp.unit c d with
    | none => true
    | some u => !d.unitHeld u)

/-- `d'` differs from `d` at most in the command interface's own accounts: the rings' registers and orders, the completion records in host
memory, and the MSI-X messages those trigger (11 R336 to R340, R348). -/
def AccountsOnly (d d' : Device) : Prop :=
  ∃ (rings : Tab Ring) (cq : CompRing) (host : Mem) (msix : MsixState),
    d' = { d with rk := { d.rk with rings := rings, cq := cq }, mem := { d.mem with host := host }, msix := msix }

/-- The ring command `i` does `eff`: where it passes its checks and is not held up, `exec` answers a next state whose module is `eff` of the
module with the entry taken, but for the interface's accounts. -/
def CommandDoes (i : Instr) (sp : CmdSpec) (t : Nat) (ring : Fin 4) (entry : Bytes) (s : State) (eff : Ctx → Device → Device) : Prop :=
  passes sp t ring entry s = true → sp.atOnce (ctxAt sp t ring entry s) (takenAt t ring entry s) = true →
  ∃ d', exec i s = .next { s with dev := d' } ∧ AccountsOnly (eff (ctxAt sp t ring entry s) (takenAt t ring entry s)) d'

/-- The ring command `i` is written to the staged copy where its channel is live (11 R330, R333, R334): where it passes its checks, names no frame
beyond two seconds and waits for no flatten, `exec` answers a next state in which only the staged change has been added, at the frame of
effect, but for the interface's accounts. -/
def CommandStages (i : Instr) (sp : CmdSpec) (t : Nat) (ring : Fin 4) (entry : Bytes) (s : State) : Prop :=
  let d := takenAt t ring entry s
  let c := ctxAt sp t ring entry s
  passes sp t ring entry s = true → sp.when_ = .commit → ∀ k, sp.chan c d = some k → c.beyond (d.chan k) c.now = false → sp.flat c d = false →
  let r := c.frameOfEffect (d.chan k) ((d.chan k).firstOpen c.now) (d.rk.lastStaged k)
  ∃ d', exec i s = .next { s with dev := d' } ∧
    AccountsOnly { d with rk := { d.rk with staged := d.rk.staged ++ [⟨sp.op, c, k, r.1, r.2.1, r.2.2, none⟩] } } d'

/-! ### Pictures within their ceilings -/

/-- The bits a row has used, or may use while it is being coded. -/
def RowState.spent (r : RowState) : Nat := r.bits.getD r.cap

/-- The budget guard's account of a picture (06 R180, R182): its rows are marked in order, what they have used and what is left make up the ceiling
with the header, and what is left covers the floor cost of the rows to come. -/
def Picture.budgetKept (p : Picture) : Prop :=
  if p.planned then
    p.rows.map (·.1) = List.range p.rows.length ∧ p.rows.length ≤ p.recd.rows ∧
    ((p.plan.headerBits + (p.rows.map (fun e => e.2.spent)).sum : Nat) : Int) + p.left = p.ceiling ∧
    (((p.recd.rows - p.rows.length) * p.rowCost : Nat) : Int) ≤ p.left
  else p.rows = []

/-- Every picture of rendition `n` keeps its budget. -/
def Device.budgetsKept (n : Nat) (d : Device) : Prop :=
  ∀ x, Tab.find n d.code.rends = some x → (x.pics.map (·.1)).Pairwise (· < ·) ∧ ∀ e ∈ x.pics, e.2.budgetKept

/-! ### What waits -/

/-- Only commands of frame boundaries are staged or wait for a flatten, and a MODE_SET waits for the mode (11 R328, R330). -/
def Device.queuesSound (d : Device) : Prop :=
  (∀ x ∈ d.rk.staged, ∃ sp, specOf x.op = some sp ∧ sp.when_ = .commit) ∧
  (∀ e ∈ d.comp.chans, ∀ f, e.2.flatten = some f → ∀ w ∈ f.waits, ∃ sp, specOf w.1 = some sp ∧ sp.when_ = .commit) ∧
  ∀ w ∈ d.rk.waiting, w.op = 0x0010 → w.unit = uMode

/-! ### Device faults -/

/-- `d'` is `d` after a device fault of this cause (16 R459, R460): where HOLD may be entered, it is in HOLD with the cause, the transition under way is given up, and
with nothing staged no channel runs. -/
def Device.holdsFor (cause : Nat) (d d' : Device) : Prop :=
  d.canHold = true → d'.modes.mode = mHold ∧ d'.modes.holdCause = cause ∧ d'.modes.transition = none ∧ (d.rk.staged = [] → ∀ k, (d'.chan k).running = false)

end Sys2Proof.Machine
end

