-- ==== Sys2Proof/Certificates/Slice0/Obligations.lean ====
section
/-!
DEFINITION. The statements made about the module, for the provers. Each docstring names the rules of the spec it formalises.
-/
open Sys2Proof Sys2Proof.Machine

/-! ### The whole module (00, 01, 11) -/

/-- A step takes the command at the front of the queue and carries it out on the module with the queue's rest; with nothing waiting it leaves the module as it
is (the idle step is the model's own choice, log entry 20). -/
def Obligations.StepRunsTheFrontCommand : Prop :=
  ∀ (c : Instr) (s : State), step { s with pending := c :: s.pending } = exec c s ∧ step { s with pending := [] } = .next { s with pending := [] }

/-- No command of the table stops the module: each answers a next state with the queue as it was, but for a window access beyond its 16 GiB (10 R298), which
has no address to act on. -/
def Obligations.EveryCommandAnswersANextState : Prop :=
  ∀ (i : Instr) (s : State),
    (∀ t off n, i = .hdmWindowRead t off n → off + n ≤ 2 ^ 34) → (∀ t off b, i = .hdmWindowWrite t off b → off + b.length ≤ 2 ^ 34) →
    ∃ d', exec i s = .next { s with dev := d' }

/-- The three memories of the module keep their canonical form, whatever the next command is: addresses strictly rising, and no entry that reads as an unlisted
address reads (10 R298, 11 R317). -/
def Obligations.MemoriesStayCanonical : Prop :=
  ∀ s s' : State, Memory.wf s.dev.mem.hdm = true → Memory.wf s.dev.mem.cmdsram = true → Memory.wf s.dev.mem.host = true → step s = .next s' →
    Memory.wf s'.dev.mem.hdm = true ∧ Memory.wf s'.dev.mem.cmdsram = true ∧ Memory.wf s'.dev.mem.host = true

/-- The module right after reset: empty memories in canonical form, and the registers the spec gives a reset value at that value (11 Tables 11.3 to 11.9, R319;
10 Table 10.10; 15 Table 15.5; 08 Table 8.19). -/
def Obligations.ResetLeavesTheStatedValues : Prop :=
  let d := State.reset.dev
  State.reset.pending = [] ∧ Memory.wf d.mem.hdm = true ∧ Memory.wf d.mem.cmdsram = true ∧ Memory.wf d.mem.host = true ∧
  (∀ r, (d.rk.ring r).enable = true ∧ (d.rk.ring r).log2 = 8 ∧ (d.rk.ring r).tail = 0 ∧ (d.rk.ring r).head = 0 ∧ (d.rk.ring r).error = false ∧
    (d.rk.ring r).busyStop = false ∧ (d.rk.ring r).taken = 0 ∧ (d.rk.ring r).done = 0) ∧
  d.rk.cq = CompRing.reset ∧ d.rk.restarts = 0 ∧ d.link.hostResets = 0 ∧ d.link.lastReset = 0 ∧ d.link.up = false ∧ d.link.bme = false ∧
  (∀ k, Tab.read d.events.tally k 0 = 0 ∧ (Tab.read d.events.src k EvSrc.reset).enable = true ∧ (Tab.read d.events.src k EvSrc.reset).route = 2) ∧
  d.code.channels = [] ∧ d.code.rends = [] ∧ d.out.services = [] ∧ d.out.subs = []

/-! ### Time (02) -/

/-- Every time command that passes its checks has its effect at its answer (02 Tables 2.13 to 2.19, R41, R44, R48, R56, R60, R61, R65, R68,
R331). -/
def Obligations.TimeCommandsTakeEffect : Prop :=
  ∀ (t : Nat) (ring : Fin 4) (entry : Bytes) (s : State),
    CommandDoes (.timeServoSet t ring entry) timeServoSet t ring entry s (fun c d =>
      let r : ServoSet := ⟨c.p 0 4, c.p 4 4, c.p 8 4, c.p 12 2, c.p 14 2, c.p 16 4, c.p 20 4, c.p 24 2, c.p 26 2⟩
      { d with time := { d.time with nextSet := some r } }) ∧
    CommandDoes (.timeDomainSet t ring entry) timeDomainSet t ring entry s (fun c d =>
      d.withTime (d.time.settleDom d.anyLive false c.handle { d.time.dom c.handle with
        set := parseDomain c
        masters := if (d.time.dom c.handle).set.moves (parseDomain c) then [] else (d.time.dom c.handle).masters })) ∧
    CommandDoes (.timeSourceSelect t ring entry) timeSourceSelect t ring entry s (fun c d =>
      d.withTime (d.time.select d.anyLive (c.p 0 1))) ∧
    CommandDoes (.timeAsymSet t ring entry) timeAsymSet t ring entry s (fun c d =>
      { d with time := { d.time with
          lat := if natBit (c.p 1 1) 0 then
              Tab.put (latKey false c.handle (c.p 0 1)) (c.p 4 4) (Tab.put (latKey true c.handle (c.p 0 1)) (c.p 8 4) d.time.lat)
            else d.time.lat
          asym := if natBit (c.p 1 1) 1 then Tab.put c.handle (signedOf 32 (c.p 12 4)) d.time.asym else d.time.asym
          domA := if natBit d.time.domA.set.portMask c.handle then d.time.domA.restart else d.time.domA
          domB := if natBit d.time.domB.set.portMask c.handle then d.time.domB.restart else d.time.domB } }) ∧
    CommandDoes (.timeStep t ring entry) timeStep t ring entry s (fun c d =>
      if c.effect = 2 ∧ d.now < c.effectTime then
        { d with time := { d.time with steps := d.time.steps ++ [parseStep c c.effectTime] } }
      else d.applyStep (parseStep c d.now)) ∧
    CommandDoes (.timeCaptureSet t ring entry) timeCaptureSet t ring entry s (fun c d =>
      let u := Tab.read d.time.caps c.handle CaptureUnit.reset
      let v := { u with source := c.p 0 1, edge := c.p 1 1, event := natBit (c.p 2 1) 0, full := false, missed := 0 }
      { d with time := { d.time with caps := Tab.put c.handle v d.time.caps } }) ∧
    CommandDoes (.timeCaptureNow t ring entry) timeCaptureNow t ring entry s (fun c d =>
      d.withTime (d.time.capture d.now c.handle 0xFE)) ∧
    CommandDoes (.timeTriggerSet t ring entry) timeTriggerSet t ring entry s (fun c d =>
      let g : Trigger := ⟨c.p 0 1, c.p 2 2, natBit (c.p 1 1) 1,
        firstFiring d.now (timeOfWord c.entry 32) (c.p 24 8 * 65536) (natBit (c.p 1 1) 1), c.p 24 8 * 65536,
        if c.p 32 8 = 0 then none else some (c.p 32 8)⟩
      { d with time := { d.time with trigs := Tab.put c.handle g d.time.trigs } }) ∧
    CommandDoes (.timeTriggerClear t ring entry) timeTriggerClear t ring entry s (fun c d =>
      { d with time := { d.time with trigs := Tab.del c.handle d.time.trigs } }) ∧
    CommandDoes (.timeRefioSet t ring entry) timeRefioSet t ring entry s (fun c d =>
      let r := parseRefIo c
      let x : TimeState := { d.time with
        refioNext := some r
        refio := { d.time.refio with extRefEn := r.extRefEn, extHold := r.extHold, ppsInOffset := r.ppsInOffset } }
      let y := if x.servo = .holdover then { x with adj := if r.extHold = true ∧ x.tenOk = true then x.tenRate else x.holdRate } else x
      d.withTime (y.reselect d.anyLive))

/-- What happens to the servo, the domains and the reference inputs: each happening whose condition holds has its effect and answers a next
state (02 R39, R41, R45, R46, R47, R48, R51, R55, R59, R67, R511, R58, 01 R25). A Delay_Req waits in TC7 of its port from then on (08 R234). -/
def Obligations.TimeHappeningsTakeEffect : Prop :=
  ∀ (t : Nat) (s : State), let d := s.dev.at_ t
    (∀ (k : Fin 2) (p : Fin 32) (cls gm rank : Nat) (i : AnnounceInfo),
      (d.time.dom k).set.enable = true → d.ptpRuns p = true → natBit (d.time.dom k).set.portMask p = true →
      let m := { d.time.dom k with masters := Tab.put p ⟨d.now, cls, gm, rank, i.logAnnounce⟩ (d.time.dom k).masters }
      let o := d.time.settleDom d.anyLive (cls ≤ m.set.classLimit) k m
      let x := match i.tlv with
        | none => o.1
        | some b => o.1.setDom k { o.1.dom k with meta_ := b }
      exec (.announceReceived t k p cls gm rank i) s = .next { s with dev := d.withTime (x, o.2) }) ∧
    (∀ (k : Fin 2) (p : Fin 32), announceOver k p d.time = true →
      let a := d.time.settleOne false 0 (d.time.domA.dropOver d.now)
      let b := a.1.settleOne false 1 (a.1.domB.dropOver d.now)
      exec (.announceTimeout t k p) s = .next { s with dev := d.withTime (TimeState.thenReselect d.anyLive (b.1, a.2 ++ b.2)) }) ∧
    (∀ (k : Fin 2) (p : Fin 32) (l : Int) (s1 u1 t2 t3 s4 u4 : Nat), d.ptpRuns p = true →
      let rate := typeRate (d.lanes.slot p)
      let x := d.time.sync k p l ⟨s1, u1⟩ ⟨s4, u4⟩ t2 t3 (d.latency false p rate) (d.latency true p rate) (Tab.read d.time.asym p 0)
      exec (.syncReceived t k p l s1 u1 t2 t3 s4 u4) s = .next { s with dev := { d with time := x } }) ∧
    (∀ k : Fin 2, d.time.set.filterN ≤ (d.time.dom k).count →
      exec (.servoUpdate t k) s = .next { s with dev := d.withTime (d.time.servoUpdate d.anyLive k) }) ∧
    (revertDue d.time = true →
      exec (.revertHoldExpiry t) s = .next { s with dev := d.withTime (d.time.takeSource d.anyLive false d.time.preferred) }) ∧
    (d.time.holdHour = false → 3600 < d.time.holdSec →
      exec (.holdoverHour t) s = .next { s with dev := { d with time := { d.time with holdHour := true } }.raise [(273, 0)] }) ∧
    (∀ edge : Nat, edge ≤ d.now →
      let e := d.withTime (d.time.ppsEdge d.anyLive edge)
      let f := e.withTime (e.time.captureAll edge 1 0)
      let g := if f.time.srcValid 2 = true then f.withTime (f.time.servoUpdate f.anyLive 2) else f
      exec (.ppsInEdge t edge) s = .next { s with dev := g }) ∧
    (d.time.ppsOk = true → d.time.ppsLast + second + usec ≤ d.now →
      let o := TimeState.thenReselect d.anyLive ({ d.time with ppsOk := false }, [(264, 0)])
      exec (.ppsInLoss t) s = .next { s with dev := d.withTime o }) ∧
    (d.time.tenOk = true →
      let o := TimeState.thenReselect d.anyLive ({ d.time with tenOk := false }.rehold, [(265, 0)])
      exec (.tenMhzInLoss t) s = .next { s with dev := d.withTime o }) ∧
    (∀ ppb : Int, ppb.natAbs ≤ 10000 →
      let x := { d.time with tenOk := true, tenRate := d.time.adj + ppb }.rehold
      exec (.tenMhzInPresent ⟨t, ppb⟩) s = .next { s with dev := d.withTime (x.reselect d.anyLive) }) ∧
    (d.time.copyLocked = true →
      exec (.timeCopyLockLoss t) s = .next { s with dev := { d with time := { d.time with copyLocked := false } }.raise [(270, 0)] }) ∧
    exec (.timeCopyLockReturn t) s = .next { s with dev := { d with time := { d.time with copyLocked := true } } } ∧
    (d.now % second = 0 →
      let r := d.time.refioNext.getD d.time.refio
      let follows := d.time.servo != .free || r.freeOut
      let rise := ((if 0 ≤ r.ppsOutOffset then d.now else d.now + second : Int) + r.ppsOutOffset * 65536).toNat
      let x := { d.time with
        refio := r, refioNext := none, ppsOut := r.ppsOutEn && follows, tenOut := r.tenOutEn && follows
        ppsRise := rise, ppsFall := rise + r.ppsWidth * nsec }
      exec (.beamSecondBoundary t) s = .next { s with dev := d.withTime (x.captureAll d.now 2 0) }) ∧
    (∀ (k : Fin 2) (p : Nat), (d.time.dom k).valid = true → (d.time.dom k).active = some p → d.ptpRuns p = true →
      let w : Waiting := ⟨7, 0x4007 + 8 * p, (d.time.dom k).set.reqBytes, d.now, k + 1⟩
      let ports := Tab.upd d.sched.ports p PortSched.reset (fun x => { x with waiting := x.waiting ++ [w] })
      let time := d.time.setDom k { d.time.dom k with lastReq := ⟨d.now / second % 2 ^ 48, d.now % second⟩ }
      exec (.delayReqSend t k) s = .next { s with dev := { d with time := time, sched := { d.sched with ports := ports } } })

/-- Captures, triggers, latches and timed steps: each takes its effect and answers a next state (02 R60, R61, R65, R66, R68; 08 R256). -/
def Obligations.CapturesAndTriggersTakeEffect : Prop :=
  ∀ (t : Nat) (s : State), let d := s.dev.at_ t
    (∀ source edge : Nat, source ≠ 0 → source ≠ 0xFE →
      exec (.captureEvent t source edge) s = .next { s with dev := d.withTime (d.time.captureAll d.now source edge) }) ∧
    (∀ u : Fin 8,
      let c := { Tab.read d.time.caps u CaptureUnit.reset with full := false, missed := 0 }
      exec (.captureRelease t u) s = .next { s with dev := { d with time := { d.time with caps := Tab.put u c d.time.caps } } }) ∧
    (∀ (k : Fin 16) (g : Trigger), Tab.find k d.time.trigs = some g → g.next ≤ d.now → firesFirst k g d.time.trigs = true →
      ∃ d', exec (.triggerFire t k) s = .next { s with dev := d' } ∧
        (g.periodic = false → Tab.find k d'.time.trigs = none) ∧
        (g.action = 1 →
          let trigs := match g.after with
            | none => Tab.del k d.time.trigs
            | some h => Tab.put k h d.time.trigs
          d' = { d with time := { d.time with trigs := trigs } }.raise [(272, k)]) ∧
        (g.action = 2 → d'.sched = d.sched.release d.now g.arg)) ∧
    (∀ (p : PendingStep) (r : List PendingStep), dueStep d.now d.time.steps = some (p, r) →
      exec (.timeStepApply t) s = .next { s with dev := ({ d with time := { d.time with steps := r } } : Device).applyStep p }) ∧
    (∀ n : Fin 4,
      let low := d.time.servo.code + 65536 * (d.now % 65536) + 2 ^ 32 * (d.now / 65536 % 1000000000)
      exec (.timeLatchRead t n) s = .next { s with dev := { d with
        time := { d.time with latches := Tab.put n ⟨d.now, d.time.servo.code⟩ d.time.latches }
        link := { d.link with reply := ⟨wrLE 8 low, false, false⟩ } } })

/-- Received 48-bit seconds are extended to the value nearest to the Beam (02 R39); and a trigger whose stated time is past or too near starts at the first time
that lies at least 2 µs ahead: for a periodic trigger the stated time plus whole periods, and no earlier such time would do (02 R61). -/
def Obligations.ReceivedTimesAndLateTriggersKeepTheirBounds : Prop :=
  (∀ beam sec48 : Nat, sec48 < 2 ^ 48 →
    extendSeconds beam sec48 % 2 ^ 48 = sec48 ∧
    ∀ x : Nat, x % 2 ^ 48 = sec48 →
      ((extendSeconds beam sec48 : Int) - (beam / second : Nat)).natAbs ≤ ((x : Int) - (beam / second : Nat)).natAbs) ∧
  (∀ (now time period : Nat) (periodic : Bool), 0 < period →
    now + 2 * usec ≤ firstFiring now time period periodic ∧
    (now + 2 * usec ≤ time → firstFiring now time period periodic = time) ∧
    (time < now + 2 * usec → periodic = false → firstFiring now time period periodic = now + 2 * usec) ∧
    (time < now + 2 * usec → periodic = true →
      (∃ k, firstFiring now time period periodic = time + k * period) ∧
      ∀ k, now + 2 * usec ≤ time + k * period → firstFiring now time period periodic ≤ time + k * period))

/-- In LOCKED, a phase difference beyond LOCK_NS and within STEP_NS is removed as R49 says: up to 10 ns in one correction at the next update,
beyond it by a slew; beyond STEP_NS with a channel live the servo holds over with STEP_PENDING (02 R49, R512). The difference is the
offset as it stands after a correction that was due. -/
def Obligations.OffsetJumpsAreSlewedOrHeld : Prop :=
  ∀ (live : Bool) (o : Int) (x : TimeState), x.servo = .locked → x.corr = none → x.assess = false →
    (x.set.lockNs * 65536 < o.natAbs → o.natAbs ≤ x.set.stepNs * 65536 →
      ((x.updateBy live x.sel o).1.servo = .slewing ↔ 10 * 65536 < o.natAbs) ∧
      (10 * 65536 < o.natAbs → (x.updateBy live x.sel o).1.slewFrom = o ∧ (x.updateBy live x.sel o).1.beam = x.beam) ∧
      (o.natAbs ≤ 10 * 65536 → (x.updateBy live x.sel o).1.corr = some o ∧ (x.updateBy live x.sel o).1.beam = x.beam)) ∧
    (x.set.stepNs * 65536 < o.natAbs → live = true →
      (x.updateBy live x.sel o).1.servo = .holdover ∧ (x.updateBy live x.sel o).1.stepPending = true ∧
      (x.updateBy live x.sel o).1.beam = x.beam ∧ (x.updateBy live x.sel o).2 = [(258, 0), (260, 0), (262, 0)]) ∧
    (x.set.stepNs * 65536 < o.natAbs → live = false → (x.updateBy live x.sel o).1.beam = ((x.beam : Int) - o).toNat)

/-! ### Ingest (03) -/

/-- Every ingest command that passes its checks, and whose flow or channel is on no live channel, has its effect at its answer (03 Tables 3.9 to
3.14, R71, R78, R83, R84, R88, R89, R97 to R100). -/
def Obligations.IngestCommandsTakeEffect : Prop :=
  ∀ (t : Nat) (ring : Fin 4) (entry : Bytes) (s : State),
    CommandDoes (.ingestFlowSet t ring entry) ingestFlowSet t ring entry s (fun c d => setFlowRec c.handle (parseFlow c) d) ∧
    CommandDoes (.ingestFlowClear t ring entry) ingestFlowClear t ring entry s (fun c d =>
      ({ d with ingest := { d.ingest with flows := Tab.del c.handle d.ingest.flows } }.audioInput 1 c.handle true).reportSince d.members) ∧
    CommandDoes (.ingestBind t ring entry) ingestBind t ring entry s (fun c d => setBind c.handle (parseBind c) c.tag d) ∧
    CommandDoes (.hostringSet t ring entry) hostringSet t ring entry s (fun c d =>
      let h : HostRing := ⟨c.p 0 8, c.p 8 8, c.p 16 2, natBit (c.p 18 1) 0, natBit (c.p 18 1) 1, true, 0, d.link.up, []⟩
      { d with ingest := { d.ingest with binds := Tab.put c.handle { d.ingest.bind c.handle with host := some h } d.ingest.binds } }) ∧
    CommandDoes (.slateLoad t ring entry) slateLoad t ring entry s (fun c d =>
      let image := d.readAt (c.p 0 8) (imageBytes (c.p 12 1) (c.p 16 4) (c.p 10 2))
      { d with
        ingest := { d.ingest with slates := Tab.put c.handle ⟨c.p 8 2, c.p 10 2, c.p 12 1, c.p 16 4, image⟩ d.ingest.slates }
        dram := { d.dram with slates := Tab.put c.handle d.twoGroups d.dram.slates } }) ∧
    CommandDoes (.ingestStatusGet t ring entry) ingestStatusGet t ring entry s (fun c d =>
      d.writeAt (c.p 0 8) (flowRecord c.handle d))

/-- A binding on a channel that is not live takes the record and the ring of R78, and a source that is a host frame ring takes a check context
(03 R78, R98; 13 R411): the previous content of the binding is gone, and no other channel's binding changes. -/
def Obligations.BindingGrantsTheRing : Prop :=
  ∀ (c : Nat) (b : BindRec) (tag : Nat) (d : Device), (d.chan c).running = false →
    ((setBind c b tag d).bnd c).recd = some b ∧
    ((setBind c b tag d).bnd c).ringLines =
      Nat.max (ceilDiv (b.fillLagNs * 65536 * (d.chan c).recd.rateNum * (d.chan c).recd.height) (tickUnits (d.chan c).recd) + 4)
        (2 * decRow (if b.source = 0 then (d.flow? b.videoIf).map (·.recd) else none) + 4) ∧
    ((setBind c b tag d).bnd c).mode = (if b.source = 2 then .slate else .live) ∧
    (∀ k, k ≠ c → (setBind c b tag d).bnd k = d.bnd k) ∧
    (setBind c b tag d).ingest.flows = d.ingest.flows ∧ (setBind c b tag d).code = d.code

/-- What reaches ingest from outside: each happening whose condition holds has its effect and answers a next state (03 R71, R73, R81, R84 to R86,
R90 to R94; 10 R291). -/
def Obligations.IngestHappeningsTakeEffect : Prop :=
  ∀ (t : Nat) (s : State), let d := s.dev.at_ t
    (∀ (n : Fin 256) (legB : Bool) (x : Flow), d.flow? n = some x → x.recd.enable = true → (legB = true → x.recd.legB = true) →
      (if legB then x.legB else x.legA).lost = false → (if legB then x.legB else x.legA).last + x.recd.losMs * msec ≤ d.now →
      let whole := !x.recd.legB || (if legB then x.legA.lost else x.legB.lost)
      let l : Leg := { (if legB then x.legB else x.legA) with lost := true }
      let y := if legB then { x with legB := l, lost := whole } else { x with legA := l, lost := whole }
      let e := (d.setFlow n y).raise ((if x.recd.legB then [(354, n.val)] else []) ++ (if whole then [(352, n.val)] else []))
      exec (.legLosTimeout t n legB) s = .next { s with dev := if whole then e.audioInput 1 n true else e }) ∧
    (∀ (n : Fin 256) (x : Flow) (since : Nat), d.flow? n = some x → x.recd.legB = true → x.skewTold = false → x.skewSince = some since →
      since + second ≤ d.now →
      exec (.pairSkewExceeded t n) s = .next { s with dev := (d.setFlow n { x with skewTold := true }).raise [(356, n.val)] }) ∧
    (∀ (c : Fin 64) (b : BindRec), (d.chan c).running = true → (d.bnd c).mode = .freeze → (d.bnd c).slateFrom = none →
      (d.bnd c).at_ (d.bnd c).nextFrame = some b → (d.bnd c).freezeTick + b.freezeMs * msec ≤ d.now →
      let f := (d.chan c).frameAt d.now
      let e := (d.setBnd c { d.bnd c with slateFrom := some f }).raise [(359, c.val)]
      exec (.freezeTimeout t c) s = .next { s with dev := e.asRun c 5 0 f 0 }) ∧
    (∀ (c : Fin 64) (h : HostRing) (x : HostDesc), (d.bnd c).host = some h → h.queue.find? (fun x => x.begun && x.crc && x.checked.isNone) = some x →
      let w := (d.chan c).recd.width
      let n := (d.chan c).recd.height
      let sum := crcValue 2 (crcRun 2 (crcOnes 2) (x.visible d.mem.host w n))
      let held := rdLE (memBytes d.mem.host x.crcAddr 8) 0 8
      (sum ≠ held → exec (.hostFrameCheckDone t c ()) s = .next { s with dev := d.dropDesc c x 2 [(362, c.val)] }) ∧
      (sum = held → ∃ d', exec (.hostFrameCheckDone t c ()) s = .next { s with dev := d' } ∧
        ((d'.bnd c).host.map (fun g => g.queue.length)) = some h.queue.length ∧ d'.mem = d.mem ∧ d'.events = d.events)) ∧
    (∀ (c : Fin 64) (tail : BitVec 64) (stores : HostStores) (h : HostRing), (d.bnd c).host = some h →
      let laid := stores.data.foldl (fun m e => memStore m e.1 e.2) (h.store h.head stores.descs d.mem.host)
      let host := memStore laid h.tailAddr (wrLE 8 tail.toNat)
      exec (.snoopInvalidate t c tail stores) s = .next { s with dev := { d with mem := { d.mem with host := host } }.fetchRing c }) ∧
    (∀ (n : Fin 256) (rtp : BitVec 32) (did sdid : Byte) (data : Bytes) (x : Flow), d.flow? n = some x → x.recd.enable = true → x.recd.kind = 7 →
      (ancCarried did.toNat sdid.toNat = false → ∃ d', exec (.ancPacketReceived t n rtp did sdid data) s = .next { s with dev := d' } ∧
        (d'.flow? n).map (·.ancDropped) = some (x.ancDropped + 1) ∧ ∀ c, (d'.bnd c).frames = (d.bnd c).frames) ∧
      (ancCarried did.toNat sdid.toNat = true → ∃ d', exec (.ancPacketReceived t n rtp did sdid data) s = .next { s with dev := d' } ∧
        d'.ingest.flows = d.ingest.flows ∧ d'.events = d.events)) ∧
    (∃ d', exec (.membershipReportRepeat t) s = .next { s with dev := d' } ∧
      d'.ingest.reports = d.ingest.reports + d.members.length ∧ d'.ingest.flows = d.ingest.flows ∧ d'.events = d.events) ∧
    (∀ (n : Fin 256) (legB : Bool) (seq : Fin 65536) (rtp : BitVec 32) (bits : Nat) (rs : List SampleRun) (pcr : Option Nat) (x : Flow),
      d.flow? n = some x → d.legPort (x.recAt (extendRtp x.recd.rateHz d.now rtp.toNat)) legB = true → x.recd.isAudio = true → x.lost = false → x.recd.legB = false → legB = false →
      (Flow.take d.now seq legB (x.heard d.now legB)).2 = true →
      ∃ d', exec (.ingestPacketReceived t n legB seq rtp bits rs pcr none) s = .next { s with dev := d' } ∧
        (d'.flow? n).map (fun y => (y.capture, y.legA.packets, y.legA.last)) =
          some (some (extendRtp x.recd.rateHz d.now rtp.toNat).toNat, satAdd max64 x.legA.packets 1, d.now) ∧
        d'.ingest.binds = d.ingest.binds) ∧
    (∀ (n : Fin 256) (stamp bits : Nat) (rap clean refers : Bool) (sig : StreamSig) (p : DecodedPicture) (x : Flow), d.flow? n = some x →
      x.recd.enable = true → compressedKind x.recd.kind = true → x.recd.fits sig = true → d.decoderUp x = true → x.refsGone = false →
      ∃ d', exec (.decoderPictureDone t n stamp bits rap clean refers 2 sig p) s = .next { s with dev := d' } ∧
        ∃ y, d'.flow? n = some y ∧ y.decodeErrors = satAdd max64 x.decodeErrors 1 ∧ natBit y.concealed 1 = true ∧
          y.concealedPics = satAdd max64 x.concealedPics 1)

/-- Merge of an ST 2022-7 pair (03 R72): once a sequence number has been taken, a later copy from either leg is discarded and counted as a
duplicate, and nothing else of the flow's merge changes but the window. The premises are what taking packets keeps: numbers passed over
lie behind the newest one. -/
def Obligations.CopiesOfTakenPacketsAreDuplicates : Prop :=
  ∀ (x : Flow) (now later seq : Nat) (legB legB' : Bool), x.recd.kind ≠ 4 → seq < 65536 →
    (∀ t, x.top = some t → t < 65536 ∧ ∀ h ∈ x.holes, 32768 ≤ (h.1 + 65536 - t) % 65536) → (x.top = none → x.holes = []) →
    (x.take now seq legB).2 = true →
    ((x.take now seq legB).1.take later seq legB').2 = false ∧
    ((x.take now seq legB).1.take later seq legB').1.duplicates = satAdd max64 x.duplicates 1 ∧
    ((x.take now seq legB).1.take later seq legB').1.top = (x.take now seq legB).1.top

/-- Missing frames, freeze and return (03 R81, R82): a live frame of which no line was received puts the channel in freeze from its own tick with
E358; in freeze or slate a frame with no filled sample (and, with HOLD_UNTIL_RAP and a compressed source, not concealed) adds one to the run
and any other resets it; with RETURN_FRAMES above 0 the next frame is shown live with E360 exactly when the run has reached it. -/
def Obligations.FreezeAndReturnFollowTheFrames : Prop :=
  ∀ (x : Binding) (f tick : Nat) (fr : SourceFrame) (compressed : Bool) (b : BindRec), x.at_ f = some b →
    (x.mode = .live → fr.received = false →
      (x.endFrame f tick fr compressed).1.mode = .freeze ∧ (x.endFrame f tick fr compressed).1.freezeTick = tick ∧
      (358, 0) ∈ (x.endFrame f tick fr compressed).2.1) ∧
    (x.mode = .live → fr.received = true → (x.endFrame f tick fr compressed).1.mode = .live) ∧
    (x.mode ≠ .live →
      (x.endFrame f tick fr compressed).1.run =
        if fr.filled = 0 ∧ fr.received = true ∧ ¬ (b.holdUntilRap = true ∧ compressed = true ∧ fr.concealed = true) then x.run + 1 else 0) ∧
    (x.mode ≠ .live → x.switches.contains f = false → 0 < b.returnFrames → ∀ any : Bool,
      ((x.begin_ f tick any).1.mode = .live ↔ b.returnFrames ≤ x.run) ∧
      (b.returnFrames ≤ x.run → (x.begin_ f tick any).2.1 = [(360, 0)])) ∧
    (∀ any : Bool, x.switches.contains f = true → (x.begin_ f tick any).1.mode = .freeze ∧ (x.begin_ f tick any).1.freezeTick = tick)

/-! ### Compositor and sealed layer (04) -/

/-- Every compositor and seal command that passes its checks, and that neither a live channel nor a flatten holds up, has its effect at its answer
(04 R105, R108, R112, R115, R121, R125, R130, R132): layers and confidence outputs are replaced, COMP_REFLATTEN of a channel with static layers
starts a flatten, at which its effect waits, and a signed block goes to the security core. -/
def Obligations.CompositorCommandsTakeEffect : Prop :=
  ∀ (t : Nat) (ring : Fin 4) (entry : Bytes) (s : State),
    CommandDoes (.compLayersSet t ring entry) compLayersSet t ring entry s (fun c d =>
      d.setLayers c.handle ((List.range 6).map (fun k => (k + 1, parseLayer c.block (36 * k)))) c.tag) ∧
    CommandDoes (.compLayerUpdate t ring entry) compLayerUpdate t ring entry s (fun c d =>
      d.setLayers c.handle (Tab.put (c.p 0 1) (parseLayer c.entry 28) (d.compChan c.handle).layers) c.tag) ∧
    CommandDoes (.compReflatten t ring entry) compReflatten t ring entry s (fun _ d => d) ∧
    (let d := takenAt t ring entry s
      let c := ctxAt compReflatten t ring entry s
      let x := d.compChan c.handle
      let n := x.flatGen + 1
      passes compReflatten t ring entry s = true → runsOf (zOrder (d.newestLayers c.handle)) ≠ [] → x.flatten = none →
      (compReflatten.chan c d = none → c.effect = 0 →
        ∃ d', exec (.compReflatten t ring entry) s = .next { s with dev := d' } ∧
          AccountsOnly (d.setComp c.handle { x with flatGen := n, flatten := some ⟨n, d.now, false, false, [(0x0303, c)]⟩ }) d') ∧
      (compReflatten.chan c d = some c.handle → c.beyond (d.chan c.handle) d.now = false →
        ∃ d', exec (.compReflatten t ring entry) s = .next { s with dev := d' } ∧
          (d'.compChan c.handle).flatten = some ⟨n, d.now, false, false, []⟩ ∧
          d'.rk.staged.getLast?.map (fun q => (q.op, q.channel, q.flat)) = some (0x0303, c.handle, some n))) ∧
    CommandDoes (.compConfidenceSet t ring entry) compConfidenceSet t ring entry s (fun c d =>
      d.setConf c.handle ⟨c.p 0 1, c.p 1 1, c.p 2 2, c.p 8 8⟩) ∧
    CommandDoes (.sealKeyRegister t ring entry) sealKeyRegister t ring entry s (fun c d =>
      { d with comp := { d.comp with jobs := d.comp.jobs ++ [⟨0x0310, c⟩] } }) ∧
    CommandDoes (.sealKeyRevoke t ring entry) sealKeyRevoke t ring entry s (fun c d =>
      { d with comp := { d.comp with jobs := d.comp.jobs ++ [⟨0x0311, c⟩] } }) ∧
    CommandDoes (.sealAssetLoad t ring entry) sealAssetLoad t ring entry s (fun c d =>
      { d with comp := { d.comp with jobs := d.comp.jobs ++ [⟨0x0312, c⟩] } }) ∧
    CommandDoes (.sealActivate t ring entry) sealActivate t ring entry s (fun c d =>
      { d with comp := { d.comp with jobs := d.comp.jobs ++ [⟨0x0313, c⟩] } }) ∧
    CommandDoes (.sealClear t ring entry) sealClear t ring entry s (fun c d =>
      { d with comp := { d.comp with jobs := d.comp.jobs ++ [⟨0x0314, c⟩] } })

/-- A signed block at the security core (04 R125, Table 4.2): the verification answers a next state; a block that fails a check is decided
BAD_PARAM with the refusal's code and E392, and changes neither keys nor assets nor activations; an accepted block records its SEQ and has its
effect: a key block puts or removes the key, an asset goes into the store with its images, unless it is active by then (04 R129), and an activation is
appended. With no block waiting nothing happens. -/
def Obligations.SignedBlocksAreVerifiedInOrder : Prop :=
  ∀ (t : Nat) (s : State), let d := s.dev.at_ t
    (d.comp.jobs = [] → exec (.sealBlockVerified t ()) s = .next { s with dev := d }) ∧
    (∀ (j : SealJob) (r : List SealJob), d.comp.jobs = j :: r → d.link.secUp = true →
      let e : Device := { d with comp := { d.comp with jobs := r } }
      ∃ d', exec (.sealBlockVerified t ()) s = .next { s with dev := d' } ∧ d'.comp.jobs = r ∧
        (∀ k, e.blockRefusal j.op j.ctx = some k →
          let mask := if j.op = 0x0313 ∨ j.op = 0x0314 then j.ctx.b 16 8 else 0
          let ch := ((List.range 64).filter (natBit mask)).headD 0xFFFF
          d' = (e.raise [(392, det2 ch (j.ctx.b 2 1))]).decideCtx j.ctx stBadParam k none d.now ∧ d'.comp = { d.comp with jobs := r }) ∧
        (e.blockRefusal j.op j.ctx = none →
          (j.op = 0x0310 → Tab.find (j.ctx.b 2 1) d'.comp.keys = some ⟨(j.ctx.block.drop 24).take 96, 0⟩ ∧ d'.comp.ownerSeq = j.ctx.b 8 8) ∧
          (j.op = 0x0311 → (∀ k, Tab.find k d'.comp.keys = if k = j.ctx.b 2 1 then none else Tab.find k d.comp.keys) ∧
            d'.comp.ownerSeq = j.ctx.b 8 8) ∧
          (j.op = 0x0312 → d.assetActive j.ctx.handle = true → d' = e.decideCtx j.ctx stSealed 0 none d.now) ∧
          (j.op = 0x0312 → d.assetActive j.ctx.handle = false →
            (((d.comp.assets.filter (fun a => a.1 != j.ctx.handle)).map (fun a => a.2.bytes)).sum + j.ctx.b 4 2 * j.ctx.b 6 2 * 8 * j.ctx.b 16 2 ≤ 2 ^ 30) →
            ∃ a, Tab.find j.ctx.handle d'.comp.assets = some a ∧ a.width = j.ctx.b 4 2 ∧ a.height = j.ctx.b 6 2 ∧ a.images = j.ctx.b 16 2 ∧
              a.pixels = (j.ctx.block.drop 64).take (a.width * a.height * 8 * a.images)) ∧
          (j.op = 0x0313 → ∃ a, d'.comp.acts = d.comp.acts ++ [a] ∧ a.accepted = d.now ∧ a.asset = j.ctx.b 4 2 ∧ a.mask = j.ctx.b 16 8 ∧
            a.winStart = timeOfWord j.ctx.block 24 ∧ a.winEnd = timeOfWord j.ctx.block 40)))

/-- The order of the security core's checks (04 R125): the key first, then the signature (ECDSA P-384 over SHA-384 of every byte before its 96, by the owner's
key for keys, else by the operator key named), SEQ, MODULE_SERIAL, and for an activation the window and the asset. No block is accepted whose signature
fails, or whose SEQ is not above the last one recorded for its signer. -/
def Obligations.RefusedBlocksNameTheFirstFault : Prop :=
  ∀ (op : Nat) (c : Ctx) (d : Device),
    let owner := decide (op < 0x0312)
    let key := Tab.find (c.b 2 1) d.comp.keys
    let last := if owner then d.comp.ownerSeq else (key.map (·.seq)).getD 0
    let signer := if owner then d.serv.ownerKey else (key.map (·.pub)).getD []
    let n := c.block.length - 96
    let verifies := ecdsaVerifies signer (c.block.take n) (c.block.drop n)
    (owner = false → key = none → d.blockRefusal op c = some 0x0313) ∧
    ((owner = true ∨ key ≠ none) → verifies = false → d.blockRefusal op c = some 0x0310) ∧
    ((owner = true ∨ key ≠ none) → verifies = true → c.b 8 8 ≤ last → d.blockRefusal op c = some 0x0311) ∧
    (d.blockRefusal op c = none → verifies = true ∧ last < c.b 8 8 ∧
      (op = 0x0313 → d.now < timeOfWord c.block 40 ∧ (Tab.find (c.b 4 2) d.comp.assets).isSome = true))

/-- Flattens and lines (04 R109 to R113, R101, R103, R119; 03 R76): a flatten with a later command waiting begins again, one for which the directory has no room
fails with E385, and one that fits gives the channel its planes, each with one entry for each tile in which a pixel has alpha above 0: at once on a channel that
is not live, and as planes ready to land on a live one, behind those of earlier flattens. A flatten that built planes again is followed by the one that commands
asked for meanwhile. A fill point with a line due composites that line, with every luma sample within 4 to 1019, and without one changes nothing. -/
def Obligations.FlattensAndFillPointsTakeEffect : Prop :=
  ∀ (t : Nat) (c : Fin 64) (s : State), let d := s.dev.at_ t
    (∀ f : Flatten, (d.compChan c).flatten = some f → d.phys.shed < 3 →
      (f.again = true → f.rebuild = false → exec (.flattenDone t c ()) s =
        .next { s with dev := d.setComp c { d.compChan c with flatten := some { f with again := false, began := d.now } } }) ∧
      ((f.again = false ∨ f.rebuild = true) → f.waits = [] →
        let ps := if d.bare c then [] else d.planesOf c (if f.rebuild then (d.compChan c).layers else d.newestLayers c)
        ∃ d', exec (.flattenDone t c ()) s = .next { s with dev := d' } ∧
          (d'.compChan c).flatten = (if f.again then some ⟨f.gen + 1, d.now, false, false, []⟩ else none) ∧ (d'.compChan c).layers = (d.compChan c).layers ∧
          (∀ p ∈ ps, p.entries = p.tiles.length ∧ ∀ e ∈ p.tiles, e.2.any (fun q => q.a != 0) = true) ∧
          (d.freeEntries < planeEntries ps → (d'.compChan c).planes = (d.compChan c).planes ∧ (d'.compChan c).ready = (d.compChan c).ready) ∧
          (planeEntries ps ≤ d.freeEntries → (d.chan c).running = false → (d'.compChan c).planes = ps) ∧
          (planeEntries ps ≤ d.freeEntries → (d.chan c).running = true →
            (d'.compChan c).planes = (d.compChan c).planes ∧ (d'.compChan c).ready = (d.compChan c).ready ++ [(f.gen, ps, f.rebuild)]))) ∧
    (∀ (sizes : List Nat) (full : List (Fin 32)),
      (d.lineDue c = none → exec (.lineFillPoint t c () sizes full) s = .next { s with dev := d }) ∧
      (∀ f l, d.lineDue c = some (f, l) →
        ∃ d', exec (.lineFillPoint t c () sizes full) s = .next { s with dev := d' } ∧
          (d'.compChan c).out.frame = (d.takeLine c f l).2.frame ∧ (d'.compChan c).out.line = (d.takeLine c f l).2.line ∧
          (d'.compChan c).out.flags = (d.takeLine c f l).2.flags ∧ (d'.compChan c).layers = ((d.takeLine c f l).1.compChan c).layers ∧
          Tab.find (d.takeLine c f l).2.line (d'.compChan c).lines = some (d'.compChan c).out.pix ∧
          ∀ p ∈ (d'.compChan c).out.pix, 4 ≤ p.y ∧ p.y ≤ 1019))

/-- Windows and clears on the frame ticks (04 R127, R128): an activation that governs a channel starts with the first frame whose tick lies in its window,
with E388; a frame whose tick is at or past the window's end ends it with E390; a clear whose moment the tick has reached ends it with no E390; an ended
activation never governs the channel again. -/
def Obligations.SealWindowsFollowTheTicks : Prop :=
  ∀ (a : Activation) (c f tick : Nat), natBit a.mask c = true → (Tab.read a.chans c ActChan.reset).ended = false →
    let x := Tab.read a.chans c ActChan.reset
    let r := a.tick c f tick
    (a.winEnd ≤ tick → (Tab.read r.1.chans c ActChan.reset).ended = true ∧ r.2.1 = [(390, c)]) ∧
    (tick < a.winEnd → (∃ u, x.clearFrom = some u ∧ u ≤ tick) → (Tab.read r.1.chans c ActChan.reset).ended = true ∧ r.2.1 = []) ∧
    (tick < a.winEnd → (∀ u, x.clearFrom = some u → tick < u) → (Tab.read r.1.chans c ActChan.reset).ended = false ∧
      (a.governs c tick = true → x.started = none → (Tab.read r.1.chans c ActChan.reset).started = some f ∧ r.2.1 = [(388, c)]) ∧
      (x.started ≠ none → r.1 = a ∧ r.2.1 = [])) ∧
    (∀ k, k ≠ c → Tab.read r.1.chans k ActChan.reset = Tab.read a.chans k ActChan.reset) ∧
    (∀ b : Activation, (Tab.read b.chans c ActChan.reset).ended = true → ∀ u, b.governs c u = false ∧ b.tick c f u = (b, [], []))

/-! ### Channels, rods and rows (05, 06) -/

/-- Channel and rendition commands that pass their checks and concern no live channel have their effect at their answer (05 R158, R160, R162, R167):
a record, a channel homed and live from its first tick, a channel or rendition gone with its service, or a status record in the window. -/
def Obligations.ChannelCommandsTakeEffect : Prop :=
  ∀ (t : Nat) (ring : Fin 4) (entry : Bytes) (s : State),
    CommandDoes (.channelSet t ring entry) channelSet t ring entry s (fun c d => setChannelRec c.handle (parseChannel c) d) ∧
    CommandDoes (.channelStart t ring entry) channelStart t ring entry s (fun c d =>
      match d.admitStart c.handle d.modes.mode with
      | .error _ => d
      | .ok h => d.startChannel c.handle
          (gridFirst (d.chan c.handle).recd (Nat.max (if c.effect = 2 then c.effectTime else 0) (d.now + 5000 * usec))) c.tag h) ∧
    CommandDoes (.channelClear t ring entry) channelClear t ring entry s (fun c d =>
      let e := ((d.code.rends.filter (fun e => e.2.recd.channel == c.handle)).map (·.1)).foldl (fun d n => d.dropRend n) d
      { e with
        code := { e.code with channels := Tab.del c.handle e.code.channels }
        ingest := { e.ingest with binds := Tab.del c.handle e.ingest.binds }
        comp := { e.comp with chans := Tab.del c.handle e.comp.chans }
        checks := e.checks.freeOf c.handle }) ∧
    CommandDoes (.renditionSet t ring entry) renditionSet t ring entry s (fun c d =>
      (setRendition c.handle (parseRend c) d).asRun (c.b 0 2) 13 c.tag (d.frameNow (c.b 0 2)) c.handle) ∧
    CommandDoes (.renditionClear t ring entry) renditionClear t ring entry s (fun c d =>
      match d.rend? c.handle with
      | none => d
      | some x => (if (d.chan x.recd.channel).running && x.live then d.setRend c.handle { x with stop := some (d.chan x.recd.channel).committed }
          else d.dropRend c.handle).asRun x.recd.channel 13 c.tag (d.frameNow x.recd.channel) c.handle) ∧
    CommandDoes (.renditionStatusGet t ring entry) renditionStatusGet t ring entry s (fun c d => d.writeAt (c.p 0 8) (rendRecord c.handle d)) ∧
    CommandDoes (.rodStatusGet t ring entry) rodStatusGet t ring entry s (fun c d => d.writeAt (c.p 0 8) (rodRecord c.handle d))

/-- A change to a live channel waits in the staged copy for its frame, in the order taken (05 R152, R159, R161; 11 R330, R333, R334): the stop, the masks,
the move and the IDR request, which a live channel alone takes, and every other command that takes effect at a frame boundary. -/
def Obligations.LiveChannelChangesAreStaged : Prop :=
  ∀ (t : Nat) (ring : Fin 4) (entry : Bytes) (s : State),
    CommandStages (.channelStop t ring entry) channelStop t ring entry s ∧
    CommandStages (.slotmaskSet t ring entry) slotmaskSet t ring entry s ∧
    CommandStages (.channelMove t ring entry) channelMove t ring entry s ∧
    CommandStages (.renditionIdr t ring entry) renditionIdr t ring entry s ∧
    ∀ (i : Instr) (sp : CmdSpec), ringRow i = some (sp, t, ring, entry) → CommandStages i sp t ring entry s

/-- What is staged lands at the commit point of its frame (05 R152, R159, R161; 01 R33; 11 R330): with one change waiting on a live channel, no handover, no
firmware move, and no planes to land, COMMIT_POINT answers the state in which that change has been applied and its final decided, and the frame
committed. A stop leaves the channel STOPPING at that frame; an IDR request marks it; a mask that fits is in force with E035. -/
def Obligations.StagedChangesLandAtTheirCommitPoint : Prop :=
  ∀ (t : Nat) (c : Fin 64) (s : State) (x : Staged), let d := s.dev.at_ t
    let f := (d.chan c).committed
    let e : Device := { d with rk := { d.rk with staged := [] } }
    d.commitDue c = true → d.lossDue c = false → d.rk.staged = [x] → x.channel = c → x.frame ≤ f →
    (x.op = 0x0103 → exec (.commitPoint t c) s = .next { s with dev := ((e.landStaged f x).sealCommit c).finishStops } ∧
      ((channelStop.apply x.ctx d).dev.chan x.ctx.handle).state = .stopping ∧
      ((channelStop.apply x.ctx d).dev.chan x.ctx.handle).stop = some (d.chan x.ctx.handle).committed) ∧
    (x.op ≠ 0x0103 → d.handRods c f = [] → (d.chan c).planned = none → (d.chan c).remask = [] → d.handGiven c f = d → d.flatWaits x = false →
      (∀ sp, specOf x.op = some sp → ∀ st k, (sp.apply x.ctx e).final = some (st, k) → st = stOk →
        e.landStaged f x = (sp.apply x.ctx e).dev.decideCtx x.ctx x.status (if x.status = stOk then k else x.detail) (some f) ((d.chan c).tickOf f)) ∧
      exec (.commitPoint t c) s =
        .next { s with dev := ((((((e.landStaged f x).landPlanes c).sealCommit c).hostDeadline c f).passCommit c f)).finishStops }) ∧
    (∀ y, d.rend? x.ctx.handle = some y →
      (renditionIdr.apply x.ctx d).dev = d.setRend x.ctx.handle { y with idrAt := some (d.chan y.recd.channel).committed }) ∧
    (let n := (d.chan x.ctx.handle).rodSel (x.ctx.p 0 1)
      let m := maskOf ((d.rod n).pes.filter (natBit (askedMask (d.rod n) (x.ctx.p 1 1))))
      d.maskFits x.ctx.handle n m = true → (slotmaskSet.apply x.ctx d).final = some (stOk, 0) ∧
        ((slotmaskSet.apply x.ctx d).dev.chan x.ctx.handle).maskA = (if x.ctx.p 0 1 = 0 then m else (d.chan x.ctx.handle).maskA) ∧
        ((slotmaskSet.apply x.ctx d).dev.chan x.ctx.handle).maskB = (if x.ctx.p 0 1 = 0 then (d.chan x.ctx.handle).maskB else m)) ∧
    (∀ h, sameRods x.ctx (d.chan x.ctx.handle) = false → d.admitHome x.ctx.handle d.modes.mode false (moveWant x.ctx) = .ok h →
      (channelMove.apply x.ctx d).final = some (stOk, 0) ∧
      ((channelMove.apply x.ctx d).dev.chan x.ctx.handle).rodA = h.rodA ∧ ((channelMove.apply x.ctx d).dev.chan x.ctx.handle).rodB = h.rodB)

/-- What admission lets pass (05 R144, R146, R148, R150, R151, R135; 06 R172, R186): every rendition at or above its floor rate and with its delay in
range, no more beads than the mode holds, rods that have the beads, masks worth their channels' costs on each rod, units and analysis within their limits. -/
def Obligations.AdmissionKeepsTheLimits : Prop :=
  ∀ (c mode : Nat) (starting : Bool) (w : Want) (d : Device) (h : Homed), d.admitHome c mode starting w = .ok h →
    (∀ e ∈ d.rendsOf c, floorRate (d.chan c).recd (d.delayOf e) e.2.recd ≤ e.2.recd.rateKbps ∧ delayOk (d.chan c).recd (d.delayOf e) e.2.recd = true) ∧
    ((d.runningWith c).map (fun k => d.cost k)).sum ≤ d.beadLimit mode ∧
    ((d.runningWith c).map (fun k => d.rungs k)).sum ≤ 256 ∧
    (∃ sh, d.sharesOn c (h.rodB != 255) = some sh ∧
      sumA sh ≤ d.freeBeads h.rodA c ∧ (h.rodB ≠ 255 → sumB sh ≤ d.freeBeads h.rodB c) ∧
      masksOk (d.rod h.rodA) (d.masksOn h.rodA (some c) ++ [(c, sumA sh, h.maskA)]) = true ∧
      (h.rodB ≠ 255 → masksOk (d.rod h.rodB) (d.masksOn h.rodB (some c) ++ [(c, sumB sh, h.maskB)]) = true)) ∧
    (∀ n, n = h.rodA ∨ (n = h.rodB ∧ h.rodB ≠ 255) → (d.masksOn n (some c)).length < 8 ∧
      d.rodAfe n (some c) + d.afeLoad c (h.rodB != 255) ≤ 7200000000 * 2002)

/-- The shares of a spanning channel (05 R147): each rendition's two shares make up its cost, only a rendition that may split and costs at least 2 is
split, into halves that differ by at most 1, and the totals of the two rods differ by at most 1 and are not 0. -/
def Obligations.SpanningSharesBalance : Prop :=
  ∀ (l : List (Nat × Nat × Bool)) (sh : List (Nat × Nat × Nat)), arrange l = some sh →
    sumA sh ≤ sumB sh + 1 ∧ sumB sh ≤ sumA sh + 1 ∧ 0 < sumA sh ∧ 0 < sumB sh ∧ sumA sh + sumB sh = (l.map (·.2.1)).sum ∧ sh.length = l.length ∧
    ∀ e ∈ sh, ∃ x ∈ l, x.1 = e.1 ∧ e.2.1 + e.2.2 = x.2.1 ∧
      (if x.2.2 = true ∧ 2 ≤ x.2.1 then e.2.1 ≤ e.2.2 + 1 ∧ e.2.2 ≤ e.2.1 + 1 else e.2.1 = 0 ∨ e.2.2 = 0)

/-- What happens to rows and rods: each happening whose condition holds has its effect and answers a next state (05 R150, R153, R158, R164; 06 R170, R175, R177,
R179 to R183, R188, R193, R198, R199; 01 R30; 02 R62, R63). A picture is flat intra where no reference is valid, as at an IDR or on a bare channel (06 R173),
with LT_TEST it refers to its long-term references alone (06 R194), and it keeps its frame's rods and masks (05 R152). The traffic that its summary reports is at
most 1.30 of one write and one read per reference used, off a recovery path (the model's reading of 00 R7, assumption 198). -/
def Obligations.RowHappeningsTakeEffect : Prop :=
  (∀ (t : Nat) (s : State), let d := s.dev.at_ t
    (∀ c : Fin 64, d.tickDue c = true → ∃ d', exec (.frameTick t c) s = .next { s with dev := d' } ∧
      (d'.chan c).next = (d.chan c).next + 1 ∧
      ∀ n x, Tab.find n d.code.rends = some x → Tab.find n d'.code.rends = some (if x.codes c (d.chan c).next then
        x.tick { d.chan c with degraded := (d.chan c).degraded || d.modes.floorOnly } (d.bare c) (d.chan c).next else x)) ∧
    (∀ (n : Fin 512) (plan : Option RctWrite) (x : Rendition) (f k : Nat) (p : Picture), Tab.find n d.code.rends = some x →
      (x.pics.map (·.1)).Pairwise (· < ·) → nextRow x.pics = some (f, k, p) → (d.chan x.recd.channel).tickOf f + rowOffset (d.chan x.recd.channel).recd p.recd k ≤ d.now →
      d.rowStaged x.recd.channel f k p.recd = true →
      ∃ d' y q, exec (.rowMark t n plan) s = .next { s with dev := d' } ∧ Tab.find n d'.code.rends = some y ∧ y.pic? f = some q ∧
        (Tab.find k q.rows).map (fun r => (r.points, r.right, r.bits, r.entered, r.refs, r.poison)) = some ([], [], none, false, p.refs, p.lost) ∧
        (k = 0 → p.planned = false → q.plan.headerBits ≤ 2048 ∧ q.heads ≠ [] ∧ ∀ w, plan = some w → (∀ r ∈ p.rods, (d.rod r).engines.contains 7 = false) →
          q.plan.target ≤ w.ceiling ∧ q.plan.ceiling = w.ceiling ∧ q.plan.qp = if p.recd.ltTest = true then p.recd.qpMin else Nat.min p.recd.qpMax (Nat.max p.recd.qpMin w.qp))) ∧
    (∀ (n : Fin 512) (f k bits : Nat) (x : Rendition) (p : Picture) (r : RowState), d.openRow n f k = some (x, p, r) →
      let first := d.earliestFloor p.rods (rowDeadlineAt (d.chan x.recd.channel) p f k)
      let top := Nat.min r.cap (r.got + p.costRest r.points.length r.right.length)
      (∀ b : CodedBlock, d.floored p.recd.channel f = false → r.cause = none →
        let done := if b.right then r.right else r.points
        let row := r.withCol b.right (⟨b.bits, b.pe, (b.preds.map (·.ref)).eraseDups⟩ :: done)
        let row' : RowState := if p.floorTop row ≤ r.cap then row else { restart p r b.right done with cause := some .budget }
        exec (.peBlockDelivered t n f k b) s = .next { s with
          dev := if d.blockOk x f (done.length + (if b.right then p.leftN else 0)) p r b = true then d.setPic n f { p with rows := Tab.put k row' p.rows } else d }) ∧
      (d.floored p.recd.channel f = false → r.cause = none → p.sides.all (fun e => (d.rod e.2.1).pes.any (natBit e.2.2.1)) = true →
        ∃ d' y q, exec (.rowCoded t n f k bits) s = .next { s with dev := d' } ∧ Tab.find n.val d'.code.rends = some y ∧ y.pic? f = some q ∧
        Tab.find k q.rows = some { r with bits := some (Nat.min bits r.cap) } ∧ q.left = p.left + ((r.cap - Nat.min bits r.cap : Nat) : Int)) ∧
      (r.cause ≠ none → first = true → ∃ d' y q, exec (.rowCoded t n f k bits) s = .next { s with dev := d' } ∧ Tab.find n.val d'.code.rends = some y ∧
        y.pic? f = some q ∧ Tab.find k q.rows = some { r with bits := some (Nat.min bits top) } ∧ q.left = p.left + ((r.cap - Nat.min bits top : Nat) : Int)) ∧
      (rowTriggerAt d.time.copyLocked (d.chan x.recd.channel) p f k ≤ d.now → first = true → ∃ d' y q,
        exec (.floorTrigger t n f k bits) s = .next { s with dev := d' } ∧ Tab.find n.val d'.code.rends = some y ∧ y.pic? f = some q ∧
        Tab.find k q.rows = some { r with bits := some (Nat.min bits top), cause := some (r.cause.getD .late) }) ∧
      (first = false → r.cause ≠ none → exec (.rowCoded t n f k bits) s = .next { s with dev := d })) ∧
    (∀ (n : Fin 512) (f k : Nat), d.deadlineDue n f k = true →
      exec (.rowDeadline t n f k) s = .next { s with dev := ((d.enterRow n f k).feedRow n f k).finishStops } ∧
      ∃ y q r, Tab.find n.val (d.enterRow n f k).code.rends = some y ∧ y.pic? f = some q ∧ Tab.find k q.rows = some r ∧ r.entered = true ∧
        r.recon.length = q.recd.blocks) ∧
    (∀ (c : Fin 64) (f : Nat) (scene : Fin 16) (row : Nat) (ql : List (Nat × Quality)) (dram : List (Nat × Nat)) (stored : List (Nat × List Nat)) (mf : List MotionBlock) (cx : List Region),
      d.statsFrame c = some f → d.frameDone c f = true → (d.chan c).prior = [] → (d.chan c).stats.rd = none →
      let r := (d.chan c).recd
      let w := (d.chan c).stats.windex
      let full := decide (r.statsSlots ≤ (w + 2 ^ 64 - readIndex d.mem r.statsOffset) % 2 ^ 64)
      (full = true → ∃ d', exec (.statsSlotDue t c scene row ql dram stored mf cx) s = .next { s with dev := d' } ∧
        (d'.chan c).stats.windex = w ∧ (d'.chan c).stats.dropped = satAdd (2 ^ 32 - 1) (d.chan c).stats.dropped 1) ∧
      (full = false → d.rangeUp (r.statsOffset + 4096 + w % r.statsSlots * statsSlotBytes r) (256 + 32 * statsSumBytes r + statsMfBytes r + statsCxBytes r) = true →
        d.rangeUp r.statsOffset 8 = true → ∃ d', exec (.statsSlotDue t c scene row ql dram stored mf cx) s = .next { s with dev := d' } ∧
        (d'.chan c).stats.windex = w + 1 ∧ (d'.chan c).stats.dropped = 0)) ∧
    (∀ (n : Fin 512) (x : Rendition) (f : Nat), Tab.find n.val d.code.rends = some x → x.pool.copying = some (f, 0) →
      let p : RefPool := { x.pool with
        copying := none, oldLong := none, shadow := some (f, ((Tab.find n.val d.dram.shadows).map (·.group)).getD 255), fromShadow := false }
      exec (.shadowCopyDone t n) s = .next { s with dev := d.setRend n { x with pool := p } }) ∧
    (∀ (rod : Fin 24) (pe : Fin 7) (rows : List (Nat × Nat × Nat)), natBit (d.rod rod).pe pe = true →
      ∃ d', exec (.peFault t rod pe rows) s = .next { s with dev := d' } ∧ natBit (d'.rod rod).pe pe = false ∧
        ∀ e ∈ d'.code.channels, (e.2.rodA = rod → natBit e.2.maskA pe = false) ∧ (e.2.rodB = rod → natBit e.2.maskB pe = false) ∧
        ∀ x ∈ d'.code.rends, ∀ q ∈ x.2.pics, (q.2.rodA = rod → natBit q.2.maskA pe = false) ∧ (q.2.rodB = rod → natBit q.2.maskB pe = false)) ∧
    (∀ (rod : Fin 24) (engine : Fin 5), (d.rod rod).engines.contains (7 + engine) = false →
      ∃ d', exec (.engineFault t rod engine) s = .next { s with dev := d' } ∧ (d'.rod rod).engines = (d.rod rod).engines ++ [7 + engine.val] ∧
        (d'.rod rod).handFrom = some ((d.rod rod).handFrom.getD (d.now + 2000 * usec)))) ∧
  (∀ (x : Rendition) (ch : Channel) (bare : Bool) (f : Nat), let p := newPicture x ch bare f
    (p.intra = true ↔ p.refs = []) ∧ (x.idrDue f = true ∨ bare = true → p.refs = []) ∧ (x.recd.ltTest = true → p.refs = p.long) ∧
    p.maskA = ch.maskA ∧ p.maskB = ch.maskB ∧ p.rodA = ch.rodA ∧ p.rodB = ch.rodB ∧ p.recd = x.recd) ∧
  (∀ (x : Rendition) (n : Nat) (p : Picture) (ql : List (Nat × Quality)) (dram : List (Nat × Nat)) (stored : List (Nat × List Nat)), natBit p.state 0 = false →
    (x.measured n p ql dram stored).dram * 100 ≤ (x.measured n p ql dram stored).floorBytes * 130)

/-- The budget guard (06 R180, R182, R183): marking rows, delivering blocks, ending rows and floor triggers keep every picture of a rendition within its
account, so that what its rows may use never exceeds its ceiling; a picture whose rows have all ended has its header and its bits within the ceiling. -/
def Obligations.TheGuardKeepsPicturesWithinTheirCeilings : Prop :=
  (∀ (n : Fin 512) (t f k bits : Nat) (plan : Option RctWrite) (b : CodedBlock) (s s' : State), s.dev.budgetsKept n →
    (exec (.rowMark t n plan) s = .next s' ∨ exec (.peBlockDelivered t n f k b) s = .next s' ∨ exec (.rowCoded t n f k bits) s = .next s' ∨
      exec (.floorTrigger t n f k bits) s = .next s') → s'.dev.budgetsKept n) ∧
  (∀ p : Picture, p.budgetKept → p.planned = true → p.rows.length = p.recd.rows → (∀ e ∈ p.rows, e.2.bits ≠ none) →
    p.plan.headerBits + (p.rows.map (fun e => e.2.bits.getD 0)).sum ≤ p.ceiling)

/-! ### Output flows (07) -/

/-- Output commands that pass their checks and concern no live service have their effect at their answer (07 R205, R207, R219, R229, R231, R233, Table 7.10;
13 R387). -/
def Obligations.OutputCommandsTakeEffect : Prop :=
  ∀ (t : Nat) (ring : Fin 4) (entry : Bytes) (s : State),
    CommandDoes (.serviceSet t ring entry) serviceSet t ring entry s (fun c d => setService c.handle (parseService c) d) ∧
    CommandDoes (.serviceClear t ring entry) serviceClear t ring entry s (fun c d =>
      match d.liveOfRend c.handle, Tab.find c.handle d.out.services with
      | some k, some x =>
        let y := { x with gone := true, recd := { x.recd with enable := false, journal := false }, was := keepWas (d.chan k).committed x.recd x.was }
        { d with out := d.out.setSvc c.handle y, journal := d.journal.release c.handle true }
      | _, _ => { d with out := { d.out with services := Tab.del c.handle d.out.services }, journal := d.journal.release c.handle true }) ∧
    CommandDoes (.subscriberSet t ring entry) subscriberSet t ring entry s (fun c d => setSub c.handle (parseSub c) d) ∧
    CommandDoes (.subscriberClear t ring entry) subscriberClear t ring entry s (fun c d =>
      match Tab.find c.handle d.out.subs with
      | none => d
      | some x => match d.liveOfRend x.recd.service with
        | some _ => { d with out := d.out.setSub c.handle { x with
            gone := true, recd := { x.recd with enable := false }, was := d.keepSub x.recd x.was } }
        | none => { d with out := { d.out with subs := Tab.del c.handle d.out.subs } }) ∧
    CommandDoes (.subscriberKeySet t ring entry) subscriberKeySet t ring entry s (fun c d =>
      match Tab.find c.handle d.out.subs with
      | none => d
      | some x =>
        let k : KeySlot := ⟨true, c.b 0 1, c.b 2 1, c.b 4 4 % 2 ^ (8 * c.b 2 1), (c.block.drop 8).take (if c.b 0 1 = 1 then 16 else 32), (c.block.drop 40).take 12⟩
        { d with out := d.out.setSub c.handle { x with
          slot0 := if c.b 1 1 = 0 then k else x.slot0, slot1 := if c.b 1 1 = 1 then k else x.slot1, effect := some (c.b 1 1, timeOfWord c.block 56) } }) ∧
    CommandDoes (.programmeOutSet t ring entry) programmeOutSet t ring entry s (fun c d =>
      { d with out := { d.out with progs := Tab.put c.handle (parseProg c) d.out.progs } }) ∧
    CommandDoes (.serviceStatusGet t ring entry) serviceStatusGet t ring entry s (fun c d => d.writeAt (c.p 0 8) (serviceRecord c.handle d)) ∧
    CommandDoes (.subscriberStatusGet t ring entry) subscriberStatusGet t ring entry s (fun c d => d.writeAt (c.p 0 8) (subscriberRecord c.handle d))

/-- The launches of a row (07 R170, R215, R216): the first packet leaves exactly at the row's first launch, no packet before the one in front of it, and every
packet before the next row's first launch, whatever the pace and the sizes. -/
def Obligations.RowLaunchesStayWithinTheirRow : Prop :=
  ∀ (pace g first : Nat) (ps : List Bytes), 0 < g → (∀ p ∈ ps, p ≠ []) →
    let ls := launches pace (8 * (ps.map List.length).sum) g first 0 ps
    ls.map (·.2) = ps ∧ (∀ e, ls.head? = some e → e.1 = first) ∧ (ls.map (·.1)).Pairwise (· ≤ ·) ∧ ∀ e ∈ ls, first ≤ e.1 ∧ e.1 < first + g

/-- A matrix of ST 2022-1 FEC (07 R222, R223, R225): L × D packets of a service make L column packets where it carries column FEC and D row packets where it carries
row FEC, for the subscribers that received the first of them, and the next packet begins a new matrix; the service's own sequence and counts are untouched but for
the FEC packets. What the packets combine to restores any one that is lost from the others. -/
def Obligations.AMatrixMakesItsFecPackets : Prop :=
  (∀ (r : ServiceRec) (s : Service) (n launch : Nat) (takers : List Nat) (ps : List Bytes), 0 < r.fecL → 0 < r.fecD → (r.colFec = true ∨ r.rowFec = true) →
    s.matrix.packets = [] → ps.length = r.fecL * r.fecD →
    let e := ps.foldl (fun (a : Service × List FecPacket) p =>
      let q := a.1.fecTake r n launch takers p
      (q.1, a.2 ++ q.2)) (s, [])
    (e.2.filter (fun q => q.kind == 1)).length = (if r.colFec then r.fecL else 0) ∧
    (e.2.filter (fun q => q.kind == 2)).length = (if r.rowFec then r.fecD else 0) ∧
    e.1.matrix.packets = [] ∧ e.1.nextSeq = s.nextSeq ∧ e.1.packets = s.packets ∧ (∀ q ∈ e.2, q.takers = takers)) ∧
  (∀ (before after : List Bytes) (p : Bytes),
    (xorPadded ((before ++ p :: after).foldl xorPadded []) ((before ++ after).foldl xorPadded [])).take p.length = p)

/-- Packets of a service (07 R206, R207, R209, R217, R227): a coded row whose units arrive takes one sequence number and one count for each packet; a packet
that comes less than 1 µs before its launch goes to no subscriber, is counted, and raises E480 once a second; an audio frame of a live service that
is ready takes its own stream's next number. No payload of FORMAT 1 is longer than PAYLOAD_MAX (R211). -/
def Obligations.ServicePacketsAreNumberedAndNeverLate : Prop :=
  ∀ (t : Nat) (s : State), let d := s.dev.at_ t
    (∀ (n : Fin 512) (f k : Nat) (units heads : List Bytes) (x : Rendition) (v : Service) (p : Picture) (r : RowState),
      Tab.find n d.code.rends = some x → Tab.find n d.out.services = some v → x.pic? f = some p → Tab.find k p.rows = some r → r.bits ≠ none →
      (recAt v.was v.recd f).format = 1 → (recAt v.was v.recd f).enable = true → v.nextSeq < 65536 →
      ∃ (e : Device) (w : Service), exec (.payloadUnitArrival t n f k units heads) s = .next { s with dev := e.finishStops } ∧ Tab.find n e.out.services = some w ∧
        w.nextSeq = (v.nextSeq + (nativeRow p.recd.codec (recAt v.was v.recd f).payloadTop (k + 1 == p.recd.rows) (if k = 0 then heads else []) units).length) % 65536 ∧
        w.row = (f, k) ∧ w.recd = v.recd ∧ e.code = d.code) ∧
    (∀ (r : ServiceRec) (k : Packet) (fec : List FecPacket) (first : Bool) (rtp : Bytes) (v : Service), r.enable = true → r.journal = false →
      Tab.find k.service d.out.services = some v → k.launch < d.now + usec →
      (d.sendPacket r k fec first rtp).sched = d.sched ∧ (d.sendPacket r k fec first rtp).out.subs = d.out.subs ∧
      (Tab.find k.service (d.sendPacket r k fec first rtp).out.services).map (·.lateDrops) = some (satAdd max64 v.lateDrops 1)) ∧
    (∀ (n : Fin 512) (a : Fin 4) (capture : Nat) (payload : Bytes) (v : Service) (x : Rendition) (e : AudioEntry),
      Tab.find n d.out.services = some v → Tab.find n d.code.rends = some x → v.recd.audio[a.val]? = some e → v.recd.format = 1 → v.recd.enable = true →
      x.live = true → capture + audioFrame (d.chan x.recd.channel).recd e ≤ d.now →
      ∃ (d' : Device) (w : Service), exec (.audioFrameReady t n a capture payload) s = .next { s with dev := d' } ∧ Tab.find n d'.out.services = some w ∧
        Tab.read w.audioSeq a 0 = (Tab.read v.audioSeq a 0 + 1) % 65536 ∧ w.audioPackets = satAdd max64 v.audioPackets 1 ∧ w.nextSeq = v.nextSeq) ∧
    (∀ (codec max : Nat) (last : Bool) (heads units : List Bytes), 256 ≤ max → max ≤ 8900 → ∀ p ∈ nativeRow codec max last heads units, p.length ≤ max)

/-! ### The port schedulers and host packet queues (08) -/

/-- Every scheduler command that passes its checks has its effect at its answer (08 R237, R245, R246, R250, R251, R253, R257, R259, R261, Table 8.19). -/
def Obligations.SchedulerCommandsTakeEffect : Prop :=
  ∀ (t : Nat) (ring : Fin 4) (entry : Bytes) (s : State),
    CommandDoes (.portSchedSet t ring entry) portSchedSet t ring entry s (fun c d => d.setSched c.handle { d.sched.port c.handle with slackNs := c.p 0 4 }) ∧
    CommandDoes (.shaperSet t ring entry) shaperSet t ring entry s (fun c d =>
      let m := if natBit (c.p 1 1) 0 then Tab.del c.handle d.sched.shapers else match Tab.find c.handle d.sched.shapers with
        | none => Tab.put c.handle ⟨c.p 4 4, c.p 8 4, (c.p 8 4 * 65536 : Nat), d.now⟩ d.sched.shapers
        | some x => Tab.put c.handle ⟨c.p 4 4, c.p 8 4, min (x.tokensAt d.now) ((c.p 8 4 * 65536 : Nat) : Int), Nat.max d.now x.at_⟩ d.sched.shapers
      { d with sched := { d.sched with shapers := m } }) ∧
    CommandDoes (.dwrrSet t ring entry) dwrrSet t ring entry s (fun c d =>
      { d with sched := { d.sched with quanta := Tab.put c.handle (c.p 0 4) d.sched.quanta } }) ∧
    CommandDoes (.gateListSet t ring entry) gateListSet t ring entry s (fun c d =>
      let base := timeOfWord c.block 0
      let cycle := c.b 16 8 * 65536
      let start := if d.now + 2 * usec ≤ base then base else base + ceilDiv (d.now + 2 * usec - base) cycle * cycle
      let x := d.sched.port c.handle
      (d.setSched c.handle { x with pend := some ⟨start, c.b 16 8, parseGates c⟩ }).raise (if x.pend.isSome then [(487, c.handle)] else [])) ∧
    CommandDoes (.gateListCancel t ring entry) gateListCancel t ring entry s (fun c d =>
      let x := d.sched.port c.handle
      (d.setSched c.handle { x with pend := none }).raise (if x.pend.isSome then [(487, c.handle)] else [])) ∧
    CommandDoes (.policerSet t ring entry) policerSet t ring entry s (fun c d =>
      let x := d.sched.port (c.handle / 4)
      let y : Policer := ⟨c.p 0 1, c.p 4 4, c.p 8 4, c.p 12 4, c.p 16 4, c.p 12 4 * 65536, c.p 16 4 * 65536, d.now⟩
      d.setSched (c.handle / 4) { x with policers := Tab.put (c.handle % 4) y x.policers }) ∧
    CommandDoes (.hostqTxSet t ring entry) hostqTxSet t ring entry s (fun c d =>
      let e := if (d.txq c.handle).enable && !natBit (c.p 12 1) 0 then d.disableTx c.handle else d
      let g := e.txq c.handle
      e.setTx c.handle { g with
        addr := c.p 0 8, entries := c.p 8 4, enable := natBit (c.p 12 1) 0, hold := natBit (c.p 12 1) 1, port := c.p 13 1, cls := c.p 14 1
        group := c.p 15 1, eligible := if natBit (c.p 12 1) 1 then g.eligible else g.tail }) ∧
    CommandDoes (.hostqRxSet t ring entry) hostqRxSet t ring entry s (fun c d =>
      d.setRx c.handle { d.rxq c.handle with addr := c.p 0 8, entries := c.p 8 4, enable := natBit (c.p 12 1) 0 }) ∧
    CommandDoes (.rxFilterSet t ring entry) rxFilterSet t ring entry s (fun c d =>
      let fs := if c.p 0 4 = 0 then Tab.del c.handle d.sched.filters else Tab.put c.handle (parseFilter c) d.sched.filters
      { d with sched := { d.sched with filters := fs } }) ∧
    CommandDoes (.schedStatusGet t ring entry) schedStatusGet t ring entry s (fun c d => d.writeAt (c.p 0 8) (schedRecord c.handle d))

/-- Placement in a launch calendar (08 R239, R240): a copy is placed at the end of the port's calendar, at or after its nominal time and the end of the copy
before it and no later than the slack allows, or it is dropped, counted, and the calendar is as though it had never come. A calendar whose copies
do not overlap stays so, and no placed time changes. -/
def Obligations.PlacedTimesNeverDecrease : Prop :=
  ∀ (p : Nat) (c : Copy) (d : Device), let x := d.sched.port p
    let y := (d.place p c).sched.port p
    (x.calendar.Pairwise (fun a b => a.finish ≤ b.placed) → (∀ e ∈ x.calendar, e.placed ≤ e.finish ∧ e.finish ≤ x.lastEnd) →
      y.calendar.Pairwise (fun a b => a.finish ≤ b.placed) ∧ ∀ e ∈ y.calendar, e.placed ≤ e.finish ∧ e.finish ≤ y.lastEnd) ∧
    (y.calendar = x.calendar ∧ y.slackDrops = satAdd max64 x.slackDrops 1 ∧ y.lastEnd = x.lastEnd ∨
      ∃ t, y.calendar = x.calendar ++ [⟨c, t, t + wireTime c.bytes (d.lanes.kbps p)⟩] ∧ c.nominal ≤ t ∧ x.lastEnd ≤ t ∧
        t ≤ c.nominal + x.slackNs * 65536 ∧ y.slackDrops = x.slackDrops ∧ y.displaced = (if c.nominal < t then satAdd max64 x.displaced 1 else x.displaced))

/-- Shapers (08 R245, R246): tokens never stand above the burst they are kept to, a frame of at most 9216 bytes taken from an eligible bucket leaves it no
lower than minus 9236 bytes, and time alone never lowers them. -/
def Obligations.ShaperTokensStayInRange : Prop :=
  ∀ (x : Shaper) (now later bytes : Nat), x.tokens ≤ ((x.burst * 65536 : Nat) : Int) →
    x.tokensAt now ≤ ((x.burst * 65536 : Nat) : Int) ∧ (now ≤ later → x.tokensAt now ≤ x.tokensAt later) ∧
    (x.eligible now = true → bytes ≤ 9216 → -((9236 * 65536 : Nat) : Int) ≤ (x.charge bytes now).tokens ∧
      (x.charge bytes now).tokens ≤ ((x.burst * 65536 : Nat) : Int)) ∧
    (x.rate = 0 → x.eligible now = false ∧ x.tokensAt later = x.tokens)

/-- The launch guard (08 R236, R242): whatever frame PORT_FRAME_START sends on a port, its wire time ends no later than the next placed time there, it starts
only on an idle port that is UP, and the calendar stays as it was. The frame that is picked, where there is one, starts: it holds
the port for its wire time and is counted; those that the guard alone held are counted too. -/
def Obligations.NoFrameRunsIntoAPlacedCopy : Prop :=
  ∀ (t : Nat) (p : Fin 32) (s : State), let d := s.dev.at_ t
    ∃ d', exec (.portFrameStart t p) s = .next { s with dev := d' } ∧ (d'.sched.port p).calendar = (d.sched.port p).calendar ∧
      ((d'.sched.port p).busyUntil = (d.sched.port p).busyUntil ∨
        d.lanes.isUp p = true ∧ (d.sched.port p).busyUntil ≤ d.now ∧
          ∀ e, (d.sched.port p).calendar.head? = some e → (d'.sched.port p).busyUntil ≤ e.placed) ∧
      (let a := ((d.txOf p).filter (fun q => (d.txq q).cls != 6)).foldl (fun d q => d.sweep q) d
        let x := a.sched.port p
        let held := ((a.heads p).filter (fun c => a.candReady p c && !a.candMay p c && !x.guarded.contains c.leaf)).map (·.leaf)
        a.lanes.isUp p = true → x.busyUntil ≤ a.now →
        ∀ c df, (a.setSched p { x with guardHolds := satAdd max64 x.guardHolds held.length, guarded := x.guarded ++ held }).pickFrame p = some (c, df) →
          (d'.sched.port p).busyUntil = d.now + wireTime c.bytes (d.lanes.kbps p) ∧ (d'.port p).framesTx = satAdd max64 (d.port p).framesTx 1 ∧
          (d'.sched.port p).guardHolds = satAdd max64 x.guardHolds held.length)

/-- What happens on the ports and to the host queues: each happening whose condition holds has its effect and answers a next state (08 R238, R243, R248 to R250,
R252, R257, R258; 07 R221, R228). -/
def Obligations.SchedulerHappeningsTakeEffect : Prop :=
  ∀ (t : Nat) (s : State), let d := s.dev.at_ t
    (∀ p : Fin 32,
      let a := d.feedReplays
      let x := a.sched.port p
      let b := a.setSched p { x with due := x.due.filter (fun c => !(c.nominal ≤ a.now + 250 * usec)) }
      let f := fetchAll ((b.txOf p).filter (fun q => (b.txq q).cls == 6)) b
      exec (.calendarEntry t p) s = .next { s with dev := (sortCopies (x.due.filter (fun c => c.nominal ≤ a.now + 250 * usec) ++ f.2)).foldl (fun d c => d.place p c) f.1 }) ∧
    (∀ (p : Fin 32) (e : Placed) (r : List Placed) (x : Subscriber), (d.sched.port p).calendar = e :: r → e.placed ≤ d.now → e.copy.kind ≠ 3 →
      Tab.find e.copy.sub d.out.subs = some x → x.effect = none → x.recd.srtp = false →
      ∃ a : Device, exec (.copyLaunch t p) s = .next { s with dev := a.finishStops } ∧ (a.sched.port p).calendar = r ∧
        (d.lanes.isUp p = true → (Tab.find e.copy.sub a.out.subs).map (fun y => (y.sent, y.dropped)) = some (satAdd max64 x.sent 1, x.dropped) ∧
          (a.sched.port p).copies = satAdd max64 (d.sched.port p).copies 1) ∧
        (d.lanes.isUp p = false → (Tab.find e.copy.sub a.out.subs).map (fun y => (y.sent, y.dropped)) = some (x.sent, satAdd max64 x.dropped 1) ∧
          (a.sched.port p).copies = (d.sched.port p).copies)) ∧
    (∀ (p : Fin 32) (l : GateList), (d.sched.port p).pend = some l → l.start ≤ d.now →
      exec (.gateListTakeover t p) s = .next { s with dev :=
        (d.setSched p { d.sched.port p with oper := some l, pend := none, entry := 0, cycles := 1 }).raise [(486, p.val)] }) ∧
    (∀ (p : Fin 32) (l : GateList), (d.sched.port p).oper = some l →
      let x : PortSched := { d.sched.port p with entry := (l.at_ d.now).1, cycles := (d.now - l.start) / (l.cycleNs * 65536) + 1 }
      exec (.gateEntryChange t p) s = .next { s with dev := d.setSched p x }) ∧
    (∀ (p : Fin 32) (node : Nat) (l : GateList) (c : Cand), (d.sched.port p).oper = some l → (d.heads p).find? (fun c => c.leaf == node) = some c →
      l.neverFits c.cls (wireTime c.bytes (d.lanes.kbps p)) = true → d.waitedCycle p l c = true →
      ∃ d', exec (.gateCycleDrop t p node) s = .next { s with dev := d' } ∧
        Tab.read d'.sched.nodeDrops node 0 = satAdd max64 (Tab.read d.sched.nodeDrops node 0) 1) ∧
    (∀ (p : Fin 32) (b : Bytes), d.lanes.isUp p = true → (d.port p).recd.direction ≠ 1 →
      ∃ d', exec (.rxFrameReceived t p b) s = .next { s with dev := d' } ∧ (d'.port p).framesRx = satAdd max64 (d.port p).framesRx 1 ∧
        ((frameHead b).etherType = 0x8808 → (d'.port p).pauseRx = satAdd max64 (d.port p).pauseRx 1 ∧ d'.sched = d.sched ∧ d'.mem = d.mem) ∧
        ((frameHead b).etherType ≠ 0x8808 → (d.port p).recd.mtu < b.length → (d'.port p).oversize = satAdd max64 (d.port p).oversize 1 ∧
          d'.sched = d.sched ∧ d'.mem = d.mem) ∧
        (∀ n f, (frameHead b).etherType ≠ 0x8808 → b.length ≤ (d.port p).recd.mtu → (frameHead b).ptp = false →
          d.ingest.flows.any (fun e => e.2.recd.takes p (frameHead b)) = false → d.sched.filterOf p (frameHead b) = some (n, f) → f.policer = 0xFF →
          let g := d.rxq f.queue
          d.dmaUp = true → g.enable = true → idxAhead g.head g.tail ≠ 0 → b.length ≤ rdLE (memBytes d.mem.host (descAddr g.addr g.entries g.head) 32) 8 2 →
          (d'.rxq f.queue).head = (g.head + 1) % 2 ^ 32 ∧ (d'.rxq f.queue).received = satAdd max64 g.received 1)) ∧
    (∀ (q : Fin 64) (tail : BitVec 32) (descs : List Bytes),
      let g := d.txq q
      let m := storeDescs g.addr g.entries g.tail descs d.mem.host
      let e : Device := { d with mem := { d.mem with host := m } }
      let g' : TxQueue := { g with error := true, errorCode := 4 }
      (g.entries < idxAhead g.head tail.toNat → exec (.hostqTxDoorbell t q tail descs) s =
        .next { s with dev := e.setTx q g' }) ∧
      (idxAhead g.head tail.toNat ≤ g.entries → ∃ d', exec (.hostqTxDoorbell t q tail descs) s = .next { s with dev := d' } ∧
        (d'.txq q).tail = tail.toNat ∧ (d'.txq q).eligible = (if g.hold then g.eligible else tail.toNat))) ∧
    (∀ (q : Fin 64) (tail : BitVec 32) (descs : List Bytes),
      let g := d.rxq q
      let m := storeDescs g.addr g.entries g.tail descs d.mem.host
      let g' : RxQueue := if g.entries < idxAhead g.head tail.toNat then { g with error := true, errorCode := 4 } else { g with tail := tail.toNat }
      let e : Device := { d with mem := { d.mem with host := m } }
      exec (.hostqRxDoorbell t q tail descs) s = .next { s with dev := e.setRx q g' })

/-! ### Serial lanes and Ethernet ports (09) -/

/-- Every lane and port command that passes its checks has its effect (09 R266, R271, R273 to R276, R280, R284, R286, Table 9.13). LANE_RECAL's work goes on, and
HOSTLANE_TEST takes the host link down once it is decided. -/
def Obligations.LaneCommandsTakeEffect : Prop :=
  ∀ (t : Nat) (ring : Fin 4) (entry : Bytes) (s : State),
    (let c := ctxAt cageSet t ring entry s
     let slots := (List.range 8).map (fun i => c.p i 1)
     passes cageSet t ring entry s = true → ∃ d', exec (.cageSet t ring entry) s = .next { s with dev := d' } ∧
       (∀ l : Nat, d'.lanes.slot l = if l / 8 = c.handle then slots.getD (l % 8) 0 else (takenAt t ring entry s).lanes.slot l) ∧
       (∀ p ∈ cagePorts c.handle slots, (d'.port p).state = if ((takenAt t ring entry s).port p).recd.enable then 1 else 0) ∧
       (∀ p : Nat, p / 8 ≠ c.handle → d'.port p = (takenAt t ring entry s).port p) ∧ d'.sched = (takenAt t ring entry s).sched) ∧
    CommandDoes (.portSet t ring entry) portSet t ring entry s (fun c d =>
      let x := d.port c.handle
      let r := parsePort c
      let a := d.setPort c.handle { x with recd := r }
      let fresh := ({ a.time with lat := Tab.del (latKey false c.handle 2) (Tab.del (latKey true c.handle 2) a.time.lat) }).restartPort c.handle
      let b := if x.recd.rsFec = r.rsFec then a else a.setTime fresh
      if r.enable = false ∨ x.state = 0 ∨ x.recd.direction ≠ r.direction ∨ x.recd.rsFec ≠ r.rsFec then b.portTo c.handle (b.startState c.handle) 7 else b) ∧
    CommandDoes (.synceSet t ring entry) synceSet t ring entry s (fun c d =>
      let y := { d.lanes.synce with mode := c.p 0 1, ssmLocked := c.p 1 1, ssmHold := c.p 2 1, mask := c.p 4 4 }
      { d with lanes := { d.lanes with synce := y }, time := { d.time with lineFollows := c.p 0 1 == 1 } }) ∧
    (let c := ctxAt laneTestSet t ring entry s
     let d := takenAt t ring entry s
     passes laneTestSet t ring entry s = true → ∃ d', exec (.laneTestSet t ring entry) s = .next { s with dev := d' } ∧
       (d'.lane c.handle).test = parseTest c ∧ (∀ l, l ≠ c.handle → d'.lane l = d.lane l) ∧
       (c.p 0 1 ≠ 0 → (d'.lane c.handle).bits = 0 ∧ (d'.lane c.handle).errors = 0 ∧ (d'.lane c.handle).lockLost = false ∧
         (d.lanes.exists_ (d.lanes.portOf c.handle) = true → (d'.port (d.lanes.portOf c.handle)).state = 4)) ∧
       (∀ p, p ≠ d.lanes.portOf c.handle → d'.port p = d.port p)) ∧
    CommandDoes (.laneRecal t ring entry) laneRecal t ring entry s (fun c d => (d.startRecal c.handle).beginWork 0x0705 c unitRecal none) ∧
    (let c := ctxAt hostlaneTest t ring entry s
     passes hostlaneTest t ring entry s = true → ∃ d', exec (.hostlaneTest t ring entry) s = .next { s with dev := d' } ∧ d'.link.up = false ∧
       d'.lanes.hostTest = some ⟨c.p 0 2, c.p 2 1, c.p 3 1, (takenAt t ring entry s).now + c.p 4 4 * msec⟩) ∧
    CommandDoes (.portStatusGet t ring entry) portStatusGet t ring entry s (fun c d =>
      (d.measurePort c.handle).writeAt (c.p 0 8) (portRecord c.handle (d.measurePort c.handle))) ∧
    CommandDoes (.laneStatusGet t ring entry) laneStatusGet t ring entry s (fun c d =>
      (d.measureLane c.handle).writeAt (c.p 0 8) (laneRecord c.handle (d.measureLane c.handle)))

/-- The layouts CAGE_SET accepts (09 R263, R286): each lane of a typed slot belongs to one port, an aligned block of lanes of one code within the cage, and a
layout of any other shape is refused. -/
def Obligations.CageLayoutsAreAlignedBlocks : Prop :=
  (∀ s : List Nat, cageOk s = true ↔ ∀ i < 8, s.getD i 0 ≤ 9 ∧
    ∀ j < 8, typeLanes (s.getD i 0) ≠ 0 → j / typeLanes (s.getD i 0) = i / typeLanes (s.getD i 0) → s.getD j 0 = s.getD i 0) ∧
  (∀ (x : LanesState) (l : Nat), l < 32 → cageOk (Tab.read x.cages (l / 8) []) = true → typeLanes (x.slot l) ≠ 0 →
    x.exists_ (x.portOf l) = true ∧ l ∈ x.lanesOf (x.portOf l) ∧ ∀ p, p < 32 → x.exists_ p = true → l ∈ x.lanesOf p → p = x.portOf l)

/-- What lanes, ports and transceivers do (09 R267 to R270, R274, R275, R279, R280, R284, R285): each happening whose condition holds has its effect, and
answers a next state. -/
def Obligations.LaneHappeningsTakeEffect : Prop :=
  ∀ (t : Nat) (s : State), let d := s.dev.at_ t
    (∀ p : Fin 32, d.lanes.exists_ p = true → (d.port p).state = 1 → d.lanesUp p = true → (d.port p).cmis ≠ 1 →
      ∃ d', exec (.portUp t p) s = .next { s with dev := d' } ∧ (d'.port p).state = 2 ∧ (d'.port p).lastUp = d.now ∧
        (d'.port p).linkDowns = (d.port p).linkDowns ∧
        ((d.port p).recd.direction ≠ 1 → ∀ l ∈ d.lanes.lanesOf p, (d'.lane l).signal = true ∧ (d'.lane l).cdr = true)) ∧
    (∀ (p : Fin 32) (remote : Bool), d.lanes.exists_ p = true → (d.port p).state = 2 →
      ((d.port p).recd.direction = 0 →
        let x : Port := { d.port p with
          state := 3, localFault := (d.port p).localFault || !remote, remoteFault := (d.port p).remoteFault || remote
          linkDowns := satAdd max64 (d.port p).linkDowns 1 }
        exec (.faultReceived t p remote) s =
          .next { s with dev := (d.setPort p x).raise [(128 + 2 * p.val, det2 p (if remote then 2 else 1))] }) ∧
      ((d.port p).recd.direction ≠ 0 → exec (.faultReceived t p remote) s = .next { s with dev := d })) ∧
    (∀ p : Fin 32, d.lanes.exists_ p = true → (d.port p).state = 3 →
      let x : Port := { d.port p with state := 1, localFault := false, remoteFault := false }
      exec (.faultCleared t p) s = .next { s with dev := d.setPort p x }) ∧
    (∀ (cage : Fin 4) (inserted : Bool) (cmis mw : Nat) (temp : Int), ∃ d', exec (.opticsChange t cage inserted cmis mw temp) s = .next { s with dev := d' } ∧
      (∀ p ∈ cagePorts cage (Tab.read d.lanes.cages cage []), (d'.port p).optics = inserted ∧ (d'.port p).opticsTemp = temp ∧
        (d'.port p).cmis = (if inserted then if 12000 < mw then 1 else cmis else 0) ∧
        (d'.port p).state = if inserted = false ∧ ((d.port p).state = 2 ∨ (d.port p).state = 3) then 1 else (d.port p).state) ∧
      ∀ p, p / 8 ≠ cage → d'.port p = d.port p) ∧
    (∀ (l : Fin 32) (cdr : Bool), d.lanes.isUp (d.lanes.portOf l) = true →
      let x : Lane := { d.lane l with signal := cdr && (d.lane l).signal, cdr := false }
      exec (.laneSignalLoss t l cdr) s = .next { s with dev := (d.setLane l x).raise [(192 + 2 * l.val, det2 l (if cdr then 2 else 1))] }) ∧
    (∀ l : Fin 32, d.lanes.isUp (d.lanes.portOf l) = true → (d.port (d.lanes.portOf l)).recd.degrade ≠ 0 →
      exec (.laneDegrade t l) s = .next { s with dev := d.raise [(192 + 2 * l.val, det2 l 3)] }) ∧
    (∀ l : Fin 32, natBit (d.lane l).test.mode 1 = true → (d.lane l).locked = false →
      let x : Lane := { d.lane l with locked := true, lockedAt := d.now, signal := true, cdr := true }
      exec (.checkerLock t l) s = .next { s with dev := d.setLane l x }) ∧
    (∀ (l : Fin 32) (errors : Nat), (d.lane l).locked = true →
      let x : Lane := { d.lane l with
        bits := (d.lane l).bitsAt d.now, errors := satAdd max64 (d.lane l).errors errors, locked := false, lockLost := true }
      exec (.checkerLockLost t l errors) s = .next { s with dev := (d.setLane l x).raise [(193 + 2 * l.val, det2 l 2)] }) ∧
    (∀ (p : Nat) (ls : List Nat), d.lanes.recal = some (p, ls) → d.lanes.recalDone = false → (d.port p).state = 5 →
      ∃ d', exec (.laneCalibrationDone t) s = .next { s with dev := d' } ∧ d'.lanes.recalDone = true ∧
        (d'.port p).state = (if (d.port p).recd.enable then 1 else 0) ∧ ∀ l ∈ ls, (d'.lane l).recal = false ∧ (d'.lane l).lastRecal = d.now) ∧
    (∀ (p : Nat) (ls : List Nat) (w : Work) (x : Nat), d.lanes.recal = some (p, ls) → d.lanes.recalDone = true → w ∈ d.rk.works → w.unit = unitRecal →
      w.due = some x → x ≤ d.now →
      ∃ d', exec (.recalTimeout t) s = .next { s with dev := d' } ∧ d'.lanes.recal = none ∧ d'.rk.works.length + 1 = d.rk.works.length) ∧
    (∀ (l : Fin 32) (h0 h1 h2 v0 v1 v2 errors symbols : Nat), d.rxAwake l = true →
      let x : Lane := { d.lane l with
        eyeH := (h0, h1, h2), eyeV := (v0, v1, v2), errors := if (d.lane l).locked then satAdd max64 (d.lane l).errors errors else (d.lane l).errors
        symbolErrors := satAdd max64 (d.lane l).symbolErrors symbols }
      exec (.eyeRefresh t l h0 h1 h2 v0 v1 v2 errors symbols) s = .next { s with dev := d.setLane l x }) ∧
    (∃ d', exec (.esmcPduSend t) s = .next { s with dev := d' } ∧
      d'.lanes.synce.lastSsm = (if d.lanes.synce.mode = 0 then 15 else match d.time.servo with
        | .locked => d.lanes.synce.ssmLocked
        | .slewing => d.lanes.synce.ssmLocked
        | .holdover => d.lanes.synce.ssmHold
        | .external => d.lanes.synce.ssmHold
        | _ => 15) ∧
      ∀ p : Nat, p < 32 → natBit d.lanes.synce.mask p = true → d.lanes.isUp p = true → (d.port p).recd.direction ≠ 2 →
        (d'.sched.port p).waiting.length = (d.sched.port p).waiting.length + 1) ∧
    (∀ (h : HostTest) (results : List (Nat × Nat)), d.lanes.hostTest = some h → h.ends ≤ d.now → d.link.perst = false → d.link.disabled = false →
      ∃ d', exec (.hostlaneTestEnd t results) s = .next { s with dev := d' } ∧ d'.lanes.hostTest = none ∧ d'.link.training.isSome = true)

/-! ### Host attach (10) -/

/-- Resets and losses of the host link (10 R307 to R311, Table 10.13): each answers a next state with its LAST_RESET code, HOST_RESETS counted, sessions and IDE
ended. A reset disables the host queues and frame rings and resets the command rings and the completion ring, but not their accounts; a loss keeps them. None
touches renditions, rods, services, layers, time, memory layout, audio, journal, mode or what is staged or at work, and of each channel only whether it is to
stop because it is not HOST_INDEPENDENT. -/
def Obligations.HostResetsSpareTheProgramme : Prop :=
  ∀ (t : Nat) (s : State), let d := s.dev.at_ t
    let ended (code : Nat) (up : Bool) (training : Option Nat) (e : Device) : Prop :=
      e.link.up = up ∧ e.link.lastReset = code ∧ e.link.hostResets = satAdd 0xFFFFFFFF d.link.hostResets 1 ∧ e.link.sessions = [] ∧
      e.link.ideCm = false ∧ e.link.ideIo = false ∧ e.link.training = training ∧
      e.code.rends = d.code.rends ∧ e.code.rods = d.code.rods ∧ e.out = d.out ∧ e.comp = d.comp ∧ e.time = d.time ∧ e.dram = d.dram ∧ e.audio = d.audio ∧
      e.journal = d.journal ∧ e.modes = d.modes ∧ e.rk.staged = d.rk.staged ∧ e.rk.works = d.rk.works ∧ e.rk.waiting = d.rk.waiting ∧
      (∀ c, e.chan c = { d.chan c with lossStop := (d.chan c).lossStop || ((d.chan c).running && !(d.chan c).recd.hostIndependent) })
    let wiped (e : Device) : Prop :=
      e.link.bme = false ∧ e.link.d3hot = false ∧ e.rk.cq = CompRing.reset ∧ e.msix.mask = MsixState.reset.mask ∧
      (∀ r, (e.rk.ring r).head = 0 ∧ (e.rk.ring r).tail = 0 ∧ (e.rk.ring r).enable = true ∧ (e.rk.ring r).log2 = 8 ∧ (e.rk.ring r).busyStop = false ∧
        (e.rk.ring r).taken = (d.rk.ring r).taken ∧ (e.rk.ring r).done = (d.rk.ring r).done ∧ (e.rk.ring r).results = (d.rk.ring r).results) ∧
      (∀ q, (e.txq q).enable = false ∧ (e.txq q).head = 0 ∧ (e.txq q).tail = 0 ∧ (e.rxq q).enable = false ∧ (e.rxq q).head = 0 ∧ (e.rxq q).tail = 0) ∧
      (∀ c h, (e.bnd c).host = some h → h.enabled = false ∧ h.queue = [])
    let kept (e : Device) : Prop := e.link.bme = d.link.bme ∧ e.rk = d.rk ∧ e.sched = d.sched ∧ e.msix.mask = d.msix.mask
    (d.link.perst = false → ∃ e, exec (.perstAssert t) s = .next { s with dev := e } ∧ ended 1 false none e ∧ wiped e ∧ e.link.perst = true) ∧
    (d.link.up = true →
      (∃ e, exec (.hotReset t) s = .next { s with dev := e } ∧ ended 2 false (some (d.now + 80 * msec)) e ∧ wiped e) ∧
      (∃ e, exec (.linkDisable t true) s = .next { s with dev := e } ∧ ended 3 false none e ∧ wiped e ∧ e.link.disabled = true) ∧
      (∃ e, exec (.flr t) s = .next { s with dev := e } ∧ ended 4 true none e ∧ wiped e) ∧
      (∃ e, exec (.cxlReset t) s = .next { s with dev := e } ∧ ended 5 false (some (d.now + 80 * msec)) e ∧ wiped e) ∧
      (∃ e, exec (.linkLoss t) s = .next { s with dev := e } ∧ ended 6 false none e ∧ kept e) ∧
      (∀ stream, (d.link.ideCm || d.link.ideIo) = true →
        ∃ e, exec (.ideIntegrityFailure t stream) s = .next { s with dev := e } ∧ ended 7 false (some (d.now + 80 * msec)) e ∧ wiped e) ∧
      (∃ e, exec (.referenceClockLoss t) s = .next { s with dev := e } ∧ ended 8 false none e ∧ kept e ∧ e.link.refClock = false))

/-- The link's return, and vectors (10 R287, R289, R293, R303, R310, Table 10.16): a link that may train comes up in its mode and width; a retrain changes
the width alone; nothing that may be sent stays held or pending once DMA is possible; a mask bit or the function mask lets pending vectors go. -/
def Obligations.LinkReturnsAndVectorsFire : Prop :=
  ∀ (t : Nat) (s : State), let d := s.dev.at_ t
    let flowing (e : Device) : Prop := e.dmaUp = true → e.rk.cq.held = [] ∧ e.msix.open_ = true ∧ (e.msix.funcMask = false → e.msix.pending &&& ~~~e.msix.mask = 0)
    (∀ mode width, d.mayTrain = true → linkShapeOk mode width = true →
      ∃ e, exec (.linkUp t mode width) s = .next { s with dev := e } ∧ e.link.up = true ∧ e.link.mode = mode ∧ e.link.width = width ∧ e.link.training = none ∧
        e.link.hostResets = d.link.hostResets ∧ flowing e) ∧
    (∀ width, d.link.up = true → linkShapeOk d.link.mode width = true →
      let x := { d.link with width := width }
      let a : Device := { d with link := x }
      exec (.linkRetrain t width) s = .next { s with dev := a.raise ((if width < 16 then [(434, det2 d.link.mode width)] else []) ++
        (if a.hostReadRate < a.hostCharges then [(435, a.hostCharges / 1000000)] else [])) }) ∧
    (d.link.perst = true → ∃ e, exec (.perstRelease t) s = .next { s with dev := e } ∧ e.link.perst = false ∧
      e.link.training = if 3 ≤ d.link.bootStage then some (d.now + 80 * msec) else none) ∧
    (d.link.disabled = true → ∃ e, exec (.linkDisable t false) s = .next { s with dev := e } ∧ e.link.disabled = false ∧
      e.link.training = some (d.now + 80 * msec)) ∧
    (∀ on, d.link.up = true → ∃ e, exec (.busMasterEnable t on) s = .next { s with dev := e } ∧ e.link.bme = on ∧ flowing e) ∧
    (∀ hot, d.link.up = true → ∃ e, exec (.powerStateChange t hot) s = .next { s with dev := e } ∧ e.link.d3hot = hot ∧ flowing e) ∧
    (∀ (v : Fin 256) (masked func : Bool), d.link.up = true → ∃ e, exec (.msixUnmask t v masked func) s = .next { s with dev := e } ∧
      e.msix.funcMask = (if func then masked else d.msix.funcMask) ∧
      (∀ w : Nat, w < 256 → e.msix.mask.getLsbD w = if func = false ∧ w = v.val then masked else d.msix.mask.getLsbD w) ∧
      (d.msix.open_ = true → e.msix.funcMask = false → ∀ w : Nat, w < 256 → d.msix.pending.getLsbD w = true →
        e.msix.pending.getLsbD w = e.msix.mask.getLsbD w ∧ (e.msix.mask.getLsbD w = false → w ∈ e.msix.sent))) ∧
    (∀ count, 1000 < count → ∃ e, exec (.linkReplayStorm t count) s = .next { s with dev := e } ∧ e.link.replays = count ∧ e.code = d.code ∧ e.rk = d.rk) ∧
    (∀ c : Fin 64, exec (.cxlCacheRefused t c) s = .next { s with dev := d.raise [(438, c.val)] }) ∧
    (∀ old, d.rk.cq.count ≠ 0 → ∃ e, exec (.dmaWriteRefused t old) s = .next { s with dev := e } ∧
      e.rk.cq = { d.rk.cq with error := true, errorCode := 3 } ∧ e.rk.rings = d.rk.rings)

/-- Accesses of the HDM window and of BAR0 (10 R297, R298, R301, R302; 00 R13, R16; 11 R317): inside the window a read gives the bytes or says they are
poisoned, and a write stores every byte that lies in a quarter in service and clears the poison of the bursts it covers; beyond it there is no address. A BAR0
write acts as the row of its register, an unsupported one raises E437 alone. -/
def Obligations.WindowAndRegisterAccesses : Prop :=
  ∀ (t : Nat) (s : State), let d := s.dev.at_ t
    (∀ off n, 2 ^ 34 < off + n → exec (.hdmWindowRead t off n) s = .fault (.outsideWindow off)) ∧
    (∀ off (b : Bytes), 2 ^ 34 < off + b.length → exec (.hdmWindowWrite t off b) s = .fault (.outsideWindow off)) ∧
    (∀ off n, off + n ≤ 2 ^ 34 → d.link.up = true →
      (d.rangeUp off n = true → d.poisoned off n = false →
        exec (.hdmWindowRead t off n) s = .next { s with dev := d.replyData (memBytes d.mem.hdm off n) }) ∧
      (d.rangeUp off n = true → d.poisoned off n = true → ∃ e, exec (.hdmWindowRead t off n) s = .next { s with dev := e } ∧ e.link.reply = ⟨[], true, false⟩) ∧
      (d.rangeUp off n = false → ∃ e, exec (.hdmWindowRead t off n) s = .next { s with dev := e } ∧
        e.link.reply = ⟨[], !d.link.bar4, d.link.bar4⟩ ∧ e.mem = d.mem)) ∧
    (∀ off (b : Bytes), off + b.length ≤ 2 ^ 34 → d.link.up = true →
      ∃ e, exec (.hdmWindowWrite t off b) s = .next { s with dev := e } ∧
        (∀ a, memRead e.mem.hdm a = if off ≤ a ∧ a < off + b.length ∧ d.groupUp (a / 2 ^ 32) = true then b.getD (a - off) 0 else memRead d.mem.hdm a) ∧
        (∀ k, k ∈ e.mem.poison ↔ k ∈ d.mem.poison ∧ ¬(off ≤ 64 * k ∧ 64 * k + 64 ≤ off + b.length ∧ d.groupUp (64 * k / 2 ^ 32) = true)) ∧
        e.mem.host = d.mem.host ∧ e.mem.cmdsram = d.mem.cmdsram ∧ e.rk = d.rk ∧ e.code = d.code) ∧
    (∀ off v, (off % 8 ≠ 0 ∨ off % 4 ≠ 0) → exec (.registerWrite t off v true) s = .next { s with dev := d.raise [(dtIndex 5, 0), (437, off)] }) ∧
    (∀ off, ∃ e, exec (.bar0BadAccess t off) s = .next { s with dev := e } ∧ e.link.reply = ⟨wrLE 8 0, false, false⟩ ∧ e.rk = d.rk ∧ e.sched = d.sched) ∧
    (∀ (k : Nat) (v : BitVec 64), k < 2 ^ 17 → ∃ e, exec (.registerWrite t (0x100000 + 8 * k) v true) s = .next { s with dev := e } ∧
      memBytes e.mem.cmdsram (8 * k) 8 = wrLE 8 v.toNat ∧ (∀ a, a < 8 * k ∨ 8 * k + 8 ≤ a → memRead e.mem.cmdsram a = memRead d.mem.cmdsram a) ∧
      e.mem.hdm = d.mem.hdm ∧ e.mem.host = d.mem.host ∧ e.rk = d.rk) ∧
    (∀ (r : Fin 4) (v : BitVec 64), exec (.registerWrite t (0x1000 + 128 * r.val) v true) s = exec (.ringCfgWrite t r v) s ∧
      exec (.registerWrite t (0x1008 + 128 * r.val) v true) s = exec (.cmdRingDoorbell t r (v.setWidth 32)) s) ∧
    (∀ v : BitVec 64, exec (.registerWrite t 0x1200 v true) s = exec (.cqConfigWrite t false v) s ∧
      exec (.registerWrite t 0x1208 v true) s = exec (.cqConfigWrite t true v) s ∧
      exec (.registerWrite t 0x1218 v true) s = exec (.cqReadWrite t (v.setWidth 32)) s) ∧
    (∀ (i : Fin 512) (v : BitVec 64), exec (.registerWrite t (0x10000 + 16 * i.val) v true) s = exec (.eventPendingClear t false i v) s) ∧
    (∀ off v, off < 0x1000 → off % 8 = 0 → exec (.registerWrite t off v true) s = .next { s with dev := d })

/-- Messages of DOE, SPDM, IDE_KM and MCTP (10 R304 to R306, R312, R313, R315): each is answered as its protocol says, and GET_MEASUREMENTS
returns the ten blocks of Table 17.9 or the one asked for (17 R491; the codes of SPDM are the model's, assumption 110, and the digests' preimages assumption 237). -/
def Obligations.MessagesAreAnswered : Prop :=
  ∀ (t : Nat) (s : State), let d := s.dev.at_ t
    (d.link.up = true →
      (∃ e, exec (.doeRequest t 1 0) s = .next { s with dev := e } ∧ e.link.doe = some .discovery) ∧
      (∃ e, exec (.doeRequest t 0x1E98 2) s = .next { s with dev := e } ∧
        (d.link.mode = 1 → e.link.doe = some (.cdat 380 (96000000000 * d.link.width / 16)))) ∧
      (∀ type, (type = 1 ∨ type = 2) → ∃ e, exec (.doeRequest t 1 type) s = .next { s with dev := e } ∧
        (e.link.doe.isSome = true ↔ d.link.secUp = true)) ∧
      (∀ vendor type, vendor ≠ 1 → vendor ≠ 0x1E98 → ∃ e, exec (.doeRequest t vendor type) s = .next { s with dev := e } ∧ e.link.doe = none)) ∧
    (∀ (mctp : Bool) (session : Nat) (p2 : Nat), d.link.secUp = true → (if mctp then d.mctpAsleep = false else d.link.up = true) →
      (∃ e, exec (.spdmRequest t mctp 0xE0 (session, p2)) s = .next { s with dev := e } ∧ e.link.sessions = d.link.sessions ∧
        ∃ blocks : List (Nat × Bytes), (if mctp then e.rk.mctpReply = some (.spdm blocks) else e.link.doe = some (.spdm blocks)) ∧
          (p2 = 0xFF → blocks.map (·.1) = [1, 2, 3, 4, 5, 6, 7, 8, 9, 10]) ∧ (1 ≤ p2 → p2 ≤ 10 → blocks.map (·.1) = [p2]) ∧
          (∀ b ∈ blocks, (b.1 = 2 → (d.serv.image 1).running.digest ≠ [] → b.2 = (d.serv.image 1).running.digest) ∧
            (b.1 = 3 → (d.serv.image 3).running.digest ≠ [] → b.2 = (d.serv.image 3).running.digest) ∧
            (b.1 = 4 → (d.serv.image 2).running.digest ≠ [] → b.2 = (d.serv.image 2).running.digest) ∧
            (b.1 = 6 → d.serv.update = none → b.2 = List.replicate 48 0) ∧
            (b.1 = 7 → (d.serv.image 5).running.digest ≠ [] → b.2 = (d.serv.image 5).running.digest) ∧
            (b.1 = 8 → (d.serv.image 6).running.digest ≠ [] → b.2 = (d.serv.image 6).running.digest) ∧
            (b.1 = 9 → b.2 = sha384 (d.serv.ownerChain ++ d.comp.registrations)) ∧
            (b.1 = 10 → b.2 = sha384 [BitVec.ofNat 8 d.serv.lifecycle]))) ∧
      (∃ e, exec (.spdmRequest t mctp 0xE4 (session, p2)) s = .next { s with dev := e } ∧
        e.link.sessions = if d.link.sessions.length < 4 then d.link.sessions ++ [⟨d.link.nextSession, mctp⟩] else d.link.sessions) ∧
      (∃ e, exec (.spdmRequest t mctp 0xEC (session, p2)) s = .next { s with dev := e } ∧
        (∀ z, z ∈ e.link.sessions ↔ z ∈ d.link.sessions ∧ ¬(z.id = session ∧ z.mctp = mctp)))) ∧
    (∀ (session : Nat) (cxl : Bool), d.link.up = true → d.link.secUp = true → ⟨session, false⟩ ∈ d.link.sessions →
      (if cxl then d.link.mode = 1 ∨ d.link.mode = 2 else 1 ≤ d.link.mode ∧ d.link.mode ≤ 3) →
      (∃ e, exec (.ideKmRequest t session cxl 0) s = .next { s with dev := e } ∧ (if cxl then e.link.ideCm else e.link.ideIo) = true ∧
        (if cxl then e.link.ideIo else e.link.ideCm) = if cxl then d.link.ideIo else d.link.ideCm) ∧
      (∃ e, exec (.ideKmRequest t session cxl 1) s = .next { s with dev := e } ∧ e = d) ∧
      (∃ e, exec (.ideKmRequest t session cxl 2) s = .next { s with dev := e } ∧ (if cxl then e.link.ideCm else e.link.ideIo) = false)) ∧
    (∀ (session : Nat) (cxl : Bool) (action : Fin 3), (∀ z ∈ d.link.sessions, z.id = session → z.mctp = true) →
      exec (.ideKmRequest t session cxl action) s = .next { s with dev := d }) ∧
    (∀ code, ∃ e, exec (.mctpControlMessage t code) s = .next { s with dev := e } ∧ e.rk.mctpReply = some .control ∧ e.rk.rings = d.rk.rings) ∧
    (∀ n, ∃ e, exec (.pldmSensorRequest t n) s = .next { s with dev := e } ∧ e.rk.rings = d.rk.rings ∧
      ((1 ≤ n ∧ n ≤ 12 ∧ (d.mctpAsleep = true → n = 1 ∨ n = 6 ∨ n = 11 ∨ n = 12)) →
        e.rk.mctpReply = some (.sensor (sensorValue n d) ((sensorLimits n d).1.map Int.ofNat) ((sensorLimits n d).2.map Int.ofNat))) ∧
      (¬(1 ≤ n ∧ n ≤ 12 ∧ (d.mctpAsleep = true → n = 1 ∨ n = 6 ∨ n = 11 ∨ n = 12)) → e.rk.mctpReply = some .unavailable))

/-! ### The Ranrok command interface (11) -/

/-- A command that a check refuses changes nothing (11 R321 to R323, R329, R341): for every ring command, where the entry's own checks, its block's or its chapter's
find something against it, exec answers a next state in which only the interface's accounts differ from the module with the entry taken, and the
entry's final carries the first refusal's status and detail. -/
def Obligations.RefusedCommandsChangeNothing : Prop :=
  ∀ (i : Instr) (sp : CmdSpec) (t : Nat) (ring : Fin 4) (entry : Bytes) (s : State), ringRow i = some (sp, t, ring, entry) →
    let d := takenAt t ring entry s
    let c := ctxAt sp t ring entry s
    d.implements sp.op = true → (∀ x ∈ ((s.dev.at_ t).rk.ring ring).order, x.seq ≠ ((s.dev.at_ t).rk.ring ring).taken ∧ x.final = none) →
    ∀ status detail,
      (entryCheck sp (some ring.val) c = some (status, detail) ∨
        (entryCheck sp (some ring.val) c = none ∧ blockCheck sp d false c = some (status, detail)) ∨
        (entryCheck sp (some ring.val) c = none ∧ blockCheck sp d false c = none ∧ sp.check c (aheadOf d) = some (status, detail))) →
      status ≠ stBusy →
      ∃ d', exec i s = .next { s with dev := d' } ∧ AccountsOnly d d' ∧
        (((s.dev.at_ t).rk.ring ring).order = [] →
          Tab.find (((s.dev.at_ t).rk.ring ring).done % 16) (d'.rk.ring ring).results = some ⟨c.tag, status, ring, false, detail, none, c.now⟩ ∧
          (d'.rk.ring ring).order = []) ∧
        (((s.dev.at_ t).rk.ring ring).order ≠ [] → (d'.rk.ring ring).results = ((s.dev.at_ t).rk.ring ring).results ∧
          (d'.rk.ring ring).order.map (·.final) = ((s.dev.at_ t).rk.ring ring).order.map (·.final) ++ [some ⟨c.tag, status, ring, false, detail, none, c.now⟩])

/-- RANROK_NOP and RANROK_INFO_GET (11 R351, R352): on every ring, a NOP whose HANDLE, parameters and selector are 0 passes; it changes nothing but the interface's
accounts; and its final OK is decided at its answer: it stands in its result slot at once where no earlier entry of its ring is undecided, and waits in
posting order behind them otherwise. The interface record goes to its target. -/
def Obligations.InterfaceCommandsTakeEffect : Prop :=
  ∀ (t : Nat) (ring : Fin 4) (entry : Bytes) (s : State),
    CommandDoes (.ranrokNop t ring entry) ranrokNop t ring entry s (fun _ d => d) ∧
    CommandDoes (.ranrokInfoGet t ring entry) ranrokInfoGet t ring entry s (fun c d => d.writeAt (c.p 0 8) (infoRecord d)) ∧
    (let c := ctxAt ranrokNop t ring entry s
     let g := (s.dev.at_ t).rk.ring ring
     c.flags < 8 → natBit c.flags 0 = false → rdLE c.entry 11 1 = 0 → c.effect = 0 → c.effectNs = 0 → c.effectValue = 0 → c.handle = 0 →
       rdLE c.params 0 40 = 0 →
       passes ranrokNop t ring entry s = true ∧ ∃ d', exec (.ranrokNop t ring entry) s = .next { s with dev := d' } ∧
         (g.order = [] → Tab.find (g.done % 16) (d'.rk.ring ring).results = some ⟨c.tag, stOk, ring, false, 0, none, c.now⟩ ∧
           (d'.rk.ring ring).done = satAdd max64 g.done 1 ∧ (d'.rk.ring ring).order = []) ∧
         (∀ x r, g.order = x :: r → x.final = none → x.seq ≠ g.taken → (d'.rk.ring ring).done = g.done ∧ (d'.rk.ring ring).results = g.results ∧
           (d'.rk.ring ring).order.length = g.order.length + 1))

/-- The registers of the rings (11 R318, R319, R326, R338): a TAIL within the ring is taken and stamps the entries it posts, one beyond it or backward sets ERROR with
code 1 and leaves the ring; LOG2_SIZE changes only an empty ring; BUSY_STOP clears; CQ_READ within CQ_WRITE is taken; and the completion ring changes only
while no slot is held. -/
def Obligations.RingRegistersFollowTheirRules : Prop :=
  ∀ (t : Nat) (ring : Fin 4) (s : State), let d := s.dev.at_ t
    let g := d.rk.ring ring
    let q := d.rk.cq
    (∀ tail : BitVec 32, diff32 g.tail g.head ≤ diff32 tail.toNat g.head → diff32 tail.toNat g.head ≤ g.size →
      ∃ d', exec (.cmdRingDoorbell t ring tail) s = .next { s with dev := d' } ∧
        d' = d.setRing ring { g with tail := tail.toNat, stamps := (d'.rk.ring ring).stamps } ∧
        ∀ i < diff32 tail.toNat g.tail, Tab.find ((g.tail + i) % 2 ^ 32) (d'.rk.ring ring).stamps = some d.now) ∧
    (∀ tail : BitVec 32, (diff32 tail.toNat g.head < diff32 g.tail g.head ∨ g.size < diff32 tail.toNat g.head) →
      exec (.cmdRingDoorbell t ring tail) s = .next { s with dev := (d.setRing ring { g with error := true, errorCode := 1 }).raise [(17, det2 ring 1)] }) ∧
    (∀ v : BitVec 64,
      let l := natBits v.toNat 4 4
      let on := natBit v.toNat 0
      (8 ≤ l → l ≤ 12 → (l = g.log2 ∨ g.head = g.tail) →
        exec (.ringCfgWrite t ring v) s = .next { s with dev := d.setRing ring { g with enable := on, log2 := l } }) ∧
      (8 ≤ l → l ≤ 12 → l ≠ g.log2 → g.head ≠ g.tail →
        exec (.ringCfgWrite t ring v) s = .next { s with dev := (d.setRing ring { g with error := true, errorCode := 3 }).raise [(17, det2 ring 3)] }) ∧
      ((l < 8 ∨ 12 < l) → ∃ d', exec (.ringCfgWrite t ring v) s = .next { s with dev := d' } ∧ (d'.rk.ring ring).log2 = g.log2 ∧
        (d'.rk.ring ring).error = true ∧ (d'.rk.ring ring).errorCode = 2)) ∧
    exec (.busyStopClear t ring) s = .next { s with dev := d.setRing ring { g with busyStop := false } } ∧
    (∀ v : BitVec 32,
      (diff32 v.toNat q.consumed ≤ diff32 q.written q.consumed →
        ∃ d', exec (.cqReadWrite t v) s = .next { s with dev := d' } ∧ d'.rk.cq = { q with consumed := v.toNat } ∧
          ∀ r, (d'.rk.ring r).cqWait = true → (d.rk.ring r).cqWait = true ∧ d'.cqShort r = true) ∧
      (diff32 q.written q.consumed < diff32 v.toNat q.consumed →
        ∃ d', exec (.cqReadWrite t v) s = .next { s with dev := d' } ∧ d'.rk.cq = { q with error := true, errorCode := 1 } ∧ d'.rk.rings = d.rk.rings)) ∧
    (∀ v : BitVec 64,
      (d.rk.cqHeld = 0 →
        (∃ d', exec (.cqConfigWrite t false v) s = .next { s with dev := d' } ∧ d'.rk.cq = { q with base := v.toNat / 64 * 64 }) ∧
        (∃ d', exec (.cqConfigWrite t true v) s = .next { s with dev := d' } ∧ d'.rk.cq = { q with
          enable := natBit v.toNat 0, log2 := natBits v.toNat 8 5, irqMode := natBits v.toNat 13 2, vector := natBits v.toNat 16 8
          count := if natBit v.toNat 0 = true ∧ q.enable = false then 0 else q.count })) ∧
      (d.rk.cqHeld ≠ 0 → ∀ cfg, ∃ d', exec (.cqConfigWrite t cfg v) s = .next { s with dev := d' } ∧
        d'.rk.cq = { q with error := true, errorCode := 2 } ∧ d'.rk.rings = d.rk.rings))

/-- How entries come in (11 R320, R324, R326 to R328, R344; 10 R314): none is taken while management firmware is down; otherwise HEAD of the ring served moves by one and its TAKEN
counts one, CR0 before the others, and the entry's command runs as it would from its own row; an entry of a stopped ring is answered BUSY with the same hint; the ring is stopped by the first. A command that waited for a unit
is decided or at work once the unit is free; an MCTP command outside R314's list is answered NOT_SUPPORTED. -/
def Obligations.EntriesAreTakenInOrder : Prop :=
  ∀ (t : Nat) (s : State), let d := s.dev.at_ t
    (∀ estimates hint, (d.rk.mgmtUp = false ∨ d.cqActive = false) → exec (.cmdEntryTake t estimates hint) s = .next { s with dev := d }) ∧
    (∀ estimates hint, d.rk.mgmtUp = true → d.cqActive = true → (∀ r < 4, d.offers r = true → d.cqShort r = false) → (∀ r < 4, (d.rk.ring r).cqWait = false) →
      ∀ r, d.nextRing = some r → (d.rk.ring r).busyStop = true →
      ∃ d', exec (.cmdEntryTake t estimates hint) s = .next { s with dev := d' } ∧ (d'.rk.ring r).head = ((d.rk.ring r).head + 1) % 2 ^ 32 ∧
        (d'.rk.ring r).taken = (d.rk.ring r).taken + 1 ∧ (d'.rk.ring r).busy = satAdd max64 (d.rk.ring r).busy 1 ∧ (d'.rk.ring r).busyStop = true ∧
        (d'.rk.ring r).busyHint = (d.rk.ring r).busyHint ∧ d'.code = d.code ∧ d'.out = d.out ∧ d'.sched = d.sched) ∧
    (∀ estimates hint, d.rk.mgmtUp = true → d.cqActive = true → let a := (List.range 4).foldl Device.stallRing d
      ∀ r sp, a.nextRing = some r → a.mustBusy r (estimates.getD r 0) = false → a.headBad r = false → specOf (rdLE (a.headEntry r) 0 2) = some sp →
      let g := a.rk.ring r
      let e := a.headEntry r
      let b := (a.setRing r { g with head := (g.head + 1) % 2 ^ 32, stamps := Tab.del g.head g.stamps }).takeEntry r e (some (a.headStamp r))
      exec (.cmdEntryTake t estimates hint) s = .next { s with dev := runTaken sp r ⟨.ring r g.taken, e, b.fetchBlock sp e, d.now⟩ b }) ∧
    ((∀ r, d.nextRing = some r → r < 4 ∧ d.offers r = true ∧ d.cqShort r = false ∧
        (d.offers 0 = true → d.cqShort 0 = false → r = 0) ∧ (r ≠ 0 → ∀ k < 4, d.offers k = true → d.cqShort k = false → d.answerBy r ≤ d.answerBy k)) ∧
      (d.nextRing = none → ∀ r < 4, d.offers r = true → d.cqShort r = true)) ∧
    (∀ w rest, takeWork (fun w => !d.unitHeld w.unit) d.rk.waiting = some (w, rest) → ∀ sp, specOf w.op = some sp →
      sp.check { w.ctx with now := d.now } (aheadOf { d with rk := { d.rk with waiting := rest } }) = none →
      exec (.unitReleased t) s = .next { s with dev :=
        (sp.apply { w.ctx with now := d.now } { d with rk := { d.rk with waiting := rest } }).settle { w.ctx with now := d.now } }) ∧
    (∀ entry : Bytes, d.rk.mctpOpen = false → d.mctpAsleep = false → d.rk.mgmtUp = true →
      ∃ d', exec (.mctpVendorMessage t entry) s = .next { s with dev := d' } ∧
        (mctpOpcodes.contains (rdLE (entry64 entry) 0 2) = false → d'.rk.mctpCount = d.rk.mctpCount + 1 ∧ d'.rk.rings = d.rk.rings ∧ d'.code = d.code ∧ d'.modes = d.modes ∧
          d'.rk.mctpReply = some (.record ⟨rdLE (entry64 entry) 4 4, stNotSupported, 0, false, 0, none, d.now⟩)) ∧
        (rdLE (entry64 entry) 0 2 = 0x0002 → entryCheck ranrokNop none ⟨.mctp, entry64 entry, [], d.now⟩ = none →
          blockCheck ranrokNop d true ⟨.mctp, entry64 entry, [], d.now⟩ = none → rdLE (entry64 entry) 8 2 = 0 → d.rescue = false →
          d'.rk.mctpReply = some (.record ⟨rdLE (entry64 entry) 4 4, stOk, 0, false, 0, none, d.now⟩)))

/-! ### DRAM (12) -/

/-- The address map (12 R357): within a group and a grain of 256 bytes to 16 KiB, every data burst lies in a channel of the group, in a page below 2^20 and a slot below 31,
and two addresses lie in the same place only if they lie in the same burst. Consecutive pages of a channel lie in different bank groups, within a row of 16 pages. -/
def Obligations.TheAddressMapIsOneToOne : Prop :=
  ∀ (g k a b : Nat), 8 ≤ k → k ≤ 14 → a < groupBytes → b < groupBytes →
    (let p := dramPlace g k a
     8 * g ≤ p.channel ∧ p.channel < 8 * g + 8 ∧ p.page < 2 ^ 20 ∧ p.slot < 31 ∧ p.bank < 16 ∧ p.row < 2 ^ 16) ∧
    (dramPlace g k a = dramPlace g k b ↔ a / 64 = b / 64) ∧
    ((dramPlace g k b).page = (dramPlace g k a).page + 1 → (dramPlace g k b).row = (dramPlace g k a).row →
      (dramPlace g k b).bank % 4 ≠ (dramPlace g k a).bank % 4)

/-- Every memory command that passes its checks and whose unit is free has its effect (12 R358, R378 to R382; Tables 12.12, 12.13). -/
def Obligations.MemoryCommandsTakeEffect : Prop :=
  ∀ (t : Nat) (ring : Fin 4) (entry : Bytes) (s : State),
    (let c := ctxAt memGroupRetire t ring entry s
     let d := takenAt t ring entry s
     let g := d.dram.group c.handle
     passes memGroupRetire t ring entry s = true → ∃ d', exec (.memGroupRetire t ring entry) s = .next { s with dev := d' } ∧
       (2 ≤ g.service → d'.dram = d.dram) ∧
       (g.service < 2 → c.p 0 1 = 1 → (d'.dram.group c.handle).service = g.service ∧ (d'.dram.group c.handle).retire = some (g.retire.getD (255, 0)) ∧
         d'.dram.places = d.dram.places ∧ d'.code = d.code) ∧
       (g.service = 0 → c.p 0 1 = 0 → (d'.dram.group c.handle).service = 1 ∧ (d'.dram.group c.handle).drainBy = some (d.now + d.drainTime) ∧
         d'.code.channels = d.code.channels)) ∧
    (let c := ctxAt memGroupRetrain t ring entry s
     let d := takenAt t ring entry s
     passes memGroupRetrain t ring entry s = true → memGroupRetrain.atOnce c d = true →
       ∃ d', exec (.memGroupRetrain t ring entry) s = .next { s with dev := d' } ∧ (d'.dram.group c.handle).service = 3 ∧
         (∀ j < 8, (d'.dram.chan (8 * c.handle + j)).cause = 0 ∧ (d'.dram.chan (8 * c.handle + j)).corrected = (d.dram.chan (8 * c.handle + j)).corrected) ∧
         d'.rk.works = d.rk.works ++ [⟨0x0802, c, 0x500 + c.handle, none⟩] ∧ d'.dram.places = d.dram.places) ∧
    (let c := ctxAt memGroupTest t ring entry s
     let d := takenAt t ring entry s
     passes memGroupTest t ring entry s = true → memGroupTest.atOnce c d = true →
       ∃ d', exec (.memGroupTest t ring entry) s = .next { s with dev := d' } ∧ (d'.dram.group c.handle).service = 3 ∧ (d'.dram.group c.handle).testFails = 0 ∧
         d'.rk.works = d.rk.works ++ [⟨0x0803, c, 0x500 + c.handle, none⟩] ∧ d'.dram.chans = d.dram.chans) ∧
    (let c := ctxAt memGroupRestore t ring entry s
     let d := takenAt t ring entry s
     passes memGroupRestore t ring entry s = true →
       ∃ d', exec (.memGroupRestore t ring entry) s = .next { s with dev := d' } ∧ (d'.dram.group c.handle).service = 4 ∧
         d'.rk.works = d.rk.works ++ [⟨0x0804, c, 0, none⟩]) ∧
    (let c := ctxAt memGrainSet t ring entry s
     let d := takenAt t ring entry s
     passes memGrainSet t ring entry s = true →
       ∃ d', exec (.memGrainSet t ring entry) s = .next { s with dev := d' } ∧ (d'.dram.group c.handle).grainLog2 = c.p 0 1 ∧
         (∀ k, k ≠ c.handle → d'.dram.group k = d.dram.group k) ∧ (∀ a, a / 2 ^ 32 ≠ c.handle → memRead d'.mem.hdm a = memRead d.mem.hdm a)) ∧
    CommandDoes (.memChannelDiagGet t ring entry) memChannelDiagGet t ring entry s (fun c d =>
      let e := d.measureChan c.handle
      let e0 : Device := { e with free := d.free }
      e.writeAt (c.p 0 8) (diagRecord c.handle e0)) ∧
    CommandDoes (.memStatusGet t ring entry) memStatusGet t ring entry s (fun c d =>
      (d.measureGroup c.handle).writeAt (c.p 0 8) (groupRecord c.handle (d.measureGroup c.handle)))

/-- What happens to the DRAM (12 R363 to R365, R372 to R374, R378 to R380): each happening whose condition holds has its effect and answers a next state. A retired group is
out of service with nothing left in its window quarter; the returns of retrain, test and restore follow Table 12.8. -/
def Obligations.MemoryHappeningsTakeEffect : Prop :=
  ∀ (t : Nat) (s : State), let d := s.dev.at_ t
    (∀ (g : Fin 4) (a requester id syndrome : Nat) (history : List Nat), a < groupBytes → (d.dram.group g).service < 2 →
      let p := dramPlace g (d.dram.group g).grainLog2 a
      (d.dram.chan p.channel).cause = 0 →
      ∃ d', exec (.dramUncorrectableRead t g a requester id syndrome history) s = .next { s with dev := d' } ∧
        (d'.dram.group g).uncorrectable = satAdd max64 (d.dram.group g).uncorrectable 1 ∧ (d'.dram.group g).service = (d.dram.group g).service ∧
        (2 ^ 32 ≤ a → (d'.dram.chan p.channel).cause = 1 ∧ (d'.dram.chan p.channel).address = a ∧ (d'.dram.chan p.channel).freezeTime = d.now ∧
          (d'.dram.chan p.channel).slot = p.slot ∧ (d'.dram.chan p.channel).bank = p.bank ∧ (d'.dram.group g).retire.isSome = true) ∧
        (a < 2 ^ 32 → (lastSecond d.now (d.dram.chan p.channel).windowErrs).length < 16 →
          (g.val * 2 ^ 32 + a) / 64 ∈ d'.mem.poison ∧ (d'.dram.chan p.channel).cause = 0 ∧ (d'.dram.group g).retire = (d.dram.group g).retire) ∧
        (a < 2 ^ 32 → 16 ≤ (lastSecond d.now (d.dram.chan p.channel).windowErrs).length → (d'.dram.chan p.channel).cause = 4)) ∧
    (∀ (c : Fin 32) (rule : Fin 11) (bank page slot requester id a : Nat) (history : List Nat), (d.dram.group (c.val / 8)).service < 2 → (d.dram.chan c).cause = 0 →
      ∃ d', exec (.dramCommandError t c rule bank page slot requester id a history) s = .next { s with dev := d' } ∧
        (d'.dram.chan c).cause = (if rule.val = 0 then 3 else 2) ∧ (d'.dram.chan c).rule = rule.val ∧ (d'.dram.chan c).history = history.take 64 ∧
        (d'.dram.group (c.val / 8)).retire.isSome = true) ∧
    (∀ (g : Fin 4) (a : Nat), a < groupBytes → (d.dram.group g).service < 2 →
      let c := (dramPlace g (d.dram.group g).grainLog2 a).channel
      ∃ d', exec (.dramCorrection t g a) s = .next { s with dev := d' } ∧ (d'.dram.group g).corrected = satAdd max64 (d.dram.group g).corrected 1 ∧
        (d'.dram.chan c).corrected = satAdd max64 (d.dram.chan c).corrected 1 ∧ d'.code = d.code) ∧
    (∀ bursts, d.modes.throttleIo = 0 → ∃ d', exec (.patrolScrub t bursts) s = .next { s with dev := d' } ∧
      d'.dram.scrubPos = (d.dram.scrubPos + bursts) % dramBursts ∧ d'.mem = d.mem ∧ d'.events = d.events) ∧
    (∀ (c : Fin 32) (b : Fin 16) (placed : Nat), ∃ d', exec (.refreshDue t c b placed) s = .next { s with dev := d' } ∧
      Tab.read (d'.dram.chan c).owed b 0 = Tab.read (d.dram.chan c).owed b 0 + 1 - placed ∧ d'.code = d.code ∧ d'.dram.groups = d.dram.groups) ∧
    (∀ (c : Fin 32) (b : Bytes), (d.dram.group (c.val / 8)).service < 2 → (d.dram.chan c).cause = 0 →
      ∃ d', exec (.wck2dqTrack t c b) s = .next { s with dev := d' } ∧ (d'.dram.chan c).training = b ∧ d'.mem = d.mem ∧ d'.dram.groups = d.dram.groups) ∧
    (∀ (g : Fin 4) (frozen cause : Nat), (d.dram.group g).retire = some (frozen, cause) → (d.dram.group g).service < 2 →
      ∃ d', exec (.groupRetirement t g) s = .next { s with dev := d' } ∧ (d'.dram.group g).service = 2 ∧ (d'.dram.group g).retire = none ∧
        (d'.dram.group g).retrained = false ∧ (d'.dram.group g).ready = false ∧ (d'.dram.group g).lastRetire = d.now ∧
        (d'.dram.group g).retirements = satAdd max64 (d.dram.group g).retirements 1 ∧
        ((d.dram.places.map (·.1)).Pairwise (· < ·) → ∀ c p, Tab.find c d'.dram.places = some p → p.bare = false → p.home ≠ g.val)) ∧
    (∀ g : Fin 4, (d.dram.group g).service = 1 → (d.setsIn g = [] ∨ ∃ b, (d.dram.group g).drainBy = some b ∧ b ≤ d.now) →
      ∃ d', exec (.groupDrainDone t g) s = .next { s with dev := d' } ∧ (d'.dram.group g).service = 2 ∧ (d'.dram.group g).drainBy = none ∧ d'.code = d.code) ∧
    (∀ (g : Fin 4) (mask : Fin 256) (trained : List (Bytes × Bytes)) (w : Work), w ∈ d.rk.works → w.op = 0x0802 → w.ctx.handle = g.val →
      ∃ d', exec (.memGroupRetrainDone t g mask trained) s = .next { s with dev := d' } ∧ (d'.dram.group g).service = 2 ∧
        (d'.dram.group g).retrained = ((d.dram.group g).retrained || mask.val == 0) ∧ d'.rk.works.length + 1 = d.rk.works.length) ∧
    (∀ (g : Fin 4) (failing : Nat) (w : Work), w ∈ d.rk.works → w.op = 0x0803 → w.ctx.handle = g.val →
      ∃ d', exec (.memGroupTestDone t g failing) s = .next { s with dev := d' } ∧ (d'.dram.group g).service = 2 ∧
        (d'.dram.group g).ready = ((d.dram.group g).ready || ((d.dram.group g).retrained && decide (failing + (d.dram.group g).testFails = 0))) ∧
        d'.rk.works.length + 1 = d.rk.works.length) ∧
    (∀ g : Fin 4, (d.dram.group g).service = 4 → ∃ d', exec (.memGroupRestoreDone t g) s = .next { s with dev := d' } ∧ (d'.dram.group g).service = 0)

/-! ### The journal and the check units (13) -/

/-- The check units' three CRCs (13 R390, R410, R412): a long range can be checked in pieces; a value fits its polynomial's width; a string with one byte changed,
whatever stands around it, has another value; a string followed by its own value always leaves the same register; and a record is stored in a
multiple of 8 bytes with the CRC-32C of header bytes 0 to 35 at offset 36. -/
def Obligations.CheckValuesCatchEveryChangedByte : Prop :=
  (∀ (k : Nat) (a b : Bytes), k < 3 →
    let n := if k < 2 then 4 else 8
    crcRun k (crcOnes k) (a ++ b) = crcRun k (crcRun k (crcOnes k) a) b ∧
    crcValue k (crcRun k (crcOnes k) a) ≤ crcOnes k ∧
    (∀ x y : Byte, x ≠ y → crcValue k (crcRun k (crcOnes k) (a ++ x :: b)) ≠ crcValue k (crcRun k (crcOnes k) (a ++ y :: b))) ∧
    crcRun k (crcOnes k) (a ++ wrLE n (crcValue k (crcRun k (crcOnes k) a))) = crcRun k (crcOnes k) (wrLE n 0)) ∧
  (∀ r : JRec, r.stored.length = r.size ∧ r.size % 8 = 0 ∧ rdLE r.stored 36 4 = crc32c (r.stored.take 36))

/-- Every journal and check command that passes its checks has its effect (13 R386 to R388, R397 to R400, R406 to R409, R411, R412, R414). -/
def Obligations.JournalCommandsTakeEffect : Prop :=
  ∀ (t : Nat) (ring : Fin 4) (entry : Bytes) (s : State),
    (let c := ctxAt journalSessionOpen t ring entry s
     let d := takenAt t ring entry s
     passes journalSessionOpen t ring entry s = true →
       ∃ d', exec (.journalSessionOpen t ring entry) s = .next { s with dev := d' } ∧ d'.journal = { d.journal with testing := true } ∧
         d'.rk.works = d.rk.works ++ [⟨0x0901, c, 0, none⟩]) ∧
    (let d := takenAt t ring entry s
     passes journalSessionClose t ring entry s = true →
       ∃ d', exec (.journalSessionClose t ring entry) s = .next { s with dev := d' } ∧
         (d.journal.session = 0 → d'.journal = d.journal) ∧
         (d.journal.session = 1 → d.journal.batches = [] → d.journal.batchAt = none → d'.journal.session = 0 ∧ d'.journal.cacheMib = 0) ∧
         (d.journal.session = 1 → (∃ x ∈ d.journal.batches, True) → d'.journal.session = 2 ∧ d'.journal.closing = 0 ∧ d'.journal.batchAt = none ∧
           ∀ r ∈ d.journal.recs, r ∈ d'.journal.recs)) ∧
    (let c := ctxAt journalServiceSet t ring entry s
     let d := takenAt t ring entry s
     passes journalServiceSet t ring entry s = true → journalServiceSet.atOnce c d = true →
       ∃ d', exec (.journalServiceSet t ring entry) s = .next { s with dev := d' } ∧ (d'.journal.svc c.handle).cls = c.p 0 1 ∧
         (d'.journal.svc c.handle).retainS = c.p 4 4 ∧ (d'.journal.svc c.handle).seq = (d.journal.svc c.handle).seq ∧
         (∀ n, n ≠ c.handle → d'.journal.svc n = d.journal.svc n) ∧
         (∀ r ∈ d.journal.recs, (r.ofService c.handle = false ∨ d.journal.holds r = true ∨
           (∀ x ∈ d.journal.recs, x.ofService c.handle = true → x.committed = true → x.time ≤ r.time + c.p 4 4 * second)) → r ∈ d'.journal.recs) ∧
         (∀ r ∈ d'.journal.recs, r ∈ d.journal.recs)) ∧
    CommandStages (.journalServiceSet t ring entry) journalServiceSet t ring entry s ∧
    (let c := ctxAt journalMarkPin t ring entry s
     let d := takenAt t ring entry s
     passes journalMarkPin t ring entry s = true →
       ∃ d', exec (.journalMarkPin t ring entry) s = .next { s with dev := d' } ∧
         Tab.find c.handle d'.journal.marks = some ⟨c.p 0 2, c.timeAt 8, c.timeAt 24⟩ ∧
         (∀ k, k ≠ c.handle → Tab.find k d'.journal.marks = Tab.find k d.journal.marks) ∧
         (∀ r ∈ d.journal.recs, r.source = c.p 0 2 → c.timeAt 8 ≤ r.time → r.time < c.timeAt 24 → r ∈ d'.journal.recs)) ∧
    (let c := ctxAt journalMarkRelease t ring entry s
     let d := takenAt t ring entry s
     (d.journal.marks.map (·.1)).Pairwise (· < ·) → passes journalMarkRelease t ring entry s = true →
       ∃ d', exec (.journalMarkRelease t ring entry) s = .next { s with dev := d' } ∧ Tab.find c.handle d'.journal.marks = none ∧
         (∀ k, k ≠ c.handle → Tab.find k d'.journal.marks = Tab.find k d.journal.marks) ∧ d'.journal.services = d.journal.services) ∧
    (let c := ctxAt journalReplayStart t ring entry s
     let d := takenAt t ring entry s
     passes journalReplayStart t ring entry s = true →
       ∃ d' r, exec (.journalReplayStart t ring entry) s = .next { s with dev := d' } ∧ Tab.find c.handle d'.journal.replays = some r ∧
         r.source = c.b 2 2 ∧ r.target = c.b 4 2 ∧ r.from_ = timeOfWord c.block 8 ∧ r.to_ = timeOfWord c.block 24 ∧ r.stopAt = none ∧
         d.now + 100 * msec ≤ r.start ∧ (d.now + 100 * msec ≤ c.effectTime → c.effect = 2 → r.start = c.effectTime) ∧
         r.shift = r.start - d.journal.firstFrom r.source r.from_ r.to_ ∧ d'.journal.recs = d.journal.recs) ∧
    (let c := ctxAt journalReplayStop t ring entry s
     let d := takenAt t ring entry s
     ∀ r, Tab.find c.handle d.journal.replays = some r → passes journalReplayStop t ring entry s = true →
       ∃ d', exec (.journalReplayStop t ring entry) s = .next { s with dev := d' } ∧
         (c.effect = 2 → d.now < c.effectTime → Tab.find c.handle d'.journal.replays = some { r with stopAt := some c.effectTime }) ∧
         (c.effect = 0 → (d.journal.replays.map (·.1)).Pairwise (· < ·) → Tab.find c.handle d'.journal.replays = none) ∧
         (∀ p x, Tab.find p d'.sched.ports = some x → ∀ k ∈ x.due, k.kind = 3 ∨ k.service ≠ r.target ∨
           k.base < (if c.effect = 2 then Nat.max d.now c.effectTime else d.now))) ∧
    (let c := ctxAt journalExport t ring entry s
     let d := takenAt t ring entry s
     passes journalExport t ring entry s = true → ∃ d', exec (.journalExport t ring entry) s = .next { s with dev := d' } ∧
       d'.rk.works = d.rk.works ++ [⟨0x0908, c, 0, none⟩] ∧ d'.journal = d.journal ∧ d'.mem.hdm = d.mem.hdm) ∧
    (let c := ctxAt energyTest t ring entry s
     let d := takenAt t ring entry s
     passes energyTest t ring entry s = true → ∃ d', exec (.energyTest t ring entry) s = .next { s with dev := d' } ∧
       d'.rk.works = d.rk.works ++ [⟨0x0909, c, 0, none⟩] ∧ d'.journal.testing = true ∧ d'.journal.session = d.journal.session ∧
       (∀ r ∈ d.journal.recs, r ∈ d'.journal.recs)) ∧
    CommandDoes (.journalStatusGet t ring entry) journalStatusGet t ring entry s (fun c d =>
      d.writeAt (c.p 0 8) (if c.handle = 0 then d.journalRecord else d.journalSvcRecord (c.handle - 0x1000))) ∧
    CommandDoes (.checkContextSet t ring entry) checkContextSet t ring entry s (fun c d =>
      let x := d.checks.ctx c.handle
      d.setCheck c.handle (if c.p 1 1 = 0 then { x with mode := 0, state := 0 }
        else ⟨c.p 0 1, c.p 1 1, 1, x.owner, x.channel, if natBit (c.p 2 1) 0 then c.p 20 8 else crcOnes (c.p 0 1), 0, c.p 4 8, c.p 12 8, c.p 28 8⟩)) ∧
    (let c := ctxAt checkContextGet t ring entry s
     let d := takenAt t ring entry s
     passes checkContextGet t ring entry s = true → (d.checks.ctx c.handle).owner = 0 →
       ((d.checks.ctx c.handle).state = 1 → ∃ d', exec (.checkContextGet t ring entry) s = .next { s with dev := d' } ∧
         d'.rk.works = d.rk.works ++ [⟨0x090C, c, 0, none⟩] ∧ d'.checks = d.checks ∧ d'.mem.hdm = d.mem.hdm) ∧
       ((d.checks.ctx c.handle).state ≠ 1 → ∃ d', exec (.checkContextGet t ring entry) s = .next { s with dev := d' } ∧
         AccountsOnly (d.writeAt (c.p 0 8) (checkRecord c.handle d)) d'))

/-- What happens in the journal and the check units (13 R387, R391 to R395, R397 to R405, R408, R409, R412): each happening whose condition holds has its effect and
answers a next state; a packet offered to the journal always advances its SEQ by one, is stored as the newest record or counted as lost, and never
changes a record already held; and a new block is a free one with the lowest erase count (R394). -/
def Obligations.JournalHappeningsTakeEffect : Prop :=
  ∀ (t : Nat) (s : State), let d := s.dev.at_ t
    (∀ src launch first audio payload,
      let e := d.journalPacket src launch first audio payload
      (e.journal.svc src).seq = (d.journal.svc src).seq + 1 ∧ d.journal.recs <+: e.journal.recs ∧
      (d.journal.session ≠ 1 → e.journal.recs = d.journal.recs ∧ (e.journal.svc src).notJournalled = satAdd max64 (d.journal.svc src).notJournalled 1) ∧
      (d.journal.session = 1 → (d.journal.svc src).pendingLost = 0 → d.journal.roomFor (roundUp (44 + payload.length) 8) = true →
        ∃ r, e.journal.recs = d.journal.recs ++ [r] ∧ r.kind = 1 ∧ r.source = src ∧ r.seq = (d.journal.svc src).seq ∧ r.time = launch ∧ r.payload = payload ∧
          r.committed = false) ∧
      (d.journal.session = 1 → (d.journal.svc src).pendingLost = 0 → d.journal.roomFor (roundUp (44 + payload.length) 8) = false →
        e.journal.recs = d.journal.recs ∧ (e.journal.svc src).pendingLost = 1 ∧ (e.journal.svc src).lost = satAdd max64 (d.journal.svc src).lost 1)) ∧
    (∀ n x, d.journal.services.find? (fun e => e.2.pendingLost != 0) = some (n, x) → d.journal.svc n = x → d.journal.session = 1 → d.journal.roomFor 64 = true →
      ∃ d' r, exec (.gapRecordWrite t) s = .next { s with dev := d' } ∧ d'.journal.recs = d.journal.recs ++ [r] ∧ r.kind = 4 ∧ r.source = n ∧
        r.lost = x.pendingLost ∧ r.cause = x.pendingCause ∧ (d'.journal.svc n).pendingLost = 0 ∧ (d'.journal.svc n).seq = x.seq) ∧
    (∀ b, d.journal.batchAt = some b → (b + 50 * msec ≤ d.now ∨ 32 * mib ≤ Tab.read d.journal.batches d.journal.batch 0) →
      ∃ d' r, exec (.batchCommit t) s = .next { s with dev := d' } ∧ d'.journal.recs = d.journal.recs ++ [r] ∧ r.kind = 5 ∧ r.batch = d.journal.batch ∧
        d'.journal.batch = d.journal.batch + 1 ∧ d'.journal.batchAt = none ∧ d'.journal.services = d.journal.services) ∧
    (∀ (b : Nat) (wear : Fin 101), d.journal.stopped = 0 → b < d.journal.batch → (Tab.find b d.journal.batches).isSome = true →
      ∃ d', exec (.batchProgrammed t b wear) s = .next { s with dev := d' } ∧ (∀ r ∈ d'.journal.recs, r.batch = b → r.kind = 1 → r.committed = true) ∧
        (∀ r ∈ d.journal.recs, d.journal.holds r = true → { r with committed := r.committed || r.batch == b } ∈ d'.journal.recs) ∧
        d'.journal.wear = Nat.min d.journal.wear wear ∧
        (1 ≤ wear.val → d.journal.wornOut = false → d.journal.session = 1 → d'.journal.session = 1) ∧
        (wear.val = 0 → d.journal.session = 1 → d'.journal.session ≠ 1 ∧ d'.journal.wornOut = true)) ∧
    (∀ (fc : Fin 8) block spareLow, ∃ d', exec (.nandProgramFail t fc block spareLow) s = .next { s with dev := d' } ∧
      d'.journal.grownBad = satAdd max64 d.journal.grownBad 1 ∧ d'.journal.spareLow = (d.journal.spareLow || ((if blockNumber fc block < nandBlocks then d.journal.retireBlock (blockNumber fc block) else d.journal).spareShort)) ∧ d'.journal.recs = d.journal.recs ∧
      d'.journal.batches = d.journal.batches ∧ (blockNumber fc block < nandBlocks → (d'.journal.block (blockNumber fc block)).bad = true) ∧
      (blockNumber fc block < nandBlocks → (d.journal.nand.map (·.1)).Pairwise (· < ·) → (d.journal.block (blockNumber fc block)).batches ≠ [] →
        ∀ m, d.journal.newBlock = some m → (d'.journal.block m).batches = (d.journal.block (blockNumber fc block)).batches ∧
          (d'.journal.block m).data = (d.journal.block (blockNumber fc block)).data)) ∧
    (∀ (fc : Fin 8) block stage soft half bad, ∃ d', exec (.journalScrub t fc block stage soft half bad) s = .next { s with dev := d' } ∧
      d'.journal.scrubbed = satAdd max64 d.journal.scrubbed 1 ∧ d'.journal.softDecodes = satAdd max64 d.journal.softDecodes soft ∧
      d'.journal.recs.map (fun r => (r.kind, r.source, r.seq, r.time)) = d.journal.recs.map (fun r => (r.kind, r.source, r.seq, r.time)) ∧
      ((half = true ∨ 2 ≤ stage) → d.modes.throttleIo = 0 → blockNumber fc block < nandBlocks → (d.journal.nand.map (·.1)).Pairwise (· < ·) →
        (d.journal.block (blockNumber fc block)).batches ≠ [] → d.journal.newBlock.isSome = true →
        d'.journal.relocations = satAdd max64 d.journal.relocations 1) ∧
      (∀ r ∈ d.journal.recs, (∀ x ∈ bad, x.1 ≠ r.source ∨ x.2.1 ≠ r.seq) → r ∈ d'.journal.recs)) ∧
    (d.journal.session = 1 → d.journal.testing = false → d.journal.lastTest + 86400 * second ≤ d.now →
      ∃ d', exec (.periodicEnergyTest t) s = .next { s with dev := d' } ∧ d'.journal.testing = true ∧ d'.journal.session = 1 ∧ ∀ r ∈ d.journal.recs, r ∈ d'.journal.recs) ∧
    (∀ u cap, d.journal.testing = true → d.phys.bankFull = true → d.journal.cacheBytes ≤ d.journal.limit →
      ∃ d', exec (.energyTestDone t u cap) s = .next { s with dev := d' } ∧ d'.journal.energyMj = u ∧ d'.journal.capUf = cap ∧ d'.journal.lastTest = d.now ∧
        (∀ w r, takeWork (fun w => w.op == 0x0901 || w.op == 0x0909) d.rk.works = some (w, r) → w.op = 0x0901 → d.openCheck = none →
          let g := grantFor u (cacheAsked w.ctx)
          (g % 32 = 0 ∧ g ≤ cacheAsked w.ctx) ∧
          (1752 ≤ u → 64 ≤ cacheAsked w.ctx → d.stagingGroup.isSome = true → 64 ≤ g ∧ 3 * flushEnergy g ≤ 2 * u ∧
            (cacheAsked w.ctx < g + 32 ∨ 512 < g + 32 ∨ 2 * u < 3 * flushEnergy (g + 32)) ∧ d'.journal.session = 1 ∧ d'.journal.cacheMib = g) ∧
          (u < 1752 → d'.journal.session = 0)) ∧
        (d.rk.works = [] → d.journal.session = 1 → u < 1752 → d'.journal.session ≠ 1) ∧
        (d.rk.works = [] → d.journal.session = 1 → 64 ≤ grantFor u d.journal.wanted → d'.journal.session = 1 ∧ d'.journal.cacheMib = grantFor u d.journal.wanted)) ∧
    (∀ (slot : Fin 16) r, Tab.find slot.val d.journal.replays = some r → (d.journal.replays.map (·.1)).Pairwise (· < ·) →
      ((∃ x, r.stopAt = some x ∧ x ≤ d.now) ∨ r.to_ + r.shift ≤ d.now ∨ (r.to_ ≤ d.now ∧ r.start ≤ d.now ∧ d.journal.toReplay r = [])) →
      ∃ d', exec (.replayEnd t slot) s = .next { s with dev := d' } ∧ Tab.find slot.val d'.journal.replays = none ∧
        (∀ k, k ≠ slot.val → Tab.find k d'.journal.replays = Tab.find k d.journal.replays) ∧ d'.journal.marks = d.journal.marks) ∧
    (∀ w rest, takeWork (fun w => w.op == 0x0908) d.rk.works = some (w, rest) → d.rangeUp (w.ctx.b 40 8) (w.ctx.b 48 8) = true → d.rescue = false →
      let a := exportArea (d.exported w.ctx) (w.ctx.b 48 8)
      (64 ≤ w.ctx.b 48 8 → a.2.length ≤ w.ctx.b 48 8) ∧ a.1 <+: d.exported w.ctx ∧
      ∃ d', exec (.journalExportDone t) s = .next { s with dev := d' } ∧ d'.rk.works = rest ∧
        (d.events.log.enable = false → d'.mem.hdm = (d.writeAt (w.ctx.b 40 8) a.2).mem.hdm) ∧ d'.journal.recs = d.journal.recs) ∧
    (∀ k : Fin 64, 56 ≤ k.val → (d.checks.ctx k).state = 1 → d.phys.shed < 3 →
      let x := d.checks.ctx k
      ∃ d', exec (.checkRunDone t k) s = .next { s with dev := d' } ∧ (∀ w ∈ d'.rk.works, w.op ≠ 0x090C ∨ w.ctx.handle ≠ k.val) ∧
        (d'.checks.ctx k).bytes = x.bytes + x.length ∧
        (d.poisoned x.offset x.length = false → (d'.checks.ctx k).running = crcRun x.poly x.running (d.readAt x.offset x.length)) ∧
        (d'.checks.ctx k).state = (if x.mode = 2 ∧ crcValue x.poly (d'.checks.ctx k).running ≠ x.expect then 3 else 2) ∧
        ∀ j, j ≠ k.val → d'.checks.ctx j = d.checks.ctx j) ∧
    (∀ (j : JournalState) n, (j.nand.map (·.1)).Pairwise (· < ·) → j.newBlock = some n → (j.block n).free = true ∧
      ∀ m, m < nandBlocks → (j.block m).free = true → (j.block n).erases ≤ (j.block m).erases)

/-! ### Audio ports and audio coding (14) -/

/-- Audio commands and happenings whose conditions hold take effect (14 R418 to R425, R427 to R429, R431): a port's new record is in force at once, or after the stop it
asks for, and its channels wait for their zero crossings; a pair whose input changes keeps the old one until both channels have crossed, unless it
carries zeros; a lost clock silences both channels at once and needs a supported rate and 64 stable frames; a slipping FIFO inserts or
drops whole stereo frames. -/
def Obligations.AudioTakesEffect : Prop :=
  (∀ (t : Nat) (ring : Fin 4) (entry : Bytes) (s : State),
    (let c := ctxAt audioPortSet t ring entry s
     let d := takenAt t ring entry s
     let x := d.aport c.handle
     let r := parseAPort c
     let wait (on : Bool) : Option ZcWait := if on = r.sounds then none else some ⟨r.sounds, d.now + r.zcMs * 1000 * usec⟩
     passes audioPortSet t ring entry s = true →
       ∃ d', exec (.audioPortSet t ring entry) s = .next { s with dev := d' } ∧ (∀ k, k ≠ c.handle → d'.aport k = d.aport k) ∧
         d'.audio.sources = d.audio.sources ∧
         (x.unlocked = true → (r.master = x.recd.master ∨ r.master = false) → (d'.aport c.handle).recd = r ∧ (d'.aport c.handle).leftOn = false ∧
           (d'.aport c.handle).rightOn = false ∧ (d'.aport c.handle).waitL = none ∧ (d'.aport c.handle).waitR = none ∧ d'.rk.works = d.rk.works) ∧
         (x.unlocked = false → (x.recd.enable = false ∨ x.recd.stops r = false) → (d'.aport c.handle).recd = r ∧ (d'.aport c.handle).waitL = wait x.leftOn ∧
           (d'.aport c.handle).waitR = wait x.rightOn ∧ (d'.aport c.handle).leftOn = x.leftOn ∧ (d'.aport c.handle).rightOn = x.rightOn ∧
           ((x.leftOn ≠ r.sounds ∨ x.rightOn ≠ r.sounds) → d'.rk.works = d.rk.works ++ [⟨0x0A01, c, 0, none⟩])) ∧
         (x.unlocked = false → x.recd.enable = true → x.recd.stops r = true → x.leftOn = true → x.rightOn = true →
           d'.aport c.handle = { x with next := some r, waitL := some ⟨false, d.now + x.recd.zcMs * 1000 * usec⟩, waitR := some ⟨false, d.now + x.recd.zcMs * 1000 * usec⟩ } ∧
           d'.rk.works = d.rk.works ++ [⟨0x0A01, c, 0, none⟩])) ∧
    (let c := ctxAt audioSourceSet t ring entry s
     let d := takenAt t ring entry s
     let old := Tab.read d.audio.sources c.handle ASource.reset
     passes audioSourceSet t ring entry s = true → audioSourceSet.atOnce c d = true →
       ∃ d', exec (.audioSourceSet t ring entry) s = .next { s with dev := d' } ∧ d'.audio.ports = d.audio.ports ∧
         (∀ k, k ≠ c.handle → Tab.find k d'.audio.sources = Tab.find k d.audio.sources) ∧
         (c.p 0 1 = 0 → Tab.find c.handle d'.audio.sources = none) ∧
         (c.p 0 1 ≠ 0 → ∃ y, Tab.find c.handle d'.audio.sources = some y ∧ y.rateHz = c.p 4 4 ∧ y.pairs.length = c.p 0 1 ∧
           ∀ i < c.p 0 1, let p := parsePair c i
             let fresh : Pair := { p with lost := d.pairLost p }
             (old.pairs[i]? = none → y.pairs[i]? = some fresh) ∧
             ∀ o, old.pairs[i]? = some o →
               (o.kind = p.kind ∧ o.first = p.first ∧ o.input = p.input → y.pairs[i]? = some o) ∧
               (¬(o.kind = p.kind ∧ o.first = p.first ∧ o.input = p.input) → d.pairSilent o = true → y.pairs[i]? = some fresh) ∧
               (¬(o.kind = p.kind ∧ o.first = p.first ∧ o.input = p.input) → d.pairSilent o = false → y.pairs[i]? = some o ∧
                 ∃ w ∈ y.waits, w.pair = i ∧ w.into = fresh ∧ w.due = d.pairDue p ∧ w.leftDone = false ∧ w.rightDone = false))) ∧
    CommandStages (.audioSourceSet t ring entry) audioSourceSet t ring entry s ∧
    (let c := ctxAt audioEncoderSet t ring entry s
     let d := takenAt t ring entry s
     ∀ x, Tab.find c.handle d.audio.sources = some x → passes audioEncoderSet t ring entry s = true → audioEncoderSet.atOnce c d = true →
       ∃ d', exec (.audioEncoderSet t ring entry) s = .next { s with dev := d' } ∧
         Tab.find c.handle d'.audio.sources = some { x with gainCb := gainOf c, pcmBits := if c.p 2 1 = 0 then 24 else c.p 2 1, aacBw := c.p 4 4 } ∧
         -600 ≤ gainOf c ∧ gainOf c ≤ 200 ∧ ∀ k, k ≠ c.handle → Tab.find k d'.audio.sources = Tab.find k d.audio.sources) ∧
    CommandStages (.audioEncoderSet t ring entry) audioEncoderSet t ring entry s ∧
    CommandDoes (.audioStatusGet t ring entry) audioStatusGet t ring entry s (fun c d =>
      d.writeAt (c.p 0 8) (match Tab.find (c.handle - 0x100) d.audio.sources with
        | some x => if c.handle < 8 then apRecord c.handle d else sourceRecord (c.handle - 0x100) x d
        | none => apRecord c.handle d))) ∧
  (∀ (t : Nat) (s : State), let d := s.dev.at_ t
    (∀ (n : Fin 8) change, let x := d.aport n
      x.recd.master = false → x.recd.enable = true → x.state ≠ 3 → x.next = none →
      ∃ d', exec (.audioClockLoss t n change) s = .next { s with dev := d' } ∧ (d'.aport n).state = 3 ∧ (d'.aport n).leftOn = false ∧ (d'.aport n).rightOn = false ∧
        (d'.aport n).waitL = none ∧ (d'.aport n).waitR = none ∧ (d'.aport n).clockLosses = satAdd max64 x.clockLosses 1 ∧ (d'.aport n).recd = x.recd ∧
        (∀ k, k ≠ n.val → d'.aport k = d.aport k) ∧ (x.recd.output = true → d'.audio.sources = d.audio.sources)) ∧
    (∀ (n : Fin 8) hz, let x := d.aport n
      x.state = 3 → ∃ d', exec (.audioRateMeasured t n hz) s = .next { s with dev := d' } ∧ (d'.aport n).measured = hz ∧
        ((∃ r, rateNear hz = some r ∧ (x.recd.rateHz = 0 ∨ x.recd.rateHz = r)) → (d'.aport n).state = 4 ∧ (d'.aport n).stable = 0) ∧
        ((∀ r, rateNear hz = some r → x.recd.rateHz ≠ 0 ∧ x.recd.rateHz ≠ r) → d'.aport n = { x with measured := hz })) ∧
    (∀ n : Fin 8, let x := d.aport n
      x.state = 4 → x.recd.enable = true → ∃ d', exec (.audioRelock t n) s = .next { s with dev := d' } ∧ (d'.aport n).state = 2 ∧
        (d'.aport n).waitL = (if x.leftOn = x.recd.sounds then none else some ⟨x.recd.sounds, d.now + x.recd.zcMs * 1000 * usec⟩) ∧
        (d'.aport n).waitR = (if x.rightOn = x.recd.sounds then none else some ⟨x.recd.sounds, d.now + x.recd.zcMs * 1000 * usec⟩) ∧
        ∀ k, k ≠ n.val → d'.aport k = d.aport k) ∧
    (∀ (n : Fin 256) (pair : Fin 4) (right : Bool) w, n.val < 8 → (d.aport n).waiting right = some w →
      ∃ d', exec (.zeroCrossing t false n pair right) s = .next { s with dev := d' } ∧
        (if right = true then (d'.aport n).rightOn = w.on ∧ (d'.aport n).leftOn = (d.aport n).leftOn
          else (d'.aport n).leftOn = w.on ∧ (d'.aport n).rightOn = (d.aport n).rightOn) ∧
        (d'.aport n).zcTimeouts = (d.aport n).zcTimeouts ∧ ∀ k, k ≠ n.val → d'.aport k = d.aport k) ∧
    (∀ (n : Fin 256) (pair : Fin 4) (right : Bool) w, n.val < 8 → (d.aport n).waiting right = some w → w.due ≤ d.now →
      ∃ d', exec (.zcTimeout t false n pair right) s = .next { s with dev := d' } ∧
        (if right = true then (d'.aport n).rightOn = w.on ∧ (d'.aport n).leftOn = (d.aport n).leftOn
          else (d'.aport n).leftOn = w.on ∧ (d'.aport n).rightOn = (d.aport n).rightOn) ∧
        (d'.aport n).zcTimeouts = satAdd max64 (d.aport n).zcTimeouts 1 ∧ ∀ k, k ≠ n.val → d'.aport k = d.aport k) ∧
    (∀ (n : Fin 256) (pair : Fin 4) (right : Bool) x w, Tab.find n.val d.audio.sources = some x → x.waits = [w] → w.pair = pair.val → pair.val < x.pairs.length →
      (if right = true then w.leftDone else w.rightDone) = true →
      ∃ d' y, exec (.zeroCrossing t true n pair right) s = .next { s with dev := d' } ∧ Tab.find n.val d'.audio.sources = some y ∧ y.waits = [] ∧
        y.pairs[pair.val]? = some w.into ∧ ∀ i, i ≠ pair.val → y.pairs[i]? = x.pairs[i]?) ∧
    (∀ n : Fin 8, (d.aport n).slave = true →
      (∃ d', exec (.fifoUnderrun t n) s = .next { s with dev := d' } ∧
        d'.aport n = { d.aport n with inserted := satAdd max64 (d.aport n).inserted 1, lastE5 := (d'.aport n).lastE5 } ∧ ∀ k, k ≠ n.val → d'.aport k = d.aport k) ∧
      (∃ d', exec (.fifoOverrun t n) s = .next { s with dev := d' } ∧
        d'.aport n = { d.aport n with dropped := satAdd max64 (d.aport n).dropped 1, lastE6 := (d'.aport n).lastE6 } ∧ ∀ k, k ≠ n.val → d'.aport k = d.aport k)) ∧
    (∀ (n : Fin 256) x c, d.flow? n = some x → x.capture = some c → x.recd.enable = true → x.recd.isAudio = true → c + x.recd.packetUs * usec ≤ d.now →
      ∃ d', exec (.audioPacketMissing t n) s = .next { s with dev := d' } ∧ (d'.flow? n).map (fun y => y.capture) = some (some (c + x.recd.packetUs * usec)) ∧
        (∀ k, k ≠ n.val → d'.flow? k = d.flow? k) ∧ d'.audio.sources = d.audio.sources ∧
        ∀ k p, Tab.find k d.audio.ports = some p → d.sendsFlow n p = true →
          (Tab.find k d'.audio.ports).map (fun y => y.zeroFrames) = some (satAdd max64 p.zeroFrames (x.recd.packetUs * x.recd.rateHz / 1000000))))

/-! ### Events, tallies and word queues (15) -/

/-- 15 R439, for every tally, event or device: an occurrence counts one below the largest value; at the largest value it leaves the tally there, sets its carry bit and
raises E031 with the tally's index, once: with the carry bit set it changes and raises nothing. With no log and no queues, the module's E031 is counted in its own turn. -/
def Obligations.TalliesStickAtTheirLargestValue : Prop :=
  (∀ (quarter : Nat → Bool) (now n detail : Nat) (p : EvPort),
    let r := occur quarter now n detail p
    let v := Tab.read p.events.tally n 0
    let carry := Tab.read p.events.carry n false
    (v < max64 → Tab.read r.1.events.tally n 0 = v + 1 ∧ Tab.read r.1.events.carry n false = carry ∧ (31, n) ∉ r.2) ∧
    (v = max64 → Tab.read r.1.events.tally n 0 = max64 ∧ Tab.read r.1.events.carry n false = true ∧ ((31, n) ∈ r.2 ↔ carry = false)) ∧
    (∀ k, k ≠ n → k ≠ dtIndex 7 → Tab.read r.1.events.tally k 0 = Tab.read p.events.tally k 0 ∧ Tab.read r.1.events.carry k false = Tab.read p.events.carry k false)) ∧
  (∀ (t : Nat) (n : Fin 512) (detail : BitVec 64) (s : State), let d := s.dev.at_ t
    evReserved n = false → n.val ≠ 31 → d.events.log.enable = false → d.wq.queues = [] → Tab.read d.events.tally n 0 = max64 → Tab.read d.events.tally 31 0 < max64 →
    ∃ d', exec (.eventOccurrence t n detail) s = .next { s with dev := d' } ∧ Tab.read d'.events.tally n 0 = max64 ∧ Tab.read d'.events.carry n false = true ∧
      Tab.read d'.events.tally 31 0 = Tab.read d.events.tally 31 0 + bit01 (!Tab.read d.events.carry n false))

/-- 15 R442 and R444: a 64-bit read of a tally's alias returns its value, sets it to 0 and clears its carry bit, so that every increment falls in exactly one period; a
64-bit read of WQq_DATA pops the word at the head, or returns 0, pops nothing and sets POP_EMPTY where the queue appears empty; a 32-bit read of
either returns 0, clears nothing, pops nothing, and is handled as an unsupported access: E437. -/
def Obligations.ReadsClearOrPopExactlyOnce : Prop :=
  (∀ (t : Nat) (k : Fin 896) (s : State), let d := s.dev.at_ t
    let v := Tab.read d.events.tally k 0
    ∃ d', exec (.tallySnapshotClear t k) s = .next { s with dev := d' } ∧ d'.link.reply = ⟨wrLE 8 v, false, false⟩ ∧
      Tab.read d'.events.tally k 0 = 0 ∧ Tab.read d'.events.carry k false = false ∧
      (∀ j, j ≠ k.val → Tab.read d'.events.tally j 0 = Tab.read d.events.tally j 0 ∧ Tab.read d'.events.carry j false = Tab.read d.events.carry j false) ∧
      d'.events.src = d.events.src ∧ d'.wq = d.wq ∧ d'.mem = d.mem ∧
      ∀ a b, v + a ≤ max64 → b ≤ max64 →
        Tab.read (Nat.repeat (tallyInc k) a d.events).tally k 0 = v + a ∧ Tab.read (Nat.repeat (tallyInc k) b d'.events).tally k 0 = b) ∧
  (∀ (t : Nat) (q : Fin 64) (s : State), let d := s.dev.at_ t
    let w := Tab.read d.wq.queues q WordQueue.reset
    (∀ x r, w.words = x :: r → w.seen ≠ 0 → ∃ d', exec (.wqDataPop t q) s = .next { s with dev := d' } ∧ d'.link.reply = ⟨wrLE 8 x.toNat, false, false⟩ ∧
      (let y := Tab.read d'.wq.queues q WordQueue.reset
       ∃ moved, y.words = r ++ moved.map (·.word) ∧ w.tap = moved ++ y.tap ∧ y.popEmpty = w.popEmpty) ∧
      (∀ j, j ≠ q.val → Tab.find j d'.wq.queues = Tab.find j d.wq.queues) ∧ d'.events = d.events ∧ d'.mem = d.mem) ∧
    (w.seen = 0 → ∃ d', exec (.wqDataPop t q) s = .next { s with dev := d' } ∧ d'.link.reply = ⟨wrLE 8 0, false, false⟩ ∧
      (let y := Tab.read d'.wq.queues q WordQueue.reset
       ∃ moved, y.words = w.words ++ moved.map (·.word) ∧ w.tap = moved ++ y.tap ∧ y.popEmpty = true) ∧
      (∀ j, j ≠ q.val → Tab.find j d'.wq.queues = Tab.find j d.wq.queues) ∧ d'.events = d.events ∧ d'.mem = d.mem)) ∧
  (∀ (t off : Nat) (s : State), let d := s.dev.at_ t
    ((∃ k < 896, off = 0x16000 + 8 * k ∨ off = 0x16004 + 8 * k) ∨ (∃ q < 64, off = 0x18000 + 0x40 * q ∨ off = 0x18004 + 0x40 * q)) →
    d.events.log.enable = false → (d.wq.queues.map (·.1)).Pairwise (· < ·) → (∀ e ∈ d.wq.queues, e.2.producer ≠ 1) → (∀ k, Tab.read d.events.tally k 0 < max64) →
    ∃ d', exec (.bar0BadAccess t off) s = .next { s with dev := d' } ∧ d'.link.reply = ⟨wrLE 8 0, false, false⟩ ∧
      (∀ k, Tab.read d'.events.tally k 0 = Tab.read d.events.tally k 0 + (if k = 437 ∨ k = dtIndex 5 then 1 else 0)) ∧
      (∀ j, (Tab.find j d'.wq.queues).map (fun w => (w.words, w.popEmpty)) = (Tab.find j d.wq.queues).map (fun w => (w.words, w.popEmpty))))

/-- Event and queue commands and happenings whose conditions hold take effect (15 R433, R434, R436 to R438, R445 to R448, R450, R451). -/
def Obligations.EventBlockTakesEffect : Prop :=
  (∀ (t : Nat) (ring : Fin 4) (entry : Bytes) (s : State),
    (let c := ctxAt eventRouteSet t ring entry s
     let d := takenAt t ring entry s
     passes eventRouteSet t ring entry s = true → ∃ d', exec (.eventRouteSet t ring entry) s = .next { s with dev := d' } ∧ d'.events.tally = d.events.tally ∧
       ∀ n, let x := Tab.read d.events.src n EvSrc.reset
         Tab.read d'.events.src n EvSrc.reset =
           if c.handle ≤ n ∧ n < c.handle + c.p 0 2 ∧ evReserved n = false then { x with enable := natBit (c.p 2 1) 0, route := c.p 3 1, vector := c.p 4 1 } else x) ∧
    (let c := ctxAt eventLogSet t ring entry s
     let d := takenAt t ring entry s
     passes eventLogSet t ring entry s = true → ∃ d', exec (.eventLogSet t ring entry) s = .next { s with dev := d' } ∧ d'.events.src = d.events.src ∧
       d'.events.log.offset = c.p 0 8 ∧ d'.events.log.log2 = c.p 8 1 ∧ d'.events.log.enable = natBit (c.p 9 1) 0 ∧ d'.events.log.irq = natBit (c.p 9 1) 1 ∧
       d'.events.log.vector = c.p 10 1 ∧ d'.events.log.held = d.events.log.held ∧
       (c.p 0 8 = d.events.log.offset → c.p 8 1 = d.events.log.log2 → d'.events.log.windex = d.events.log.windex) ∧
       ((c.p 0 8 ≠ d.events.log.offset ∨ c.p 8 1 ≠ d.events.log.log2) → d'.events.log.windex = 0 ∧ d'.events.log.full = false)) ∧
    (let c := ctxAt wqueueSet t ring entry s
     let d := takenAt t ring entry s
     let w := Tab.read d.wq.queues c.handle WordQueue.reset
     passes wqueueSet t ring entry s = true → ∃ d' y, exec (.wqueueSet t ring entry) s = .next { s with dev := d' } ∧ Tab.find c.handle d'.wq.queues = some y ∧
       y.producer = c.p 0 1 ∧ y.arg = c.p 2 2 ∧ y.arg2 = c.p 4 2 ∧ y.enabled = natBit (c.p 1 1) 0 ∧ y.pushed = w.pushed ∧ y.resets = w.resets ∧
       (natBit (c.p 1 1) 0 = true → y.words = w.words ∧ y.tap = w.tap ∧ y.flushing = w.flushing) ∧
       (natBit (c.p 1 1) 0 = false → y.flushing = false ∧ y.tap = [] ∧ (w.flushing = false → y.words = [])) ∧
       ∀ j, j ≠ c.handle → (Tab.find j d'.wq.queues).map (fun w => (w.words, w.tap, w.enabled, w.flushing)) =
         (Tab.find j d.wq.queues).map (fun w => (w.words, w.tap, w.enabled, w.flushing))) ∧
    (let c := ctxAt wqueueFlush t ring entry s
     let d := takenAt t ring entry s
     let w := Tab.read d.wq.queues c.handle WordQueue.reset
     passes wqueueFlush t ring entry s = true → ∃ d', exec (.wqueueFlush t ring entry) s = .next { s with dev := d' } ∧
       (w.enabled = false → d'.wq = d.wq) ∧
       (w.enabled = true → w.flushing = false → w.tap = [] →
         ∃ y, Tab.find c.handle d'.wq.queues = some y ∧ y.words = [] ∧ y.flushing = w.midItem ∧ y.flushCount = w.words.length ∧
           (w.midItem = true → y.flushCmd = [(c.origin, c.tag)] ∧ y.flushAt = d.now) ∧ (w.midItem = false → y.flushCmd = [])) ∧
       ∀ j, j ≠ c.handle → Tab.find j d'.wq.queues = Tab.find j d.wq.queues)) ∧
  (∀ (t : Nat) (s : State), let d := s.dev.at_ t
    (∀ (n : Fin 512) (detail : BitVec 64), let x := Tab.read d.events.src n EvSrc.reset
      let l := d.events.log
      evReserved n = false → d.wq.queues = [] → Tab.read d.events.tally n 0 < max64 →
      ∃ d', exec (.eventOccurrence t n detail) s = .next { s with dev := d' } ∧
        (n.val ≠ 20 → n.val ≠ 31 → n.val ≠ 436 → Tab.read d'.events.tally n 0 = Tab.read d.events.tally n 0 + 1) ∧
        (x.enable = false ∨ 2 ≤ x.route → d'.events.src = d.events.src ∧ d'.mem = d.mem ∧ d'.msix = d.msix) ∧
        (x.enable = true → x.route < 2 → l.enable = false →
          Tab.read d'.events.src n EvSrc.reset =
            { x with pending := true, rpt := x.rpt || x.pending, lastDetail := detail.toNat % 2 ^ 32, seq := (x.seq + 1) % 2 ^ 32 } ∧
          d'.msix = (if x.route = 0 ∧ x.pending = false then msixTrigger x.vector d.msix else d.msix) ∧ d'.mem = d.mem) ∧
        (x.enable = true → x.route < 2 → l.enable = true → d.groupUp (l.offset / 2 ^ 32) = true → l.held = none →
          ringFull l.windex (readIndex d.mem l.offset) (2 ^ l.log2) = false →
          memBytes d'.mem.hdm (l.offset + 4096 + 32 * (l.windex % 2 ^ l.log2)) 32 = evRecBytes ⟨n, x.lostBefore, (x.seq + 1) % 2 ^ 32, detail.toNat, d.now⟩ ∧
          memBytes d'.mem.hdm l.offset 8 = wrLE 8 (l.windex + 1) ∧ d'.events.log.windex = (l.windex + 1) % 2 ^ 64 ∧
          (Tab.read d'.events.src n EvSrc.reset).lostBefore = false ∧
          (∀ a, (a < l.offset ∨ l.offset + 8 ≤ a) → (a < l.offset + 4096 + 32 * (l.windex % 2 ^ l.log2) ∨ l.offset + 4096 + 32 * (l.windex % 2 ^ l.log2) + 32 ≤ a) →
            memRead d'.mem.hdm a = memRead d.mem.hdm a)) ∧
        (x.enable = true → x.route < 2 → l.enable = true → d.groupUp (l.offset / 2 ^ 32) = true → l.held = none → n.val ≠ 20 → Tab.read d.events.tally (dtIndex 7) 0 < max64 →
          ringFull l.windex (readIndex d.mem l.offset) (2 ^ l.log2) = true → l.wrote = false →
          d'.mem = d.mem ∧ d'.events.log.windex = l.windex ∧ d'.events.log.full = true ∧ (Tab.read d'.events.src n EvSrc.reset).lostBefore = true ∧
          (Tab.read d'.events.src n EvSrc.reset).seq = (x.seq + 1) % 2 ^ 32)) ∧
    (∀ (i : Fin 512) (v : BitVec 64), let x := Tab.read d.events.src i EvSrc.reset
      exec (.eventPendingClear t false i v) s = .next { s with dev := { d with events :=
        { d.events with src := Tab.put i { x with pending := x.pending && !natBit v.toNat 0, rpt := x.rpt && !natBit v.toNat 1 } d.events.src } } }) ∧
    (∀ (i : Fin 512) (v : BitVec 64), ∃ d', exec (.eventPendingClear t true i v) s = .next { s with dev := d' } ∧ d'.events.tally = d.events.tally ∧
      ∀ n x, Tab.find n d.events.src = some x → Tab.find n d'.events.src = some (if n / 64 = i % 8 ∧ natBit v.toNat (n % 64) = true then { x with pending := false } else x)) ∧
    (∀ r, d.events.log.held = some r → d.events.log.enable = true → d.groupUp (d.events.log.offset / 2 ^ 32) = true →
      ringFull d.events.log.windex (readIndex d.mem d.events.log.offset) (2 ^ d.events.log.log2) = false →
      ∃ d', exec (.eventLogHeldWrite t) s = .next { s with dev := d' } ∧ d'.events.log.held = none ∧ d'.events.log.windex = (d.events.log.windex + 1) % 2 ^ 64 ∧
        memBytes d'.mem.hdm (d.events.log.offset + 4096 + 32 * (d.events.log.windex % 2 ^ d.events.log.log2)) 32 = evRecBytes r ∧ d'.events.tally = d.events.tally) ∧
    (∀ (q : Fin 64) (ws : List (BitVec 64)) (last : Bool) w, Tab.find q.val d.wq.queues = some w → w.enabled = true → w.producer ≠ 1 → w.discarding = false →
      w.flushing = false → w.dropItem = false →
      (w.tap = [] → w.words.length + ws.length + 3 ≤ wqDepth q →
        ∃ d' y, exec (.wqItemPush t q ws last) s = .next { s with dev := d' } ∧ Tab.find q.val d'.wq.queues = some y ∧ y.words = w.words ++ ws ∧ y.tap = [] ∧
          y.dropped = w.dropped ∧ (ws ≠ [] → y.midItem = !last)) ∧
      (w.midItem = false → 8 ≤ (w.tap.filter (·.last)).length → wqDepth q ≤ w.words.length → ws ≠ [] →
        ∃ d' y, exec (.wqItemPush t q ws last) s = .next { s with dev := d' } ∧ Tab.find q.val d'.wq.queues = some y ∧ y.words = w.words ∧ y.tap = w.tap ∧
          y.dropped = satAdd max64 w.dropped 1)) ∧
    (∀ (q : Fin 64) w, Tab.find q.val d.wq.queues = some w → w.producer ≠ 1 → w.flushing = true → w.flushAt + msec ≤ d.now →
      ∃ d' y, exec (.wqFlushForced t q) s = .next { s with dev := d' } ∧ Tab.find q.val d'.wq.queues = some y ∧ y.flushing = false ∧ y.discarding = true ∧
        y.flushCmd = [] ∧ y.words = w.words) ∧
    (∀ (q : Fin 64) w, Tab.find q.val d.wq.queues = some w → w.producer ≠ 1 →
      ∃ d' y, exec (.wqPointerMismatch t q) s = .next { s with dev := d' } ∧ Tab.find q.val d'.wq.queues = some y ∧ y.words = [] ∧ y.resetSeen = true ∧
        y.resets = satAdd 0xFFFF w.resets 1 ∧ y.flushing = false ∧ y.flushCmd = [] ∧ (w.tap = [] → y.discarding = true)))

/-! ### Modes, clocks and power (16) -/

/-- Mode commands and happenings whose conditions hold take effect (16 R454 to R458, R461 to R464, R470, R471). -/
def Obligations.ModesTakeEffect : Prop :=
  (∀ (t : Nat) (ring : Fin 4) (entry : Bytes) (s : State),
    (let c := ctxAt modeSet t ring entry s
     let d := takenAt t ring entry s
     let m := c.p 0 1
     let asked := if c.effect = 2 then c.effectTime else 0
     let late := c.effect == 2 && Nat.blt asked d.now
     let st := if late then stStartedAt else stOk
     let moved := if late then usMoved asked d.now else 0
     passes modeSet t ring entry s = true → modeSet.atOnce c d = true → ∃ d', exec (.modeSet t ring entry) s = .next { s with dev := d' } ∧
       (d.modes.mode = mArmed → isLive m = true → d'.modes.mode = mArmed ∧ d'.code = d.code ∧
         ∃ x, d'.modes.transition = some x ∧ x.ctx = some c ∧ x.target = m ∧ x.effect = Nat.max asked (d.now + startLead) ∧ x.startMask = c.p 8 8 ∧
           (x.status = stStartedAt ↔ c.effect = 2 ∧ c.effectTime < d.now + startLead)) ∧
       (d.modes.mode = mArmed ∨ isLive d.modes.mode = false → isLive m = false → m ≠ mDrain →
         d'.modes = { d.modes with transition := some ⟨some c, m, Nat.max asked d.now, c.p 1 1, 0, st, moved⟩ } ∧ d'.code = d.code) ∧
       (isLive d.modes.mode = true → isLive m = true → d'.modes.mode = d.modes.mode ∧
         d'.modes.transition = some ⟨some c, m, Nat.max asked d.now, c.p 1 1, 0, st, moved⟩ ∧
         (∀ k, (d'.chan k).state = (d.chan k).state ∧ (d'.chan k).rodA = (d.chan k).rodA ∧ (d'.chan k).next = (d.chan k).next) ∧
         ∀ n < 24, (d'.rod n).role = d.roleIn m n) ∧
       (m = mDrain → isLive d.modes.mode = true → asked ≤ d.now → d'.modes.mode = mDrain ∧ (∃ x, d'.modes.transition = some x ∧ x.target = mDrain ∧ x.nextMode = c.p 1 1) ∧
         (∀ k x, Tab.find k d.code.channels = some x → x.state = .live → (d'.chan k).state = .stopping ∧ (d'.chan k).stop = some ((d.chan k).firstOpen d.now)))) ∧
    (let c := ctxAt scheduledStartSet t ring entry s
     let d := takenAt t ring entry s
     let mask := c.p 8 8
     passes scheduledStartSet t ring entry s = true → ∃ d', exec (.scheduledStartSet t ring entry) s = .next { s with dev := d' } ∧ d'.modes.mode = d.modes.mode ∧
       (natBit (c.p 1 1) 0 = false → d'.modes.schedule = none ∧ d'.modes.transition = d.modes.transition) ∧
       (natBit (c.p 1 1) 0 = true → ∃ x, d'.modes.schedule = some x ∧ x.mode = c.p 0 1 ∧ x.mask = mask ∧ x.start = c.timeAt 16 ∧ x.woken = false ∧
         x.wakeAt = x.start - d.wakeTime x.rest mask - wakeGuard ∧ (x.rest = mKeep ∨ x.rest = mTimekeep ∨ x.rest = mArmed) ∧
         (x.rest ≠ mArmed → c.p 2 1 ≤ x.rest ∧ d.now + d.wakeTime x.rest mask + wakeGuard ≤ x.start) ∧
         (∀ r, mKeep ≤ r → r < x.rest → r < c.p 2 1 ∨ x.start < d.now + d.wakeTime r mask + wakeGuard))) ∧
    CommandDoes (.quietWindowSet t ring entry) quietWindowSet t ring entry s (fun c d =>
      { d with modes := { d.modes with quiet := if natBit (c.p 0 1) 0 then some (c.timeAt 8, c.timeAt 24) else none } }) ∧
    CommandDoes (.deviceStatusGet t ring entry) deviceStatusGet t ring entry s (fun c d => d.writeAt (c.p 0 8) (deviceRecord d)) ∧
    CommandDoes (.thermalLimitSet t ring entry) thermalLimitSet t ring entry s (fun c d =>
      { d with modes := { d.modes with limits := Tab.put c.handle (c.p 0 1, c.p 1 1) d.modes.limits } })) ∧
  (∀ (t : Nat) (s : State), let d := s.dev.at_ t
    (∀ x, d.modes.transition = some x → d.transitionReady x = true →
      ∃ d', exec (.modeTransitionDone t) s = .next { s with dev := d' } ∧ d'.modes.mode = x.target ∧
        (x.target ≠ mDrain → d.modes.schedule = none → d'.modes.transition = none)) ∧
    (∀ x, d.modes.transition = some x → x.target = mDrain → d.modes.mode = mDrain → d.drained x.nextMode = true →
      ∃ d', exec (.drainDone t) s = .next { s with dev := d' } ∧
        (x.nextMode = mArmed → d'.modes.mode = mArmed ∧ d'.modes.transition = none) ∧
        (x.nextMode ≠ mArmed → d' = { d with modes := { d.modes with transition := some { x with target := x.nextMode, nextMode := 0 } } })) ∧
    (∀ x, d.modes.schedule = some x → x.wakeAt ≤ d.now →
      ∃ d', exec (.scheduledWake t) s = .next { s with dev := d' } ∧ d'.modes.schedule = some { x with woken := true, owed := false } ∧ d'.modes.mode = d.modes.mode ∧
        (d.unitHeld uMode = false → (d.modes.mode = mKeep ∨ d.modes.mode = mTimekeep) → d'.modes.transition = some ⟨none, mArmed, d.now, 0, 0, stOk, 0⟩ ∧ d'.phys.wake = true) ∧
        (d.unitHeld uMode = false → d.modes.mode = mArmed → d.modes.auxPresent = true → x.start ≤ d.now + startLead + wakeGuard →
          d'.modes.transition = some ⟨none, x.mode, d.now + startLead, 0, 0, stOk, 0⟩)) ∧
    (∀ x, d.modes.schedule = some x → x.start ≤ d.now →
      ∃ d', exec (.scheduledStartTime t) s = .next { s with dev := d' } ∧ d'.modes.schedule = none ∧ d'.modes.mode = d.modes.mode ∧
        (d.liveMode = false → d'.code = d.code)) ∧
    (∀ (i : Fin 40) (next : Option Nat), ∃ d' x, exec (.islandIdle t i next) s = .next { s with dev := d' } ∧ Tab.find i.val d'.modes.islands = some x ∧
      x.depth ≤ (d.islandCap i).depth ∧ (∀ n, next = some n → x ≠ .awake → x.wake + 2 * usec ≤ n - d.now) ∧
      (∀ y : Sleep, y.depth ≤ (d.islandCap i).depth → (∀ n, next = some n → y.wake + 2 * usec ≤ n - d.now) → y.depth ≤ x.depth) ∧ d'.code = d.code) ∧
    (∀ i : Fin 40, ∃ d', exec (.islandWake t i) s = .next { s with dev := d' } ∧ Tab.find i.val d'.modes.islands = none ∧
      ∀ k, k ≠ i.val → Tab.find k d'.modes.islands = Tab.find k d.modes.islands) ∧
    (∀ a b, d.modes.quiet = some (a, b) → b ≤ d.now →
      ∃ d', exec (.quietWindowEdge t) s = .next { s with dev := d' } ∧ d'.modes.quiet = none ∧ (∀ e ∈ d'.modes.islands, e.2.depth ≤ (d'.islandCap e.1).depth) ∧ d'.code = d.code))

/-- The mode changes only where chapter 16 says, and to nothing else (16 R452, R454, R458, R459; 13 R401; 18 R504): a MODE_SET whose moment is its acceptance takes a live
mode to DRAIN; the end of a transition that has come to its moment gives the transition's destination; the end of a drain ARMED; a fault HOLD; a power
loss OFF or KEEP; and power-up, from OFF, ARMED, RESCUE or HOLD. Every other command and happening leaves the mode as it is. This holds of every module whose queues hold
only what may wait in them, and every command and happening keeps them so. -/
def Obligations.TheModeChangesOnlyWhereStated : Prop :=
  ∀ (i : Instr) (s s' : State), s.dev.queuesSound → exec i s = .next s' → s'.dev.queuesSound ∧
    let m := s.dev.modes.mode
    let m' := s'.dev.modes.mode
    m' = m ∨
    (((∃ t ring entry, i = .modeSet t ring entry) ∨ (∃ t, i = .unitReleased t) ∨ (∃ t entry, i = .mctpVendorMessage t entry)) ∧ isLive m = true ∧ m' = mDrain) ∨
    (∃ t x, i = .modeTransitionDone t ∧ s.dev.modes.transition = some x ∧ x.effect ≤ (s.dev.at_ t).now ∧ m' = x.target) ∨
    ((∃ t, i = .drainDone t) ∧ m = mDrain ∧ m' = mArmed) ∨
    (((∃ t n, i = .dieBridgeCrcFail t n) ∨ (∃ t l, i = .thermalSample t l) ∨ (∃ t, i = .supplyRailFault t) ∨ (∃ t, i = .shedHoldTimeout t) ∨
      (∃ t b, i = .secRestartBegin t b) ∨ (∃ t st p k y, i = .sramUncorrectedError t st p k y) ∨ (∃ t dom p, i = .pllLockLoss t dom p)) ∧ m ≠ mKeep ∧ m' = mHold) ∨
    ((∃ t held vaux, i = .powerLoss t held vaux) ∧ (m' = mOff ∨ m' = mKeep)) ∨
    ((∃ t st e f l, i = .powerUpStage t st e f l) ∧ (m = mOff ∨ s.dev.phys.powerLost = true) ∧ (m' = mOff ∨ m' = mArmed ∨ m' = mRescue ∨ m' = mHold))

/-! ### Service in operation (17) -/

/-- Service commands and happenings whose conditions hold take effect (17 R475 to R477, R479 to R482, R484, R485, R488, R490, R492; 11 R344 to R346). Where no free
value and no open reading enters, the new values are given whole. -/
def Obligations.ServiceTakesEffect : Prop :=
  (∀ (t : Nat) (ring : Fin 4) (entry : Bytes) (s : State),
    (let c := ctxAt unitServiceSet t ring entry s
     let d := takenAt t ring entry s
     let u := c.handle
     let n := if u < 24 then u else engineRod u
     passes unitServiceSet t ring entry s = true → ∃ d', exec (.unitServiceSet t ring entry) s = .next { s with dev := d' } ∧
       (c.p 0 1 = 0 → d'.unitState u = 4 ∧ ∃ w ∈ d'.rk.works, w.op = 0x0C01 ∧ w.ctx = c) ∧
       (c.p 0 1 = 1 → (u < 24 ∨ isEngine u = true) → d.channelsOn n ≠ [] → d'.unitState u = 1 ∧ ∃ x ∈ d'.serv.drains, x.unit = u ∧ x.ctx = some c) ∧
       (c.p 0 1 = 1 → (u < 24 ∨ isEngine u = true) → d.channelsOn n = [] → d'.unitState u = 2) ∧
       (c.p 0 1 = 1 → u < 24 → d.spareRods.filter (· ≠ u) = [] → ∀ l, d.placeAway u = some l → ∀ x ∈ l, (l.map (·.1)).Nodup → (d'.chan x.1).planned = some x.2) ∧
       (c.p 0 1 ≠ 0 → (isDecoder u = true ∨ isLane u = true) → d'.unitState u = 2) ∧
       (c.p 0 1 ≠ 0 → isLane u = true → d.lanes.exists_ (d.lanes.portOf (u - 0x400)) = true → (d'.port (d.lanes.portOf (u - 0x400))).state ≠ 2) ∧
       (c.p 0 1 = 2 → u < 24 → d'.unitState u = 2) ∧
       (c.p 0 1 = 2 → isEngine u = true → d.liveWork u = false → d'.unitState u = 2)) ∧
    (let c := ctxAt fwImageStage t ring entry s
     let d := takenAt t ring entry s
     passes fwImageStage t ring entry s = true → d.unitHeld unitImages = false →
     ∃ d', exec (.fwImageStage t ring entry) s = .next { s with dev := d' } ∧ d'.serv = d.serv ∧ ∃ w ∈ d'.rk.works, w.op = 0x0C02 ∧ w.ctx = c) ∧
    (let c := ctxAt fwActivate t ring entry s
     let d := takenAt t ring entry s
     let k := c.p 0 1
     let x := d.serv.image k
     let eff := if c.effect = 2 then Nat.max c.effectTime d.now else d.now
     passes fwActivate t ring entry s = true → d.unitHeld unitImages = false → ∃ d', exec (.fwActivate t ring entry) s = .next { s with dev := d' } ∧
       (k = 2 ∨ k = 3 → d'.serv.images = d.serv.images ∧ (∃ w ∈ d'.rk.works, w.op = 0x0C03 ∧ w.ctx = c) ∧
         d'.serv.activating = some ⟨k, some c, eff, false, false, none, natBit (c.p 1 1) 0⟩) ∧
       (k = 1 ∨ 4 ≤ k → (d'.serv.image k).running = x.other ∧ (d'.serv.image k).staged = false ∧
         (d'.serv.image k).floor = if natBit (c.p 1 1) 0 then Nat.max x.floor x.other.secVersion else x.floor) ∧
       (∀ j, j ≠ k → d'.serv.image j = d.serv.image j) ∧ (Tab.read d.events.tally 12 0 < max64 → Tab.read d'.events.tally 12 0 = Tab.read d.events.tally 12 0 + 1)) ∧
    (let c := ctxAt selftestRun t ring entry s
     let d := takenAt t ring entry s
     passes selftestRun t ring entry s = true → d.unitHeld unitTest = false → ∃ d', exec (.selftestRun t ring entry) s = .next { s with dev := d' } ∧
       d'.serv.testing = some ⟨d.serv.nextRun, c.p 0 1, c.p 1 1, 0, c.handle, 0, 0, [], d.now, 0⟩ ∧ d'.serv.nextRun = (d.serv.nextRun + 1) % 65536 ∧
       (∃ w ∈ d'.rk.works, w.op = 0x0C04 ∧ w.ctx = c) ∧ (c.handle ≠ 0xFFFF → d.unitState c.handle = 2 → d'.unitState c.handle = 3)) ∧
    CommandDoes (.selftestResultGet t ring entry) selftestResultGet t ring entry s (fun c d =>
      match d.serv.lastRuns[c.handle]? with
      | none => d
      | some r => d.writeAt (c.p 0 8) r.record) ∧
    CommandDoes (.unitStatusGet t ring entry) unitStatusGet t ring entry s (fun c d => d.writeAt (c.p 0 8) (unitRecord c.handle d)) ∧
    (let c := ctxAt diagExport t ring entry s
     passes diagExport t ring entry s = true → ∃ d', exec (.diagExport t ring entry) s = .next { s with dev := d' } ∧ ∃ w ∈ d'.rk.works, w.op = 0x0C07 ∧ w.ctx = c)) ∧
  (∀ (t : Nat) (s : State), let d := s.dev.at_ t
    (∀ (cause : Fin 4) (hint : Nat), 2 ≤ cause.val → d.rk.mgmtUp = true →
      ∃ d', exec (.mgmtRestartBegin t cause hint) s = .next { s with dev := d' } ∧ d'.rk.mgmtUp = false ∧ d'.rk.restartCause = cause ∧ d'.rk.restartBegan = d.now ∧
        d'.rk.works = d.rk.works ∧ d'.code = d.code ∧ d'.sched = d.sched) ∧
    (∀ (cause : Fin 4) (hint : Nat) a, cause.val = 1 → d.rk.mgmtUp = true → d.restartAsked 2 = some a → d.allDecided = true →
      ∃ d', exec (.mgmtRestartBegin t cause hint) s = .next { s with dev := d' } ∧ d'.rk.mgmtUp = false ∧ d'.rk.restartCause = 1 ∧ d'.rk.waiting = [] ∧
        d'.serv.activating = some { a with restarted := true } ∧ (d'.serv.image 2).active = 1 - (d.serv.image 2).active ∧ d'.code = d.code ∧ d'.sched = d.sched) ∧
    (d.rk.mgmtUp = false → d.rk.restartCause ≠ 0 → d.modes.mode ≠ mKeep → d.modes.mode ≠ mOff →
      ∃ d', exec (.mgmtRestartEnd t) s = .next { s with dev := d' } ∧ d'.rk.mgmtUp = true ∧ d'.rk.mgmtUpSince = d.now ∧
        d'.rk.restarts = satAdd 0xFFFFFF d.rk.restarts 1 ∧ d'.modes.late = [] ∧ (d.rk.restartCause ≠ 1 → d'.rk.waiting = [] ∧ ∀ w ∈ d'.rk.works, w.inHardware = true)) ∧
    (∀ a, d.serv.activating = some a → (if a.kind = 2 then d.rk.mgmtUp = false ∧ a.failed d.now d.rk.restartBegan (2 * second) (d.rk.restartCause == 2) = true
        else d.link.secUp = false ∧ a.failed d.now (d.link.secRestartEnd - secRestartTime) secRestartTime true = true) →
      ∃ d', exec (.fwActivateFallback t) s = .next { s with dev := d' } ∧ d'.serv.activating = some { a with fellBack := true } ∧
        (d'.serv.image a.kind).active = 1 - (d.serv.image a.kind).active ∧ d'.code = d.code) ∧
    (d.link.secUp = true → d.modes.mode ≠ mKeep → d.modes.mode ≠ mOff →
      ∃ d', exec (.secRestartBegin t false) s = .next { s with dev := d' } ∧ d'.link.secUp = false ∧ d'.link.secRestartEnd = d.now + secRestartTime ∧ d'.link.sessions = [] ∧
        d'.comp = { d.comp with jobs := [] } ∧ d'.serv = d.serv ∧ d'.code = d.code ∧ d'.sched = d.sched) ∧
    (∀ a, d.link.secUp = true → d.modes.mode ≠ mKeep → d.modes.mode ≠ mOff → d.restartAsked 3 = some a →
      ∃ d', exec (.secRestartBegin t true) s = .next { s with dev := d' } ∧ d'.link.secUp = false ∧ d'.serv.activating = some { a with restarted := true } ∧
        (d'.serv.image 3).active = 1 - (d.serv.image 3).active ∧ d'.code = d.code) ∧
    (d.link.secUp = false → d.modes.mode ≠ mKeep → d.modes.mode ≠ mOff →
      ∃ d', exec (.secRestartEnd t) s = .next { s with dev := d' } ∧ d'.link.secUp = true ∧ d'.code = d.code ∧
        d'.serv.aliasCount = d.serv.aliasCount + bit01 ((d.activatingKind 3).any (fun a => a.restarted && a.ctx.isSome && !a.fellBack))) ∧
    (∀ (n : Fin 24) u, d.serv.update = some u → (u.loading = some n.val ∨ (u.old = some n.val ∧ u.waits.all (fun w => d.hasLeft w) = true)) →
      ∃ d', exec (.rodUpdateStepDone t n) s = .next { s with dev := d' } ∧ Tab.read d'.serv.rodImage n 0 = (d.serv.image 4).active ∧
        ∀ v, d'.serv.update = some v → v.left = u.left.filter (· ≠ n.val)) ∧
    (∀ u w, d.serv.update = some u → u.waitFrom = some w → w + 10 * second ≤ d.now → d.spareRods = [] →
      ∃ d', exec (.rodUpdateSpareTimeout t) s = .next { s with dev := d' } ∧ d'.serv = { d.serv with update := none } ∧ d'.code = d.code) ∧
    (∀ u, d.unitState u = 4 → unitServed u = true → ∃ d', exec (.unitReturnDone t u) s = .next { s with dev := d' } ∧ d'.unitState u = 0) ∧
    (∀ (good : Bool) w rest, takeWork (fun w => w.op == 0x0C02) d.rk.works = some (w, rest) → let k := w.ctx.b 2 1
      ∃ d', exec (.fwImageStageDone t good) s = .next { s with dev := d' } ∧ d'.rk.works = rest ∧
        (∀ e, stageRefusal good w.ctx d = some e → d'.serv = d.serv) ∧
        (stageRefusal good w.ctx d = none → k ≠ 7 → (d'.serv.image k).running = (d.serv.image k).running ∧ (d'.serv.image k).staged = true ∧
          ((d.serv.image k).active < 2 → (d'.serv.image k).other = stagedImage w.ctx) ∧ ∀ j, j ≠ k → d'.serv.image j = d.serv.image j) ∧
        (stageRefusal good w.ctx d = none → k = 7 → d'.serv.ownerChain = (w.ctx.block.drop 128).take (w.ctx.b 16 8) ∧ d'.serv.images = d.serv.images ∧
          (d'.serv.ownerChain = [] → d'.comp.keys = [] ∧ ∀ a ∈ d'.comp.acts, a.chans.any (fun e => e.2.started.isSome) = true))) ∧
    (∀ (units : Nat) (fails : List (Nat × Nat × Nat × Int × Int × Int)) r w rest, d.serv.testing = some r → takeWork (fun w => w.op == 0x0C04) d.rk.works = some (w, rest) →
      ∃ d', exec (.selftestDone t units fails) s = .next { s with dev := d' } ∧ d'.serv.testing = none ∧ d'.rk.works = rest ∧
        (∃ x, d'.serv.lastRuns = (x :: d.serv.lastRuns).take 8 ∧ x.run = r.run ∧ x.target = r.target ∧ x.failures = fails.length ∧
          x.result = bit01 (!fails.isEmpty) ∧ x.finish = d.now) ∧
        (r.target ≠ 0xFFFF → d.unitState r.target = 3 → d'.unitState r.target = 2)) ∧
    (∀ (data : Bytes) w rest, takeWork (fun w => w.op == 0x0C07) d.rk.works = some (w, rest) → d.events.log.enable = false → d.rescue = false →
      ∃ d', exec (.diagExportDone t data) s = .next { s with dev := d' } ∧ d'.rk.works = rest ∧
        d'.mem.hdm = (d.writeAt (w.ctx.b 0 8) (data.take (w.ctx.b 8 8))).mem.hdm ∧ d'.code = d.code))

/-! ### Faults, temperatures, supplies, power loss and power-up (01, 13, 16 to 18) -/

/-- Faults of the module, temperatures, the power governor, the supplies, power loss and power-up take effect where their conditions hold (01 R22, R23, R26; 13 R401; 16 R459,
R465, R467 to R469; 17 R473; 18 R498 to R500, R504 to R506). That passing a threshold is reaching it, and that the cause of an E128 by a clock is not stated,
are the model's readings. -/
def Obligations.FaultsSuppliesAndPowerUpTakeEffect : Prop :=
  ∀ (t : Nat) (s : State), let d := s.dev.at_ t
    (∀ n, ∃ d', exec (.dieBridgeCrcFail t n) s = .next { s with dev := d' } ∧ d'.serv.bridgeReplays = satAdd max64 d.serv.bridgeReplays (Nat.min n 8) ∧
      (n ≤ 8 → d'.modes = d.modes ∧ d'.code = d.code ∧ d'.sched = d.sched) ∧ (8 < n → d'.serv.bridgeFault = true ∧ d.holdsFor 1 d')) ∧
    (∀ (u : Nat) (coding : Bool), ∃ d', exec (.sramCorrectedError t u coding) s = .next { s with dev := d' } ∧ d'.modes = d.modes ∧ d'.code.channels = d.code.channels ∧
      (u < 24 → (d'.rod u).sramCorrected = satAdd max64 (d.rod u).sramCorrected 1) ∧
      (24 ≤ u → (d'.serv.unit u).corrected = satAdd max64 (d.serv.unit u).corrected 1 ∧
        (isEngine u = true → (d'.rod (engineRod u)).sramCorrected = satAdd max64 (d.rod (engineRod u)).sramCorrected 1))) ∧
    (∀ (store : Fin 11) (place item : Nat) (y : SramHit), ∃ d', exec (.sramUncorrectedError t store place item y) s = .next { s with dev := d' } ∧
      (store.val = 2 → place < 8 → d'.unitState (0x300 + place) = 2) ∧
      (store.val = 3 → ∀ p x, Tab.find p d'.sched.ports = some x → ∀ c ∈ x.due, c.kind ≠ 3 → ¬ (c.service = place ∧ c.seq = item)) ∧
      (store.val = 4 → d.rk.mgmtUp = true → d'.rk.mgmtUp = false ∧ d'.rk.restartCause = 3 ∧ d'.code = d.code) ∧
      (store.val = 5 → d.link.secUp = true → d'.link.secUp = false ∧ d'.code = d.code) ∧
      (store.val = 6 → Tab.read d'.events.tally place 0 = max64 ∧ Tab.read d'.events.carry place false = true) ∧
      (store.val = 8 → d.holdsFor 4 d') ∧
      (store.val = 9 → place < 24 → item < 7 → natBit (d.rod place).pe item = true → natBit (d'.rod place).pe item = false ∧ d'.unitState (0x100 + 16 * place + item) = 2) ∧
      (store.val = 10 → place ∈ d'.mem.cmdBad)) ∧
    (∀ (dom : Fin 18) (place : Nat), ∃ d', exec (.pllLockLoss t dom place) s = .next { s with dev := d' } ∧
      (dom.val = 1 ∨ dom.val = 4 ∨ dom.val = 7 ∨ dom.val = 11 → d.holdsFor 3 d') ∧
      (dom.val = 2 → d.rk.mgmtUp = true → d'.rk.mgmtUp = false ∧ d'.rk.restartCause = 2) ∧ (dom.val = 3 → d.link.secUp = true → d'.link.secUp = false) ∧
      (dom.val = 5 ∨ dom.val = 6 → place < 24 → ∀ e < 7, natBit (d'.rod place).pe e = false) ∧
      (dom.val = 8 → place < 8 → d'.unitState (0x300 + place) = 2) ∧
      (dom.val = 9 ∨ dom.val = 10 → place < 4 → (d.dram.group place).service < 2 → (d'.dram.group place).retire.isSome = true) ∧
      (dom.val = 12 → ∀ p < 32, d'.lanes.isUp p = false) ∧ (dom.val = 13 → place < 32 → (d'.lane place).cdr = false) ∧
      (dom.val = 14 → d'.link.up = false ∧ (d.link.up = true → d'.link.lastReset = 8)) ∧
      (dom.val = 15 → natBit d'.journal.stopped 0 = true ∧ ∀ k < 8, d'.unitState (0x600 + k) = 2)) ∧
    (∃ d', exec (.supplyRailFault t) s = .next { s with dev := d' } ∧ d.holdsFor 5 d') ∧
    (∀ temps : List Int, temps.length = 5 → ∃ d', exec (.thermalSample t temps) s = .next { s with dev := d' } ∧
      (∀ n, 1 ≤ n → n ≤ 5 → Tab.read d'.modes.temps n 0 = temps.getD (n - 1) 0) ∧
      (d.phys.powerLost = false →
        (let v := temps.getD 1 0
         let l := d.modes.thermal 2
         (∀ k, l.duty = some k → (k : Int) * 256 ≤ v → d'.modes.throttleCoding = 2) ∧
         (∀ k, l.throttle = some k → (k : Int) * 256 ≤ v → 1 ≤ d'.modes.throttleCoding) ∧
         (∀ j k, l.throttle = some j → l.duty = some k → v ≤ (j : Int) * 256 - 768 → v ≤ (k : Int) * 256 - 768 → d'.modes.throttleCoding = 0)) ∧
        (∀ k, (d.modes.thermal 5).trip = some k → ((k : Int) * 256 ≤ temps.getD 4 0 → natBit d'.journal.stopped 1 = true)) ∧
        (∀ n k, n = 2 ∨ n = 3 ∨ n = 4 → (d.modes.thermal n).trip = some k → (k : Int) * 256 ≤ temps.getD (n - 1) 0 → d.holdsFor 2 d'))) ∧
    (∀ eMw aMw eMa aMa duty, ∃ d', exec (.powerGovernorTick t eMw aMw eMa aMa duty) s = .next { s with dev := d' } ∧
      (let ovr := overPower d.modes.mode eMw aMw eMa aMa
       d'.modes.mode = d.modes.mode ∧ d'.modes.inputMw = eMw + aMw ∧ d'.modes.edgeMa = eMa ∧ d'.modes.auxMa = aMa ∧
       (ovr = true → d'.modes.governor = true ∧ d'.modes.duty = Nat.min duty 1000) ∧
       (ovr = false → 1000 ≤ duty → d'.modes.governor = false ∧ d'.modes.duty = 1000) ∧
       (d.phys.edge12 = 2 → duty = 0 → 12500 < aMa → d.onAir = true → d'.modes.floorOnly = true))) ∧
    (∀ cond : Fin 3, ∃ d', exec (.auxInputChange t cond) s = .next { s with dev := d' } ∧ d'.modes.mode = d.modes.mode ∧ d'.phys.aux12 = cond ∧
      (cond.val = 0 → d'.modes.auxPresent = true) ∧ (cond.val = 1 → d'.modes.auxPresent = d.modes.auxPresent) ∧ (cond.val = 2 → d'.modes.auxPresent = false) ∧
      (cond.val = 2 → d.modes.auxPresent = true → d.onAir = true → d'.modes.floorOnly = true) ∧
      (cond.val = 0 → d.phys.edge12 ≠ 2 → d'.modes.floorOnly = false)) ∧
    (∀ cond : Fin 3, ∃ d', exec (.edge12vChange t cond) s = .next { s with dev := d' } ∧ d'.modes.mode = d.modes.mode ∧ d'.phys.edge12 = cond ∧
      (cond.val ≠ 2 → d.phys.edge12 = 2 → d'.phys.shed = 0 ∧ (d.modes.auxPresent = true → d'.modes.floorOnly = false))) ∧
    (d.stillOver = true → d.phys.shed < 3 → d.phys.shedAt + 10 * msec ≤ d.now →
      ∃ d', exec (.shedStep t) s = .next { s with dev := d' } ∧ d'.phys.shed = d.phys.shed + 1 ∧ d'.phys.shedAt = d.now ∧ d'.modes = d.modes ∧ d'.code = d.code ∧
        natBit d'.journal.stopped 2 = (natBit d.journal.stopped 2 || d.phys.shed == 1)) ∧
    (d.stillOver = true → d.phys.shed = 3 → d.phys.shedAt + 100 * msec ≤ d.now →
      ∃ d', exec (.shedHoldTimeout t) s = .next { s with dev := d' } ∧ d.holdsFor 7 d') ∧
    (∃ d', exec (.edge3v3Low t) s = .next { s with dev := d' } ∧ d'.link.up = false ∧ (d.link.up = true → d'.link.lastReset = 6) ∧ d'.modes = d.modes ∧
      ∀ k, (d'.chan k).state = (d.chan k).state) ∧
    (d.modes.auxPresent = true → ∃ d', exec (.holdupCharged t) s = .next { s with dev := d' } ∧ d'.phys = { d.phys with bankFull := true } ∧ d'.modes = d.modes) ∧
    (∀ (held : Nat) (vaux : Bool), ∃ d', exec (.powerLoss t held vaux) s = .next { s with dev := d' } ∧ d'.phys.powerLost = true ∧ d'.saved = d.saved ∧
      (d.phys.powerLost = false → d'.modes.mode = (if vaux then mKeep else mOff) ∧ d'.code = CodingState.reset ∧ d'.mem.hdm = [] ∧ d'.rk.mgmtUp = false ∧
        d'.link.bootStage = 0 ∧ d'.journal.session = 0 ∧ d'.journal.recs = (d.journal.cut d.now held).recs ∧ d'.serv.images = d.serv.images)) ∧
    (∀ (stage error failed : Nat) (ident : List Nat), d.phys.powerLost = true ∨ d.modes.mode = mOff → stage = nextStage d.link.bootStage →
      ∃ d', exec (.powerUpStage t stage error failed ident) s = .next { s with dev := d' } ∧ d'.link.bootStage = stage ∧
        (d.link.bootError = 0 → d'.link.bootError = error) ∧
        (error = 2 ∨ error = 6 → d.phys.powerLost = false → d'.modes.mode = mRescue ∧ d'.link.rescue = true) ∧
        (error = 9 → d.phys.powerLost = false → d.holdsFor 1 d') ∧
        (error = 0 → (stage = 1 → d'.modes.mode = mOff ∧ d'.phys.powerLost = false) ∧
          (stage = 3 → d'.link.measured = true ∧ d'.link.training = if d.link.perst then none else some (d.now + trainTime)) ∧
          (stage = 4 → d'.link.secUp = true) ∧ (stage = 5 → d'.rk.mgmtUp = true ∧ d'.rk.mgmtUpSince = d.now) ∧
          (stage = 6 → ∀ g < 4, (d'.dram.group g).service = if natBit failed g then 2 else 0) ∧ (stage = 7 → d'.journal.mounted = true) ∧
          (stage = 8 → ∀ v, d.saved = some v → ∀ k, (d'.chan k).recd = (Tab.read v.code.channels k Channel.reset).recd ∧ (d'.chan k).running = false) ∧
          (stage = 0xFF → d'.modes.mode = mArmed ∧ d'.link.bootEnd = some d.now)))
end

