-- ==== Sys2Proof/Laws/State.lean ====
section
/-!
SUPPORT. What the shared operations leave alone: one lemma for each operation and each part of the module that it does not touch, so that no
later proof unfolds a record update.
-/
namespace Sys2Proof.Laws

open Sys2Proof.Machine

/-! ### `Device.at_` -/

@[simp] theorem at__mem (t : Nat) (d : Device) : (d.at_ t).mem = d.mem := rfl
@[simp] theorem at__msix (t : Nat) (d : Device) : (d.at_ t).msix = d.msix := rfl
@[simp] theorem at__events (t : Nat) (d : Device) : (d.at_ t).events = d.events := rfl
@[simp] theorem at__logs (t : Nat) (d : Device) : (d.at_ t).logs = d.logs := rfl
@[simp] theorem at__wq (t : Nat) (d : Device) : (d.at_ t).wq = d.wq := rfl
@[simp] theorem at__rk (t : Nat) (d : Device) : (d.at_ t).rk = d.rk := rfl
@[simp] theorem at__code (t : Nat) (d : Device) : (d.at_ t).code = d.code := rfl
@[simp] theorem at__ingest (t : Nat) (d : Device) : (d.at_ t).ingest = d.ingest := rfl
@[simp] theorem at__comp (t : Nat) (d : Device) : (d.at_ t).comp = d.comp := rfl
@[simp] theorem at__dram (t : Nat) (d : Device) : (d.at_ t).dram = d.dram := rfl
@[simp] theorem at__modes (t : Nat) (d : Device) : (d.at_ t).modes = d.modes := rfl
@[simp] theorem at__out (t : Nat) (d : Device) : (d.at_ t).out = d.out := rfl
@[simp] theorem at__sched (t : Nat) (d : Device) : (d.at_ t).sched = d.sched := rfl
@[simp] theorem at__lanes (t : Nat) (d : Device) : (d.at_ t).lanes = d.lanes := rfl
@[simp] theorem at__journal (t : Nat) (d : Device) : (d.at_ t).journal = d.journal := rfl
@[simp] theorem at__checks (t : Nat) (d : Device) : (d.at_ t).checks = d.checks := rfl
@[simp] theorem at__audio (t : Nat) (d : Device) : (d.at_ t).audio = d.audio := rfl
@[simp] theorem at__serv (t : Nat) (d : Device) : (d.at_ t).serv = d.serv := rfl
@[simp] theorem at__phys (t : Nat) (d : Device) : (d.at_ t).phys = d.phys := rfl
@[simp] theorem at__saved (t : Nat) (d : Device) : (d.at_ t).saved = d.saved := rfl
@[simp] theorem at__free (t : Nat) (d : Device) : (d.at_ t).free = d.free := rfl

/-! ### `Device.raise` -/

@[simp] theorem raise_rk (evs : List (Nat × Nat)) (d : Device) : (d.raise evs).rk = d.rk := rfl
@[simp] theorem raise_time (evs : List (Nat × Nat)) (d : Device) : (d.raise evs).time = d.time := rfl
@[simp] theorem raise_link (evs : List (Nat × Nat)) (d : Device) : (d.raise evs).link = d.link := rfl
@[simp] theorem raise_code (evs : List (Nat × Nat)) (d : Device) : (d.raise evs).code = d.code := rfl
@[simp] theorem raise_ingest (evs : List (Nat × Nat)) (d : Device) : (d.raise evs).ingest = d.ingest := rfl
@[simp] theorem raise_comp (evs : List (Nat × Nat)) (d : Device) : (d.raise evs).comp = d.comp := rfl
@[simp] theorem raise_dram (evs : List (Nat × Nat)) (d : Device) : (d.raise evs).dram = d.dram := rfl
@[simp] theorem raise_modes (evs : List (Nat × Nat)) (d : Device) : (d.raise evs).modes = d.modes := rfl
@[simp] theorem raise_out (evs : List (Nat × Nat)) (d : Device) : (d.raise evs).out = d.out := rfl
@[simp] theorem raise_sched (evs : List (Nat × Nat)) (d : Device) : (d.raise evs).sched = d.sched := rfl
@[simp] theorem raise_lanes (evs : List (Nat × Nat)) (d : Device) : (d.raise evs).lanes = d.lanes := rfl
@[simp] theorem raise_journal (evs : List (Nat × Nat)) (d : Device) : (d.raise evs).journal = d.journal := rfl
@[simp] theorem raise_checks (evs : List (Nat × Nat)) (d : Device) : (d.raise evs).checks = d.checks := rfl
@[simp] theorem raise_audio (evs : List (Nat × Nat)) (d : Device) : (d.raise evs).audio = d.audio := rfl
@[simp] theorem raise_serv (evs : List (Nat × Nat)) (d : Device) : (d.raise evs).serv = d.serv := rfl
@[simp] theorem raise_phys (evs : List (Nat × Nat)) (d : Device) : (d.raise evs).phys = d.phys := rfl
@[simp] theorem raise_saved (evs : List (Nat × Nat)) (d : Device) : (d.raise evs).saved = d.saved := rfl

/-! ### `Device.trigger` -/

@[simp] theorem trigger_mem (v : Nat) (d : Device) : (d.trigger v).mem = d.mem := rfl
@[simp] theorem trigger_events (v : Nat) (d : Device) : (d.trigger v).events = d.events := rfl
@[simp] theorem trigger_logs (v : Nat) (d : Device) : (d.trigger v).logs = d.logs := rfl
@[simp] theorem trigger_wq (v : Nat) (d : Device) : (d.trigger v).wq = d.wq := rfl
@[simp] theorem trigger_rk (v : Nat) (d : Device) : (d.trigger v).rk = d.rk := rfl
@[simp] theorem trigger_time (v : Nat) (d : Device) : (d.trigger v).time = d.time := rfl
@[simp] theorem trigger_link (v : Nat) (d : Device) : (d.trigger v).link = d.link := rfl
@[simp] theorem trigger_code (v : Nat) (d : Device) : (d.trigger v).code = d.code := rfl
@[simp] theorem trigger_ingest (v : Nat) (d : Device) : (d.trigger v).ingest = d.ingest := rfl
@[simp] theorem trigger_comp (v : Nat) (d : Device) : (d.trigger v).comp = d.comp := rfl
@[simp] theorem trigger_dram (v : Nat) (d : Device) : (d.trigger v).dram = d.dram := rfl
@[simp] theorem trigger_modes (v : Nat) (d : Device) : (d.trigger v).modes = d.modes := rfl
@[simp] theorem trigger_out (v : Nat) (d : Device) : (d.trigger v).out = d.out := rfl
@[simp] theorem trigger_sched (v : Nat) (d : Device) : (d.trigger v).sched = d.sched := rfl
@[simp] theorem trigger_lanes (v : Nat) (d : Device) : (d.trigger v).lanes = d.lanes := rfl
@[simp] theorem trigger_journal (v : Nat) (d : Device) : (d.trigger v).journal = d.journal := rfl
@[simp] theorem trigger_checks (v : Nat) (d : Device) : (d.trigger v).checks = d.checks := rfl
@[simp] theorem trigger_audio (v : Nat) (d : Device) : (d.trigger v).audio = d.audio := rfl
@[simp] theorem trigger_serv (v : Nat) (d : Device) : (d.trigger v).serv = d.serv := rfl
@[simp] theorem trigger_phys (v : Nat) (d : Device) : (d.trigger v).phys = d.phys := rfl
@[simp] theorem trigger_saved (v : Nat) (d : Device) : (d.trigger v).saved = d.saved := rfl
@[simp] theorem trigger_free (v : Nat) (d : Device) : (d.trigger v).free = d.free := rfl

/-! ### `Device.useFree` -/

@[simp] theorem useFree_mem (d : Device) : d.useFree.mem = d.mem := rfl
@[simp] theorem useFree_msix (d : Device) : d.useFree.msix = d.msix := rfl
@[simp] theorem useFree_events (d : Device) : d.useFree.events = d.events := rfl
@[simp] theorem useFree_logs (d : Device) : d.useFree.logs = d.logs := rfl
@[simp] theorem useFree_wq (d : Device) : d.useFree.wq = d.wq := rfl
@[simp] theorem useFree_rk (d : Device) : d.useFree.rk = d.rk := rfl
@[simp] theorem useFree_time (d : Device) : d.useFree.time = d.time := rfl
@[simp] theorem useFree_link (d : Device) : d.useFree.link = d.link := rfl
@[simp] theorem useFree_code (d : Device) : d.useFree.code = d.code := rfl
@[simp] theorem useFree_ingest (d : Device) : d.useFree.ingest = d.ingest := rfl
@[simp] theorem useFree_comp (d : Device) : d.useFree.comp = d.comp := rfl
@[simp] theorem useFree_dram (d : Device) : d.useFree.dram = d.dram := rfl
@[simp] theorem useFree_modes (d : Device) : d.useFree.modes = d.modes := rfl
@[simp] theorem useFree_out (d : Device) : d.useFree.out = d.out := rfl
@[simp] theorem useFree_sched (d : Device) : d.useFree.sched = d.sched := rfl
@[simp] theorem useFree_lanes (d : Device) : d.useFree.lanes = d.lanes := rfl
@[simp] theorem useFree_journal (d : Device) : d.useFree.journal = d.journal := rfl
@[simp] theorem useFree_checks (d : Device) : d.useFree.checks = d.checks := rfl
@[simp] theorem useFree_audio (d : Device) : d.useFree.audio = d.audio := rfl
@[simp] theorem useFree_serv (d : Device) : d.useFree.serv = d.serv := rfl
@[simp] theorem useFree_phys (d : Device) : d.useFree.phys = d.phys := rfl
@[simp] theorem useFree_saved (d : Device) : d.useFree.saved = d.saved := rfl

/-! ### `Device.asRun` -/

@[simp] theorem asRun_mem (ch e tag f k : Nat) (d : Device) : (d.asRun ch e tag f k).mem = d.mem := rfl
@[simp] theorem asRun_msix (ch e tag f k : Nat) (d : Device) : (d.asRun ch e tag f k).msix = d.msix := rfl
@[simp] theorem asRun_events (ch e tag f k : Nat) (d : Device) : (d.asRun ch e tag f k).events = d.events := rfl
@[simp] theorem asRun_wq (ch e tag f k : Nat) (d : Device) : (d.asRun ch e tag f k).wq = d.wq := rfl
@[simp] theorem asRun_rk (ch e tag f k : Nat) (d : Device) : (d.asRun ch e tag f k).rk = d.rk := rfl
@[simp] theorem asRun_time (ch e tag f k : Nat) (d : Device) : (d.asRun ch e tag f k).time = d.time := rfl
@[simp] theorem asRun_link (ch e tag f k : Nat) (d : Device) : (d.asRun ch e tag f k).link = d.link := rfl
@[simp] theorem asRun_code (ch e tag f k : Nat) (d : Device) : (d.asRun ch e tag f k).code = d.code := rfl
@[simp] theorem asRun_ingest (ch e tag f k : Nat) (d : Device) : (d.asRun ch e tag f k).ingest = d.ingest := rfl
@[simp] theorem asRun_comp (ch e tag f k : Nat) (d : Device) : (d.asRun ch e tag f k).comp = d.comp := rfl
@[simp] theorem asRun_dram (ch e tag f k : Nat) (d : Device) : (d.asRun ch e tag f k).dram = d.dram := rfl
@[simp] theorem asRun_modes (ch e tag f k : Nat) (d : Device) : (d.asRun ch e tag f k).modes = d.modes := rfl
@[simp] theorem asRun_out (ch e tag f k : Nat) (d : Device) : (d.asRun ch e tag f k).out = d.out := rfl
@[simp] theorem asRun_sched (ch e tag f k : Nat) (d : Device) : (d.asRun ch e tag f k).sched = d.sched := rfl
@[simp] theorem asRun_lanes (ch e tag f k : Nat) (d : Device) : (d.asRun ch e tag f k).lanes = d.lanes := rfl
@[simp] theorem asRun_journal (ch e tag f k : Nat) (d : Device) : (d.asRun ch e tag f k).journal = d.journal := rfl
@[simp] theorem asRun_checks (ch e tag f k : Nat) (d : Device) : (d.asRun ch e tag f k).checks = d.checks := rfl
@[simp] theorem asRun_audio (ch e tag f k : Nat) (d : Device) : (d.asRun ch e tag f k).audio = d.audio := rfl
@[simp] theorem asRun_serv (ch e tag f k : Nat) (d : Device) : (d.asRun ch e tag f k).serv = d.serv := rfl
@[simp] theorem asRun_phys (ch e tag f k : Nat) (d : Device) : (d.asRun ch e tag f k).phys = d.phys := rfl
@[simp] theorem asRun_saved (ch e tag f k : Nat) (d : Device) : (d.asRun ch e tag f k).saved = d.saved := rfl
@[simp] theorem asRun_free (ch e tag f k : Nat) (d : Device) : (d.asRun ch e tag f k).free = d.free := rfl

/-! ### `Device.writeAt` -/

@[simp] theorem writeAt_msix (off : Nat) (b : Bytes) (d : Device) : (d.writeAt off b).msix = d.msix := rfl
@[simp] theorem writeAt_events (off : Nat) (b : Bytes) (d : Device) : (d.writeAt off b).events = d.events := rfl
@[simp] theorem writeAt_logs (off : Nat) (b : Bytes) (d : Device) : (d.writeAt off b).logs = d.logs := rfl
@[simp] theorem writeAt_wq (off : Nat) (b : Bytes) (d : Device) : (d.writeAt off b).wq = d.wq := rfl
@[simp] theorem writeAt_rk (off : Nat) (b : Bytes) (d : Device) : (d.writeAt off b).rk = d.rk := rfl
@[simp] theorem writeAt_time (off : Nat) (b : Bytes) (d : Device) : (d.writeAt off b).time = d.time := rfl
@[simp] theorem writeAt_link (off : Nat) (b : Bytes) (d : Device) : (d.writeAt off b).link = d.link := rfl
@[simp] theorem writeAt_code (off : Nat) (b : Bytes) (d : Device) : (d.writeAt off b).code = d.code := rfl
@[simp] theorem writeAt_ingest (off : Nat) (b : Bytes) (d : Device) : (d.writeAt off b).ingest = d.ingest := rfl
@[simp] theorem writeAt_comp (off : Nat) (b : Bytes) (d : Device) : (d.writeAt off b).comp = d.comp := rfl
@[simp] theorem writeAt_dram (off : Nat) (b : Bytes) (d : Device) : (d.writeAt off b).dram = d.dram := rfl
@[simp] theorem writeAt_modes (off : Nat) (b : Bytes) (d : Device) : (d.writeAt off b).modes = d.modes := rfl
@[simp] theorem writeAt_out (off : Nat) (b : Bytes) (d : Device) : (d.writeAt off b).out = d.out := rfl
@[simp] theorem writeAt_sched (off : Nat) (b : Bytes) (d : Device) : (d.writeAt off b).sched = d.sched := rfl
@[simp] theorem writeAt_lanes (off : Nat) (b : Bytes) (d : Device) : (d.writeAt off b).lanes = d.lanes := rfl
@[simp] theorem writeAt_journal (off : Nat) (b : Bytes) (d : Device) : (d.writeAt off b).journal = d.journal := rfl
@[simp] theorem writeAt_checks (off : Nat) (b : Bytes) (d : Device) : (d.writeAt off b).checks = d.checks := rfl
@[simp] theorem writeAt_audio (off : Nat) (b : Bytes) (d : Device) : (d.writeAt off b).audio = d.audio := rfl
@[simp] theorem writeAt_serv (off : Nat) (b : Bytes) (d : Device) : (d.writeAt off b).serv = d.serv := rfl
@[simp] theorem writeAt_phys (off : Nat) (b : Bytes) (d : Device) : (d.writeAt off b).phys = d.phys := rfl
@[simp] theorem writeAt_saved (off : Nat) (b : Bytes) (d : Device) : (d.writeAt off b).saved = d.saved := rfl
@[simp] theorem writeAt_free (off : Nat) (b : Bytes) (d : Device) : (d.writeAt off b).free = d.free := rfl

/-! ### `Device.dma` -/

@[simp] theorem dma_msix (a : Nat) (b : Bytes) (d : Device) : (d.dma a b).msix = d.msix := rfl
@[simp] theorem dma_events (a : Nat) (b : Bytes) (d : Device) : (d.dma a b).events = d.events := rfl
@[simp] theorem dma_logs (a : Nat) (b : Bytes) (d : Device) : (d.dma a b).logs = d.logs := rfl
@[simp] theorem dma_wq (a : Nat) (b : Bytes) (d : Device) : (d.dma a b).wq = d.wq := rfl
@[simp] theorem dma_rk (a : Nat) (b : Bytes) (d : Device) : (d.dma a b).rk = d.rk := rfl
@[simp] theorem dma_time (a : Nat) (b : Bytes) (d : Device) : (d.dma a b).time = d.time := rfl
@[simp] theorem dma_link (a : Nat) (b : Bytes) (d : Device) : (d.dma a b).link = d.link := rfl
@[simp] theorem dma_code (a : Nat) (b : Bytes) (d : Device) : (d.dma a b).code = d.code := rfl
@[simp] theorem dma_ingest (a : Nat) (b : Bytes) (d : Device) : (d.dma a b).ingest = d.ingest := rfl
@[simp] theorem dma_comp (a : Nat) (b : Bytes) (d : Device) : (d.dma a b).comp = d.comp := rfl
@[simp] theorem dma_dram (a : Nat) (b : Bytes) (d : Device) : (d.dma a b).dram = d.dram := rfl
@[simp] theorem dma_modes (a : Nat) (b : Bytes) (d : Device) : (d.dma a b).modes = d.modes := rfl
@[simp] theorem dma_out (a : Nat) (b : Bytes) (d : Device) : (d.dma a b).out = d.out := rfl
@[simp] theorem dma_sched (a : Nat) (b : Bytes) (d : Device) : (d.dma a b).sched = d.sched := rfl
@[simp] theorem dma_lanes (a : Nat) (b : Bytes) (d : Device) : (d.dma a b).lanes = d.lanes := rfl
@[simp] theorem dma_journal (a : Nat) (b : Bytes) (d : Device) : (d.dma a b).journal = d.journal := rfl
@[simp] theorem dma_checks (a : Nat) (b : Bytes) (d : Device) : (d.dma a b).checks = d.checks := rfl
@[simp] theorem dma_audio (a : Nat) (b : Bytes) (d : Device) : (d.dma a b).audio = d.audio := rfl
@[simp] theorem dma_serv (a : Nat) (b : Bytes) (d : Device) : (d.dma a b).serv = d.serv := rfl
@[simp] theorem dma_phys (a : Nat) (b : Bytes) (d : Device) : (d.dma a b).phys = d.phys := rfl
@[simp] theorem dma_saved (a : Nat) (b : Bytes) (d : Device) : (d.dma a b).saved = d.saved := rfl
@[simp] theorem dma_free (a : Nat) (b : Bytes) (d : Device) : (d.dma a b).free = d.free := rfl

/-! ### `Device.setChan` -/

@[simp] theorem setChan_mem (c : Nat) (x : Channel) (d : Device) : (d.setChan c x).mem = d.mem := rfl
@[simp] theorem setChan_msix (c : Nat) (x : Channel) (d : Device) : (d.setChan c x).msix = d.msix := rfl
@[simp] theorem setChan_events (c : Nat) (x : Channel) (d : Device) : (d.setChan c x).events = d.events := rfl
@[simp] theorem setChan_logs (c : Nat) (x : Channel) (d : Device) : (d.setChan c x).logs = d.logs := rfl
@[simp] theorem setChan_wq (c : Nat) (x : Channel) (d : Device) : (d.setChan c x).wq = d.wq := rfl
@[simp] theorem setChan_rk (c : Nat) (x : Channel) (d : Device) : (d.setChan c x).rk = d.rk := rfl
@[simp] theorem setChan_time (c : Nat) (x : Channel) (d : Device) : (d.setChan c x).time = d.time := rfl
@[simp] theorem setChan_link (c : Nat) (x : Channel) (d : Device) : (d.setChan c x).link = d.link := rfl
@[simp] theorem setChan_ingest (c : Nat) (x : Channel) (d : Device) : (d.setChan c x).ingest = d.ingest := rfl
@[simp] theorem setChan_comp (c : Nat) (x : Channel) (d : Device) : (d.setChan c x).comp = d.comp := rfl
@[simp] theorem setChan_dram (c : Nat) (x : Channel) (d : Device) : (d.setChan c x).dram = d.dram := rfl
@[simp] theorem setChan_modes (c : Nat) (x : Channel) (d : Device) : (d.setChan c x).modes = d.modes := rfl
@[simp] theorem setChan_out (c : Nat) (x : Channel) (d : Device) : (d.setChan c x).out = d.out := rfl
@[simp] theorem setChan_sched (c : Nat) (x : Channel) (d : Device) : (d.setChan c x).sched = d.sched := rfl
@[simp] theorem setChan_lanes (c : Nat) (x : Channel) (d : Device) : (d.setChan c x).lanes = d.lanes := rfl
@[simp] theorem setChan_journal (c : Nat) (x : Channel) (d : Device) : (d.setChan c x).journal = d.journal := rfl
@[simp] theorem setChan_checks (c : Nat) (x : Channel) (d : Device) : (d.setChan c x).checks = d.checks := rfl
@[simp] theorem setChan_audio (c : Nat) (x : Channel) (d : Device) : (d.setChan c x).audio = d.audio := rfl
@[simp] theorem setChan_serv (c : Nat) (x : Channel) (d : Device) : (d.setChan c x).serv = d.serv := rfl
@[simp] theorem setChan_phys (c : Nat) (x : Channel) (d : Device) : (d.setChan c x).phys = d.phys := rfl
@[simp] theorem setChan_saved (c : Nat) (x : Channel) (d : Device) : (d.setChan c x).saved = d.saved := rfl
@[simp] theorem setChan_free (c : Nat) (x : Channel) (d : Device) : (d.setChan c x).free = d.free := rfl

/-! ### `Device.putRecords` -/

@[simp] theorem putRecords_events (hs : List HeldRec) (d : Device) : (d.putRecords hs).events = d.events := rfl
@[simp] theorem putRecords_logs (hs : List HeldRec) (d : Device) : (d.putRecords hs).logs = d.logs := rfl
@[simp] theorem putRecords_wq (hs : List HeldRec) (d : Device) : (d.putRecords hs).wq = d.wq := rfl
@[simp] theorem putRecords_time (hs : List HeldRec) (d : Device) : (d.putRecords hs).time = d.time := rfl
@[simp] theorem putRecords_link (hs : List HeldRec) (d : Device) : (d.putRecords hs).link = d.link := rfl
@[simp] theorem putRecords_code (hs : List HeldRec) (d : Device) : (d.putRecords hs).code = d.code := rfl
@[simp] theorem putRecords_ingest (hs : List HeldRec) (d : Device) : (d.putRecords hs).ingest = d.ingest := rfl
@[simp] theorem putRecords_comp (hs : List HeldRec) (d : Device) : (d.putRecords hs).comp = d.comp := rfl
@[simp] theorem putRecords_dram (hs : List HeldRec) (d : Device) : (d.putRecords hs).dram = d.dram := rfl
@[simp] theorem putRecords_modes (hs : List HeldRec) (d : Device) : (d.putRecords hs).modes = d.modes := rfl
@[simp] theorem putRecords_out (hs : List HeldRec) (d : Device) : (d.putRecords hs).out = d.out := rfl
@[simp] theorem putRecords_sched (hs : List HeldRec) (d : Device) : (d.putRecords hs).sched = d.sched := rfl
@[simp] theorem putRecords_lanes (hs : List HeldRec) (d : Device) : (d.putRecords hs).lanes = d.lanes := rfl
@[simp] theorem putRecords_journal (hs : List HeldRec) (d : Device) : (d.putRecords hs).journal = d.journal := rfl
@[simp] theorem putRecords_checks (hs : List HeldRec) (d : Device) : (d.putRecords hs).checks = d.checks := rfl
@[simp] theorem putRecords_audio (hs : List HeldRec) (d : Device) : (d.putRecords hs).audio = d.audio := rfl
@[simp] theorem putRecords_serv (hs : List HeldRec) (d : Device) : (d.putRecords hs).serv = d.serv := rfl
@[simp] theorem putRecords_phys (hs : List HeldRec) (d : Device) : (d.putRecords hs).phys = d.phys := rfl
@[simp] theorem putRecords_saved (hs : List HeldRec) (d : Device) : (d.putRecords hs).saved = d.saved := rfl
@[simp] theorem putRecords_free (hs : List HeldRec) (d : Device) : (d.putRecords hs).free = d.free := rfl

/-! ### `Device.flushRing` -/

@[simp] theorem flushRing_events (r : Nat) (d : Device) : (d.flushRing r).events = d.events := rfl
@[simp] theorem flushRing_logs (r : Nat) (d : Device) : (d.flushRing r).logs = d.logs := rfl
@[simp] theorem flushRing_wq (r : Nat) (d : Device) : (d.flushRing r).wq = d.wq := rfl
@[simp] theorem flushRing_time (r : Nat) (d : Device) : (d.flushRing r).time = d.time := rfl
@[simp] theorem flushRing_link (r : Nat) (d : Device) : (d.flushRing r).link = d.link := rfl
@[simp] theorem flushRing_code (r : Nat) (d : Device) : (d.flushRing r).code = d.code := rfl
@[simp] theorem flushRing_ingest (r : Nat) (d : Device) : (d.flushRing r).ingest = d.ingest := rfl
@[simp] theorem flushRing_comp (r : Nat) (d : Device) : (d.flushRing r).comp = d.comp := rfl
@[simp] theorem flushRing_dram (r : Nat) (d : Device) : (d.flushRing r).dram = d.dram := rfl
@[simp] theorem flushRing_modes (r : Nat) (d : Device) : (d.flushRing r).modes = d.modes := rfl
@[simp] theorem flushRing_out (r : Nat) (d : Device) : (d.flushRing r).out = d.out := rfl
@[simp] theorem flushRing_sched (r : Nat) (d : Device) : (d.flushRing r).sched = d.sched := rfl
@[simp] theorem flushRing_lanes (r : Nat) (d : Device) : (d.flushRing r).lanes = d.lanes := rfl
@[simp] theorem flushRing_journal (r : Nat) (d : Device) : (d.flushRing r).journal = d.journal := rfl
@[simp] theorem flushRing_checks (r : Nat) (d : Device) : (d.flushRing r).checks = d.checks := rfl
@[simp] theorem flushRing_audio (r : Nat) (d : Device) : (d.flushRing r).audio = d.audio := rfl
@[simp] theorem flushRing_serv (r : Nat) (d : Device) : (d.flushRing r).serv = d.serv := rfl
@[simp] theorem flushRing_phys (r : Nat) (d : Device) : (d.flushRing r).phys = d.phys := rfl
@[simp] theorem flushRing_saved (r : Nat) (d : Device) : (d.flushRing r).saved = d.saved := rfl
@[simp] theorem flushRing_free (r : Nat) (d : Device) : (d.flushRing r).free = d.free := rfl

/-! ### `Device.takeEntry` -/

@[simp] theorem takeEntry_mem (r : Nat) (e : Bytes) (st : Option Nat) (d : Device) : (d.takeEntry r e st).mem = d.mem := rfl
@[simp] theorem takeEntry_msix (r : Nat) (e : Bytes) (st : Option Nat) (d : Device) : (d.takeEntry r e st).msix = d.msix := rfl
@[simp] theorem takeEntry_events (r : Nat) (e : Bytes) (st : Option Nat) (d : Device) : (d.takeEntry r e st).events = d.events := rfl
@[simp] theorem takeEntry_logs (r : Nat) (e : Bytes) (st : Option Nat) (d : Device) : (d.takeEntry r e st).logs = d.logs := rfl
@[simp] theorem takeEntry_wq (r : Nat) (e : Bytes) (st : Option Nat) (d : Device) : (d.takeEntry r e st).wq = d.wq := rfl
@[simp] theorem takeEntry_time (r : Nat) (e : Bytes) (st : Option Nat) (d : Device) : (d.takeEntry r e st).time = d.time := rfl
@[simp] theorem takeEntry_link (r : Nat) (e : Bytes) (st : Option Nat) (d : Device) : (d.takeEntry r e st).link = d.link := rfl
@[simp] theorem takeEntry_code (r : Nat) (e : Bytes) (st : Option Nat) (d : Device) : (d.takeEntry r e st).code = d.code := rfl
@[simp] theorem takeEntry_ingest (r : Nat) (e : Bytes) (st : Option Nat) (d : Device) : (d.takeEntry r e st).ingest = d.ingest := rfl
@[simp] theorem takeEntry_comp (r : Nat) (e : Bytes) (st : Option Nat) (d : Device) : (d.takeEntry r e st).comp = d.comp := rfl
@[simp] theorem takeEntry_dram (r : Nat) (e : Bytes) (st : Option Nat) (d : Device) : (d.takeEntry r e st).dram = d.dram := rfl
@[simp] theorem takeEntry_modes (r : Nat) (e : Bytes) (st : Option Nat) (d : Device) : (d.takeEntry r e st).modes = d.modes := rfl
@[simp] theorem takeEntry_out (r : Nat) (e : Bytes) (st : Option Nat) (d : Device) : (d.takeEntry r e st).out = d.out := rfl
@[simp] theorem takeEntry_sched (r : Nat) (e : Bytes) (st : Option Nat) (d : Device) : (d.takeEntry r e st).sched = d.sched := rfl
@[simp] theorem takeEntry_lanes (r : Nat) (e : Bytes) (st : Option Nat) (d : Device) : (d.takeEntry r e st).lanes = d.lanes := rfl
@[simp] theorem takeEntry_journal (r : Nat) (e : Bytes) (st : Option Nat) (d : Device) : (d.takeEntry r e st).journal = d.journal := rfl
@[simp] theorem takeEntry_checks (r : Nat) (e : Bytes) (st : Option Nat) (d : Device) : (d.takeEntry r e st).checks = d.checks := rfl
@[simp] theorem takeEntry_audio (r : Nat) (e : Bytes) (st : Option Nat) (d : Device) : (d.takeEntry r e st).audio = d.audio := rfl
@[simp] theorem takeEntry_serv (r : Nat) (e : Bytes) (st : Option Nat) (d : Device) : (d.takeEntry r e st).serv = d.serv := rfl
@[simp] theorem takeEntry_phys (r : Nat) (e : Bytes) (st : Option Nat) (d : Device) : (d.takeEntry r e st).phys = d.phys := rfl
@[simp] theorem takeEntry_saved (r : Nat) (e : Bytes) (st : Option Nat) (d : Device) : (d.takeEntry r e st).saved = d.saved := rfl
@[simp] theorem takeEntry_free (r : Nat) (e : Bytes) (st : Option Nat) (d : Device) : (d.takeEntry r e st).free = d.free := rfl

/-! ### `Device.setTime` -/

@[simp] theorem setTime_mem (x : TimeState) (d : Device) : (d.setTime x).mem = d.mem := rfl
@[simp] theorem setTime_msix (x : TimeState) (d : Device) : (d.setTime x).msix = d.msix := rfl
@[simp] theorem setTime_events (x : TimeState) (d : Device) : (d.setTime x).events = d.events := rfl
@[simp] theorem setTime_logs (x : TimeState) (d : Device) : (d.setTime x).logs = d.logs := rfl
@[simp] theorem setTime_wq (x : TimeState) (d : Device) : (d.setTime x).wq = d.wq := rfl
@[simp] theorem setTime_rk (x : TimeState) (d : Device) : (d.setTime x).rk = d.rk := rfl
@[simp] theorem setTime_link (x : TimeState) (d : Device) : (d.setTime x).link = d.link := rfl
@[simp] theorem setTime_code (x : TimeState) (d : Device) : (d.setTime x).code = d.code := rfl
@[simp] theorem setTime_ingest (x : TimeState) (d : Device) : (d.setTime x).ingest = d.ingest := rfl
@[simp] theorem setTime_comp (x : TimeState) (d : Device) : (d.setTime x).comp = d.comp := rfl
@[simp] theorem setTime_dram (x : TimeState) (d : Device) : (d.setTime x).dram = d.dram := rfl
@[simp] theorem setTime_modes (x : TimeState) (d : Device) : (d.setTime x).modes = d.modes := rfl
@[simp] theorem setTime_out (x : TimeState) (d : Device) : (d.setTime x).out = d.out := rfl
@[simp] theorem setTime_sched (x : TimeState) (d : Device) : (d.setTime x).sched = d.sched := rfl
@[simp] theorem setTime_lanes (x : TimeState) (d : Device) : (d.setTime x).lanes = d.lanes := rfl
@[simp] theorem setTime_journal (x : TimeState) (d : Device) : (d.setTime x).journal = d.journal := rfl
@[simp] theorem setTime_checks (x : TimeState) (d : Device) : (d.setTime x).checks = d.checks := rfl
@[simp] theorem setTime_audio (x : TimeState) (d : Device) : (d.setTime x).audio = d.audio := rfl
@[simp] theorem setTime_serv (x : TimeState) (d : Device) : (d.setTime x).serv = d.serv := rfl
@[simp] theorem setTime_phys (x : TimeState) (d : Device) : (d.setTime x).phys = d.phys := rfl
@[simp] theorem setTime_saved (x : TimeState) (d : Device) : (d.setTime x).saved = d.saved := rfl
@[simp] theorem setTime_free (x : TimeState) (d : Device) : (d.setTime x).free = d.free := rfl

/-! ### `Device.feed` -/

@[simp] theorem feed_rk (p : Nat) (f : WordQueue → Bool) (ws : List (BitVec 64)) (d : Device) : (d.feed p f ws).rk = d.rk := rfl
@[simp] theorem feed_time (p : Nat) (f : WordQueue → Bool) (ws : List (BitVec 64)) (d : Device) : (d.feed p f ws).time = d.time := rfl
@[simp] theorem feed_link (p : Nat) (f : WordQueue → Bool) (ws : List (BitVec 64)) (d : Device) : (d.feed p f ws).link = d.link := rfl
@[simp] theorem feed_code (p : Nat) (f : WordQueue → Bool) (ws : List (BitVec 64)) (d : Device) : (d.feed p f ws).code = d.code := rfl
@[simp] theorem feed_ingest (p : Nat) (f : WordQueue → Bool) (ws : List (BitVec 64)) (d : Device) : (d.feed p f ws).ingest = d.ingest := rfl
@[simp] theorem feed_comp (p : Nat) (f : WordQueue → Bool) (ws : List (BitVec 64)) (d : Device) : (d.feed p f ws).comp = d.comp := rfl
@[simp] theorem feed_dram (p : Nat) (f : WordQueue → Bool) (ws : List (BitVec 64)) (d : Device) : (d.feed p f ws).dram = d.dram := rfl
@[simp] theorem feed_modes (p : Nat) (f : WordQueue → Bool) (ws : List (BitVec 64)) (d : Device) : (d.feed p f ws).modes = d.modes := rfl
@[simp] theorem feed_out (p : Nat) (f : WordQueue → Bool) (ws : List (BitVec 64)) (d : Device) : (d.feed p f ws).out = d.out := rfl
@[simp] theorem feed_sched (p : Nat) (f : WordQueue → Bool) (ws : List (BitVec 64)) (d : Device) : (d.feed p f ws).sched = d.sched := rfl
@[simp] theorem feed_lanes (p : Nat) (f : WordQueue → Bool) (ws : List (BitVec 64)) (d : Device) : (d.feed p f ws).lanes = d.lanes := rfl
@[simp] theorem feed_journal (p : Nat) (f : WordQueue → Bool) (ws : List (BitVec 64)) (d : Device) : (d.feed p f ws).journal = d.journal := rfl
@[simp] theorem feed_checks (p : Nat) (f : WordQueue → Bool) (ws : List (BitVec 64)) (d : Device) : (d.feed p f ws).checks = d.checks := rfl
@[simp] theorem feed_audio (p : Nat) (f : WordQueue → Bool) (ws : List (BitVec 64)) (d : Device) : (d.feed p f ws).audio = d.audio := rfl
@[simp] theorem feed_serv (p : Nat) (f : WordQueue → Bool) (ws : List (BitVec 64)) (d : Device) : (d.feed p f ws).serv = d.serv := rfl
@[simp] theorem feed_phys (p : Nat) (f : WordQueue → Bool) (ws : List (BitVec 64)) (d : Device) : (d.feed p f ws).phys = d.phys := rfl
@[simp] theorem feed_saved (p : Nat) (f : WordQueue → Bool) (ws : List (BitVec 64)) (d : Device) : (d.feed p f ws).saved = d.saved := rfl

/-! ### Where a touched part is as expected -/

@[simp] theorem takeEntry_dmaUp (r : Nat) (e : Bytes) (st : Option Nat) (d : Device) : (d.takeEntry r e st).dmaUp = d.dmaUp := rfl
@[simp] theorem takeEntry_now (r : Nat) (e : Bytes) (st : Option Nat) (d : Device) : (d.takeEntry r e st).now = d.now := rfl
@[simp] theorem raise_now (evs : List (Nat × Nat)) (d : Device) : (d.raise evs).now = d.now := rfl
theorem at_now (t : Nat) (d : Device) : (d.at_ t).now = Nat.max d.now t := rfl
@[simp] theorem setTime_time (x : TimeState) (d : Device) : (d.setTime x).time = x := rfl
@[simp] theorem setChan_same (c : Nat) (x : Channel) (d : Device) : (d.setChan c x).code.channels = Tab.put c x d.code.channels := rfl

end Sys2Proof.Laws
end

