-- ==== Sys2Proof/Laws/Ranrok.lean ====
section
/-!
SUPPORT. What answering a ring command touches besides its effect, and how a command that passes its checks runs.
-/
namespace Sys2Proof.Laws

open Sys2Proof Sys2Proof.Machine

theorem AccountsOnly.refl (d : Device) : AccountsOnly d d := ⟨d.rk.rings, d.rk.cq, d.mem.host, d.msix, rfl⟩

theorem AccountsOnly.trans {a b c : Device} (h : AccountsOnly a b) (k : AccountsOnly b c) : AccountsOnly a c := by
  obtain ⟨r1, q1, h1, m1, e1⟩ := h
  obtain ⟨r2, q2, h2, m2, e2⟩ := k
  exact ⟨r2, q2, h2, m2, by rw [e2, e1]⟩

theorem putRecords_accounts (hs : List HeldRec) (d : Device) : AccountsOnly d (d.putRecords hs) :=
  ⟨_, _, _, _, rfl⟩

theorem rings_accounts (d : Device) (g : Tab Ring) : AccountsOnly d { d with rk := { d.rk with rings := g } } := ⟨_, _, _, _, rfl⟩

theorem flushRing_accounts (r : Nat) (d : Device) : AccountsOnly d (d.flushRing r) := ⟨_, _, _, _, rfl⟩

/-- Deciding a ring command touches the interface's accounts and nothing else; a BUSY answer also raises E016. -/
theorem decide_accounts (r seq tag status detail : Nat) (f : Option Nat) (eff : Nat) (d : Device) (h : status ≠ stBusy) :
    AccountsOnly d (d.decide (.ring r seq) tag status detail f eff) := by
  simp only [Device.decide, h, if_false]
  exact ⟨_, _, _, _, rfl⟩

theorem accept_accounts (r seq : Nat) (f : Option Nat) (eff : Nat) (d : Device) : AccountsOnly d (d.accept (.ring r seq) f eff) :=
  ⟨_, _, _, _, rfl⟩

/-- The outcome of a run, recorded: its effect and the interface's accounts. -/
theorem settle_accounts (c : Ctx) (r : Done) (ring seq : Nat) (ho : c.origin = .ring ring seq)
    (h : ∀ s k, r.final = some (s, k) → s ≠ stBusy) : AccountsOnly r.dev (r.settle c) := by
  unfold Done.settle
  rw [ho]
  split
  · next s k e =>
    unfold Device.decideCtx
    rw [ho]
    exact decide_accounts _ _ _ _ _ _ _ _ (h s k e)
  · exact accept_accounts _ _ _ _ _

/-- A command that passes its checks and waits for nothing runs (11 R321 to R332). -/
theorem runRow_of_passes (sp : CmdSpec) (t : Nat) (ring : Fin 4) (entry : Bytes) (s : State) (hp : passes sp t ring entry s = true)
    (ha : sp.atOnce (ctxAt sp t ring entry s) (takenAt t ring entry s) = true) :
    runRow sp ring entry (s.dev.at_ t) =
      if sp.when_ ≠ .commit ∧ sp.held = true then (sp.apply (ctxAt sp t ring entry s) (takenAt t ring entry s)).dev
      else (sp.apply (ctxAt sp t ring entry s) (takenAt t ring entry s)).settle (ctxAt sp t ring entry s) := by
  simp only [passes, Bool.and_eq_true, Option.isNone_iff_eq_none] at hp
  obtain ⟨⟨⟨h1, h2⟩, h3⟩, h4⟩ := hp
  change runTaken sp ring (ctxAt sp t ring entry s) (takenAt t ring entry s) = _
  simp only [runTaken, h1, if_true, CmdSpec.run, h2, Option.isNone_some, h3, h4]
  unfold CmdSpec.runChecked
  unfold CmdSpec.atOnce at ha
  cases hw : sp.when_ with
  | commit =>
    simp only [hw, Bool.and_eq_true, Option.isNone_iff_eq_none, beq_iff_eq, Bool.not_eq_true'] at ha
    simp [ha.1.1, ha.1.2, ha.2]
  | answer =>
    simp only [hw] at ha
    cases hh : sp.held with
    | true => simp
    | false =>
      simp only [hh, Bool.false_or] at ha
      cases hu : sp.unit (ctxAt sp t ring entry s) (takenAt t ring entry s) with
      | none => simp
      | some u => simp only [hu] at ha; simp_all
  | done =>
    simp only [hw] at ha
    cases hh : sp.held with
    | true => simp
    | false =>
      simp only [hh, Bool.false_or] at ha
      cases hu : sp.unit (ctxAt sp t ring entry s) (takenAt t ring entry s) with
      | none => simp
      | some u => simp only [hu] at ha; simp_all

/-- What a row of a ring command does: where its final is not BUSY, `eff` is what `apply` does to the module. -/
theorem commandDoes_of (i : Instr) (sp : CmdSpec) (t : Nat) (ring : Fin 4) (entry : Bytes) (s : State) (eff : Ctx → Device → Device)
    (hi : exec i s = .next { s with dev := runRow sp ring entry (s.dev.at_ t) })
    (he : (sp.apply (ctxAt sp t ring entry s) (takenAt t ring entry s)).dev = eff (ctxAt sp t ring entry s) (takenAt t ring entry s))
    (hf : ∀ a k, (sp.apply (ctxAt sp t ring entry s) (takenAt t ring entry s)).final = some (a, k) → a ≠ stBusy) :
    CommandDoes i sp t ring entry s eff := by
  intro hp ha
  refine ⟨_, hi, ?_⟩
  rw [runRow_of_passes sp t ring entry s hp ha, ← he]
  split
  · exact AccountsOnly.refl _
  · exact settle_accounts _ _ _ _ rfl hf

end Sys2Proof.Laws
end

