-- ==== Sys2Proof/Laws/Tables.lean ====
section
/-!
SUPPORT. Tables and memories: what a read gives after a write, and that every operation on a memory keeps its canonical form.
-/
namespace Sys2Proof.Laws

open Sys2Proof.Machine

/-! ### Tables -/

@[simp] theorem find_put_same {α : Type} (k : Nat) (v : α) (t : Tab α) : Tab.find k (Tab.put k v t) = some v := by
  induction t with
  | nil => simp [Tab.put, Tab.find]
  | cons p r ih =>
    obtain ⟨j, w⟩ := p
    by_cases h1 : k < j
    · simp [Tab.put, Tab.find, h1]
    · by_cases h2 : j = k
      · simp [Tab.put, Tab.find, h2]
      · simp [Tab.put, Tab.find, h1, h2, ih]

theorem find_put_other {α : Type} {k j : Nat} (h : j ≠ k) (v : α) (t : Tab α) : Tab.find j (Tab.put k v t) = Tab.find j t := by
  induction t with
  | nil => simp [Tab.put, Tab.find, Ne.symm h]
  | cons p r ih =>
    obtain ⟨i, w⟩ := p
    by_cases h1 : k < i
    · simp [Tab.put, Tab.find, h1, Ne.symm h]
    · by_cases h2 : i = k
      · subst h2
        simp [Tab.put, Tab.find, Ne.symm h]
      · by_cases h3 : i = j
        · subst h3
          simp [Tab.put, Tab.find, h1, h2]
        · simp [Tab.put, Tab.find, h1, h2, h3, ih]

@[simp] theorem read_put_same {α : Type} (k : Nat) (v z : α) (t : Tab α) : Tab.read (Tab.put k v t) k z = v := by simp [Tab.read]

theorem read_put_other {α : Type} {k j : Nat} (h : j ≠ k) (v z : α) (t : Tab α) : Tab.read (Tab.put k v t) j z = Tab.read t j z := by
  simp [Tab.read, find_put_other h]

@[simp] theorem find_del_same {α : Type} (k : Nat) (t : Tab α) : Tab.find k (Tab.del k t) = none := by
  induction t with
  | nil => rfl
  | cons p r ih =>
    obtain ⟨j, w⟩ := p
    by_cases h : j = k
    · simpa [Tab.del, h] using ih
    · simpa [Tab.del, h, Tab.find] using ih

theorem find_del_other {α : Type} {k j : Nat} (h : j ≠ k) (t : Tab α) : Tab.find j (Tab.del k t) = Tab.find j t := by
  induction t with
  | nil => rfl
  | cons p r ih =>
    obtain ⟨i, w⟩ := p
    by_cases h1 : i = k
    · subst h1
      simpa [Tab.del, Tab.find, Ne.symm h] using ih
    · by_cases h2 : i = j
      · subst h2
        simp [Tab.del, Tab.find, h1]
      · simpa [Tab.del, Tab.find, h1, h2] using ih

/-! ### Memories -/

theorem memWfFrom_weaken {lo a : Nat} {r : Mem} (h : lo ≤ a) (w : memWfFrom (some a) r = true) : memWfFrom (some lo) r = true := by
  cases r with
  | nil => rfl
  | cons p r =>
    obtain ⟨b, v⟩ := p
    simp only [memWfFrom, Bool.and_eq_true, decide_eq_true_eq] at w ⊢
    exact ⟨⟨by omega, w.1.2⟩, w.2⟩

theorem memWfFrom_put {lo : Option Nat} {k : Nat} {b : Byte} {m : Mem} (hb : b ≠ memDefault) (hk : ∀ l, lo = some l → l < k)
    (w : memWfFrom lo m = true) : memWfFrom lo (Tab.put k b m) = true := by
  induction m generalizing lo with
  | nil => cases lo <;> simp_all [Tab.put, memWfFrom]
  | cons p r ih =>
    obtain ⟨j, v⟩ := p
    simp only [memWfFrom, Bool.and_eq_true] at w
    by_cases h1 : k < j
    · simp only [Tab.put, h1, if_true, memWfFrom, Bool.and_eq_true]
      refine ⟨⟨?_, by simp [hb]⟩, ⟨by simp, w.1.2⟩, w.2⟩
      cases lo with
      | none => rfl
      | some l => simpa using hk l rfl
    · by_cases h2 : j = k
      · subst h2
        simp only [Tab.put, Nat.lt_irrefl, if_false, if_true, memWfFrom, Bool.and_eq_true]
        exact ⟨⟨w.1.1, by simp [hb]⟩, w.2⟩
      · simp only [Tab.put, h1, h2, if_false, memWfFrom, Bool.and_eq_true]
        exact ⟨w.1, ih (fun l hl => by cases hl; omega) w.2⟩

theorem memWfFrom_filter {lo : Option Nat} {m : Mem} (f : Host.Cell → Bool) (w : memWfFrom lo m = true) :
    memWfFrom lo (m.filter f) = true := by
  induction m generalizing lo with
  | nil => rfl
  | cons p r ih =>
    obtain ⟨j, v⟩ := p
    simp only [memWfFrom, Bool.and_eq_true] at w
    by_cases h : f (j, v) = true
    · simp only [List.filter_cons, h, if_true, memWfFrom, Bool.and_eq_true]
      exact ⟨w.1, ih w.2⟩
    · simp only [List.filter_cons, h]
      cases lo with
      | none =>
        have w2 : memWfFrom none r = true := by
          cases r with
          | nil => rfl
          | cons q r' =>
            obtain ⟨i, u⟩ := q
            simp only [memWfFrom, Bool.and_eq_true] at w ⊢
            exact ⟨⟨trivial, w.2.1.2⟩, w.2.2⟩
        exact ih w2
      | some l =>
        have hl : l < j := by simpa using w.1.1
        exact ih (memWfFrom_weaken (Nat.le_of_lt hl) w.2)

/-- Writing a byte keeps a memory's canonical form. -/
theorem memWrite_wf {m : Mem} (a : Nat) (b : Byte) (w : Memory.wf m = true) : Memory.wf (memWrite m a b) = true := by
  unfold memWrite
  split
  · exact memWfFrom_filter _ w
  · next h => exact memWfFrom_put h (fun _ hl => by cases hl) w

/-- Storing a string of bytes keeps a memory's canonical form. -/
theorem memStore_wf {m : Mem} (a : Nat) (b : Bytes) (w : Memory.wf m = true) : Memory.wf (memStore m a b) = true := by
  induction b generalizing m a with
  | nil => exact w
  | cons x r ih => exact ih (a + 1) (memWrite_wf a x w)

/-- Losing a range keeps a memory's canonical form. -/
theorem memDrop_wf {m : Mem} (lo hi : Nat) (w : Memory.wf m = true) : Memory.wf (memDrop m lo hi) = true := memWfFrom_filter _ w

theorem memRead_memWrite_same (m : Mem) (a : Nat) (b : Byte) : memRead (memWrite m a b) a = b := by
  unfold memRead memWrite
  split
  · next h => simp [Tab.read, h]
  · simp

theorem memRead_memWrite_other {a c : Nat} (h : c ≠ a) (m : Mem) (b : Byte) : memRead (memWrite m a b) c = memRead m c := by
  unfold memRead memWrite
  split
  · simp [Tab.read, find_del_other h]
  · exact read_put_other h b memDefault m

/-- A byte outside the stored string reads as before. -/
theorem memRead_memStore_other {a c : Nat} {b : Bytes} (h : c < a ∨ a + b.length ≤ c) (m : Mem) : memRead (memStore m a b) c = memRead m c := by
  induction b generalizing m a with
  | nil => rfl
  | cons x r ih =>
    simp only [List.length_cons] at h
    simp only [memStore]
    rw [ih (by omega)]
    exact memRead_memWrite_other (by omega) m x

/-- A byte of the stored string reads as stored. -/
theorem memRead_memStore_at {a : Nat} {b : Bytes} {i : Nat} (h : i < b.length) (m : Mem) : memRead (memStore m a b) (a + i) = b[i] := by
  induction b generalizing m a i with
  | nil => simp at h
  | cons x r ih =>
    cases i with
    | zero =>
      simp only [memStore, Nat.add_zero]
      rw [memRead_memStore_other (Or.inl (by omega)), memRead_memWrite_same]
      rfl
    | succ n =>
      have hn : n < r.length := by simpa using h
      have := ih hn (memWrite m a x) (a := a + 1)
      simpa [memStore, Nat.add_assoc, Nat.add_comm 1 n] using this

/-- What a store wrote reads back. -/
theorem memBytes_memStore (m : Mem) (a : Nat) (b : Bytes) : memBytes (memStore m a b) a b.length = b := by
  have gen : ∀ (n o : Nat), o + n = b.length → memBytes (memStore m a b) (a + o) n = b.drop o := by
    intro n
    induction n with
    | zero => intro o h; simp [memBytes, List.drop_eq_nil_of_le (by omega : b.length ≤ o)]
    | succ n ih =>
      intro o h
      have ho : o < b.length := by omega
      simp only [memBytes]
      rw [memRead_memStore_at ho, Nat.add_assoc, ih (o + 1) (by omega), List.drop_eq_getElem_cons ho]
  simpa using gen b.length 0 (by omega)

end Sys2Proof.Laws
end

