-- ==== Sys2Proof/Machine/Registers.lean ====
section
/-!
DEFINITION. What a read of BAR0 gives (10 R296, R297; Tables 2.6 to 2.10, 8.9, 8.10, 10.5 to 10.10, 11.2 to 11.9, 15.3 to 15.5, 15.8, 15.12, 15.13). A read
that has an effect is a row of the table of operations; every other read is this one, and changes nothing.
-/
namespace Sys2Proof.Machine

/-- A register from its fields: (lowest bit, value). -/
def packBits (fs : List (Nat × Nat)) : Nat := (fs.map (fun f => 2 ^ f.1 * f.2)).sum

/-- A signed number in `n` bits. -/
def twos (n : Nat) (v : Int) : Nat := (v % (2 ^ n : Nat)).toNat

/-- A bit for each number below `n`. -/
def bitsWhere (n : Nat) (p : Nat → Bool) : Nat := packBits ((List.range n).map (fun i => (i, bit01 (p i))))

/-! ### Configuration space (R294, R295) -/

/-- The capabilities of configuration space (R294): the power states are D0 and D3hot; the DVSECs are those of a CXL 3.1 Type 2 device. -/
inductive PciCap where
  | pciExpress | powerManagement | msix | aer | doe | ide | dvsecCxlDevice | dvsecFlexBus | dvsecRegisterLocator
  deriving DecidableEq, Repr

/-- What configuration space presents: vendor, device, class code and capabilities (R294), and the power state it holds. -/
structure PciConfig where
  vendor : Nat
  device : Nat
  classCode : Nat
  caps : List PciCap
  d3hot : Bool
  deriving DecidableEq, Repr

def Device.pciConfig (d : Device) : PciConfig :=
  { vendor := Config.vendorId.toNat, device := 0x7192, classCode := 0x048000, d3hot := d.link.d3hot,
    caps := [.pciExpress, .powerManagement, .msix, .aer, .doe, .ide, .dvsecCxlDevice, .dvsecFlexBus, .dvsecRegisterLocator] }

/-- The size of a BAR (Table 10.3): BAR4 is implemented in modes 3 and 4 alone; BARs 1, 3 and 5 are upper halves. -/
def LinkState.barSize (bar : Nat) (x : LinkState) : Nat :=
  match bar with
  | 0 => 2 ^ 26
  | 2 => 2 ^ 17
  | 4 => if x.mode == 3 || x.mode == 4 then 2 ^ 34 else 0
  | _ => 0

/-- A block of BAR2 (R295, Table 10.3): those of CXL read 0 in modes 3 and 4. -/
inductive Bar2Block where
  | msixTable | msixPba | cxlDevice | cxlComponent | reserved
  deriving DecidableEq, Repr

/-- The block that a BAR2 offset lies in: the table and the PBA are 256 entries of 16 bytes and 256 bits. -/
def bar2Block (off : Nat) : Bar2Block :=
  if off < 0x1000 then .msixTable else if within 0x1000 0x101F off then .msixPba else if within 0x8000 0xFFFF off then .cxlDevice
  else if within 0x10000 0x1FFFF off then .cxlComponent else .reserved

/-- 64 bits of the PBA (R303): the vectors that wait. -/
def Device.readPba (w : Nat) (d : Device) : Nat := d.msix.pending.toNat / 2 ^ (64 * w) % 2 ^ 64

/-- The blocks that read 0 whatever is written: reserved space (R15) and, in modes 3 and 4, those of CXL. -/
def LinkState.bar2Zero (off : Nat) (x : LinkState) : Bool :=
  match bar2Block off with
  | .reserved => true
  | .cxlDevice | .cxlComponent => x.mode == 3 || x.mode == 4
  | _ => false

/-! ### IDENT (Table 10.5) -/

/-- IDENT_PART, IDENT_SERIAL, IDENT_FW (Tables 10.6, 10.7). -/
def Ident.part (i : Ident) : Nat := packBits [(0, 0x7192), (16, i.dieRev), (24, i.moduleRev), (32, i.ranrokMinor), (40, i.ranrokMajor)]
def Ident.fw (i : Ident) : Nat := packBits [(0, i.mgmtSlot), (1, i.secSlot), (16, i.secVersion), (32, i.mgmtVersion)]

/-- BOOT_STATUS (Table 10.8). -/
def LinkState.bootStatus (x : LinkState) : Nat :=
  packBits [(0, bit01 x.measured), (1, bit01 x.rescue), (8, x.bootStage), (16, x.bootError), (32, if x.bootEnd.isSome then x.uptime / second else 0)]

/-- How many channels are LIVE or STOPPING. -/
def CodingState.liveCount (x : CodingState) : Nat := (x.channels.filter (fun e => e.2.running)).length

/-- MODE_STATUS (Table 10.9). -/
def Device.modeStatus (d : Device) : Nat :=
  let turning := d.inTransition
  packBits [(0, d.modes.mode), (4, if turning then d.modes.targetMode else d.modes.mode), (8, bit01 turning), (9, bit01 d.rk.mgmtUp), (10, bit01 d.link.secUp),
    (16, d.code.liveCount)]

/-- LINK_STATUS (Table 10.10). -/
def LinkState.status (x : LinkState) : Nat :=
  packBits [(0, x.mode), (8, x.width), (13, bit01 x.ideIo), (14, bit01 x.ideCm), (15, bit01 (!x.sessions.isEmpty)), (20, x.lastReset), (32, x.hostResets)]

def Device.readIdent (o : Nat) (d : Device) : Nat :=
  if o = 0 then d.link.ident.part else if o = 8 then d.link.ident.serial else if o = 0x10 then d.link.ident.fw else if o = 0x18 then d.link.bootStatus
  else if o = 0x20 then d.modeStatus else if o = 0x28 then d.link.status else if o = 0x30 then d.beats / msec else 0

/-! ### DOORBELL (Table 11.2) -/

/-- CRn_STATUS (Table 11.4). -/
def Device.ringStatus (r : Nat) (d : Device) : Nat :=
  let g := d.rk.ring r
  let waits := d.rk.waiting.any (fun w => match w.ctx.origin with
    | .ring k _ => k == r
    | .mctp => false)
  packBits [(0, bit01 (g.enable && !g.busyStop && !g.cqWait && d.rk.mgmtUp)), (2, bit01 waits), (3, bit01 (!d.rk.mgmtUp)), (4, bit01 g.cqWait), (5, bit01 g.busyStop),
    (6, bit01 g.error), (32, g.errorCode)]

/-- CRn_QTIME_MAX: over the last second in ns, and since power-up in µs. -/
def Ring.qtimeMaxReg (now : Nat) (g : Ring) : Nat :=
  let recent := (g.qtimeRecent.filter (fun p => now < p.1 + second)).foldl (fun m p => Nat.max m p.2) 0
  packBits [(0, Nat.min recent (2 ^ 32 - 1)), (32, Nat.min (g.qtimeMax / 1000) (2 ^ 32 - 1))]

/-- CQ_CFG and CQ_STATUS (Tables 11.6, 11.7). -/
def CompRing.cfg (q : CompRing) : Nat := packBits [(0, bit01 q.enable), (8, q.log2), (13, q.irqMode), (16, q.vector)]

def Device.cqStatus (d : Device) : Nat :=
  let q := d.rk.cq
  packBits [(0, bit01 d.cqActive), (1, bit01 (q.valid && d.rk.cqFree == 0)), (6, bit01 q.error), (32, q.errorCode)]

/-- MGMT_LOAD (Table 11.8): the loads are free percentages, the peak no lower than the load of the last millisecond, and whether an estimate lies beyond
half its deadline is a free value too (assumption 3). It reads 0 until a millisecond has been measured since power-up. -/
def Device.mgmtLoad (d : Device) : Nat :=
  let load (i : Nat) : Nat := (Config.free 8 (d.free + i)).toNat % 101
  let shed := match d.rk.lastBusy with
    | none => false
    | some t => Nat.blt d.now (t + second)
  let begun := match d.link.bootEnd with
    | none => false
    | some t => Nat.ble (t + msec) d.now
  if !begun then 0
  else packBits [(0, load 0), (8, load 1), (16, Nat.max (load 0) (load 2)), (24, load 3), (32, if shed then 2 else (Config.free 1 (d.free + 4)).toNat)]

/-- MGMT_RESTARTS (Table 11.9). -/
def RanrokState.restartsReg (x : RanrokState) : Nat := packBits [(0, x.restarts), (24, x.restartCause), (32, x.restartMs)]

/-- CRn_RESULT: eight bytes of a record. -/
def Device.resultWord (o : Nat) (d : Device) : Nat :=
  match Tab.find (o % 0x200 / 0x20) (d.rk.ring (o / 0x200)).results with
  | none => 0
  | some r => rdLE (recBytes false r) (o % 0x20) 8

def Device.readDoorbell (o : Nat) (d : Device) : Nat :=
  if o < 0x200 then
    let g := d.rk.ring (o / 0x80)
    let k := o % 0x80
    if k = 0 then packBits [(0, bit01 g.enable), (4, g.log2)] else if k = 8 then g.tail else if k = 0x10 then g.head
    else if k = 0x18 then d.ringStatus (o / 0x80) else if k = 0x20 then Nat.min g.taken max64 else if k = 0x28 then g.done else if k = 0x30 then g.busy
    else if k = 0x38 then g.qtimeSum else if k = 0x40 then g.qtimeMaxReg d.now else 0
  else if o = 0x200 then d.rk.cq.base else if o = 0x208 then d.rk.cq.cfg else if o = 0x210 then d.rk.cq.written else if o = 0x218 then d.rk.cq.consumed
  else if o = 0x220 then d.cqStatus else if o = 0x228 then d.rk.cqHeld else if o = 0x300 then d.mgmtLoad else if o = 0x308 then d.rk.restartsReg
  else if within 0x400 0xBFF o then d.resultWord (o - 0x400) else 0

/-! ### HOSTQ (Tables 8.9, 8.10) -/

/-- STATUS of a transmit queue (Table 8.9). HELD is 1 while eligible descriptors are absent and posted ones wait (R256). -/
def Device.txStatus (q : Nat) (d : Device) : Nat :=
  let g := d.txq q
  let held := g.hold && idxAhead g.fetched g.eligible == 0 && idxAhead g.eligible g.tail != 0
  packBits [(0, bit01 g.enable), (4, bit01 (g.enable && !d.lanes.isUp g.port)), (5, bit01 g.flushing), (6, bit01 g.error), (7, bit01 held), (32, g.errorCode)]

/-- The ports of a receive queue's filters. -/
def Device.filterPorts (q : Nat) (d : Device) : List Nat :=
  (List.range 32).filter (fun p => d.sched.filters.any (fun e => e.2.queue == q && natBit e.2.portMask p))

def Device.rxStatus (q : Nat) (d : Device) : Nat :=
  let g := d.rxq q
  packBits [(0, bit01 g.enable), (4, bit01 (g.enable && (d.filterPorts q).all (fun p => !d.lanes.isUp p))), (6, bit01 g.error), (32, g.errorCode)]

/-- A receive queue has written back a descriptor that has not been posted again. -/
def RxQueue.ready (g : RxQueue) : Bool := g.seen != 0 && Nat.blt (idxAhead g.head g.tail) g.entries

def Device.readHostq (o : Nat) (d : Device) : Nat :=
  let q := o % 0x1000 / 0x40
  let k := o % 0x40
  if o < 0x1000 then
    let g := d.txq q
    if k = 0 then g.tail else if k = 8 then g.head else if k = 0x10 then d.txStatus q else if k = 0x18 then g.sent else if k = 0x20 then g.dropped else 0
  else if o < 0x2000 then
    let g := d.rxq q
    if k = 0 then g.tail else if k = 8 then g.head else if k = 0x10 then d.rxStatus q else if k = 0x18 then g.received else if k = 0x20 then g.dropped else 0
  else if o = 0x2000 then bitsWhere 64 (fun q => (d.txq q).error)
  else if o = 0x2008 then bitsWhere 64 (fun q => (d.rxq q).ready)
  else 0

/-! ### EVENT, TALLY and WQUEUE (Tables 15.3 to 15.5, 15.8, 15.12, 15.13) -/

def EventState.evt (n : Nat) (e : EventState) : EvSrc := Tab.read e.src n EvSrc.reset

/-- EVENT_LOG_STATUS; BAD_INDEX is R437's. -/
def Device.logStatus (d : Device) : Nat :=
  let l := d.events.log
  let behind := (l.windex + 2 ^ 64 - readIndex d.mem l.offset) % 2 ^ 64
  packBits [(0, bit01 l.enable), (1, bit01 l.full), (2, bit01 (l.enable && Nat.blt (2 ^ l.log2) behind))]

def Device.readEvent (o : Nat) (d : Device) : Nat :=
  if o < 0x2000 then
    let s := d.events.evt (o / 16)
    if evReserved (o / 16) then 0
    else if o % 16 = 0 then packBits [(0, bit01 s.pending), (1, bit01 s.rpt), (32, s.lastDetail % 2 ^ 32)]
    else packBits [(0, bit01 s.enable), (4, s.route), (8, s.vector)]
  else if o < 0x2040 then bitsWhere 64 (fun b => (d.events.evt (64 * ((o - 0x2000) / 8) + b)).pending)
  else if o = 0x2100 then d.logStatus
  else 0

def Device.readTally (o : Nat) (d : Device) : Nat :=
  if o < 0x1C00 then Tab.read d.events.tally (o / 8) 0
  else if o < 0x1C70 then bitsWhere 64 (fun b => Tab.read d.events.carry (64 * ((o - 0x1C00) / 8) + b) false)
  else 0

/-- WQq_STATUS: EMPTY and FULL err on the safe side in class X (R443), FULL by a free value. -/
def wqStatus (q free : Nat) (w : WordQueue) : Nat :=
  let full := Nat.ble (wqDepth q) (w.words.length + wqLag q free)
  packBits [(0, bit01 w.enabled), (1, bit01 (w.seen == 0)), (2, bit01 full), (3, bit01 w.flushing), (4, bit01 w.resetSeen), (5, bit01 w.popEmpty),
    (6, bit01 w.discarding), (7, bit01 (classX q)), (48, w.resets)]

def Device.readWq (o : Nat) (d : Device) : Nat :=
  let q := o / 0x40
  let w := Tab.read d.wq.queues q WordQueue.reset
  let k := o % 0x40
  if k = 8 then w.seen else if k = 0x10 then wqStatus q d.free w else if k = 0x18 then packBits [(8, w.producer), (16, w.arg), (32, w.arg2)]
  else if k = 0x20 then w.pushed else if k = 0x28 then w.dropped else 0

/-! ### TIME (Tables 2.6 to 2.10) -/

/-- BEAM_STATUS (Table 2.8). -/
def Device.beamStatus (d : Device) : Nat :=
  let x := d.time
  packBits [(0, x.servo.code), (4, x.sel), (6, bit01 x.domA.valid), (7, bit01 x.domB.valid), (8, bit01 d.anyLive), (9, bit01 x.stepPending), (10, bit01 x.ppsOk),
    (11, bit01 x.tenOk), (32, x.holdSec % 2 ^ 32)]

/-- The low word of a captured time (Table 2.7). -/
def capLo (time source servo : Nat) : Nat := packBits [(0, servo), (3, source), (16, time % 65536), (32, time / 65536 % 1000000000)]

/-- Latencies and asymmetries, eight bytes at a time. -/
def Device.latencyWord (o : Nat) (d : Device) : Nat :=
  let p := o / 0x20
  let rate := o % 0x20 / 8
  packBits [(0, d.latency false p rate % 2 ^ 32), (32, d.latency true p rate % 2 ^ 32)]

def Device.asymWord (o : Nat) (d : Device) : Nat :=
  packBits [(0, twos 32 (Tab.read d.time.asym (o / 4) 0)), (32, twos 32 (Tab.read d.time.asym (o / 4 + 1) 0))]

def Device.readTime (o : Nat) (d : Device) : Nat :=
  let x := d.time
  if o < 0x40 then
    let l := Tab.read x.latches (o / 16) ⟨0, 0⟩
    if o % 16 = 8 then l.time / second else packBits [(0, l.servo), (16, l.time % 65536), (32, l.time / 65536 % 1000000000)]
  else if o = 0x40 then d.beamStatus else if o = 0x48 then twos 64 x.domA.offset else if o = 0x50 then twos 64 x.domB.offset
  else if o = 0x58 then twos 32 x.freqAdj else if o = 0x60 then twos 64 (x.slewRemain x.beam) else if o = 0x68 then x.domA.gm
  else if o = 0x70 then x.domB.gm else if o = 0x78 then twos 64 x.ppsMeas
  else if within 0x100 0x1FF o then
    let c := Tab.read x.caps ((o - 0x100) / 0x20) CaptureUnit.reset
    let k := o % 0x20
    if k = 0 then capLo c.time c.capSource c.capState else if k = 8 then c.time / second
    else if k = 0x10 then packBits [(0, c.source), (8, c.edge), (16, bit01 c.event)] else packBits [(0, bit01 c.full), (32, c.missed)]
  else if within 0x200 0x5FF o then d.latencyWord (o - 0x200)
  else if within 0x600 0x67F o then d.asymWord (o - 0x600)
  else 0

/-! ### BAR0 -/

/-- The 64-bit word of BAR0 at an offset that is a multiple of 8. Reserved space reads 0 (01 R15). LATCHn_LO, the tallies' aliases and WQq_DATA have rows of their
own. -/
def Device.readReg (o : Nat) (d : Device) : Nat :=
  if o < 0x1000 then d.readIdent o else if o < 0x2000 then d.readDoorbell (o - 0x1000) else if o < 0x10000 then d.readHostq (o - 0x2000)
  else if o < 0x14000 then d.readEvent (o - 0x10000) else if o < 0x18000 then d.readTally (o - 0x14000) else if o < 0x19000 then d.readWq (o - 0x18000)
  else if o < 0x1A000 then d.readTime (o - 0x19000)
  else if within 0x100000 0x1FFFFF o then rdLE (memBytes d.mem.cmdsram (o - 0x100000) 8) 0 8 else 0

/-- A read of 32 or of 64 bits (R16). -/
def Device.readBar (off : Nat) (wide : Bool) (d : Device) : Nat :=
  if wide then d.readReg off else d.readReg (off / 8 * 8) / (if off % 8 = 4 then 2 ^ 32 else 1) % 2 ^ 32

end Sys2Proof.Machine
end

