-- ==== Sys2Proof/WellFormed.lean ====
section
/-!
DEFINITION. Well-formed commands: operands of the sizes that the interfaces of the spec carry. Nothing in a meaning relies on them: a ring entry of
another length is read as its first 64 bytes, zeros standing for bytes not given.
-/
namespace Sys2Proof

/-- The entry of a command that arrives in a ring or over MCTP. -/
def Instr.entryOf : Instr → Option Bytes
  | .ranrokInfoGet _ _ e | .ranrokNop _ _ e | .modeSet _ _ e | .scheduledStartSet _ _ e | .quietWindowSet _ _ e | .deviceStatusGet _ _ e
  | .thermalLimitSet _ _ e | .channelSet _ _ e | .channelStart _ _ e | .channelStop _ _ e | .channelClear _ _ e | .renditionSet _ _ e
  | .renditionClear _ _ e | .slotmaskSet _ _ e | .channelMove _ _ e | .renditionIdr _ _ e | .renditionStatusGet _ _ e | .rodStatusGet _ _ e
  | .ingestFlowSet _ _ e | .ingestFlowClear _ _ e | .ingestBind _ _ e | .hostringSet _ _ e | .slateLoad _ _ e | .ingestStatusGet _ _ e
  | .compLayersSet _ _ e | .compLayerUpdate _ _ e | .compReflatten _ _ e | .compConfidenceSet _ _ e | .sealKeyRegister _ _ e | .sealKeyRevoke _ _ e
  | .sealAssetLoad _ _ e | .sealActivate _ _ e | .sealClear _ _ e | .serviceSet _ _ e | .serviceClear _ _ e | .subscriberSet _ _ e
  | .subscriberClear _ _ e | .subscriberKeySet _ _ e | .programmeOutSet _ _ e | .serviceStatusGet _ _ e | .subscriberStatusGet _ _ e
  | .portSchedSet _ _ e | .shaperSet _ _ e | .dwrrSet _ _ e | .gateListSet _ _ e | .gateListCancel _ _ e | .policerSet _ _ e | .hostqTxSet _ _ e
  | .hostqRxSet _ _ e | .rxFilterSet _ _ e | .schedStatusGet _ _ e | .timeServoSet _ _ e | .timeDomainSet _ _ e | .timeSourceSelect _ _ e
  | .timeAsymSet _ _ e | .timeStep _ _ e | .timeCaptureSet _ _ e | .timeCaptureNow _ _ e | .timeTriggerSet _ _ e | .timeTriggerClear _ _ e
  | .timeRefioSet _ _ e | .cageSet _ _ e | .portSet _ _ e | .synceSet _ _ e | .laneTestSet _ _ e | .laneRecal _ _ e | .hostlaneTest _ _ e
  | .portStatusGet _ _ e | .laneStatusGet _ _ e | .memGroupRetire _ _ e | .memGroupRetrain _ _ e | .memGroupTest _ _ e | .memGroupRestore _ _ e
  | .memGrainSet _ _ e | .memChannelDiagGet _ _ e | .memStatusGet _ _ e | .journalSessionOpen _ _ e | .journalSessionClose _ _ e
  | .journalServiceSet _ _ e | .journalMarkPin _ _ e | .journalMarkRelease _ _ e | .journalReplayStart _ _ e | .journalReplayStop _ _ e
  | .journalExport _ _ e | .energyTest _ _ e | .journalStatusGet _ _ e | .checkContextSet _ _ e | .checkContextGet _ _ e | .audioPortSet _ _ e
  | .audioSourceSet _ _ e | .audioEncoderSet _ _ e | .audioStatusGet _ _ e | .eventRouteSet _ _ e | .eventLogSet _ _ e | .wqueueSet _ _ e
  | .wqueueFlush _ _ e | .unitServiceSet _ _ e | .fwImageStage _ _ e | .fwActivate _ _ e | .selftestRun _ _ e | .selftestResultGet _ _ e
  | .unitStatusGet _ _ e | .diagExport _ _ e => some e
  | .mctpVendorMessage _ e => some e
  | _ => none

/-- The descriptors that a doorbell finds in host memory, with the size of one (03 R84; 08 R256). -/
def Instr.descsOf : Instr → Option (Nat × List Bytes)
  | .hostqTxDoorbell _ _ _ l | .hostqRxDoorbell _ _ _ l => some (32, l)
  | .snoopInvalidate _ _ _ x => some (64, x.descs)
  | _ => none

/-- The range of a window access, in bytes (10 R298). -/
def Instr.windowRange : Instr → Option (Nat × Nat)
  | .hdmWindowRead _ off n => some (off, n)
  | .hdmWindowWrite _ off b => some (off, b.length)
  | _ => none

/-- The BAR0 register that a write addresses, and the size of the write (00 R16; 10 R296). -/
def Instr.registerAt : Instr → Option (Nat × Nat)
  | .registerWrite _ off _ wide => some (off, if wide then 8 else 4)
  | _ => none

/-- The cause of a restart of management firmware is one of R344's. -/
def Instr.causeGiven : Instr → Bool
  | .mgmtRestartBegin _ cause _ => cause.val != 0
  | _ => true

/-- A stage of 18 Table 18.4, an error of Table 18.5 and a mask of four groups. -/
def Instr.stageGiven : Instr → Bool
  | .powerUpStage _ stage error failed _ => (1 ≤ stage && stage ≤ 8 || stage == 0xFF) && error ≤ 9 && failed < 16
  | _ => true

/-- A sample gives the five temperatures of 16 Table 16.8. -/
def Instr.samplesGiven : Instr → Bool
  | .thermalSample _ l => l.length == 5
  | _ => true

/-- The command is well formed. -/
def Instr.wf (i : Instr) : Bool :=
  i.entryOf.all (fun e => e.length == 64) &&
  i.descsOf.all (fun d => d.2.all (fun b => b.length == d.1)) &&
  i.windowRange.all (fun r => 1 ≤ r.2 && r.1 + r.2 ≤ 2 ^ 34) &&
  i.registerAt.all (fun r => r.1 % r.2 == 0 && r.1 + r.2 ≤ 2 ^ 26) &&
  i.causeGiven && i.stageGiven && i.samplesGiven

end Sys2Proof
end

