-- ==== Sys2Proof/Tests/Slice0.lean ====
section
/-!
SUPPORT. Tests on small states, and for every statement with hypotheses a state and operands that meet them all.
-/
namespace Sys2Proof.Tests

open Sys2Proof Sys2Proof.Machine

set_option maxRecDepth 20000

/-- An entry: opcode, flags, target handle, effect selector and its value, parameters; TAG 7. -/
def entryF (op flags handle sel value : Nat) (params : Bytes) : Bytes :=
  wrLE 2 op ++ wrLE 2 flags ++ wrLE 4 7 ++ wrLE 2 handle ++ wrLE 1 sel ++ wrLE 5 0 ++ wrLE 8 value ++ params

/-- An entry with the immediate selector. -/
def entry (op handle : Nat) (params : Bytes) : Bytes := entryF op 0 handle 0 0 params

/-- A module that has powered up in ARMED: management firmware runs, the four groups are in service, ports P0 and P4 are UP. -/
def base : Device :=
  { Device.reset with
    modes := { ModeState.reset with mode := mArmed, auxPresent := true }
    rk := { RanrokState.reset with mgmtUp := true }
    link := { LinkState.reset with up := true, bme := true, secUp := true }
    lanes := { LanesState.reset with
      cages := [(0, [4, 4, 0, 0, 6, 0, 0, 0])]
      ports := [(0, { Port.reset with state := 2 }), (4, { Port.reset with state := 2 })] }
    dram := { DramState.reset with groups := [0, 1, 2, 3].map (fun g => (g, { Group.reset with service := 0 })) } }

/-- A state with that module and nothing waiting. -/
def st (d : Device) : State := ⟨d, []⟩

/-- The command passes its checks and has its effect at its answer, taken from ring 2 at Beam moment 0. -/
def runs (sp : CmdSpec) (e : Bytes) (d : Device) : Bool := passes sp 0 2 e (st d) && sp.atOnce (ctxAt sp 0 2 e (st d)) (takenAt 0 2 e (st d))

/-- A 1080p50 channel record on one rod, group 0. -/
def hdRec : ChannelRec := { ChannelRec.none with width := 1920, height := 1080, rateNum := 50, rateDen := 1, homeGroup := 0 }

/-- That channel DEFINED; and LIVE with frame 2 next to tick, frame 1's tick at Beam second 1. -/
def defCh : Channel := { Channel.reset with recd := hdRec, state := .defined, rodA := 0, maskA := 127 }
def liveCh : Channel :=
  { defCh with state := .live, grid := 51, next := 2, committed := 2, lastTick := second, ticks := [(0, 49 * second / 50), (1, second)] }

/-- An HEVC rendition record of that channel at 8 Mb/s. -/
def hdRend : RendRec :=
  { channel := 0, echoOf := 0xFFFF, codec := 1, profile := 1, level := 62, preset := 1, width := 1920, height := 1080, cropX := 0, cropY := 0,
    cropW := 1920, cropH := 1080, chroma := 0, depth := 10, ltTest := false, refs := 1, rateKbps := 8000, delay := 500000, refresh := 0,
    shadow := 0, pool := 2, qpMin := 0, qpMax := 51 }

/-- Channel 0 DEFINED and channel 1 LIVE, with a rendition each. -/
def withChans (d : Device) : Device :=
  { d with
    modes := { d.modes with mode := mGuarded }
    code := { d.code with
      channels := [(0, defCh), (1, { liveCh with rodA := 1 })]
      rends := [(0, Rendition.ofRec hdRend), (1, { Rendition.ofRec { hdRend with channel := 1 } with live := true, dInForce := 500000 })]
      rods := [(0, { Rod.reset with role := 0 }), (1, { Rod.reset with role := 0 }), (2, { Rod.reset with role := 1 })] } }

def chans : Device := withChans base

/-- The module with a block of bytes in the window. -/
def withBlock (off : Nat) (b : Bytes) (d : Device) : Device := { d with mem := { d.mem with hdm := memStore d.mem.hdm off b } }

/-- An entry whose block of `n` bytes lies at window offset 0x1000. -/
def blockEntry (op handle n : Nat) : Bytes := entryF op 1 handle 0 0 (wrLE 8 0x1000 ++ wrLE 4 n)

/-- A string of zeros. -/
def zeros (n : Nat) : Bytes := List.replicate n 0

/-! ### Commands that are ill formed -/

/-- Each check of Instr.wf refuses a command of its kind and passes another. -/
theorem test_wf :
    (Instr.ranrokNop 0 0 (zeros 64)).wf = true ∧ (Instr.ranrokNop 0 0 (zeros 63)).wf = false ∧ (Instr.mctpVendorMessage 0 (zeros 65)).wf = false ∧
    (Instr.hostqTxDoorbell 0 0 1 [zeros 32]).wf = true ∧ (Instr.hostqRxDoorbell 0 0 1 [zeros 31]).wf = false ∧
    (Instr.snoopInvalidate 0 0 1 ⟨[zeros 64], []⟩).wf = true ∧ (Instr.snoopInvalidate 0 0 1 ⟨[zeros 32], []⟩).wf = false ∧
    (Instr.hdmWindowRead 0 (2 ^ 34 - 8) 8).wf = true ∧ (Instr.hdmWindowRead 0 (2 ^ 34 - 7) 8).wf = false ∧ (Instr.hdmWindowWrite 0 0 []).wf = false ∧
    (Instr.registerWrite 0 0x1008 1 true).wf = true ∧ (Instr.registerWrite 0 0x1004 1 true).wf = false ∧ (Instr.registerWrite 0 0x4000000 1 false).wf = false ∧
    (Instr.mgmtRestartBegin 0 2 0).wf = true ∧ (Instr.mgmtRestartBegin 0 0 0).wf = false ∧ (Instr.powerUpStage 0 0xFF 0 0 []).wf = true ∧
    (Instr.powerUpStage 0 9 0 0 []).wf = false ∧ (Instr.powerUpStage 0 6 10 0 []).wf = false ∧ (Instr.thermalSample 0 [0, 0, 0, 0, 0]).wf = true ∧
    (Instr.thermalSample 0 [0]).wf = false := by decide

/-! ### The whole module (00, 01, 11) -/

/-- Witness of EveryCommandAnswersANextState: a window access at the window's end; one byte further faults. -/
theorem test_window_end :
    (∀ t off n, Instr.hdmWindowRead 0 (2 ^ 34 - 8) 8 = .hdmWindowRead t off n → off + n ≤ 2 ^ 34) ∧
    exec (.hdmWindowRead 0 (2 ^ 34 - 7) 8) State.reset = .fault (.outsideWindow (2 ^ 34 - 7)) := by
  constructor
  · intro t off n h
    injection h with h1 h2 h3
    omega
  · rfl

/-- Witness of MemoriesStayCanonical: reset memories are canonical, and the idle step keeps them. -/
theorem test_reset_memories :
    Memory.wf State.reset.dev.mem.hdm = true ∧ Memory.wf State.reset.dev.mem.cmdsram = true ∧ Memory.wf State.reset.dev.mem.host = true ∧
    step State.reset = .next State.reset := ⟨rfl, rfl, rfl, rfl⟩

/-- Witness of StepRunsTheFrontCommand: a step with a happening in front carries it out. -/
theorem test_front_command :
    step { State.reset with pending := [.linkLoss 5] } = exec (.linkLoss 5) State.reset ∧
    (match step { State.reset with pending := [.auxInputChange 0 0] } with
      | .next s => (s.dev.modes.auxPresent, s.pending.length)
      | _ => (false, 1)) = (true, 0) := ⟨rfl, by decide⟩

/-! ### Time -/

/-- Domain A on P4 with its master, FILTER_N Syncs counted. -/
def timed : Device :=
  { base with time := { base.time with
      domA := { base.time.domA with
        set := { base.time.domA.set with enable := true, portMask := 16, revertive := true }
        valid := true, active := some 4, masters := [(4, ⟨0, 6, 1, 1, 0⟩)], count := 8, best := some (0, 40) }
      domB := { base.time.domB with valid := true }
      sel := 1, servo := .holdover, ppsOk := true, tenOk := true
      trigs := [(3, ⟨1, 0, false, 5, 0, none⟩), (4, ⟨2, 9, true, 5, 65536000, some 1⟩)]
      steps := [⟨5, false, 10, 0, false⟩] } }

/-- R513's record for TIME_SERVO_SET. -/
def servoParams : Bytes :=
  wrLE 4 0x4000 ++ wrLE 4 0x400 ++ wrLE 4 50 ++ wrLE 2 16 ++ wrLE 2 50 ++ wrLE 4 10000 ++ wrLE 4 1000000 ++ wrLE 2 300 ++ wrLE 2 8

/-- Domain A on P4: number 127, timeout 3, LOG_DELAYREQ −3, CLASS_LIMIT 187, ENABLE. -/
def domainParams : Bytes := [127, 0, 0, 3, 0xFD, 187, 0, 1] ++ wrLE 4 16 ++ wrLE 4 0 ++ wrLE 2 60

/-- Witness of TimeCommandsTakeEffect. -/
theorem test_time_commands_run :
    runs timeServoSet (entry 0x601 0 servoParams) base = true ∧
    runs timeDomainSet (entry 0x602 0 domainParams) base = true ∧
    runs timeSourceSelect (entry 0x603 0 [3]) { base with time := { base.time with servo := .locked } } = true ∧
    runs timeAsymSet (entry 0x604 4 ([1, 3, 0, 0] ++ wrLE 4 0x94999A ++ wrLE 4 0x253333 ++ wrLE 4 0x50000)) base = true ∧
    runs timeStep (entry 0x605 0 ([0, 0] ++ wrLE 6 0 ++ wrLE 8 65536)) base = true ∧
    runs timeCaptureSet (entry 0x606 7 [0xFE, 0, 1]) base = true ∧
    runs timeCaptureNow (entry 0x607 7 []) { base with time := { base.time with caps := [(7, { CaptureUnit.reset with source := 0xFE })] } } = true ∧
    runs timeTriggerSet (entry 0x608 15 ([1, 0] ++ wrLE 6 0 ++ wrLE 16 0)) base = true ∧
    runs timeTriggerClear (entry 0x609 15 []) base = true ∧
    runs timeRefioSet (entry 0x60A 0 (wrLE 4 100000000 ++ wrLE 4 0 ++ [7])) base = true := by decide

/-- Witness of TimeHappeningsTakeEffect: each clause's condition, on one module. -/
theorem test_time_happenings :
    (timed.time.dom 0).set.enable = true ∧ timed.ptpRuns 4 = true ∧ natBit (timed.time.dom 0).set.portMask 4 = true ∧
    announceOver 0 4 (timed.at_ (4 * second)).time = true ∧ (timed.time.dom 0).valid = true ∧
    timed.time.set.filterN ≤ (timed.time.dom 0).count ∧ revertDue (timed.at_ (60 * second)).time = true ∧
    timed.time.holdHour = false ∧ 3600 < (timed.at_ (3601 * second)).time.holdSec ∧ timed.time.ppsOk = true ∧
    timed.time.ppsLast + second + usec ≤ (timed.at_ (2 * second)).now ∧ timed.time.tenOk = true ∧ timed.time.copyLocked = true ∧
    (timed.at_ (2 * second)).now % second = 0 ∧ (timed.time.dom 0).active = some 4 := by decide

/-- Witness of CapturesAndTriggersTakeEffect. -/
theorem test_trigger_due :
    let e : Trigger := ⟨1, 0, false, 5, 0, none⟩
    let r : Trigger := ⟨2, 9, true, 5, 65536000, some 1⟩
    Tab.find 3 (timed.at_ 5).time.trigs = some e ∧ firesFirst 3 e (timed.at_ 5).time.trigs = true ∧
    Tab.find 4 (timed.at_ 5).time.trigs = some r ∧ firesFirst 4 r [(4, r)] = true ∧
    5 ≤ (timed.at_ 5).now ∧ dueStep (timed.at_ 5).now (timed.at_ 5).time.steps = some (⟨5, false, 10, 0, false⟩, []) := by decide

/-- Witness of OffsetJumpsAreSlewedOrHeld: a LOCKED servo with the default record, and offsets for each of its clauses. -/
theorem test_offset_jump_cases :
    let x := { TimeState.reset with servo := .locked, set := { ServoSet.dflt with lockNs := 1 } }
    x.servo = .locked ∧ x.corr = none ∧ x.assess = false ∧
    x.set.lockNs * 65536 < (5 * 65536 : Int).natAbs ∧ (5 * 65536 : Int).natAbs ≤ 10 * 65536 ∧
    10 * 65536 < (-230 * 65536 : Int).natAbs ∧ (-230 * 65536 : Int).natAbs ≤ x.set.stepNs * 65536 ∧
    x.set.stepNs * 65536 < (2000000 * 65536 : Int).natAbs := by decide

/-- The worked example of R57: O is +30.0 ns with the values written, and 90.7 ns (in 2^-16 ns) with zeros. -/
theorem test_ptp_offset_example :
    (ptpOffset (1000000 * 65536) (1000683 * 65536 + 39322) (1200000 * 65536) (1200502 * 65536 + 13107) 0x94999A 0x253333 0x50000).1 / 6554 =
      30 * 65536 / 6554 := by decide

/-- Table 2.4: 4.4 s of slew at 50 ppb take −230 ns to −10 ns. -/
theorem test_slew_example :
    ({ TimeState.reset with servo := .slewing, slewFrom := -230 * 65536, slewAt := 0 }.slewRemain (44 * second / 10)) = -10 * 65536 := by decide

/-- R39: 48-bit seconds are extended to the nearest value. -/
theorem test_seconds_extend : extendSeconds ((2 ^ 48 + 5) * second) (2 ^ 48 - 3) = 2 ^ 48 - 3 ∧ extendSeconds ((2 ^ 48 - 3) * second) 5 = 2 ^ 48 + 5 := by
  decide

/-- R52: the lock history keeps the newest stretches, 4 s of them in all. -/
theorem test_lock_history : (lastOf (4 * second) [(second, 10), (5 * second, 6)]).map (·.1) = [second, 3 * second] := by decide

/-- R61: of two triggers due in one nanosecond the lower slot fires first. -/
theorem test_slot_order :
    let g : Trigger := ⟨1, 0, false, 5, 0, none⟩
    firesFirst 3 g [(3, g), (4, g)] = true ∧ firesFirst 4 g [(3, g), (4, g)] = false := by decide

/-- R51: both domains time out at once, and the external reference takes over with one change of source (E258). -/
theorem test_both_domains_lost :
    let x := { timed.time with
      servo := .locked, sel := 0, refio := { timed.time.refio with extRefEn := true }, ppsMeas := 0
      domB := { timed.time.domB with active := some 4, masters := [(4, ⟨0, 6, 2, 1, 0⟩)] }, beam := 100 * second }
    (x.announceLost true).2 = [(256, 0), (257, 0), (258, 0)] ∧ (x.announceLost true).1.sel = 2 := by decide

/-! ### Ingest -/

/-- An uncompressed 1080p50 flow on P4: KIND 0, ENABLE, UDP 5000, 4:2:2 10-bit. -/
def flowBlock : Bytes :=
  [0, 1, 4, 0] ++ wrLE 2 5000 ++ wrLE 2 0 ++ zeros 64 ++ zeros 4 ++ [96, 0] ++ wrLE 2 0 ++ wrLE 2 1920 ++ wrLE 2 1080 ++ wrLE 4 50 ++ wrLE 4 1 ++
    [0, 10, 0, 0, 0] ++ zeros 31

def flowRec : FlowRec := parseFlow ⟨.ring 2 0, [], flowBlock, 0⟩

/-- Flow 0 free, flow 1 an enabled audio flow, flow 2 an HEVC flow on DX0, flow 3 ancillary data; channel 0 bound to flow 0, channel 1 to a host ring. -/
def fed : Device :=
  { chans with
    ingest := { chans.ingest with
      flows := [(0, Flow.ofRec 0 flowRec), (1, Flow.ofRec 0 { flowRec with kind := 5, audio := wrLE 4 48000 ++ [2, 24] ++ wrLE 2 1000 ++ zeros 40 }),
        (2, { Flow.ofRec 0 { flowRec with kind := 2, legB := true } with decoder := some 0, skewSince := some 0 }),
        (3, Flow.ofRec 0 { flowRec with kind := 7 })]
      binds := [(1, { Binding.reset with
        recd := some ⟨1, false, true, 0, 3, 1, 120000, 2000, 0xFFFF⟩, mode := .freeze
        host := some ⟨0x10000, 0x20000, 4, false, false, true, 1, true,
          [⟨2, 0, 0, 0, 0, 0, true, false, 0, 0, 0, true, none⟩]⟩ })]
      slates := [(5, ⟨1920, 1080, 1, 4800, []⟩)] }
    dram := { chans.dram with groups := [0, 1, 2, 3].map (fun g => (g, { Group.reset with service := 0 })) } }

def bindParams (source : Nat) : Bytes := [BitVec.ofNat 8 source, 0] ++ wrLE 2 0 ++ wrLE 2 0 ++ wrLE 2 1 ++ wrLE 4 0 ++ wrLE 4 2000 ++ wrLE 2 5

/-- Witness of IngestCommandsTakeEffect. -/
theorem test_ingest_commands_run :
    runs ingestFlowSet (blockEntry 0x201 9 128) (withBlock 0x1000 flowBlock base) = true ∧
    runs ingestFlowClear (entry 0x202 0 []) fed = true ∧
    runs ingestBind (entry 0x203 0 (bindParams 0)) fed = true ∧
    runs hostringSet (entry 0x204 0 (wrLE 8 0x10000 ++ wrLE 8 0x20000 ++ wrLE 2 4)) { fed with link := { fed.link with mode := 1, width := 16 } } = true ∧
    runs slateLoad (entry 0x205 7 (wrLE 8 0x4000 ++ wrLE 2 64 ++ wrLE 2 64 ++ [1, 0, 0, 0] ++ wrLE 4 160)) fed = true ∧
    runs ingestStatusGet (entry 0x206 0 (wrLE 8 0x40)) fed = true := by decide

/-- Witness of BindingGrantsTheRing: a DEFINED channel. -/
theorem test_binding_channel : (fed.chan 0).running = false := by decide

/-- Witness of IngestHappeningsTakeEffect: each clause's condition, on one module at Beam second 3. -/
theorem test_ingest_happenings : let d := fed.at_ (3 * second)
    (d.flow? 0).map (fun x => (x.recd.enable, x.legA.lost, decide (x.legA.last + x.recd.losMs * msec ≤ d.now))) = some (true, false, true) ∧
    (d.flow? 2).map (fun x => (x.recd.legB, x.skewTold, x.skewSince)) = some (true, false, some 0) ∧
    (d.chan 1).running = true ∧ (d.bnd 1).mode = .freeze ∧ (d.bnd 1).slateFrom = none ∧
    ((d.bnd 1).at_ (d.bnd 1).nextFrame).map (·.freezeMs) = some 2000 ∧ (d.bnd 1).freezeTick + 2000 * msec ≤ d.now ∧
    (((d.bnd 1).host.map (·.queue)).getD []).find? (fun x => x.begun && x.crc && x.checked.isNone) = some ⟨2, 0, 0, 0, 0, 0, true, false, 0, 0, 0, true, none⟩ ∧
    (d.flow? 3).map (fun x => (x.recd.enable, x.recd.kind)) = some (true, 7) ∧ ancCarried 0x61 1 = true ∧ ancCarried 0x41 6 = false ∧
    (d.flow? 1).map (fun x => (d.legPort x.recd false, x.recd.isAudio, x.lost, x.recd.legB, (Flow.take d.now 7 false (x.heard d.now false)).2)) =
      some (true, true, false, false, true) ∧
    (d.flow? 2).map (fun x => (x.recd.enable, compressedKind x.recd.kind, d.decoderUp x, x.refsGone, x.recd.fits ⟨0, .avcHigh422, 40, 1920, 1080, 0, 10⟩)) =
      some (true, true, true, false, true) := by
  decide

/-- Witness of IngestHappeningsTakeEffect: a host frame of one line of 4 pixels whose trailer holds, and one whose trailer does not. -/
theorem test_trailers :
    let x : HostDesc := ⟨2, 0x1000, 0x2000, 8, 8, 0, true, false, 0x3000, 0, 0, true, none⟩
    let crc := crcValue 2 (crcRun 2 (crcOnes 2) (zeros 16))
    x.visible [] 4 1 = zeros 16 ∧ x.trailerOk (memStore [] 0x3000 (wrLE 8 crc)) 4 1 = true ∧ x.trailerOk [] 4 1 = false := by decide

/-- Witness of CopiesOfTakenPacketsAreDuplicates: a packet that fills a gap, and one ahead of the newest. -/
theorem test_merge_cases :
    let x := { Flow.ofRec 0 flowRec with top := some 100, holes := [(98, 0)] }
    (∀ t, x.top = some t → t < 65536 ∧ ∀ h ∈ x.holes, 32768 ≤ (h.1 + 65536 - t) % 65536) ∧
    (x.take 0 98 true).2 = true ∧ (x.take 0 103 true).2 = true ∧ x.recd.kind ≠ 4 := by
  refine ⟨?_, by decide, by decide, by decide⟩
  intro t h
  cases h
  decide

/-- Witness of FreezeAndReturnFollowTheFrames: a binding with a record, live and in freeze, with a run that is and one that is not enough. -/
theorem test_freeze_cases :
    let b : BindRec := ⟨0, true, false, 0, 0, 2, 120000, 2000, 0xFFFF⟩
    let x := { Binding.reset with recd := some b }
    x.at_ 5 = some b ∧ x.mode = .live ∧ { x with mode := .freeze, run := 2 }.mode ≠ .live ∧ b.returnFrames ≤ { x with run := 2 }.run ∧
    ¬ b.returnFrames ≤ x.run ∧ 0 < b.returnFrames ∧ x.switches.contains 5 = false ∧ { x with switches := [5] }.switches.contains 5 = true := by decide

/-- R78's worked example: 37 lines of 9600 bytes. -/
theorem test_ring_example :
    ringLinesOf { hdRec with width := 3840, height := 2160, rateNum := 60 } 250000 0 = 37 ∧ 37 * lineBytes 3840 = 355200 := by decide

/-- R292's charges: 2160p60 4:2:2 with trailers. -/
theorem test_host_charge : hostCharge { hdRec with width := 3840, height := 2160, rateNum := 60 } false = 3981312000 := by decide

/-- R74: an RTP timestamp a little ahead of the Beam, and one across the wrap. -/
theorem test_rtp_extend : extendRtp 90000 (10 * second) 900090 = 10 * second + msec := by decide

/-! ### Compositor -/

/-- R115's ticker on L2: 4800 × 600 from the window, drawn at the size and decimation given. -/
def ticker (w h decim : Nat) : Layer := ⟨true, false, 0, 0, 2, 0x100000, 19200, 0, 0, 4800, 600, 0, 0, w, h, 1023, decim⟩

/-- The bytes of a layer record. -/
def layerBytes (flags z surface pitch w h : Nat) : Bytes :=
  [BitVec.ofNat 8 flags, 0, 0, BitVec.ofNat 8 z] ++ wrLE 8 surface ++ wrLE 4 pitch ++ wrLE 2 0 ++ wrLE 2 0 ++ wrLE 2 w ++ wrLE 2 h ++ wrLE 2 0 ++ wrLE 2 0 ++
    wrLE 2 w ++ wrLE 2 h ++ wrLE 2 1023 ++ [0, 0]

/-- Channel 2 is DEFINED at 2160p60. -/
def wide : Device :=
  { chans with code := { chans.code with channels := Tab.put 2 { defCh with recd := { hdRec with width := 3840, height := 2160, rateNum := 60 } } chans.code.channels } }

/-- R115's worked example: accepted unscaled, LINEBUF scaled without decimation, accepted with ×2. -/
theorem test_ticker_example :
    wide.layersCheck 2 [(2, ticker 4800 600 0)] = none ∧ wide.layersCheck 2 [(2, ticker 1920 240 0)] = some (stLinebuf, 2) ∧
    wide.layersCheck 2 [(2, ticker 1920 240 1)] = none := by decide

/-- R121: a proxy slot of a 2160-line picture. -/
theorem test_proxy_slot : proxySlotBytes { hdRec with width := 3840, height := 2160 } = 8298496 := by decide

/-- An operator block: version 1, key 3, SEQ 9. -/
def sealBlock (mode asset : Nat) (rest : Bytes) : Bytes := wrLE 2 1 ++ [3, BitVec.ofNat 8 mode] ++ wrLE 2 asset ++ wrLE 2 0 ++ wrLE 8 9 ++ rest

/-- A P-384 key and its signatures, made with OpenSSL. -/
def testKey : Bytes :=
  (beBytes 96 0xBECBBB868CB94A19A2D93E62FB845644A4A5CCAEEE0EF2FCFD496D3287296B7F3807F1B15A9AF2229761F31DFA87BECFB6BD5FE4F83E27663B3C2ACA6AC08B1AACC79D656072DED71938F250D0F42E29E219BD2C5C1E9587D9FEC64B3AD44CF7)
def activateSig : Bytes :=
  (beBytes 96 0x40DFF584E47C2C58329772201578FF51F92B79BA5BB4DBBE271E35807045733EFB80B27B9C80A11998BA5F00BB67BD782C9CA1240B45F8D039A05B57D7DD93F3A2F7FE4A5865D991E45B8F6E4DC15083D488FD19D8E7171A863CD55BA7E463B4)
def registerSig : Bytes :=
  (beBytes 96 0x0E86AF1C13F6F3C5B515119CD30734C0BF6DED3ACD8503184870E8DA4B7FF54DF852A0A723D6C14CBA65BF73848BF53690CAD30803F51C8907179D5FB38A7A1F90FDC6158FD6C1ECF01D0E6DE58E07A3EA6463C018B8819364858F699DE794A7)

def activateBlock : Bytes := sealBlock 0 5 (wrLE 8 2 ++ timeWordBytes (5 * second) ++ timeWordBytes (9 * second) ++ zeros 72) ++ activateSig

def registerBlock : Bytes := [1, 0, 3] ++ zeros 5 ++ wrLE 8 9 ++ zeros 112 ++ registerSig

def clearBlock : Bytes := sealBlock 0 0 (wrLE 8 2 ++ timeWordBytes (5 * second) ++ wrLE 8 0 ++ zeros 176)

def assetBlock : Bytes := sealBlock 0 1 (zeros 0) |>.take 4 |> fun h => h ++ wrLE 2 1 ++ wrLE 2 1 ++ wrLE 8 9 ++ wrLE 2 1 ++ zeros 6 ++ wrLE 8 0 ++ wrLE 8 8 ++ zeros 128

def jobCtx (op handle : Nat) (block : Bytes) : Ctx := ⟨.ring 2 0, entryF op 1 handle 0 0 (wrLE 8 0x1000 ++ wrLE 4 224), block, 0⟩

/-- Key 3 registered with SEQ 8, asset 5 loaded, one activation waiting for its verification; a flatten runs on channels 0 and 1. -/
def sealedUp : Device :=
  { chans with
    serv := { chans.serv with ownerKey := testKey }
    comp := { chans.comp with
      keys := [(3, ⟨testKey, 8⟩)], assets := [(5, ⟨64, 64, 0, 1, 0, 1, []⟩)], jobs := [⟨0x0313, jobCtx 0x313 0 activateBlock⟩]
      chans := [(0, { Comp.reset with layers := [(2, { ticker 64 64 0 with isStatic := true })], flatten := some ⟨1, 0, false, false, []⟩ }),
        (1, { Comp.reset with flatten := some ⟨1, 0, true, false, []⟩ })] } }

/-- A static layer of one white pixel in the corner of channel 0, 64 × 16: one tile. -/
def dot : Layer := ⟨true, true, 0, 0, 1, 0x100000, 4, 0, 0, 1, 1, 0, 0, 1, 1, 1023, 0⟩

def dotted : Device :=
  { sealedUp with
    mem := { sealedUp.mem with hdm := memStore sealedUp.mem.hdm 0x100000 [0xFF, 0xFF, 0xFF, 0xFF] }
    code := { sealedUp.code with channels := Tab.put 0 { defCh with recd := { hdRec with width := 64, height := 16 } } sealedUp.code.channels }
    comp := { sealedUp.comp with chans := [(0, { Comp.reset with layers := [(1, dot)], flatten := some ⟨1, 0, false, false, []⟩ })] } }

/-- The directory is full. -/
def crowded : Device := { dotted with comp := { dotted.comp with chans := Tab.put 1 { Comp.reset with planes := [⟨[1], 1, 131072, [], none⟩] } dotted.comp.chans } }

/-- Channels 0 (DEFINED) and 1 (LIVE) have a static layer and no flatten. -/
def dottedBoth : Device := { dotted with comp := { dotted.comp with chans := [0, 1].map (fun c => (c, { Comp.reset with layers := [(1, dot)] })) } }

/-- Witness of CompositorCommandsTakeEffect: COMP_REFLATTEN with static layers. -/
theorem test_reflatten : [0, 1].all (fun c =>
    let e := entry 0x303 c []
    passes compReflatten 0 2 e (st dottedBoth) && runsOf (zOrder ((takenAt 0 2 e (st dottedBoth)).newestLayers c)) != [] &&
      compReflatten.chan (ctxAt compReflatten 0 2 e (st dottedBoth)) (takenAt 0 2 e (st dottedBoth)) == (if c = 0 then none else some 1)) = true := by decide

/-- Witness of CompositorCommandsTakeEffect. -/
theorem test_compositor_commands_run :
    runs compLayersSet (blockEntry 0x301 0 216) (withBlock 0x1000 (layerBytes 1 2 0x100000 512 64 64 ++ zeros 180) chans) = true ∧
    runs compLayerUpdate (entry 0x302 0 ([2, 0, 0, 0] ++ layerBytes 1 2 0x100000 512 64 64)) chans = true ∧
    runs compReflatten (entry 0x303 0 []) chans = true ∧
    runs compConfidenceSet (entry 0x304 0 ([1, 2] ++ wrLE 2 0 ++ zeros 4 ++ wrLE 8 0x200000)) chans = true ∧
    runs sealKeyRegister (blockEntry 0x310 3 224) (withBlock 0x1000 ([1, 0, 3] ++ zeros 5 ++ wrLE 8 9 ++ zeros 208) chans) = true ∧
    runs sealKeyRevoke (blockEntry 0x311 3 224) (withBlock 0x1000 ([1, 0, 3] ++ zeros 5 ++ wrLE 8 9 ++ zeros 208) chans) = true := by decide

theorem test_seal_commands_run :
    runs sealAssetLoad (entryF 0x312 1 9 0 0 (wrLE 8 0x1000 ++ wrLE 4 168)) (withBlock 0x1000 assetBlock chans) = true ∧
    runs sealActivate (blockEntry 0x313 0 224) (withBlock 0x1000 activateBlock chans) = true ∧
    runs sealClear (blockEntry 0x314 0 224) (withBlock 0x1000 clearBlock chans) = true := by decide

/-- Witness of SignedBlocksAreVerifiedInOrder and RefusedBlocksNameTheFirstFault: a block accepted, and one refused for each reason. -/
theorem test_block_checks : let c := jobCtx 0x313 0 activateBlock
    sealedUp.link.secUp = true ∧ sealedUp.comp.jobs = [⟨0x0313, c⟩] ∧
    chans.blockRefusal 0x0313 c = some 0x0313 ∧
    { sealedUp with comp := { sealedUp.comp with keys := [(3, ⟨[], 8⟩)] } }.blockRefusal 0x0313 c = some 0x0310 := by decide

set_option maxRecDepth 100000 in
theorem test_block_accepted : sealedUp.blockRefusal 0x0313 (jobCtx 0x313 0 activateBlock) = none := by decide

set_option maxRecDepth 100000 in
theorem test_block_again : { sealedUp with comp := { sealedUp.comp with keys := [(3, ⟨testKey, 9⟩)] } }.blockRefusal 0x0313 (jobCtx 0x313 0 activateBlock) = some 0x0311 := by
  decide

set_option maxRecDepth 100000 in
theorem test_key_block : sealedUp.blockRefusal 0x0310 (jobCtx 0x310 3 registerBlock) = none ∧ sealedUp.blockRefusal 0x0311 (jobCtx 0x311 3 registerBlock) = none := by
  decide

/-- Witness of FlattensAndFillPointsTakeEffect: flattens of a channel that is and of one that is not live, with and without room; a line due. -/
theorem test_flatten_cases :
    ((sealedUp.compChan 0).flatten.map (·.again), (sealedUp.chan 0).running, sealedUp.phys.shed) = (some false, false, 0) ∧
    ((sealedUp.compChan 1).flatten.map (·.again), (sealedUp.chan 1).running) = (some true, true) ∧
    (dotted.flattened 0 ⟨1, 0, false, false, []⟩).map (fun p => (p.layers, p.entries)) = [([1], 1)] ∧
    planeEntries (dotted.flattened 0 ⟨1, 0, false, false, []⟩) ≤ dotted.freeEntries ∧
    crowded.freeEntries < planeEntries (crowded.flattened 0 ⟨1, 0, false, false, []⟩) ∧ (chans.at_ second).lineDue 0 = none ∧
    ((fed.at_ second).lineDue 1).isSome = true := by decide

/-- Witness of SealWindowsFollowTheTicks: before, in and past the window, and cleared. -/
theorem test_window_cases :
    let a : Activation := ⟨0, 5, 3, 0, 2, 5 * second, 9 * second, 0, 0, 0, 0, []⟩
    natBit a.mask 1 = true ∧ (Tab.read a.chans 1 ActChan.reset).ended = false ∧ a.governs 1 (6 * second) = true ∧
    a.governs 1 (4 * second) = false ∧ (a.tick 1 3 (9 * second)).2.1 = [(390, 1)] ∧
    { a with chans := [(1, ⟨some 2, false, some (6 * second)⟩)] }.tick 1 3 (6 * second) =
      ({ a with chans := [(1, ⟨some 2, true, some (6 * second)⟩)] }, [], [(8, det2 5 3)]) := by decide

/-! ### Channels, rods and rows -/

/-- The two renditions of 06 Table 6.1. -/
def uhdRec : ChannelRec := { hdRec with width := 3840, height := 2160, rateNum := 60 }
def uhdRend : RendRec := { hdRend with width := 3840, height := 2160, cropW := 3840, cropH := 2160, rateKbps := 20000, delay := 263000 }
def bigRec : ChannelRec := { hdRec with width := 7680, height := 4320, rateNum := 120 }
def bigRend : RendRec := { hdRend with codec := 2, profile := 0, width := 7680, height := 4320, rateKbps := 120000, delay := 131260 }

/-- Table 6.1: windows, allowances, S and DMIN. -/
theorem test_delay_table :
    (windowOf uhdRec uhdRend / usec, rowAllowance uhdRec uhdRend, s10 uhdRec uhdRend, dmin10 uhdRec uhdRend) = (1200, 24000, 218766, 222509) ∧
    (windowOf bigRec bigRend / usec, rowAllowance bigRec bigRend, dmin10 bigRec bigRend) = (600, 72000, 111969) := by decide

/-- R186: floor rates; and 6 Mb/s with D = 3 605.34 µs. -/
theorem test_floor_rates :
    floorRate uhdRec 263000 uhdRend = 8226 ∧ floorRate bigRec 131260 bigRend = 19589 ∧ floorRate uhdRec 360534 uhdRend = 6000 := by decide

/-- R164's summary of ratios: 1.20220 and 1.24253 as 16.16. -/
theorem test_ratios : ratio16 263000 218766 = 0x133C3 ∧ ratio16 34100000 27444000 = 0x13E16 := by decide

/-- Table 5.3: bead costs. -/
theorem test_bead_costs :
    (beadCost bigRec { bigRend with preset := 2 }, beadCost bigRec { bigRend with echoOf := 0 }, beadCost uhdRec uhdRend,
      beadCost { uhdRec with rateNum := 50 } { uhdRend with preset := 2 }, beadCost hdRec { hdRend with preset := 0 }) = (64, 12, 4, 7, 1) := by decide

/-- R164's statistics slot. -/
theorem test_stats_slot : statsSlotBytes { uhdRec with motionField := true, complexityMap := true } = 434176 := by decide

/-- R151's worked example: 16 and 12 beads on masks PE0–PE3 and PE3–PE6, then PE5–PE6. -/
theorem test_mask_groups :
    masksOk Rod.reset [(0, 16, 0x0F), (11, 12, 0x78)] = true ∧ masksOk Rod.reset [(0, 16, 0x0F), (11, 12, 0x60)] = false := by decide

/-- R147: three renditions over two rods. -/
theorem test_arrange : arrange [(0, 5, true), (1, 4, true), (2, 1, false)] = some [(0, 3, 2), (1, 2, 2), (2, 0, 1)] := by decide

/-- The records of channel 0 as blocks. -/
def chanBlock : Bytes :=
  wrLE 2 1920 ++ wrLE 2 1080 ++ wrLE 4 50 ++ wrLE 4 1 ++ [0, 0, 0, 0] ++ wrLE 8 0 ++ [255, 255, 255, 8] ++ wrLE 4 0 ++ wrLE 8 0x10000000 ++ zeros 24

def rendBlock (ch : Nat) : Bytes :=
  wrLE 2 ch ++ wrLE 2 0xFFFF ++ [1, 1, 62, 1] ++ wrLE 2 1920 ++ wrLE 2 1080 ++ zeros 8 ++ [0, 10, 0, 1] ++ wrLE 4 8000 ++ wrLE 4 500000 ++ zeros 4 ++
    [2, 0, 51] ++ zeros 25

/-- Channel 0 bound to its slate, in a live mode, with the servo locked. -/
def ready : Device :=
  { fed with
    modes := { fed.modes with mode := mGuarded }
    time := { fed.time with servo := .locked }
    ingest := { fed.ingest with binds := Tab.put 0 { Binding.reset with recd := some ⟨2, false, false, 0, 0, 1, 0, 0, 5⟩ } fed.ingest.binds }
    code := { fed.code with rends := Tab.put 0 (Rendition.ofRec { hdRend with delay := 0 }) fed.code.rends } }

/-- Witness of ChannelCommandsTakeEffect. -/
theorem test_channel_commands_run :
    runs channelSet (blockEntry 0x101 0 64) (withBlock 0x1000 chanBlock chans) = true ∧
    runs channelClear (entry 0x104 0 []) chans = true ∧
    runs renditionClear (entry 0x106 0 []) chans = true ∧
    runs renditionStatusGet (entry 0x10A 0 (wrLE 8 0x40)) chans = true ∧
    runs rodStatusGet (entry 0x10B 3 (wrLE 8 0x40)) chans = true := by decide

theorem test_start_commands_run :
    runs channelStart (entry 0x102 0 []) ready = true ∧ refusedBy (ready.admitStart 0 mGuarded) = none ∧
    runs renditionSet (blockEntry 0x105 3 64) (withBlock 0x1000 (rendBlock 0) chans) = true := by decide

/-- Witness of LiveChannelChangesAreStaged: a stop, a mask, a move and an IDR request for live channel 1, at once and for frame 5. -/
theorem test_staged_commands :
    let ok (sp : CmdSpec) (e : Bytes) : Bool :=
      passes sp second 2 e (st chans) && sp.chan (ctxAt sp second 2 e (st chans)) (takenAt second 2 e (st chans)) == some 1
        && !(ctxAt sp second 2 e (st chans)).beyond (chans.chan 1) second && !sp.flat (ctxAt sp second 2 e (st chans)) (takenAt second 2 e (st chans))
    ok channelStop (entry 0x103 1 []) = true ∧ ok channelStop (entryF 0x103 0 1 1 5 []) = true ∧ ok slotmaskSet (entry 0x107 1 [0, 0x7F]) = true ∧
    ok channelMove (entry 0x108 1 [0, 255, 0, 0]) = true ∧ ok renditionIdr (entry 0x109 1 []) = true := by decide

/-- Channel 1 with a change staged for frame 2, whose commit point lies 500 µs before its tick at 1.02 s. -/
def stagedOne (op : Nat) (params : Bytes) : Device :=
  { chans with rk := { chans.rk with staged := [⟨op, ⟨.ring 2 0, entry op 1 params, [], 0⟩, 1, 2, stOk, 0, none⟩] } }

/-- Witness of StagedChangesLandAtTheirCommitPoint. -/
theorem test_landing_conditions :
    let t := 51 * second / 50
    let d := (stagedOne 0x109 []).at_ t
    d.commitDue 1 = true ∧ d.lossDue 1 = false ∧ (d.chan 1).committed = 2 ∧ d.handRods 1 2 = [] ∧ (d.chan 1).planned = none ∧
    (d.chan 1).remask = [] ∧ d.handGiven 1 2 = d ∧ (d.rk.staged.map (fun x => d.flatWaits x)) = [false] ∧ (d.rend? 1).isSome = true ∧
    d.maskFits 1 1 0x7F = true ∧ sameRods ⟨.ring 2 0, entry 0x108 1 [0, 255, 0, 0], [], 0⟩ (d.chan 1) = false ∧
    refusedBy (d.admitHome 1 mGuarded false (.move 0 255 0 0)) = none ∧ ((stagedOne 0x103 []).at_ t).commitDue 1 = true := by decide

/-- Witness of AdmissionKeepsTheLimits, on one rod and on two. -/
theorem test_admission_cases :
    refusedBy (ready.admitHome 0 mGuarded true (.home 255 255 false)) = none ∧
    ({ uhdRec with homeA := 3, homeB := 1, spanAllowed := true } |> fun r =>
      let d := { ready with code := { ready.code with
        channels := Tab.put 0 { defCh with recd := r } ready.code.channels, rods := Tab.put 3 { Rod.reset with role := 0 } ready.code.rods
        rends := Tab.put 0 (Rendition.ofRec uhdRend) ready.code.rends } }
      refusedBy (d.admitHome 0 mGuarded true (.home 3 1 true))) = none := by decide

/-- A picture of frame 1 with row 0 begun, one block delivered; channel 1 has ticked frames 0 and 1. -/
def rowPic : Picture :=
  { recd := { hdRend with channel := 1 }, delay := 500000, rodA := 1, rodB := 255, maskA := 0x7F, maskB := 0, buA := 0, buB := 255, split := none,
    refs := [0], long := [], heads := [], planned := true, kind := 2, refreshPos := 0, intra := false,
    plan := ⟨30, 160000, 200000, 1800⟩, ceiling := 200000, left := 148200, allFloor := false,
    rows := [(0, ⟨50000, [⟨900, 2, [0]⟩], [], none, none, false, [0], false, []⟩)],
    state := 0, hrdBits := 0, lost := false, reported := false }

def rowing : Device :=
  { chans with code := { chans.code with
    rods := Tab.put 1 { Rod.reset with role := 0 } chans.code.rods
    rends := [(1, { Rendition.ofRec { hdRend with channel := 1 } with live := true, dInForce := 500000, buA := 0, pics := [(1, rowPic)]
                                                                      pool := { RefPool.reset with copying := some (0, 0) } })] } }

/-- Witness of RowHappeningsTakeEffect: a tick, a row mark, a row in progress past its trigger, a copied shadow, a working PE and engine. -/
theorem test_row_conditions :
    let d := rowing.at_ (3 * second)
    ({ rowing with code := { rowing.code with channels := Tab.put 1 { liveCh with committed := 3, ticks := [(2, 51 * second / 50)] } rowing.code.channels } }.at_
      (2 * second)).tickDue 1 = true ∧
    ((Tab.find 1 d.code.rends).map (fun x => ((nextRow x.pics).map (fun r => (r.1, r.2.1)), x.pool.copying))) = some (some (1, 1), some (0, 0)) ∧
    (d.chan 1).tickOf 1 + rowOffset (d.chan 1).recd rowPic.recd 1 ≤ d.now ∧ d.rowStaged 1 1 1 rowPic.recd = true ∧ (d.openRow 1 1 0).isSome = true ∧ d.floored 1 1 = false ∧
    ((d.openRow 1 1 0).map (fun q => (d.blockOk q.1 1 1 q.2.1 q.2.2 ⟨1800, 2, false, [⟨0, 128, 5, 0, 5, 0⟩], [0]⟩,
      d.blockOk q.1 1 1 q.2.1 q.2.2 ⟨1800, 2, false, [⟨3, 128, 5, 0, 5, 0⟩], [0]⟩, d.earliestFloor q.2.1.rods (rowDeadlineAt (d.chan 1) q.2.1 1 0),
      q.2.1.sides.all (fun e => (d.rod e.2.1).pes.any (natBit e.2.2.1))))) = some (true, false, true, true) ∧
    rowPic.recd.blocks = 30 ∧ rowTriggerAt d.time.copyLocked (d.chan 1) rowPic 1 0 ≤ d.now ∧ natBit (d.rod 1).pe 2 = true ∧
    (d.rod 1).engines.contains 9 = false := by decide

theorem test_deadline_conditions :
    let r : Tab RowState := (List.range 17).map (fun k => (k, ⟨0, [], [], some 100, none, false, [0], false, []⟩))
    let late (e : Bool) : Device := { rowing with code := { rowing.code with
      rends := [(1, { Rendition.ofRec { hdRend with channel := 1 } with live := true, dInForce := 500000, buA := 0
                                                                        pics := [(1, { rowPic with rows := r.map (fun x => (x.1, { x.2 with entered := e })) })] })] } }
    ((late false).at_ (3 * second)).deadlineDue 1 1 0 = true ∧ ((late true).at_ (3 * second)).statsFrame 1 = some 1 ∧
    ((late true).at_ (3 * second)).frameDone 1 1 = true := by decide

/-- Witness of TheGuardKeepsPicturesWithinTheirCeilings: the picture's account holds with row 0 begun. -/
theorem test_guard_account : rowPic.rowCost = 216 ∧ rowPic.budgetKept ∧ rowing.budgetsKept 1 := by
  have k : rowPic.budgetKept := by
    unfold Picture.budgetKept
    decide
  refine ⟨by decide, k, ?_⟩
  intro x h
  cases h
  refine ⟨by decide, ?_⟩
  intro e he
  cases he with
  | head => exact k
  | tail _ h => cases h

/-! ### Output flows -/

/-- Table 7.2: rows n and n + 1 of the 2160p60 rendition at 21 000 kb/s, from the first launch of row n. -/
theorem test_launch_table :
    let g := rowOffset uhdRec uhdRend 1
    (launches 2100000 9800 g 0 0 [zeros 1000, zeros 225]).map (fun e => e.1 / nsec) = [0, 380952] ∧
    (launches 2100000 26400 g 0 0 [zeros 1000, zeros 1000, zeros 1000, zeros 300]).map (fun e => e.1 / nsec) = [0, 149644, 299289, 448933] := by decide

/-- A native RTP service without FEC, with one AAC-LC stream. -/
def svcRec : ServiceRec :=
  { format := 1, enable := true, colFec := false, fixed7 := false, journal := false, rowFec := false, payloadMax := 0, pt := 96, fecL := 2, fecD := 4,
    ssrc := 1, pace := 0, ptsOffset := 0, program := 1, pmtPid := 0x20, videoPid := 0x21, audio := [⟨0, 1, 2, 0x22, 97, 2, 128⟩] }

def subRec : SubRec :=
  { service := 0, port := 0, enable := false, ipv6 := false, vlan := false, srtp := false, ssrcOverride := false, fec := false, dstMac := 0, vlanId := 0,
    pcp := 0, dscp := 0, ttl := 64, dstAddr := 0, srcAddr := 0, dstUdp := 5000, srcUdp := 5000, ssrc := 0, skewNs := 0 }

/-- The row of that picture, coded; and a live rendition with it. -/
def codedPic : Picture := { rowPic with rows := [(0, ⟨50000, [], [], some 9000, none, true, [0], false, []⟩)] }
def codedRend : Rendition := { Rendition.ofRec { hdRend with channel := 1 } with live := true, dInForce := 500000, buA := 0, pics := [(1, codedPic)] }

/-- Service 0 of the DEFINED channel, service 1 of the LIVE one with a coded row; subscriber 3. -/
def serving : Device :=
  { rowing with
    code := { rowing.code with rends := [(0, Rendition.ofRec hdRend), (1, codedRend)] }
    out := { rowing.out with services := [(0, Service.ofRec svcRec), (1, Service.ofRec svcRec)], subs := [(3, Subscriber.ofRec subRec)] } }

def svcBlock : Bytes := [1, 1] ++ wrLE 2 0 ++ [96, 5, 4, 0] ++ wrLE 4 1 ++ zeros 8 ++ wrLE 2 1 ++ wrLE 2 0x20 ++ wrLE 2 0x21 ++ zeros 102

def subBlock : Bytes := wrLE 2 0 ++ [0, 1] ++ zeros 10 ++ [64, 0] ++ [239, 1, 1, 1] ++ zeros 28 ++ wrLE 2 5000 ++ wrLE 2 5000 ++ zeros 12

def keyBlock : Bytes := [1, 0, 0, 0] ++ zeros 4 ++ zeros 48 ++ timeWordBytes second ++ zeros 56

def progBlock : Bytes := [1, 0, 0, 0, 96, 0] ++ zeros 4 ++ wrLE 2 5000 ++ zeros 4 ++ [239, 1, 1, 1] ++ zeros 44

/-- Witness of OutputCommandsTakeEffect. -/
theorem test_output_commands_run :
    runs serviceSet (blockEntry 0x401 0 128) (withBlock 0x1000 svcBlock serving) = true ∧
    runs serviceClear (entry 0x402 0 []) serving = true ∧
    runs subscriberSet (blockEntry 0x403 9 64) (withBlock 0x1000 subBlock serving) = true ∧
    runs subscriberClear (entry 0x404 3 []) serving = true ∧
    runs subscriberKeySet (blockEntry 0x405 3 128) (withBlock 0x1000 keyBlock serving) = true ∧
    runs programmeOutSet (blockEntry 0x406 0 64) (withBlock 0x1000 progBlock serving) = true ∧
    runs serviceStatusGet (entry 0x407 0 (wrLE 8 0x40)) serving = true ∧
    runs subscriberStatusGet (entry 0x408 3 (wrLE 8 0x40)) serving = true := by decide

/-- Witness of AMatrixMakesItsFecPackets: a 2 × 4 matrix with both, and the FEC header of a row packet over payloads of 5 and 3 bytes. -/
theorem test_fec_matrix :
    let r := { svcRec with colFec := true, rowFec := true }
    let a := rtpHeader false 96 7 0x100 1 ++ [1, 2, 3, 4, 5]
    let b := rtpHeader true 96 8 0x103 1 ++ [7, 7, 7]
    (Service.ofRec r).matrix.packets = [] ∧ ([1, 2, 3, 4, 5, 6, 7, 8].map (fun k => zeros k)).length = r.fecL * r.fecD ∧
    ((Service.ofRec r).fecTake r 1 0 [3] a).2.length = 0 ∧
    (((Service.ofRec r).fecTake r 1 0 [3] a).1.fecTake r 1 0 [] b).2.map (fun q => (q.rtp.length, q.takers)) = [(33, [3])] ∧
    fecBody true 2 4 (rtpSeq a) ([a, b].map fecParts |>.foldl xorPadded []) = [0, 7, 0, 6, 0x80, 0, 0, 0, 0, 0, 0, 3, 0x40, 1, 2, 0, 6, 5, 4, 4, 5] := by decide

/-- RFC 3711's key derivation vectors (B.3). -/
theorem test_srtp_keys :
    let k := beBytes 16 0xE1F97A0D3E018BE0D64FA32C06DE4139
    let s := beBytes 14 0x0EC675AD498AFEEBB6960B3AABE6
    srtpDerive k s 0 16 = beBytes 16 0xC61E7A93744F39EE10734AFE3FF7A087 ∧ srtpDerive k s 2 14 = beBytes 14 0x30CBBC08863D8C85D49DB34A9AE1 := by decide

/-- An AVC unit of 19 bytes in FU-A packets of 10, and OBUs in AV1 packets of 8: the temporal delimiter goes, and the first has N. -/
theorem test_native_payloads :
    nativeRow 0 10 true [] [0x65 :: (List.range 18).map (BitVec.ofNat 8)] =
      [[0x7C, 0x85, 0, 1, 2, 3, 4, 5, 6, 7], [0x7C, 5, 8, 9, 10, 11, 12, 13, 14, 15], [0x7C, 0x45, 16, 17]] ∧
    nativeRow 3 8 true [[0x12, 0], [0x0A, 1], [0x2A, 1, 2]] [0x22 :: List.replicate 6 9] =
      [[8, 2, 0x0A, 1, 3, 0x2A, 1, 2], [0x40, 6, 0x22, 9, 9, 9, 9, 9], [0x80, 1, 9]] := by decide

/-- A transport stream's first packet of a picture: unit start, PID 0x21, random access, PCR 0, then the PES header. -/
theorem test_transport_stream :
    ((tsPackets true 0x21 (tsField true (some 0)) (pesHeader 0xE0 0 0 ++ zeros 200)).map List.length) = [188, 188] ∧
    ((tsPackets true 0x21 (tsField true (some 0)) (pesHeader 0xE0 0 0 ++ zeros 200)).headD []).take 26 =
      [0x47, 0x40, 0x21, 0x30, 7, 0x50, 0, 0, 0, 0, 0x7E, 0, 0, 0, 1, 0xE0, 0, 0, 0x80, 0x80, 5, 0x21, 0, 1, 0, 1] := by decide

/-- Witness of ServicePacketsAreNumberedAndNeverLate, at Beam second 3. -/
theorem test_packet_conditions :
    let d := serving.at_ (3 * second)
    (((Tab.find 1 d.code.rends).bind (fun x => x.pic? 1)).bind (fun p => (Tab.find 0 p.rows).bind (·.bits))) = some 9000 ∧
    (Tab.find 1 d.out.services).map (fun v => ((recAt v.was v.recd 1).format, (recAt v.was v.recd 1).enable, v.nextSeq, v.recd.journal)) =
      some (1, true, 0, false) ∧
    (Tab.find 1 d.code.rends).map (·.live) = some true ∧
    svcRec.audio[0]?.map (fun e => decide (second + audioFrame (d.chan 1).recd e + readyLag e.coding ≤ d.now)) = some true := by decide

/-! ### Schedulers and host packet queues -/

/-- A media copy of a subscriber of service 17 on P4, a 100 Gb/s port. -/
def sb (sub bytes nominal : Nat) : Copy := ⟨nominal, 17, sub, 0, 1, bytes, false, nominal, none⟩

/-- Wire times of R239's worked example, and Table 8.4's placements, with nominal times 2 630 µs and 2 630.1 µs. -/
theorem test_wire_times : (wireTime 1058 100000000 * 100 + 32768) / 65536 = 8624 ∧ (wireTime 574 100000000 * 100 + 32768) / 65536 = 4752 ∧
    (wireTime 1518 100000000 * 100 + 32768) / 65536 = 12304 := by decide

theorem test_placements :
    let d := ((base.place 4 (sb 100 1058 (2630000 * 65536))).place 4 (sb 101 1058 (2630000 * 65536))).place 4 (sb 300 574 (2630100 * 65536))
    (d.sched.port 4).calendar.map (fun e => (e.placed * 100 + 32768) / 65536) = [263000000, 263008624, 263017248] ∧
    (d.sched.port 4).displaced = 2 ∧
    (d.sched.port 4).guardOk (2629950 * 65536) (wireTime 1518 100000000) = false ∧
    (PortSched.reset.guardOk 0 1) = true := by decide

/-- Table 8.5, in 1/10 bytes: frame 1 at 0, frame 2 at 0.72 µs, a slower rate at 10 µs, frozen at 30 µs, faster at 50 µs, repaid at 118 µs. -/
theorem test_shaper_table :
    let us n := n * 65536 * 1000
    let a := (Shaper.mk 1000000 16000 (16000 * 65536) 0).charge 8980 0
    let b := a.charge 8980 (us 72 / 100)
    let m := setShaper 5 500000 16000 (us 10) [(5, b)]
    let c := (Tab.read m 5 b).charge 8980 (us 22)
    let n := setShaper 5 0 16000 (us 30) [(5, c)]
    let o := setShaper 5 1000000 4000 (us 50) n
    a.tokens = 7000 * 65536 ∧ b.tokens = -1910 * 65536 ∧ (Tab.read m 5 b).tokens = -750 * 65536 ∧ (Tab.read m 5 b).eligible (us 15) = false ∧
    c.tokens = -9000 * 65536 ∧ (Tab.read n 5 c).tokens = -8500 * 65536 ∧ (Tab.read n 5 c).eligible (us 49) = false ∧
    (Tab.read o 5 c).tokens = -8500 * 65536 ∧ (Tab.read o 5 c).eligibleAt (us 50) = some (us 118) ∧
    (Tab.read o 5 c).tokensAt (us 150) = 4000 * 65536 := by decide

/-- Table 8.6: the start time of a list of base time 10 s and a cycle of 1 ms accepted at 12.345 678 900 s. -/
theorem test_gate_start :
    gateStart (10 * second) 1000000 (12345678900 * 65536) = 12346000000 * 65536 ∧
    gateStart (12347000000 * 65536) 1000000 (12345800000 * 65536) = 12347000000 * 65536 := by decide

/-- R253: srTCM's excess bucket takes what the committed one cannot; trTCM with PIR = CIR. -/
theorem test_policers :
    let p := Policer.mk 1 64 0 1518 1518 (1518 * 65536) (1518 * 65536) 0
    (p.meter 0 1000).1 = .green ∧ ((p.meter 0 1000).2.meter 0 1000).1 = .yellow ∧
    (((p.meter 0 1000).2.meter 0 1000).2.meter 0 1000).1 = .red := by decide

/-- A list of two entries: TC0 open for 100 ns of a cycle of 1 µs, closed for the rest. -/
def gates : GateList := ⟨0, 1000, [(100, 0xC1), (900, 0xC0)]⟩

/-- Host transmit queue 2 of TC0 on P4 with one descriptor posted, filter 3 to receive queue 5 with two posted, a copy due on P4, a gate
list in force and one pending. -/
def queued : Device :=
  { serving with
    sched := { serving.sched with
      ports := [(4, { PortSched.reset with
        calendar := [⟨sb 3 1000 second, second, second + 10⟩], lastEnd := second + 10, oper := some gates, pend := some { gates with start := 2 * second } })]
      tx := [(2, { TxQueue.reset with addr := 0x1000, enable := true, port := 4, tail := 1, eligible := 1 })]
      rx := [(5, { RxQueue.reset with addr := 0x8000, enable := true, tail := 2 })]
      filters := [(3, ⟨16, 0, 0, 0, 0, 5, 0xFF, 0, 0, 0⟩)] }
    mem := { serving.mem with host := memStore (memStore [] 0x1000 (wrLE 8 0x2000 ++ wrLE 2 9000)) 0x8000 (wrLE 8 0x9000 ++ wrLE 2 2048) } }

def gateBlock : Bytes := timeWordBytes second ++ wrLE 8 1000 ++ wrLE 2 2 ++ zeros 6 ++ wrLE 4 100 ++ [0xC1, 0, 0, 0] ++ wrLE 4 900 ++ [0xC0, 0, 0, 0]

/-- Witness of NoFrameRunsIntoAPlacedCopy: a clean-programme frame on an idle port. -/
theorem test_frame_starts :
    let d := { serving with sched := { serving.sched with ports := [(4, { PortSched.reset with waiting := [⟨5, 0x2100, 1000, 0, 0⟩] })] } }.at_ second
    d.txOf 4 = [] ∧ d.lanes.isUp 4 = true ∧ (d.sched.port 4).busyUntil ≤ d.now ∧ ((d.heads 4).filter (fun c => d.candReady 4 c && !d.candMay 4 c)) = [] ∧
    ((d.setSched 4 (d.sched.port 4)).pickFrame 4).isSome = true := by decide

/-- Witness of SchedulerCommandsTakeEffect. -/
theorem test_scheduler_commands_run :
    runs portSchedSet (entry 0x501 4 (wrLE 4 50000)) base = true ∧
    runs shaperSet (entry 0x502 0x2005 ([0, 0, 0, 0] ++ wrLE 4 1000000 ++ wrLE 4 16000)) base = true ∧
    runs dwrrSet (entry 0x503 0x3001 (wrLE 4 4096)) base = true ∧
    runs gateListSet (blockEntry 0x504 4 48) (withBlock 0x1000 gateBlock base) = true ∧
    runs gateListCancel (entry 0x505 4 []) queued = true ∧
    runs policerSet (entry 0x506 16 ([1, 0, 0, 0] ++ wrLE 4 64 ++ wrLE 4 0 ++ wrLE 4 1518 ++ wrLE 4 1518)) base = true ∧
    runs hostqTxSet (entry 0x507 2 (wrLE 8 0x1000 ++ wrLE 4 64 ++ [1, 4, 0, 0])) base = true ∧
    runs hostqRxSet (entry 0x508 5 (wrLE 8 0x8000 ++ wrLE 4 64 ++ [1, 0, 0, 0])) base = true ∧
    runs rxFilterSet (entry 0x509 3 (wrLE 4 16 ++ zeros 6 ++ [5, 0xFF])) base = true ∧
    runs schedStatusGet (entry 0x50A 4 (wrLE 8 0x40)) base = true := by decide

/-- Witness of ShaperTokensStayInRange and of PlacedTimesNeverDecrease. -/
theorem test_shaper_and_calendar :
    let x := Shaper.mk 1000000 16000 0 0
    x.tokens ≤ ((x.burst * 65536 : Nat) : Int) ∧ x.eligible 5 = true ∧ (Shaper.mk 0 16000 5 0).rate = 0 ∧
    (queued.sched.port 4).calendar.Pairwise (fun a b => a.finish ≤ b.placed) ∧
    (∀ e ∈ (queued.sched.port 4).calendar, e.placed ≤ e.finish ∧ e.finish ≤ (queued.sched.port 4).lastEnd) := by decide

/-- Witness of SchedulerHappeningsTakeEffect: each clause's condition, on one module at Beam second 3. -/
theorem test_scheduler_happenings : let d := queued.at_ (3 * second)
    (d.sched.port 4).calendar.map (fun e => (decide (e.placed ≤ d.now), e.copy.kind, e.copy.sub)) = [(true, 0, 3)] ∧
    (Tab.find 3 d.out.subs).map (fun x => (x.effect, x.recd.srtp)) = some (none, false) ∧
    d.lanes.isUp 4 = true ∧ (d.sched.port 4).pend.map (fun l => decide (l.start ≤ d.now)) = some true ∧ (d.sched.port 4).oper = some gates ∧
    ((d.heads 4).find? (fun c => c.leaf == nodeTx 2)).map (fun c => (c.cls, gates.neverFits c.cls (wireTime c.bytes (d.lanes.kbps 4)))) = some (0, true) ∧
    d.dmaUp = true ∧ (d.rxq 5).enable = true ∧ idxAhead (d.rxq 5).head (d.rxq 5).tail = 2 ∧
    rdLE (memBytes d.mem.host (descAddr (d.rxq 5).addr (d.rxq 5).entries (d.rxq 5).head) 32) 8 2 = 2048 ∧
    (d.sched.filterOf 4 (frameHead (zeros 100))).map (fun e => (e.1, e.2.queue, e.2.policer)) = some (3, 5, 0xFF) ∧
    d.ingest.flows.any (fun e => e.2.recd.takes 4 (frameHead (zeros 100))) = false ∧ (frameHead (zeros 100)).ptp = false ∧
    (frameHead (zeros 12 ++ [0x88, 8])).etherType = 0x8808 ∧
    idxAhead (d.txq 2).head 64 ≤ (d.txq 2).entries ∧ (d.txq 2).entries < idxAhead (d.txq 2).head 65 := by decide

/-! ### Serial lanes and Ethernet ports -/

/-- The arrangements of Table 9.2's cage, and a block that is not aligned. -/
theorem test_cage_layouts :
    cageOk [1, 1, 1, 1, 1, 1, 1, 1] = true ∧ cageOk [2, 2, 2, 2, 6, 6, 7, 7] = true ∧ cageOk [0, 2, 2, 2, 2, 0, 0, 0] = false ∧
    cageOk [4, 4, 4, 0, 0, 0, 0, 0] = false ∧ cagePorts 2 [2, 2, 2, 2, 6, 6, 7, 7] = [16, 20, 21, 22] := by decide

/-- R278's worked example: 120 s of compared bits at 106.25 Gb/s. -/
theorem test_compared_bits :
    ({ Lane.reset with test := ⟨7, 7, 0, 0, 3, false, 0, 10000000000⟩, locked := true } : Lane).bitsAt (120 * second) = 12750000000000 := by decide

/-- Port P4 TRAINING, P0 UP with DEGRADE 5, lane 6 under a checker that has locked, P12 in FAULT; ESMC on P0; a host lane test over at 2 s. -/
def laned : Device :=
  { base with
    link := { base.link with perst := false }
    lanes := { base.lanes with
      cages := [(0, [4, 4, 0, 0, 6, 0, 6, 0]), (1, [0, 0, 0, 0, 6, 0, 0, 0])]
      ports := [(0, { Port.reset with state := 2, recd := { PortRec.dflt with degrade := 5 } }), (4, { Port.reset with state := 1 }), (12, { Port.reset with state := 3 })]
      lanes := [(6, { Lane.reset with test := ⟨2, 5, 0, 0, 0, false, 0, 0⟩, locked := true })]
      synce := { base.lanes.synce with mode := 1, ssmLocked := 2, ssmHold := 4, mask := 1 }
      hostTest := some ⟨1, 5, 0, 2 * second⟩ } }

/-- P4 at the end of its recalibration, and after it. -/
def recaling (done : Bool) : Device :=
  { laned with
    lanes := { laned.lanes with ports := Tab.put 4 { Port.reset with state := 5 } laned.lanes.ports, recal := some (4, [4]), recalDone := done }
    rk := { laned.rk with works := [⟨0x0705, ⟨.ring 2 0, [], [], 0⟩, unitRecal, if done then some second else none⟩] } }

/-- Witness of LaneCommandsTakeEffect. -/
theorem test_lane_commands_run :
    runs cageSet (entry 0x701 1 [2, 2, 2, 2, 6, 6, 7, 7]) base = true ∧
    runs portSet (entry 0x702 4 (zeros 6 ++ [1, 1] ++ wrLE 2 1514)) base = true ∧
    runs synceSet (entry 0x703 0 ([1, 2, 4, 0] ++ wrLE 4 1)) base = true ∧
    runs laneTestSet (entry 0x704 4 ([7, 7, 0, 0, 3, 0] ++ wrLE 2 0 ++ wrLE 8 10000000000)) base = true ∧
    runs laneRecal (entry 0x705 4 []) base = true ∧
    runs hostlaneTest (entry 0x706 0 (wrLE 2 3 ++ [7, 1] ++ wrLE 4 1000)) { base with modes := { base.modes with mode := mMaintain } } = true ∧
    runs portStatusGet (entry 0x707 4 (wrLE 8 0x40)) base = true ∧
    runs laneStatusGet (entry 0x708 33 (wrLE 8 0x40)) base = true := by decide

/-- Witness of CageLayoutsAreAlignedBlocks: lane 1 belongs to P0. -/
theorem test_lane_of_port :
    cageOk (Tab.read laned.lanes.cages 0 []) = true ∧ typeLanes (laned.lanes.slot 1) = 2 ∧ laned.lanes.portOf 1 = 0 ∧
    laned.lanes.exists_ 0 = true ∧ 1 ∈ laned.lanes.lanesOf 0 := by decide

/-- Witness of LaneHappeningsTakeEffect: each clause's condition, at Beam second 3. -/
theorem test_lane_happenings : let d := laned.at_ (3 * second)
    d.lanes.exists_ 4 = true ∧ (d.port 4).state = 1 ∧ d.lanesUp 4 = true ∧ (d.port 4).cmis = 0 ∧ (d.port 4).recd.direction = 0 ∧
    d.lanes.exists_ 0 = true ∧ (d.port 0).state = 2 ∧ d.lanes.exists_ 12 = true ∧ (d.port 12).state = 3 ∧ (d.port 0).recd.degrade = 5 ∧
    d.lanes.isUp (d.lanes.portOf 1) = true ∧ natBit (d.lane 6).test.mode 1 = true ∧ (d.lane 6).locked = true ∧
    natBit d.lanes.synce.mask 0 = true ∧ d.lanes.hostTest.map (fun h => decide (h.ends ≤ d.now)) = some true ∧
    d.link.perst = false ∧ d.link.disabled = false ∧
    ((recaling false).at_ (3 * second)).lanes.recal = some (4, [4]) ∧ (((recaling false).at_ (3 * second)).port 4).state = 5 ∧
    ((recaling true).at_ (3 * second)).lanes.recalDone = true ∧ ((recaling true).at_ (3 * second)).rk.works.map (·.due) = [some second] := by decide

/-- The port leaves UP with cause 2 on a remote fault (R270, Table 9.7): E128 is tallied, LINK_DOWNS counts. -/
theorem test_remote_fault : let d := faultReceived 0 true (laned.at_ second)
    (d.port 0).state = 3 ∧ (d.port 0).linkDowns = 1 ∧ Tab.read d.events.tally 128 0 = 1 := by decide

/-! ### Host attach -/

/-- The link up in mode 1 at x16 with two sessions and one IDE stream, one record held, vector 5 pending and masked, channel 1 live. -/
def hosted : Device :=
  { chans with
    link := { chans.link with
      up := true, mode := 1, width := 16, perst := false, bme := false, secUp := true, ideCm := true, bootStage := 0xFF
      sessions := [⟨1, false⟩, ⟨2, true⟩], nextSession := 3 }
    rk := { chans.rk with
      rings := [(2, { Ring.reset with tail := 3, head := 2, taken := 2, done := 1 })]
      cq := { CompRing.reset with base := 0x4000, enable := true, log2 := 6, count := 1, written := 1, held := [⟨⟨9, 0, 2, false, 0, none, 0⟩, false⟩] } }
    msix := { chans.msix with mask := 1#256 <<< 5, pending := 1#256 <<< 5, open_ := true }
    sched := { chans.sched with tx := [(1, { TxQueue.reset with enable := true, tail := 3 })], rx := [(1, { RxQueue.reset with enable := true, tail := 3 })] } }

def unplugged : Device := { hosted with link := { hosted.link with up := false } }

/-- Witness of HostResetsSpareTheProgramme, and Table 10.14: E432, HOST_RESETS, CH1 to stop, CH1's tallies and rings. -/
theorem test_host_resets : let d := hosted.at_ second
    d.link.perst = false ∧ d.link.up = true ∧ (d.link.ideCm || d.link.ideIo) = true ∧
    (perstAssert d).link.hostResets = 1 ∧ (perstAssert d).link.lastReset = 1 ∧ ((perstAssert d).chan 1).lossStop = true ∧ ((perstAssert d).chan 0).lossStop = false ∧
    ((perstAssert d).rk.ring 2).tail = 0 ∧ ((perstAssert d).rk.ring 2).taken = 2 ∧ (d.linkLoss 6).rk = d.rk ∧
    Tab.read (perstAssert d).events.tally 432 0 = 1 := by decide

/-- Witness of LinkReturnsAndVectorsFire. -/
theorem test_link_return : let d := unplugged.at_ second
    d.mayTrain = true ∧ linkShapeOk 1 16 = true ∧ linkShapeOk 3 1 = true ∧ linkShapeOk 1 2 = false ∧ hosted.link.up = true ∧ base.link.perst = true ∧
    ({ hosted with link := { hosted.link with disabled := true } } : Device).link.disabled = true ∧ hosted.rk.cq.count ≠ 0 ∧
    (msixMask 5 false false hosted.msix).sent = [5] ∧
    ({ hosted with link := { hosted.link with bme := true } } : Device).resume.rk.cq.held = [] := by decide

/-- Witness of WindowAndRegisterAccesses. -/
theorem test_window_accesses : let d := ({ hosted with mem := { hosted.mem with poison := [64] } } : Device).at_ second
    d.link.up = true ∧ d.rangeUp 0 64 = true ∧ d.poisoned 0 64 = false ∧ d.poisoned 4096 1 = true ∧
    ({ d with dram := { d.dram with groups := [] } } : Device).rangeUp 0 64 = false ∧
    (windowWrite 4096 (zeros 64) d).mem.poison = [] ∧ (windowWrite 4096 (zeros 32) d).mem.poison = [64] := by decide

/-- Witness of MessagesAreAnswered. -/
theorem test_messages : let d := hosted.at_ second
    d.link.up = true ∧ d.link.mode = 1 ∧ d.link.secUp = true ∧ d.mctpAsleep = false ∧ ⟨1, false⟩ ∈ d.link.sessions ∧
    (∀ z ∈ d.link.sessions, z.id = 2 → z.mctp = true) ∧ d.link.sessions.length < 4 ∧ ((1 ≤ 6 ∧ 6 ≤ 12) ∧ ¬(1 ≤ 13 ∧ 13 ≤ 12)) := by decide

/-- Table 17.9's indices, and index 6 outside a rod update. -/
theorem test_measurements :
    (hosted.measurements 0xFF).map (·.1) = [1, 2, 3, 4, 5, 6, 7, 8, 9, 10] ∧ (hosted.measurements 6).map (·.1) = [6] ∧
    hosted.secondRct = List.replicate 48 0 := by decide

/-! ### The Ranrok command interface -/

/-- CR1 stopped with two entries posted, CR2 with one; the completion ring ACTIVE with one record written. -/
def ringed : Device :=
  { base with
    link := { base.link with perst := false, bootStage := 0xFF }
    rk := { base.rk with
      rings := [(1, { Ring.reset with tail := 2, busyStop := true, busyHint := 5000, stamps := [(0, 0), (1, 0)] }), (2, { Ring.reset with tail := 1, stamps := [(0, 0)] })]
      cq := { CompRing.reset with base := 0x4000, enable := true, log2 := 6, count := 1, written := 1 } } }

/-- Witness of RefusedCommandsChangeNothing: a CAGE_SET of a layout that is not aligned, a NOP with a parameter, and a selector RANROK_INFO_GET does not
accept. -/
theorem test_refusals :
    let e1 := entry 0x701 1 [2, 2]
    let e2 := entry 0x002 0 [1]
    let e3 := entryF 0x001 0 0 2 5 []
    let c sp e := ctxAt sp 0 2 e (st base)
    ringRow (.cageSet 0 2 e1) = some (cageSet, 0, 2, e1) ∧ base.implements 0x701 = true ∧ (base.rk.ring 2).order = [] ∧
    entryCheck cageSet (some 2) (c cageSet e1) = none ∧ blockCheck cageSet (takenAt 0 2 e1 (st base)) false (c cageSet e1) = none ∧
    cageSet.check (c cageSet e1) (aheadOf (takenAt 0 2 e1 (st base))) = some (stBadParam, 0) ∧
    entryCheck ranrokNop (some 2) (c ranrokNop e2) = none ∧ blockCheck ranrokNop (takenAt 0 2 e2 (st base)) false (c ranrokNop e2) = some (stBadParam, 0) ∧
    entryCheck ranrokInfoGet (some 2) (c ranrokInfoGet e3) = some (stBadParam, 1) ∧ stBadParam ≠ stBusy := by
  refine ⟨rfl, ?_⟩
  decide

/-- Witness of InterfaceCommandsTakeEffect. -/
theorem test_interface_commands_run :
    runs ranrokNop (entry 0x002 0 []) base = true ∧ runs ranrokInfoGet (entry 0x001 0 (wrLE 8 0x40)) base = true := by decide

/-- Witness of RingRegistersFollowTheirRules and of EntriesAreTakenInOrder. -/
theorem test_ring_registers : let d := ringed.at_ 1000
    diff32 (d.rk.ring 1).tail (d.rk.ring 1).head ≤ diff32 5 (d.rk.ring 1).head ∧ diff32 5 (d.rk.ring 1).head ≤ (d.rk.ring 1).size ∧
    diff32 1 (d.rk.ring 1).head < diff32 (d.rk.ring 1).tail (d.rk.ring 1).head ∧ (d.rk.ring 1).size < diff32 300 (d.rk.ring 1).head ∧
    diff32 1 d.rk.cq.consumed ≤ diff32 d.rk.cq.written d.rk.cq.consumed ∧ diff32 d.rk.cq.written d.rk.cq.consumed < diff32 2 d.rk.cq.consumed ∧
    d.rk.cqHeld = 0 ∧ d.rk.mgmtUp = true ∧ d.cqActive = true ∧ (∀ r < 4, d.offers r = true → d.cqShort r = false) ∧
    (∀ r < 4, (d.rk.ring r).cqWait = false) ∧ d.nextRing = some 1 ∧ (d.rk.ring 1).busyStop = true ∧
    d.rk.mctpOpen = false ∧ d.mctpAsleep = false ∧ mctpOpcodes.contains 0x0001 = false := by decide

/-- Witness of EntriesAreTakenInOrder: an entry that is taken and runs. -/
theorem test_entry_runs : let a := (List.range 4).foldl Device.stallRing ({ ringed.setRing 1 { ringed.rk.ring 1 with busyStop := false } with
      mem := { ringed.mem with cmdsram := memStore [] 0x40000 [2, 0] } }.at_ 1000)
    a.rk.mgmtUp = true ∧ a.cqActive = true ∧ a.nextRing = some 1 ∧ a.mustBusy 1 0 = false ∧ a.headBad 1 = false ∧
    (specOf (rdLE (a.headEntry 1) 0 2)).isSome = true := by decide

/-- Table 11.16: the entry behind a BUSY answer is answered BUSY with the same hint; the ring served by deadline after CR0. -/
theorem test_busy_behind : let d := cmdEntryTake [] 77 (ringed.at_ 1000)
    (d.rk.ring 1).head = 1 ∧ (d.rk.ring 1).busy = 1 ∧ (Tab.find 0 (d.rk.ring 1).results).map (fun r => (r.status, r.detail)) = some (stBusy, 5000) := by decide

/-- A waiting command and a unit that is free. -/
theorem test_unit_free :
    let w : Work := ⟨0x0705, ⟨.ring 2 0, entry 0x705 4 [], [], 0⟩, unitRecal, none⟩
    let d : Device := { base with rk := { base.rk with waiting := [w] } }
    takeWork (fun w => !d.unitHeld w.unit) d.rk.waiting = some (w, []) ∧ (specOf w.op).isSome = true ∧ laneRecal.check w.ctx (aheadOf base) = none := by decide

/-! ### DRAM -/

/-- R357's worked example: window offset 0x2_2345_6780 at a grain of 4 KiB. -/
theorem test_dram_place : dramPlace 2 12 0x23456780 = ⟨22, 0x91A2, 0, 8, 0x91A⟩ := by decide

/-- R360: the bytes of an 8K slate; R369 and R371's worked example: 8 extents of 2160p 4:2:0, 11 of its 4:2:2 store. -/
theorem test_dram_sizes : slateBytes 7680 4320 = 84242432 ∧ picExtents 3840 2160 0 = 8 ∧ picExtents 3840 2160 1 = 11 ∧
    [picExtents 1920 1080 0, picExtents 1280 720 0, picExtents 960 540 0] = [2, 1, 1] := by decide

/-- IG0 with work at each end, IG1 out of service and ready, IG2 draining past its time, IG3 in service with DC24 about to count its 17th window error. -/
def drammed : Device :=
  { base with
    dram := { base.dram with
      groups := [(0, { Group.reset with service := 0 }), (1, { Group.reset with service := 2, retrained := true, tested := true, ready := true }),
        (2, { Group.reset with service := 1, drainBy := some second }), (3, { Group.reset with service := 0 })]
      chans := [(24, { DramChannel.reset with windowErrs := List.replicate 16 (3 * second) })] } }

/-- IG0 is to be retired; and IG0 under retrain, under test, and returning. -/
def retiring : Device := { drammed with dram := { drammed.dram with groups := Tab.put 0 { Group.reset with service := 0, retire := some (3, 1) } drammed.dram.groups } }
def working (op : Nat) (sv : Nat) : Device :=
  { drammed with
    dram := { drammed.dram with groups := Tab.put 0 { Group.reset with service := sv } drammed.dram.groups }
    rk := { drammed.rk with works := [⟨op, ⟨.ring 3 0, entry op 0 [], [], 0⟩, 0x500, none⟩] } }

/-- Witness of MemoryCommandsTakeEffect. -/
theorem test_memory_commands_run :
    runs memGroupRetire (entry 0x801 0 [0]) base = true ∧ runs memGroupRetire (entry 0x801 0 [1]) base = true ∧
    runs memGroupRetire (entry 0x801 1 [1]) drammed = true ∧ runs memGroupRetrain (entry 0x802 1 []) drammed = true ∧
    runs memGroupTest (entry 0x803 1 [1]) drammed = true ∧ runs memGroupRestore (entry 0x804 1 []) drammed = true ∧
    runs memGrainSet (entry 0x805 1 [14]) drammed = true ∧ runs memChannelDiagGet (entry 0x806 9 (wrLE 8 0x400)) drammed = true ∧
    runs memStatusGet (entry 0x807 0 (wrLE 8 0x400)) drammed = true := by decide

/-- Witness of TheAddressMapIsOneToOne and MemoryHappeningsTakeEffect: each clause's condition, at Beam second 3. -/
theorem test_memory_happenings : let d := drammed.at_ (3 * second)
    0x23456780 < groupBytes ∧ (dramPlace 0 12 1984).page = (dramPlace 0 12 0).page + 1 ∧ (dramPlace 0 12 1984).row = (dramPlace 0 12 0).row ∧
    (d.dram.group 0).service < 2 ∧ (d.dram.chan (dramPlace 0 12 (2 ^ 32)).channel).cause = 0 ∧ 2 ^ 32 < groupBytes ∧
    (dramPlace 3 12 0).channel = 24 ∧ 16 ≤ (lastSecond d.now (d.dram.chan 24).windowErrs).length ∧ (lastSecond d.now (d.dram.chan 0).windowErrs).length < 16 ∧
    d.modes.throttleIo = 0 ∧ (d.dram.group 2).service = 1 ∧ (d.dram.group 2).drainBy.map (fun b => decide (b ≤ d.now)) = some true ∧
    (retiring.dram.group 0).retire = some (3, 1) ∧ (retiring.dram.group 0).service < 2 ∧
    (working 0x802 3).rk.works.map (fun w => (w.op, w.ctx.handle)) = [(0x802, 0)] ∧ (working 0x803 3).rk.works.map (·.op) = [0x803] ∧
    ((working 0x804 4).dram.group 0).service = 4 := by decide

/-- Table 12.6: a freeze of DC11 retires IG1: E299 and E320. -/
theorem test_retirement :
    let d := uncorrectableRead 1 (2 ^ 32 + 3 * 4096) 0 5 7 [] (base.at_ second)
    let e := groupRetirement 1 d
    (d.dram.chan 11).cause = 1 ∧ Tab.read d.events.tally 299 0 = 1 ∧ (e.dram.group 1).service = 2 ∧ Tab.read e.events.tally 320 0 = 1 := by decide

/-! ### The journal and the check units (13) -/

/-- Table 13.8: the check values of "123456789". -/
theorem test_crc32c : crc32c ([0x31, 0x32, 0x33, 0x34, 0x35, 0x36, 0x37, 0x38, 0x39] : Bytes) = 0xE3069283 := by decide
theorem test_crc32 : crcValue 1 (crcRun 1 (crcOnes 1) [0x31, 0x32, 0x33, 0x34, 0x35, 0x36, 0x37, 0x38, 0x39]) = 0xCBF43926 := by decide
theorem test_crc64 : crcValue 2 (crcRun 2 (crcOnes 2) [0x31, 0x32, 0x33, 0x34, 0x35, 0x36, 0x37, 0x38, 0x39]) = 0x995DC9BBDF1939FA := by decide

/-- Table 13.6: the cache granted to each bank. -/
theorem test_grants : [10800, 6100, 1700].map (fun u => grantFor u 512) = [512, 288, 32] := by decide

/-- A record of service 4. -/
def pktRec (seq time batch : Nat) (committed : Bool) : JRec := ⟨1, 1, 4, seq, time, [1, 2], 0, 0, committed, batch, 0⟩

/-- The journal mounted with no session; open with two records, the first committed. -/
def mounted : Device := { base with journal := { JournalState.reset with mounted := true }, phys := { base.phys with bankFull := true } }
def recording : Device :=
  { mounted with journal := { mounted.journal with
      session := 1, cacheMib := 64, wanted := 64, energyMj := 1752, staging := 0, batch := 1, batchAt := some 0, batches := [(1, 48)], lastTest := 1
      recs := [pktRec 0 second 0 true, pktRec 1 (2 * second) 1 false], marks := [(3, ⟨4, 0, second⟩)], services := [(4, { JService.reset with seq := 2 })] } }

/-- The same with service 4 set and journalled, its rendition not live, and a replay of it running. -/
def replaying : Device :=
  { recording with
    code := { chans.code with rends := chans.code.rends ++ [(4, Rendition.ofRec hdRend)] }
    out := { recording.out with services := [(0, Service.ofRec { svcRec with journal := true }), (4, Service.ofRec { svcRec with journal := true })] }
    journal := { recording.journal with replays := [(2, ⟨4, 0, 0, 9 * second, 3 * second, 2 * second, 0, none, 0, true⟩)] } }

/-- JOURNAL_REPLAY_START's block: service 4 to service 0 from 0 to second 9; JOURNAL_EXPORT's: service 4 into 4 KiB at 0x10000. -/
def replayBlock : Bytes := zeros 2 ++ wrLE 2 4 ++ zeros 4 ++ timeWordBytes 0 ++ timeWordBytes (9 * second) ++ zeros 24
def exportBlock : Bytes := [1, 0] ++ wrLE 2 4 ++ zeros 4 ++ timeWordBytes 0 ++ timeWordBytes (9 * second) ++ wrLE 8 0x10000 ++ wrLE 8 4096 ++ zeros 8

/-- Witness of JournalCommandsTakeEffect. -/
theorem test_journal_commands_run :
    runs journalSessionOpen (entry 0x901 0 []) mounted = true ∧ runs journalSessionClose (entry 0x902 0 []) recording = true ∧
    runs journalSessionClose (entry 0x902 0 []) mounted = true ∧
    runs journalServiceSet (entry 0x903 4 (zeros 4 ++ wrLE 4 60)) replaying = true ∧
    runs journalMarkPin (entry 0x904 5 (wrLE 2 4 ++ zeros 6 ++ timeWordBytes (3 * second) ++ timeWordBytes (4 * second))) recording = true ∧
    runs journalMarkRelease (entry 0x905 3 []) recording = true ∧ runs journalReplayStop (entry 0x907 2 []) replaying = true ∧
    runs energyTest (entry 0x909 0 []) recording = true ∧ runs journalStatusGet (entry 0x90A 0x1004 (wrLE 8 0x400)) recording = true ∧
    runs checkContextSet (entry 0x90B 60 ([0, 2, 0, 0] ++ wrLE 8 0x100 ++ wrLE 8 9)) base = true ∧
    runs checkContextGet (entry 0x90C 60 (wrLE 8 0x400)) base = true := by decide

theorem test_journal_blocks_run :
    runs journalReplayStart (blockEntry 0x906 2 64) (withBlock 0x1000 replayBlock ((replaying.endReplay 2 1).at_ (3 * second))) = true ∧
    runs journalExport (blockEntry 0x908 0 64) (withBlock 0x1000 exportBlock recording) = true := by decide

/-- Context C60 running a VERIFY of nine bytes against 7. -/
def checking : Device := { base with checks := ⟨[(60, { CheckCtx.reset 60 with mode := 2, state := 1, running := 0xFFFFFFFF, offset := 256, length := 9, expect := 7 })]⟩ }

/-- Witness of JournalHappeningsTakeEffect: each clause's condition. -/
theorem test_journal_happenings :
    recording.journal.session = 1 ∧ (recording.journal.svc 4).pendingLost = 0 ∧ recording.journal.roomFor (roundUp (44 + 2) 8) = true ∧
    (let j := { recording.journal with batches := [(1, 64 * mib)], services := [(4, { JService.reset with seq := 2, pendingLost := 1 })] }
     j.roomFor 48 = false ∧ (j.services.find? (fun e => e.2.pendingLost != 0)).map (·.1) = some 4 ∧ { j with batches := [] }.roomFor 64 = true) ∧
    (0 + 50 * msec ≤ (recording.at_ second).now) ∧ (recording.journal.endBatch 0).batch = 2 ∧ recording.journal.stopped = 0 ∧
    (Tab.find 1 (recording.journal.endBatch 0).batches).isSome = true ∧
    recording.journal.holds (pktRec 0 (second - 1) 0 true) = true ∧
    recording.journal.lastTest + 86400 * second ≤ (recording.at_ (100000 * second)).now ∧ recording.journal.testing = false ∧
    (let d := { mounted.beginTest with rk := { mounted.rk with works := [⟨0x901, ⟨.ring 2 0, entry 0x901 0 [], [], 0⟩, 0, none⟩] } }
     d.openCheck = none ∧ (energyTestDone 6100 40 d).journal.cacheMib = 288 ∧ (energyTestDone 1700 40 d).journal.session = 0) ∧
    recording.beginTest.journal.cacheBytes ≤ recording.beginTest.journal.limit + 48 ∧
    (energyTestDone 1752 40 { recording with journal := { recording.journal with testing := true, batches := [], batchAt := none } }).journal.cacheMib = 64 ∧
    (Tab.find 2 replaying.journal.replays).map (fun r => decide (r.to_ + r.shift ≤ 11 * second)) = some true ∧
    (checking.checks.ctx 60).state = 1 ∧ checking.phys.shed = 0 ∧ checking.poisoned 256 9 = false := by decide

/-- R394: a batch goes into a new block, which a failure moves; the free block of the lowest count comes next; static wear levelling moves cold data. -/
theorem test_wear :
    let j := recording.journal.endBatch 0
    (j.nand.map (fun e => (e.1, e.2.batches, e.2.used))) = [(0, [1], 1)] ∧ j.filling = some 0 ∧
    ((j.retireBlock 0).nand.map (fun e => (e.1, e.2.bad, e.2.batches))) = [(0, true, []), (1, false, [1])] ∧ (j.retireBlock 0).filling = some 1 ∧
    ((JournalState.level { j with nand := [(0, { NandBlock.fresh with batches := [1], erases := 3 }), (1, { NandBlock.fresh with erases := 204 })], filling := none }).nand.map
      (fun e => (e.1, e.2.erases, e.2.batches))) = [(0, 4, []), (1, 204, []), (2, 0, [1])] := by decide

/-- R412: a VERIFY against another value sets STATE 3 and raises E472. -/
theorem test_check_mismatch : ((checkRunDone 60 checking).checks.ctx 60).state = 3 ∧ Tab.read (checkRunDone 60 checking).events.tally 472 0 = 1 := by decide

/-! ### Audio ports and audio coding (14) -/

/-- A slave input of 48 kHz that sounds; a port in re-lock; a flow of two channels; source 3 takes the port, source 4 waits for its left channel. -/
def apIn : APortRec := { APortRec.off with enable := true }
def sounding : APort := { APort.reset with recd := apIn, state := 1, leftOn := true, rightOn := true, measured := 48000 }
def l24 : FlowRec := { parseFlow ⟨.ring 2 0, entry 0 0 [], [5, 1, 0, 0] ++ zeros 124, 0⟩ with audio := wrLE 4 48000 ++ [2, 24] ++ wrLE 2 1000 ++ zeros 40 }
def audible : Device :=
  { base with
    audio := {
      ports := [(0, sounding), (1, { sounding with state := 4, leftOn := false, rightOn := false }), (2, { sounding with state := 3, leftOn := false, rightOn := false }),
        (3, { sounding with waitR := some ⟨false, 5⟩ }), (4, { APort.reset with recd := { apIn with output := true, source := 5, delayUs := 1000 }, state := 2 })]
      sources := [(3, { ASource.reset with pairs := [⟨0, 0, 0, false⟩] }),
        (4, { ASource.reset with pairs := [⟨0, 0, 0, false⟩], waits := [⟨0, ⟨0, 0, 3, false⟩, 9, false, true⟩] }),
        (5, { ASource.reset with pairs := [⟨1, 0, 7, false⟩] })] }
    ingest := { base.ingest with flows := [(7, { Flow.ofRec 0 l24 with capture := some 5 })] } }

/-- Witness of AudioTakesEffect, the commands: a mute, a change of FORMAT, a change in re-lock; a new input; settings; a record. -/
theorem test_audio_commands_run :
    runs audioPortSet (entry 0xA01 0 ([9, 0, 24, 10] ++ wrLE 4 48000)) audible = true ∧
    runs audioPortSet (entry 0xA01 0 ([1, 1, 24, 10] ++ wrLE 4 48000)) audible = true ∧
    runs audioPortSet (entry 0xA01 1 ([1, 1, 24, 10] ++ wrLE 4 48000)) audible = true ∧
    runs audioSourceSet (entry 0xA02 3 ([1, 0, 0, 0] ++ wrLE 4 48000 ++ [0, 0, 3, 0])) audible = true ∧ runs audioSourceSet (entry 0xA02 3 []) audible = true ∧
    runs audioEncoderSet (entry 0xA03 3 (wrLE 2 100)) audible = true ∧ runs audioStatusGet (entry 0xA04 0x103 (wrLE 8 0x400)) audible = true ∧
    audible.pairSilent ⟨0, 0, 0, false⟩ = false ∧ audible.pairSilent ⟨0, 0, 1, false⟩ = true := by decide

/-- Witness of AudioTakesEffect, the happenings: each clause's condition. -/
theorem test_audio_happenings :
    (audible.aport 0).state = 1 ∧ (audible.aport 1).state = 4 ∧ (audible.aport 2).state = 3 ∧ rateNear 48100 = some 48000 ∧ rateNear 50000 = none ∧
    ((audible.aport 3).waiting true).map (·.on) = some false ∧ (audible.aport 0).slave = true ∧ l24.isAudio = true ∧ l24.enable = true ∧
    5 + l24.packetUs * usec ≤ (audible.at_ second).now ∧ audible.sendsFlow 7 (audible.aport 4) = true := by decide

/-- Table 14.2: loss, measurement, re-lock, and the two channels' crossings one by one. -/
theorem test_relock :
    let a := clockLoss 0 false audible
    let b := relock 0 (rateMeasured 0 48000 a)
    let c := zeroCrossing false 0 0 false b
    let e := zeroCrossing false 0 0 true c
    [a, b, c, e].map (fun d => ((d.aport 0).state, (d.aport 0).leftOn, (d.aport 0).rightOn, Tab.read d.events.tally 416 0)) =
      [(3, false, false, 1), (2, false, false, 1), (2, true, false, 1), (1, true, true, 2)] := by decide

/-! ### Events, tallies and word queues (15) -/

/-- E480 routed to a vector, E481 to firmware and pending; WQ33 carries a trace, WQ32 flushes, WQ0 holds a word; a log of 64 records. -/
def routed : Device :=
  { base with
    events := { base.events with
      src := [(480, { EvSrc.reset with route := 0, vector := 5 }), (481, { EvSrc.reset with route := 1, pending := true })]
      log := { base.events.log with enable := true, offset := 0x100000, log2 := 6 } }
    wq := ⟨[(0, { WordQueue.reset with words := [7, 8], seen := 2, enabled := true, producer := 0 }),
      (32, { WordQueue.reset with enabled := true, producer := 2, flushing := true, midItem := true, flushCmd := [(.ring 0 0, 7)] }),
      (33, { WordQueue.reset with enabled := true, producer := 2, midItem := true, words := [1, 2, 3] })]⟩ }
def unqueued : Device := { routed with wq := ⟨[]⟩ }
def unlogged : Device := { routed with events := { routed.events with log := { routed.events.log with enable := false }, tally := [(480, max64)] } }

/-- Witness of EventBlockTakesEffect, the commands. -/
theorem test_event_commands_run :
    runs eventRouteSet (entry 0xB01 478 (wrLE 2 5 ++ [1, 0, 9])) base = true ∧ runs eventLogSet (entry 0xB02 0 (wrLE 8 0x200000 ++ [8, 3, 1])) routed = true ∧
    runs wqueueSet (entry 0xB03 33 [2, 0]) routed = true ∧ runs wqueueSet (entry 0xB03 2 ([1, 1, 0, 0] ++ wrLE 2 9)) routed = true ∧
    runs wqueueFlush (entry 0xB04 33 []) routed = true ∧ runs wqueueFlush (entry 0xB04 0 []) routed = true ∧ runs wqueueFlush (entry 0xB04 9 []) routed = true ∧
    (wqueueSet.check (ctxAt wqueueSet 0 2 (entry 0xB03 33 [1, 1]) (st routed)) routed) = some (stBadParam, 0x0B01) := by decide

/-- Witness of TalliesStickAtTheirLargestValue, ReadsClearOrPopExactlyOnce and EventBlockTakesEffect: each clause's condition. -/
theorem test_event_happenings :
    evReserved 480 = false ∧ evReserved 493 = true ∧ Tab.read unlogged.events.tally 480 0 = max64 ∧ unlogged.events.log.enable = false ∧
    unqueued.wq.queues = [] ∧ unqueued.groupUp (0x100000 / 2 ^ 32) = true ∧
    ringFull unqueued.events.log.windex (readIndex unqueued.mem 0x100000) 64 = false ∧ ringFull 64 0 64 = true ∧
    routed.wq.queues.all (fun e => e.2.producer != 1) = true ∧ (routed.wq.queues.map (·.1)) = [0, 32, 33] ∧
    (Tab.read routed.wq.queues 0 WordQueue.reset).seen = 2 ∧ (Tab.read routed.wq.queues 9 WordQueue.reset).seen = 0 ∧
    0 + msec ≤ (routed.at_ msec).now ∧ wqDepth 0 = 512 ∧ wqDepth 33 = 256 := by decide

/-- R433 and Table 15.6: the first record of E480, and its vector. -/
theorem test_event_record :
    let d := eventOccurrence 480 0x1234 { unqueued with msix := { unqueued.msix with open_ := true, funcMask := false, mask := 0 } }
    memBytes d.mem.hdm 0x101000 10 = [0xE0, 1, 0, 0, 1, 0, 0, 0, 0x34, 0x12] ∧ memBytes d.mem.hdm 0x100000 2 = [1, 0] ∧ d.msix.sent = [5] := by decide

/-- Table 15.14: a flush in mid item takes the stored words and the item's up to its END. -/
theorem test_flush :
    let w := (Tab.read routed.wq.queues 33 WordQueue.reset).flush [(.ring 0 0, 7)] 0
    let y := [⟨4, false⟩, ⟨5, true⟩].foldl (fun w x => wqTake x w) w
    (w.words, w.flushing, w.flushCount, y.flushing, y.flushCount) = ([], true, 3, false, 5) := by decide

/-! ### Modes, clocks and power (16) -/

/-- ARMED with CH0 DEFINED on a slate; GUARDED with CH1 LIVE and the moment past its servo's lock. -/
def arming : Device := { chans with modes := { base.modes with mode := mArmed } }
def timedOn (m : Nat) (tr : Option Transition) (sc : Option Schedule) (d : Device) : Device := { d with modes := { d.modes with mode := m, transition := tr, schedule := sc } }
def toward_ (m n : Nat) : Transition := ⟨none, m, 0, n, 0, stOk, 0⟩
def start_ : Schedule := ⟨mGuarded, mKeep, 1, 3 * second, mTimekeep, second, false, false⟩
def idle_ : Device := { arming with code := { arming.code with channels := [(0, defCh)] } }

/-- Witness of ModesTakeEffect, the commands: to a live mode, to MAINTAIN, between live modes, to DRAIN; a scheduled start and its end; the others. -/
theorem test_mode_commands_run :
    runs modeSet (entry 0x10 0 [5]) idle_ = true ∧ runs modeSet (entry 0x10 0 [9]) idle_ = true ∧ runs modeSet (entry 0x10 0 [7]) chans = true ∧
    runs modeSet (entry 0x10 0 [8, 3]) chans = true ∧
    runs scheduledStartSet (entry 0x11 0 ([6, 1, 1] ++ zeros 13 ++ timeWordBytes (9 * second))) idle_ = true ∧ runs scheduledStartSet (entry 0x11 0 []) idle_ = true ∧
    runs quietWindowSet (entry 0x12 0 ([1] ++ zeros 7 ++ timeWordBytes second ++ timeWordBytes (2 * second))) base = true ∧
    runs deviceStatusGet (entry 0x13 0 (wrLE 8 0x400)) base = true ∧ runs thermalLimitSet (entry 0x14 2 [90, 85]) base = true := by decide

/-- Witness of ModesTakeEffect, the happenings, and of TheModeChangesOnlyWhereStated: each clause's condition. -/
theorem test_mode_happenings :
    idle_.transitionReady (toward_ mMaintain 0) = true ∧ idle_.drained mArmed = true ∧ (timedOn mTimekeep none (some start_) idle_).unitHeld uMode = false ∧
    start_.wakeAt ≤ (idle_.at_ second).now ∧ start_.start ≤ (idle_.at_ (3 * second)).now ∧ start_.start ≤ (idle_.at_ (2495 * second / 1000)).now + startLead + wakeGuard ∧
    (modeTransitionDone (timedOn mArmed (some (toward_ mMaintain 0)) none idle_)).modes.mode = mMaintain ∧
    (drainDone (timedOn mDrain (some (toward_ mDrain mArmed)) none idle_)).modes.mode = mArmed ∧
    (drainDone (timedOn mDrain (some (toward_ mDrain mMaintain)) none idle_)).modes.mode = mDrain ∧ (idle_.enterHold 3).modes.mode = mHold := by decide

/-- The worked example of R463: a rod idle for 1 181.5 µs rests in Off; one idle for 100 µs in Sleep. -/
theorem test_islands : deepest .off (some 77430784000) = .off ∧ deepest .off (some (100 * usec)) = .sleep ∧ deepest .sleep none = .sleep := by decide

/-- Witness of TheModeChangesOnlyWhereStated: nothing waits right after reset. -/
theorem test_queues_sound : State.reset.dev.queuesSound :=
  ⟨fun _ h => (nomatch h), fun _ h => (nomatch h), fun _ h => (nomatch h)⟩

/-! ### Service in operation (17) -/

/-- CH1 LIVE on ROD1 with ROD2 spare; ROD5 and lane 4 out of service with a pass; an image of each kind staged; decoder 0 returning. -/
def svcUnit : UnitRec := { UnitRec.reset with service := 2, memPassed := true, anaPassed := true }
def unitary : Device :=
  { chans with
    code := { chans.code with rods := chans.code.rods ++ [(5, { Rod.reset with service := 2, role := 0 })] }
    serv := { ServState.reset with
      units := [(5, svcUnit), (0x300, { svcUnit with service := 4 }), (0x404, svcUnit)]
      images := [1, 2, 3, 4, 5, 6].map (fun k => (k, { ImageKind.reset with staged := true, slotB := ⟨0x02000000, 3, 1, []⟩ })) } }

/-- A context of ring 0 with an entry of these parameters. -/
def ctx_ (op handle : Nat) (params : Bytes) : Ctx := ⟨.ring 0 1, entry64 (entry op handle params), [], 0⟩

/-- Firmware of a kind under activation, its command undecided. -/
def activating_ (k : Nat) (restarted : Bool) : Activating := ⟨k, some (ctx_ 0xC03 0 [k]), 0, restarted, false, none, false⟩
def withServ (f : ServState → ServState) (d : Device) : Device := { d with serv := f d.serv }
def rebooting (k : Nat) (up restarted : Bool) : Device :=
  let d := withServ (fun x => { x with activating := some (activating_ k restarted) }) idle_
  { d with rk := { d.rk with mgmtUp := up, restartCause := 1 }, link := { d.link with secUp := up, secRestartEnd := secRestartTime } }
def updating (loading old waitFrom : Option Nat) : Device :=
  withServ (fun x => { x with update := some ⟨ctx_ 0xC03 0 [4], 0, [0, 2], loading, old, [], waitFrom⟩ }) unitary
def worked (op : Nat) (block : Bytes) (d : Device) : Device := { d with rk := { d.rk with works := [⟨op, { ctx_ op 0 [] with block := block }, 0, none⟩] } }
def stageBlock (k sec : Nat) : Bytes := ([1, 0, BitVec.ofNat 8 k, 0, 0, 0, 0, 9] : Bytes) ++ wrLE 2 sec ++ zeros 6 ++ wrLE 8 8 ++
  beBytes 48 0x9b110bbc741bb66ac09ed8e066e348990c5dbdb7406a2bdf8d77167364820e06b5c78b53f82015a7887786628374e6ae ++ zeros 56 ++ [1, 2, 3, 4, 5, 6, 7, 8] ++ zeros 96
def trial : TestRun := ⟨4, 1, 0, 0, 5, 0, 0, [], 0, 0⟩
def trying : Device := withServ (fun x => { x with testing := some trial }) (worked 0xC04 [] (unitary.setUnit 5 3 0))

/-- Witness of ServiceTakesEffect: returns, drains and removals of rods, engines, decoders and lanes. -/
theorem test_unit_service_runs :
    runs unitServiceSet (entry 0xC01 5 [0]) unitary = true ∧ runs unitServiceSet (entry 0xC01 1 [1]) unitary = true ∧ runs unitServiceSet (entry 0xC01 7 [1]) unitary = true ∧
    runs unitServiceSet (entry 0xC01 0x11B [1]) unitary = true ∧ runs unitServiceSet (entry 0xC01 0x176 [1]) unitary = true ∧
    runs unitServiceSet (entry 0xC01 0x302 [1]) unitary = true ∧ runs unitServiceSet (entry 0xC01 0x41F [2]) unitary = true ∧
    runs unitServiceSet (entry 0xC01 1 [2, 1]) unitary = true ∧ runs unitServiceSet (entry 0xC01 0x17B [2]) unitary = true ∧
    unitServiceSet.check (ctx_ 0xC01 1 [2]) unitary = some (stBadState, 0x0C02) ∧ unitServiceSet.check (ctx_ 0xC01 0x500 [1]) unitary = some (stBadParam, 0x0C04) ∧
    unitary.channelsOn 1 = [1] ∧ unitary.channelsOn 7 = [] ∧ unitary.unitState 0x300 = 4 := by decide

/-- Witness of ServiceTakesEffect: the other commands. -/
theorem test_service_commands_run :
    runs fwImageStage (blockEntry 0xC02 0 232) (withBlock 0x1000 (stageBlock 4 1) unitary) = true ∧ runs fwActivate (entry 0xC03 0 [2]) unitary = true ∧
    runs fwActivate (entry 0xC03 0 [4, 1]) unitary = true ∧ runs fwActivate (entry 0xC03 0 [1]) unitary = true ∧ runs selftestRun (entry 0xC04 5 [1]) unitary = true ∧
    runs selftestResultGet (entry 0xC05 0 (wrLE 8 0x400)) (withServ (fun x => { x with lastRuns := [trial] }) unitary) = true ∧
    runs unitStatusGet (entry 0xC06 5 (wrLE 8 0x400)) unitary = true ∧
    runs diagExport (blockEntry 0xC07 0 64) (withBlock 0x1000 (wrLE 8 0x2000 ++ wrLE 8 100) unitary) = true := by decide

/-- Witness of ServiceTakesEffect: the happenings' conditions. -/
theorem test_service_happenings :
    (rebooting 2 true false).restartAsked 2 = some (activating_ 2 false) ∧ (rebooting 2 true false).allDecided = true ∧
    (rebooting 3 true false).restartAsked 3 = some (activating_ 3 false) ∧
    (activating_ 2 true).failed ((rebooting 2 false true).at_ (2 * second)).now 0 (2 * second) false = true ∧
    (activating_ 3 true).failed ((rebooting 3 false true).at_ (2 * second)).now 0 secRestartTime true = true ∧
    ((updating none none (some 0)).at_ (10 * second)).serv.update.isSome = true ∧ 10 * second ≤ ((updating none none (some 0)).at_ (10 * second)).now ∧
    ({ updating none none (some 0) with code := base.code }).spareRods = [] ∧
    (takeWork (fun w => w.op == 0x0C02) (worked 0xC02 (stageBlock 4 1) unitary).rk.works).isSome = true ∧
    stageRefusal true { ctx_ 0xC02 0 [] with block := stageBlock 4 1 } unitary = none ∧ stageRefusal false { ctx_ 0xC02 0 [] with block := stageBlock 4 1 } unitary = some 0x0C05 ∧
    stageRefusal true { ctx_ 0xC02 0 [] with block := stageBlock 7 0 } { unitary with modes := { unitary.modes with mode := mMaintain } } = none ∧
    trying.unitState 5 = 3 ∧ (takeWork (fun w => w.op == 0x0C04) trying.rk.works).isSome = true ∧ (worked 0xC07 [] unitary).rescue = false ∧
    (takeWork (fun w => w.op == 0x0C07) (worked 0xC07 [] unitary).rk.works).isSome = true := by decide

/-- Table 17.6: the spare loads the image, the serving rod's channels hand over to it, and the rod becomes a spare. -/
theorem test_rod_update :
    let d := rodUpdateStepDone 2 (updating (some 2) none none)
    (Tab.read d.serv.rodImage 2 0, d.serv.update.map (fun u => (u.left, u.old))) = (0, some ([0], some 0)) ∧
    (rodUpdateStepDone 0 d).serv.update = none := by decide

/-- R480, R477: a removal with FORCE marks a rod faulted; a return waits for UNIT_RETURN_DONE. -/
theorem test_unit_states :
    (unitary.takeOut 1).unitState 1 = 2 ∧ (unitary.setUnit 5 4 0).unitState 5 = 4 ∧ (unitReturnDone 5 (unitary.setUnit 5 4 0)).unitState 5 = 0 ∧
    (unitary.endDrain ⟨0x11B, none, []⟩).unitState 1 = 2 := by decide

/-! ### Faults, supplies, power loss and power-up (01, 13, 16 to 18) -/

/-- The auxiliary input alone, above its limit in floor-only operation, after `n` shed steps. -/
def shedding (n : Nat) : Device :=
  { chans with
    phys := { chans.phys with edge12 := 2, aux12 := 0, shed := n }
    modes := { chans.modes with floorOnly := true, auxMa := 13000, auxPresent := true } }

/-- A power-up that has reached a stage. -/
def powering (stage : Nat) : Device := { Device.reset with link := { LinkState.reset with bootStage := stage } }

/-- Witness of FaultsSuppliesAndPowerUpTakeEffect: HOLD may be entered, and channels that ran are DEFINED; the other clauses' conditions. -/
theorem test_fault_conditions :
    chans.canHold = true ∧ chans.rk.staged = [] ∧ (chans.enterHold 3).modes.mode = mHold ∧ ((chans.enterHold 3).chan 1).state = .defined ∧
    natBit (chans.rod 1).pe 3 = true ∧ isEngine 0x11B = true ∧ chans.rk.mgmtUp = true ∧ chans.link.secUp = true ∧
    (chans.modes.thermal 2).duty = some 105 ∧ (chans.modes.thermal 5).trip = some 85 ∧ chans.onAir = true ∧
    (shedding 1).stillOver = true ∧ 10 * msec ≤ ((shedding 1).at_ (10 * msec)).now ∧ 100 * msec ≤ ((shedding 3).at_ (100 * msec)).now ∧
    (powering 4).modes.mode = mOff ∧ nextStage 4 = 5 ∧ nextStage 8 = 0xFF ∧ (powering 4).canHold = true := by decide

/-- R22: 64 replays in a millisecond raise nothing, and the next raises E008 once. -/
theorem test_bridge_replays :
    let d := Nat.repeat (dieBridge 8) 8 chans
    (Tab.read d.events.tally 8 0, Tab.read (dieBridge 8 (dieBridge 1 d)).events.tally 8 0, (dieBridge 1 d).serv.bridgeReplays) = (0, 1, 65) := by decide

/-- Table 16.8: the coding die is throttled from 100 °C until it lies below 97 °C, and the trip at 115 °C holds the module. -/
theorem test_throttle :
    let at_ (v : Int) (d : Device) : Device := thermalSample [20 * 256, v * 256, 60 * 256, 60 * 256, 50 * 256] d
    ((at_ 100 chans).modes.throttleCoding, (at_ 98 (at_ 100 chans)).modes.throttleCoding, (at_ 96 (at_ 100 chans)).modes.throttleCoding) = (1, 1, 0) ∧
    (at_ 115 chans).modes.mode = mHold ∧ (at_ 115 chans).modes.holdCause = 2 ∧ ((at_ 100 chans).rod 1).clockMhz = 1440 := by decide

/-- R467: 12.6 A on the auxiliary input starts the governor, and full duty ends it. -/
theorem test_governor :
    let d := governorTick 60000 151200 5000 12600 900 chans
    (d.modes.governor, d.modes.duty, (governorTick 60000 140000 5000 11700 1000 d).modes.governor) = (true, 900, false) := by decide

/-- R504: a power loss, and the power-up that follows. -/
theorem test_power_cycle :
    let d := powerLoss 0 false chans
    (d.modes.mode, d.code.channels, (powerUpStage 1 0 0 [] d).link.bootStage, (powerUpStage 3 0 0 [] d).link.bootStage) = (mOff, [], 1, 0) ∧
    (powerUpStage 0xFF 0 0 [] (powering 8)).modes.mode = mArmed ∧ (powerUpStage 6 5 2 [] (powering 5)).link.bootError = 5 ∧
    ((powerUpStage 6 5 2 [] (powering 5)).dram.group 1).service = 2 ∧ (powerUpStage 2 2 0 [] (powering 1)).modes.mode = mRescue := by decide

end Sys2Proof.Tests
end

/-!
PROOF. Host accesses of the HDM window and of BAR0 (10 R298, R301, R302; 00 R13, R16; 11 R317). A window write is cut at the quarters: what one quarter stores
and clears is said once, carried over any list of quarters, and the four of the window give the whole write.
-/
namespace Sys2Proof.Proofs

open Sys2Proof Sys2Proof.Machine Sys2Proof.Laws

/-! ### Tables, memories and poison after a change -/

/-- A part of a record that a change keeps is kept in every record of the table. -/
theorem read_upd_keeps {α β : Type} {f : α → α} {part : α → β} (keeps : ∀ x, part (f x) = part x) (k j : Nat) (z : α) (t : Tab α) :
    part (Tab.read (Tab.upd t k z f) j z) = part (Tab.read t j z) := by
  by_cases same : j = k
  · rw [same, Tab.upd, read_put_same, keeps]
  · rw [Tab.upd, read_put_other same]

theorem memRead_memStore (m : Mem) (lo a : Nat) (b : Bytes) :
    memRead (memStore m lo b) a = if lo ≤ a ∧ a < lo + b.length then b.getD (a - lo) 0 else memRead m a := by
  split
  · next h =>
    obtain ⟨i, rfl⟩ := Nat.exists_eq_add_of_le h.1
    have hi : i < b.length := by omega
    simp [memRead_memStore_at hi, hi]
  · next h => exact memRead_memStore_other (by omega) m

theorem mem_clearPoison {off n k : Nat} {p : List Nat} :
    k ∈ clearPoison off n p ↔ k ∈ p ∧ ¬(off ≤ 64 * k ∧ 64 * k + 64 ≤ off + n) := by
  simp only [clearPoison, List.mem_filter, Bool.not_eq_true', ← Bool.not_eq_true, Bool.and_eq_true, decide_eq_true_eq]

theorem clearPoison_zero (off : Nat) (p : List Nat) : clearPoison off 0 p = p :=
  List.filter_eq_self.mpr fun k _ => by simp only [Bool.not_eq_true', Bool.and_eq_false_iff, decide_eq_false_iff_not]; omega

/-! ### The window is read -/

theorem exec_hdmWindowRead_beyond {off n : Nat} (h : 2 ^ 34 < off + n) (t : Nat) (s : State) :
    exec (.hdmWindowRead t off n) s = .fault (.outsideWindow off) := if_pos h

theorem exec_hdmWindowRead_within {off n : Nat} (h : off + n ≤ 2 ^ 34) (t : Nat) (s : State) :
    exec (.hdmWindowRead t off n) s = .next { s with dev := windowRead off n (s.dev.at_ t) } := if_neg (Nat.not_lt.mpr h)

section Read
variable {d : Device} {off n : Nat} (up : d.link.up = true)
include up

theorem windowRead_good (range : d.rangeUp off n = true) (clean : d.poisoned off n = false) :
    windowRead off n d = d.replyData (memBytes d.mem.hdm off n) := by
  simp [windowRead, up, range, clean]

theorem windowRead_poisoned_reply (range : d.rangeUp off n = true) (bad : d.poisoned off n = true) :
    (windowRead off n d).link.reply = ⟨[], true, false⟩ := by
  simp [windowRead, up, range, bad]

theorem windowRead_retired (range : d.rangeUp off n = false) :
    windowRead off n d = { d with link := { d.link with reply := ⟨[], !d.link.bar4, d.link.bar4⟩ } } := by
  simp [windowRead, up, range]

end Read

/-! ### One quarter of a window write -/

theorem quarterPart_fst (q off : Nat) (b : Bytes) : (quarterPart q off b).1 = max off (q * 2 ^ 32) := rfl

theorem quarterPart_snd (q off : Nat) (b : Bytes) :
    (quarterPart q off b).2 =
      (b.drop (max off (q * 2 ^ 32) - off)).take (min (off + b.length) ((q + 1) * 2 ^ 32) - max off (q * 2 ^ 32)) := rfl

theorem quarterPart_length (q off : Nat) (b : Bytes) :
    (quarterPart q off b).2.length = min (off + b.length) ((q + 1) * 2 ^ 32) - max off (q * 2 ^ 32) := by
  rw [quarterPart_snd, List.length_take, List.length_drop]
  omega

/-- The part of a write in quarter `q` holds the addresses of the write that lie in `q`. -/
theorem quarterPart_range {q off a : Nat} {b : Bytes} :
    (quarterPart q off b).1 ≤ a ∧ a < (quarterPart q off b).1 + (quarterPart q off b).2.length ↔
      off ≤ a ∧ a < off + b.length ∧ a / 2 ^ 32 = q := by
  rw [quarterPart_length, quarterPart_fst]
  omega

/-- A quarter is a whole number of bursts, so its part covers the bursts that the write covers and that lie in it. -/
theorem quarterPart_covers {q off k : Nat} {b : Bytes} :
    (quarterPart q off b).1 ≤ 64 * k ∧ 64 * k + 64 ≤ (quarterPart q off b).1 + (quarterPart q off b).2.length ↔
      (off ≤ 64 * k ∧ 64 * k + 64 ≤ off + b.length) ∧ 64 * k / 2 ^ 32 = q := by
  rw [quarterPart_length, quarterPart_fst]
  omega

/-- The part holds at each of its addresses the byte that the write holds there. -/
theorem quarterPart_getD {q off a : Nat} {b : Bytes} (lo : (quarterPart q off b).1 ≤ a)
    (hi : a < (quarterPart q off b).1 + (quarterPart q off b).2.length) :
    (quarterPart q off b).2.getD (a - (quarterPart q off b).1) 0 = b.getD (a - off) 0 := by
  rw [quarterPart_length] at hi
  rw [quarterPart_fst] at lo hi
  rw [quarterPart_fst, quarterPart_snd, List.getD_eq_getElem?_getD, List.getElem?_take_of_lt (by omega), List.getElem?_drop,
    show max off (q * 2 ^ 32) - off + (a - max off (q * 2 ^ 32)) = a - off by omega, List.getD_eq_getElem?_getD]

theorem writeQuarter_mem_up {q : Nat} {d : Device} (up : d.groupUp q = true) (off : Nat) (b : Bytes) :
    (writeQuarter q off b d).mem =
      { d.mem with
        hdm := memStore d.mem.hdm (quarterPart q off b).1 (quarterPart q off b).2
        poison := clearPoison (quarterPart q off b).1 (quarterPart q off b).2.length d.mem.poison } := by
  simp only [writeQuarter, up, if_true]
  split
  · next empty => simp [List.isEmpty_iff.mp empty, memStore, clearPoison_zero]
  · rfl

theorem writeQuarter_mem_down {q : Nat} {d : Device} (down : ¬d.groupUp q = true) (off : Nat) (b : Bytes) :
    (writeQuarter q off b d).mem = d.mem := by
  simp only [writeQuarter, down]
  split <;> rfl

theorem writeQuarter_rk (q off : Nat) (b : Bytes) (d : Device) : (writeQuarter q off b d).rk = d.rk := by
  simp only [writeQuarter]
  split
  · rfl
  · split <;> rfl

theorem writeQuarter_code (q off : Nat) (b : Bytes) (d : Device) : (writeQuarter q off b d).code = d.code := by
  simp only [writeQuarter]
  split
  · rfl
  · split <;> rfl

theorem writeQuarter_host (q off : Nat) (b : Bytes) (d : Device) : (writeQuarter q off b d).mem.host = d.mem.host := by
  by_cases up : d.groupUp q = true
  · rw [writeQuarter_mem_up up]
  · rw [writeQuarter_mem_down up]

theorem writeQuarter_cmdsram (q off : Nat) (b : Bytes) (d : Device) : (writeQuarter q off b d).mem.cmdsram = d.mem.cmdsram := by
  by_cases up : d.groupUp q = true
  · rw [writeQuarter_mem_up up]
  · rw [writeQuarter_mem_down up]

/-- Counting a discarded write leaves every quarter's service as it was. -/
theorem writeQuarter_groupUp (g q off : Nat) (b : Bytes) (d : Device) : (writeQuarter q off b d).groupUp g = d.groupUp g := by
  simp only [writeQuarter]
  split
  · rfl
  · split
    · rfl
    · refine congrArg (fun service => g < 4 && decide (service < 2)) ?_
      exact read_upd_keeps (f := fun x => { x with discarded := satAdd max64 x.discarded 1 }) (part := Group.service)
        (fun _ => rfl) q g Group.reset d.dram.groups

theorem memRead_writeQuarter (q off a : Nat) (b : Bytes) (d : Device) :
    memRead (writeQuarter q off b d).mem.hdm a =
      if (off ≤ a ∧ a < off + b.length ∧ a / 2 ^ 32 = q) ∧ d.groupUp q = true then b.getD (a - off) 0 else memRead d.mem.hdm a := by
  by_cases up : d.groupUp q = true
  · simp only [writeQuarter_mem_up up, up, memRead_memStore, and_true, ← quarterPart_range]
    exact ite_congr rfl (fun h => quarterPart_getD h.1 h.2) fun _ => rfl
  · simp [writeQuarter_mem_down up, up]

theorem mem_poison_writeQuarter {q off k : Nat} {b : Bytes} {d : Device} :
    k ∈ (writeQuarter q off b d).mem.poison ↔
      k ∈ d.mem.poison ∧ ¬(((off ≤ 64 * k ∧ 64 * k + 64 ≤ off + b.length) ∧ 64 * k / 2 ^ 32 = q) ∧ d.groupUp q = true) := by
  by_cases up : d.groupUp q = true
  · simp only [writeQuarter_mem_up up, up, mem_clearPoison, quarterPart_covers, and_true]
  · simp [writeQuarter_mem_down up, up]

/-! ### The write over a list of quarters, and over the window -/

/-- The parts of a write in the listed quarters, one after the other. -/
def writeQuarters (off : Nat) (b : Bytes) (qs : List Nat) (d : Device) : Device := qs.foldl (fun d q => writeQuarter q off b d) d

theorem windowWrite_up {d : Device} (up : d.link.up = true) (off : Nat) (b : Bytes) :
    windowWrite off b d = writeQuarters off b (List.range 4) d := if_pos up

@[simp] theorem writeQuarters_nil (off : Nat) (b : Bytes) (d : Device) : writeQuarters off b [] d = d := rfl

@[simp] theorem writeQuarters_cons (off : Nat) (b : Bytes) (q : Nat) (qs : List Nat) (d : Device) :
    writeQuarters off b (q :: qs) d = writeQuarters off b qs (writeQuarter q off b d) := rfl

/-- What the write of one quarter keeps, the write of several keeps. -/
theorem writeQuarters_keeps {α : Type} {off : Nat} {b : Bytes} {f : Device → α} (one : ∀ q d, f (writeQuarter q off b d) = f d)
    (qs : List Nat) (d : Device) : f (writeQuarters off b qs d) = f d := by
  induction qs generalizing d with
  | nil => rfl
  | cons q qs ih => rw [writeQuarters_cons, ih, one]

theorem memRead_writeQuarters (off a : Nat) (b : Bytes) (qs : List Nat) (d : Device) :
    memRead (writeQuarters off b qs d).mem.hdm a =
      if (off ≤ a ∧ a < off + b.length ∧ a / 2 ^ 32 ∈ qs) ∧ d.groupUp (a / 2 ^ 32) = true then b.getD (a - off) 0
      else memRead d.mem.hdm a := by
  induction qs generalizing d with
  | nil => simp
  | cons q qs ih =>
    rw [writeQuarters_cons, ih, writeQuarter_groupUp, memRead_writeQuarter]
    by_cases here : a / 2 ^ 32 = q
    · subst here
      simp only [List.mem_cons, true_or, and_true]
      split
      · next hit => rw [if_pos ⟨⟨hit.1.1, hit.1.2.1⟩, hit.2⟩]
      · rfl
    · simp only [here, List.mem_cons, false_or, false_and, and_false, if_false]

theorem mem_poison_writeQuarters {off k : Nat} {b : Bytes} {qs : List Nat} {d : Device} :
    k ∈ (writeQuarters off b qs d).mem.poison ↔
      k ∈ d.mem.poison ∧ ¬((off ≤ 64 * k ∧ 64 * k + 64 ≤ off + b.length) ∧ 64 * k / 2 ^ 32 ∈ qs ∧ d.groupUp (64 * k / 2 ^ 32) = true) := by
  induction qs generalizing d with
  | nil => simp
  | cons q qs ih =>
    rw [writeQuarters_cons, ih, writeQuarter_groupUp, mem_poison_writeQuarter]
    by_cases here : 64 * k / 2 ^ 32 = q
    · subst here
      simp only [List.mem_cons, true_or, true_and, and_true]
      exact ⟨fun h => h.1, fun h => ⟨h, fun ⟨whole, _, up⟩ => h.2 ⟨whole, up⟩⟩⟩
    · simp only [here, List.mem_cons, false_or, false_and, and_false, not_false_eq_true, and_true]

/-- A quarter in service is one of the window's four. -/
theorem lt_four_of_groupUp {d : Device} {g : Nat} (h : d.groupUp g = true) : g < 4 := by
  simp only [Device.groupUp, Bool.and_eq_true, decide_eq_true_eq] at h
  exact h.1

theorem exec_hdmWindowWrite_beyond {off : Nat} {b : Bytes} (h : 2 ^ 34 < off + b.length) (t : Nat) (s : State) :
    exec (.hdmWindowWrite t off b) s = .fault (.outsideWindow off) := if_pos h

theorem exec_hdmWindowWrite_within {off : Nat} {b : Bytes} (h : off + b.length ≤ 2 ^ 34) (t : Nat) (s : State) :
    exec (.hdmWindowWrite t off b) s = .next { s with dev := windowWrite off b (s.dev.at_ t) } := if_neg (Nat.not_lt.mpr h)

section Write
variable {d : Device} (up : d.link.up = true) (off : Nat) (b : Bytes)
include up

theorem memRead_windowWrite (a : Nat) :
    memRead (windowWrite off b d).mem.hdm a =
      if off ≤ a ∧ a < off + b.length ∧ d.groupUp (a / 2 ^ 32) = true then b.getD (a - off) 0 else memRead d.mem.hdm a := by
  rw [windowWrite_up up, memRead_writeQuarters]
  refine ite_congr (propext ⟨?_, ?_⟩) (fun _ => rfl) fun _ => rfl
  · exact fun ⟨⟨lo, hi, _⟩, held⟩ => ⟨lo, hi, held⟩
  · exact fun ⟨lo, hi, held⟩ => ⟨⟨lo, hi, List.mem_range.mpr (lt_four_of_groupUp held)⟩, held⟩

theorem mem_poison_windowWrite (k : Nat) :
    k ∈ (windowWrite off b d).mem.poison ↔
      k ∈ d.mem.poison ∧ ¬(off ≤ 64 * k ∧ 64 * k + 64 ≤ off + b.length ∧ d.groupUp (64 * k / 2 ^ 32) = true) := by
  rw [windowWrite_up up, mem_poison_writeQuarters, List.mem_range]
  refine and_congr_right fun _ => not_congr ⟨?_, ?_⟩
  · exact fun ⟨⟨lo, hi⟩, _, held⟩ => ⟨lo, hi, held⟩
  · exact fun ⟨lo, hi, held⟩ => ⟨⟨lo, hi⟩, lt_four_of_groupUp held, held⟩

/-- What the write of one quarter keeps, a window write keeps. -/
theorem windowWrite_keeps {α : Type} {f : Device → α} (one : ∀ q d, f (writeQuarter q off b d) = f d) :
    f (windowWrite off b d) = f d := by
  rw [windowWrite_up up, writeQuarters_keeps one]

end Write

/-! ### Registers are written -/

theorem exec_registerWrite (t off : Nat) (v : BitVec 64) (wide : Bool) (s : State) :
    exec (.registerWrite t off v wide) s = .next { s with dev := barWrite off v.toNat wide (s.dev.at_ t) } := rfl

theorem exec_bar0BadAccess (t off : Nat) (s : State) :
    exec (.bar0BadAccess t off) s = .next { s with dev := ((s.dev.at_ t).badAccess off).replyData (wrLE 8 0) } := rfl

theorem exec_ringCfgWrite (t : Nat) (r : Fin 4) (v : BitVec 64) (s : State) :
    exec (.ringCfgWrite t r v) s = .next { s with dev := ringCfgWrite r v.toNat (s.dev.at_ t) } := rfl

theorem exec_cmdRingDoorbell (t : Nat) (r : Fin 4) (tail : BitVec 32) (s : State) :
    exec (.cmdRingDoorbell t r tail) s = .next { s with dev := ringDoorbell r tail.toNat (s.dev.at_ t) } := rfl

theorem exec_cqConfigWrite (t : Nat) (cfg : Bool) (v : BitVec 64) (s : State) :
    exec (.cqConfigWrite t cfg v) s = .next { s with dev := cqConfigWrite cfg v.toNat (s.dev.at_ t) } := rfl

theorem exec_cqReadWrite (t : Nat) (v : BitVec 32) (s : State) :
    exec (.cqReadWrite t v) s = .next { s with dev := cqReadWrite v.toNat (s.dev.at_ t) } := rfl

theorem exec_eventPendingClear (t : Nat) (summary : Bool) (i : Fin 512) (v : BitVec 64) (s : State) :
    exec (.eventPendingClear t summary i v) s =
      .next { s with dev := { s.dev.at_ t with events := eventClear summary i v.toNat (s.dev.at_ t).events } } := rfl

section Wide
variable {off : Nat} (v : Nat) (d : Device)

theorem barWrite_misaligned (h : off % 8 ≠ 0 ∨ off % 4 ≠ 0) : barWrite off v true d = d.badAccess off := by
  have odd : off % 8 ≠ 0 := by omega
  simp [barWrite, odd]

variable (aligned : off % 8 = 0)
include aligned

theorem eq_and_mod_four_of_aligned : off / 8 * 8 = off ∧ off % 4 = 0 := by omega

/-- IDENT is read-only (R13). -/
theorem barWrite_ident (h : off < 0x1000) : barWrite off v true d = d := by
  obtain ⟨same, four⟩ := eq_and_mod_four_of_aligned aligned
  have below (lo : Nat) (h : 0x1000 ≤ lo) : ¬lo ≤ off := by omega
  simp [barWrite, within, aligned, same, four, below]

theorem barWrite_doorbell (lo : 0x1000 ≤ off) (hi : off ≤ 0x1FFF) :
    barWrite off v true d = doorbellWrite (off - 0x1000) v true v d := by
  obtain ⟨same, four⟩ := eq_and_mod_four_of_aligned aligned
  simp [barWrite, within, placedBits, mergedBits, aligned, same, four, lo, hi]

theorem barWrite_pending (lo : 0x10000 ≤ off) (hi : off ≤ 0x11FFF) (even : off % 16 = 0) :
    barWrite off v true d = { d with events := eventClear false ((off - 0x10000) / 16) v d.events } := by
  obtain ⟨same, four⟩ := eq_and_mod_four_of_aligned aligned
  simp [barWrite, within, placedBits, aligned, same, four, lo, hi, even, show ¬off ≤ 0x1FFF by omega, show ¬off ≤ 0xFFFF by omega]

theorem barWrite_cmdsram (lo : 0x100000 ≤ off) (hi : off ≤ 0x1FFFFF) :
    barWrite off v true d = { d with mem := d.mem.writeCmd (off - 0x100000) 8 v } := by
  obtain ⟨same, four⟩ := eq_and_mod_four_of_aligned aligned
  have past (top : Nat) (h : top < 0x100000) : ¬off ≤ top := by omega
  simp [barWrite, within, aligned, same, four, lo, hi, past]

end Wide

section Doorbell
variable {r : Nat} (hr : r < 4) (v base : Nat) (d : Device)

include hr in
theorem doorbellWrite_ringCfg : doorbellWrite (128 * r) v true base d = ringCfgWrite r v d := by
  have inRings : 128 * r < 0x200 := by omega
  simp [doorbellWrite, inRings]

include hr in
theorem doorbellWrite_ringTail : doorbellWrite (128 * r + 8) v true base d = ringDoorbell r (v % 2 ^ 32) d := by
  have inRings : 128 * r + 8 < 0x200 := by omega
  have place : (128 * r + 8) % 128 = 8 := by omega
  have index : (128 * r + 8) / 128 = r := by omega
  simp [doorbellWrite, inRings, place, index]

theorem doorbellWrite_cqBase : doorbellWrite 0x200 v true base d = cqConfigWrite false base d := by simp [doorbellWrite]

theorem doorbellWrite_cqCfg : doorbellWrite 0x208 v true base d = cqConfigWrite true v d := by simp [doorbellWrite]

theorem doorbellWrite_cqRead : doorbellWrite 0x218 v true base d = cqReadWrite (v % 2 ^ 32) d := by simp [doorbellWrite]

end Doorbell

/-! ### Each register with a row of its own is that row -/

theorem registerWrite_ringCfg (t : Nat) (r : Fin 4) (v : BitVec 64) (s : State) :
    exec (.registerWrite t (0x1000 + 128 * r.val) v true) s = exec (.ringCfgWrite t r v) s := by
  rw [exec_registerWrite, exec_ringCfgWrite, barWrite_doorbell _ _ (by omega) (by omega) (by omega), Nat.add_sub_cancel_left,
    doorbellWrite_ringCfg r.isLt]

theorem registerWrite_ringTail (t : Nat) (r : Fin 4) (v : BitVec 64) (s : State) :
    exec (.registerWrite t (0x1008 + 128 * r.val) v true) s = exec (.cmdRingDoorbell t r (v.setWidth 32)) s := by
  have place : 0x1008 + 128 * r.val - 0x1000 = 128 * r.val + 8 := by omega
  rw [exec_registerWrite, exec_cmdRingDoorbell, barWrite_doorbell _ _ (by omega) (by omega) (by omega), place,
    doorbellWrite_ringTail r.isLt, BitVec.toNat_setWidth]

theorem registerWrite_cqBase (t : Nat) (v : BitVec 64) (s : State) :
    exec (.registerWrite t 0x1200 v true) s = exec (.cqConfigWrite t false v) s := by
  rw [exec_registerWrite, exec_cqConfigWrite, barWrite_doorbell _ _ (by decide) (by decide) (by decide), doorbellWrite_cqBase]

theorem registerWrite_cqCfg (t : Nat) (v : BitVec 64) (s : State) :
    exec (.registerWrite t 0x1208 v true) s = exec (.cqConfigWrite t true v) s := by
  rw [exec_registerWrite, exec_cqConfigWrite, barWrite_doorbell _ _ (by decide) (by decide) (by decide), doorbellWrite_cqCfg]

theorem registerWrite_cqRead (t : Nat) (v : BitVec 64) (s : State) :
    exec (.registerWrite t 0x1218 v true) s = exec (.cqReadWrite t (v.setWidth 32)) s := by
  rw [exec_registerWrite, exec_cqReadWrite, barWrite_doorbell _ _ (by decide) (by decide) (by decide), doorbellWrite_cqRead,
    BitVec.toNat_setWidth]

theorem registerWrite_eventPending (t : Nat) (i : Fin 512) (v : BitVec 64) (s : State) :
    exec (.registerWrite t (0x10000 + 16 * i.val) v true) s = exec (.eventPendingClear t false i v) s := by
  rw [exec_registerWrite, exec_eventPendingClear, barWrite_pending _ _ (by omega) (by omega) (by omega) (by omega),
    Nat.add_sub_cancel_left, Nat.mul_div_cancel_left _ (by decide)]

theorem registerWrite_cmdsram (t : Nat) {k : Nat} (h : k < 2 ^ 17) (v : BitVec 64) (s : State) :
    exec (.registerWrite t (0x100000 + 8 * k) v true) s =
      .next { s with dev := { s.dev.at_ t with mem := (s.dev.at_ t).mem.writeCmd (8 * k) 8 v.toNat } } := by
  rw [exec_registerWrite, barWrite_cmdsram _ _ (by omega) (by omega) (by omega), Nat.add_sub_cancel_left]

theorem memBytes_writeCmd (off n v : Nat) (m : MemState) : memBytes (m.writeCmd off n v).cmdsram off n = wrLE n v := by
  have back := memBytes_memStore m.cmdsram off (wrLE n v)
  rwa [wrLE_length] at back

theorem memRead_writeCmd_other {off n a : Nat} (h : a < off ∨ off + n ≤ a) (v : Nat) (m : MemState) :
    memRead (m.writeCmd off n v).cmdsram a = memRead m.cmdsram a :=
  memRead_memStore_other (by simpa using h) m.cmdsram

/-! ### The obligation -/

/-- Settles O41: an access beyond the window has no address, and one within it reads, stores and clears as its quarters allow; a BAR0 write is the row of its
register, a CMDSRAM store, a refused access, or nothing. -/
theorem windowAndRegisterAccesses : Obligations.WindowAndRegisterAccesses := by
  unfold Obligations.WindowAndRegisterAccesses
  intro t s d
  refine ⟨?readBeyond, ?writeBeyond, ?read, ?write, ?misaligned, ?bad, ?cmdsram, ?rings, ?cq, ?pending, ?ident⟩
  case readBeyond => exact fun _ _ h => exec_hdmWindowRead_beyond h t s
  case writeBeyond => exact fun _ _ h => exec_hdmWindowWrite_beyond h t s
  case read =>
    intro off n h up
    rw [exec_hdmWindowRead_within h]
    refine ⟨fun range clean => ?_, fun range bad => ?_, fun range => ?_⟩
    · rw [windowRead_good up range clean]
    · exact ⟨_, rfl, windowRead_poisoned_reply up range bad⟩
    · rw [windowRead_retired up range]
      exact ⟨_, rfl, rfl, rfl⟩
  case write =>
    intro off b h up
    exact ⟨_, exec_hdmWindowWrite_within h t s, memRead_windowWrite up off b, mem_poison_windowWrite up off b,
      windowWrite_keeps up off b (f := (·.mem.host)) fun q d => writeQuarter_host q off b d,
      windowWrite_keeps up off b (f := (·.mem.cmdsram)) fun q d => writeQuarter_cmdsram q off b d,
      windowWrite_keeps up off b (f := (·.rk)) fun q d => writeQuarter_rk q off b d,
      windowWrite_keeps up off b (f := (·.code)) fun q d => writeQuarter_code q off b d⟩
  case misaligned =>
    intro off v h
    rw [exec_registerWrite, barWrite_misaligned _ _ h]
    rfl
  case bad => exact fun off => ⟨_, exec_bar0BadAccess t off s, rfl, rfl, rfl⟩
  case cmdsram =>
    exact fun k v h => ⟨_, registerWrite_cmdsram t h v s, memBytes_writeCmd _ _ _ _, fun _ out => memRead_writeCmd_other out _ _, rfl, rfl, rfl⟩
  case rings => exact fun r v => ⟨registerWrite_ringCfg t r v s, registerWrite_ringTail t r v s⟩
  case cq => exact fun v => ⟨registerWrite_cqBase t v s, registerWrite_cqCfg t v s, registerWrite_cqRead t v s⟩
  case pending => exact fun i v => registerWrite_eventPending t i v s
  case ident =>
    intro off v h aligned
    rw [exec_registerWrite, barWrite_ident _ _ aligned h]

end Sys2Proof.Proofs

/-!
PROOF. Beam and network time (02): the time commands, the happenings of the servo, its domains and its references, captures and triggers, and the bounds of
received seconds and late triggers. Each shared operation gets an equation under the condition that a statement names; the statements cite those.
-/
namespace Sys2Proof.Proofs

open Sys2Proof Sys2Proof.Machine Sys2Proof.Laws

/-! ### Received seconds and late triggers (R39, R61) -/

section Seconds
variable {sec48 : Nat} (low : sec48 < 2 ^ 48) (beam : Nat)
include low

theorem extendSeconds_mod : extendSeconds beam sec48 % 2 ^ 48 = sec48 := by
  simp only [extendSeconds, Bool.and_eq_true, decide_eq_true_eq]
  generalize beam / second = b
  split
  · omega
  · split <;> omega

/-- The 2^47 s to either side of the Beam hold one value with these low bits; where that would be negative, the least one is nearest. -/
theorem extendSeconds_nearest {x : Nat} (same : x % 2 ^ 48 = sec48) :
    ((extendSeconds beam sec48 : Int) - (beam / second : Nat)).natAbs ≤ ((x : Int) - (beam / second : Nat)).natAbs := by
  simp only [extendSeconds, Bool.and_eq_true, decide_eq_true_eq]
  generalize beam / second = b
  split
  · omega
  · split <;> omega

end Seconds

section FirstFiring
variable {now time period : Nat}

theorem firstFiring_ahead (h : now + 2 * usec ≤ time) (periodic : Bool) : firstFiring now time period periodic = time := if_pos h

variable (late : time < now + 2 * usec)
include late

theorem firstFiring_late_oneShot : firstFiring now time period false = now + 2 * usec := if_neg (Nat.not_le.mpr late)

theorem firstFiring_late_periodic :
    firstFiring now time period true = time + ceilDiv (now + 2 * usec - time) period * period := if_neg (Nat.not_le.mpr late)

end FirstFiring

/-- The model's `ceilDiv` is the least number of periods that covers a span. -/
theorem ceilDiv_le_iff {a b k : Nat} (h : 0 < b) : ceilDiv a b ≤ k ↔ a ≤ k * b := by
  rw [ceilDiv, Nat.div_le_iff_le_mul_add_pred h, Nat.mul_comm]
  omega

theorem le_ceilDiv_mul {a b : Nat} (h : 0 < b) : a ≤ ceilDiv a b * b := (ceilDiv_le_iff h).mp (Nat.le_refl _)

theorem firstFiring_ge {now time period : Nat} (h : 0 < period) (periodic : Bool) : now + 2 * usec ≤ firstFiring now time period periodic := by
  by_cases late : time < now + 2 * usec
  · cases periodic with
    | false => exact Nat.le_of_eq (firstFiring_late_oneShot late).symm
    | true =>
      have covered := le_ceilDiv_mul (a := now + 2 * usec - time) h
      rw [firstFiring_late_periodic late]
      omega
  · have ahead := Nat.not_lt.mp late
    rwa [firstFiring_ahead ahead]

theorem firstFiring_least {now time period k : Nat} (h : 0 < period) (late : time < now + 2 * usec)
    (ahead : now + 2 * usec ≤ time + k * period) : firstFiring now time period true ≤ time + k * period := by
  rw [firstFiring_late_periodic late]
  exact Nat.add_le_add_left (Nat.mul_le_mul_right _ ((ceilDiv_le_iff h).mpr (by omega))) _

/-- Settles O8: the value returned lies within half of 2^48 s of the Beam, or is the least of its class; a late trigger waits for the least
number of whole periods that covers the 2 µs. -/
theorem receivedTimesAndLateTriggersKeepTheirBounds : Obligations.ReceivedTimesAndLateTriggersKeepTheirBounds := by
  unfold Obligations.ReceivedTimesAndLateTriggersKeepTheirBounds
  refine ⟨fun beam sec48 low => ⟨extendSeconds_mod low beam, fun x => extendSeconds_nearest low beam⟩, fun now time period periodic pos => ?_⟩
  refine ⟨firstFiring_ge pos periodic, fun ahead => firstFiring_ahead ahead periodic, ?oneShot, ?periodic⟩
  case oneShot =>
    rintro late rfl
    exact firstFiring_late_oneShot late
  case periodic =>
    rintro late rfl
    exact ⟨⟨_, firstFiring_late_periodic late⟩, fun k => firstFiring_least pos late⟩

/-! ### Time commands (Tables 2.13 to 2.19) -/

/-- A ring command whose row runs `sp` does what `sp` applies, where that never answers BUSY. -/
theorem commandDoes_of_apply {i : Instr} {sp : CmdSpec} {t : Nat} {ring : Fin 4} {entry : Bytes} {s : State} {eff : Ctx → Device → Device}
    (runs : exec i s = .next { s with dev := runRow sp ring entry (s.dev.at_ t) }) (does : ∀ c d, (sp.apply c d).dev = eff c d)
    (notBusy : ∀ c d, (sp.apply c d).final.map (·.1) ≠ some stBusy) : CommandDoes i sp t ring entry s eff :=
  commandDoes_of i sp t ring entry s eff runs (does _ _) fun a k h busy => notBusy _ _ (by rw [h, busy]; rfl)

/-- A ring command whose row runs `sp` and that always completes with OK does what `sp` applies. -/
theorem commandDoes_of_ok {i : Instr} {sp : CmdSpec} {t : Nat} {ring : Fin 4} {entry : Bytes} {s : State} {eff : Ctx → Device → Device}
    (runs : exec i s = .next { s with dev := runRow sp ring entry (s.dev.at_ t) }) (does : ∀ c d, sp.apply c d = Done.ok (eff c d)) :
    CommandDoes i sp t ring entry s eff :=
  commandDoes_of_apply runs (fun c d => by rw [does]; rfl) fun c d => by rw [does]; exact fun busy => nomatch Option.some.inj busy

theorem timeStep_apply_dev (c : Ctx) (d : Device) :
    (timeStep.apply c d).dev =
      if c.effect = 2 ∧ d.now < c.effectTime then
        { d with time := { d.time with steps := d.time.steps ++ [parseStep c c.effectTime] } }
      else d.applyStep (parseStep c d.now) := by
  by_cases timed : c.effect = 2 <;> by_cases ahead : d.now < c.effectTime <;> simp [timeStep, timed, ahead, Device.setTime]

theorem timeStep_ne_busy (c : Ctx) (d : Device) : (timeStep.apply c d).final.map (·.1) ≠ some stBusy := by
  by_cases timed : c.effect = 2 <;> by_cases ahead : d.now < c.effectTime <;> simp [timeStep, timed, ahead, stOk, stStartedAt, stBusy]

theorem timeTriggerSet_ne_busy (c : Ctx) (d : Device) : (timeTriggerSet.apply c d).final.map (·.1) ≠ some stBusy := by
  by_cases late : triggerLate c d.now <;> simp [timeTriggerSet, late, Done.ok, stOk, stStartedAt, stBusy]

theorem timeTriggerSet_apply_dev (c : Ctx) (d : Device) :
    (timeTriggerSet.apply c d).dev =
      let g : Trigger := ⟨c.p 0 1, c.p 2 2, natBit (c.p 1 1) 1,
        firstFiring d.now (timeOfWord c.entry 32) (c.p 24 8 * 65536) (natBit (c.p 1 1) 1), c.p 24 8 * 65536,
        if c.p 32 8 = 0 then none else some (c.p 32 8)⟩
      { d with time := { d.time with trigs := Tab.put c.handle g d.time.trigs } } := by
  by_cases late : triggerLate c d.now <;> simp [timeTriggerSet, late, Done.ok, Device.setTime]

/-- Holdover's rate after a change of its source (R59), written out. -/
theorem rehold_eq (x : TimeState) :
    x.rehold = if x.servo = .holdover then { x with adj := if x.refio.extHold = true ∧ x.tenOk = true then x.tenRate else x.holdRate } else x := by
  simp only [TimeState.rehold, TimeState.holdAdj, Bool.and_eq_true]

theorem timeRefioSet_apply (c : Ctx) (d : Device) :
    let r := parseRefIo c
    let x := { d.time with
      refioNext := some r
      refio := { d.time.refio with extRefEn := r.extRefEn, extHold := r.extHold, ppsInOffset := r.ppsInOffset } }
    timeRefioSet.apply c d = Done.ok (d.withTime (TimeState.reselect d.anyLive
      (if x.servo = .holdover then { x with adj := if r.extHold = true ∧ x.tenOk = true then x.tenRate else x.holdRate } else x))) := by
  simp only [timeRefioSet, rehold_eq]

/-- Settles O5: each command's specification applies the effect stated for it, and none of them answers BUSY. -/
theorem timeCommandsTakeEffect : Obligations.TimeCommandsTakeEffect := by
  unfold Obligations.TimeCommandsTakeEffect
  intro t ring entry s
  refine ⟨?servo, ?domain, ?source, ?asym, ?step, ?capSet, ?capNow, ?trigSet, ?trigClear, ?refio⟩
  case servo => exact commandDoes_of_ok rfl fun _ _ => rfl
  case domain => exact commandDoes_of_ok rfl fun _ _ => rfl
  case source => exact commandDoes_of_ok rfl fun _ _ => rfl
  case asym => exact commandDoes_of_ok rfl fun _ _ => rfl
  case step => exact commandDoes_of_apply rfl timeStep_apply_dev timeStep_ne_busy
  case capSet => exact commandDoes_of_ok rfl fun _ _ => rfl
  case capNow => exact commandDoes_of_ok rfl fun _ _ => rfl
  case trigSet => exact commandDoes_of_apply rfl timeTriggerSet_apply_dev timeTriggerSet_ne_busy
  case trigClear => exact commandDoes_of_ok rfl fun _ _ => rfl
  case refio => exact commandDoes_of_ok rfl timeRefioSet_apply

/-- A row that answers with a module answers with any other way of writing that module. -/
theorem answers_of_eq {i : Instr} {s : State} {d e : Device} (runs : exec i s = .next { s with dev := d }) (same : d = e) :
    exec i s = .next { s with dev := e } := same ▸ runs

/-! ### Happenings of network time whose condition holds -/

section Happenings
variable (d : Device)

theorem announceReceived_counts {k p cls gm rank : Nat} {i : AnnounceInfo} (enabled : (d.time.dom k).set.enable = true)
    (up : d.ptpRuns p = true) (mine : natBit (d.time.dom k).set.portMask p = true) :
    announceReceived k p cls gm rank i d =
      let m := { d.time.dom k with masters := Tab.put p ⟨d.now, cls, gm, rank, i.logAnnounce⟩ (d.time.dom k).masters }
      let o := d.time.settleDom d.anyLive (cls ≤ m.set.classLimit) k m
      d.withTime (o.1.readMeta k i.tlv, o.2) := by
  simp only [announceReceived, TimeState.announce, enabled, up, mine, Bool.and_self, if_true]
  rfl

theorem ppsIn_due {edge : Nat} (due : edge ≤ d.now) :
    ppsIn edge d =
      let e := d.withTime (d.time.ppsEdge d.anyLive edge)
      let f := e.withTime (e.time.captureAll edge 1 0)
      if f.time.srcValid 2 = true then f.withTime (f.time.servoUpdate f.anyLive 2) else f := by
  simp [ppsIn, Device.due, due]

theorem holdoverHour_of (first : d.time.holdHour = false) (past : 3600 < d.time.holdSec) :
    holdoverHour d = { d with time := { d.time with holdHour := true } }.raise [(273, 0)] := by
  simp [holdoverHour, first, past]

theorem ppsLost_of (present : d.time.ppsOk = true) (late : d.time.ppsLast + second + usec ≤ d.now) :
    ppsLost d = d.withTime (TimeState.thenReselect d.anyLive ({ d.time with ppsOk := false }, [(264, 0)])) := by
  simp [ppsLost, inputLost, present, late]

theorem secondBoundary_of (boundary : d.now % second = 0) :
    secondBoundary d =
      let r := d.time.refioNext.getD d.time.refio
      let follows := d.time.servo != .free || r.freeOut
      let rise := ((if 0 ≤ r.ppsOutOffset then d.now else d.now + second : Int) + r.ppsOutOffset * 65536).toNat
      let x := { d.time with
        refio := r, refioNext := none, ppsOut := r.ppsOutEn && follows, tenOut := r.tenOutEn && follows
        ppsRise := rise, ppsFall := rise + r.ppsWidth * nsec }
      d.withTime (x.captureAll d.now 2 0) := by
  have rise (off : Int) : moved (off * 65536) (if 0 ≤ off then d.time.beam else d.time.beam + second)
      = ((if 0 ≤ off then d.time.beam else d.time.beam + second : Int) + off * 65536).toNat := by
    by_cases nonneg : 0 ≤ off
    · simp only [moved, nonneg, if_true]
    · simp only [moved, nonneg, if_false, Int.natCast_add]
  simp only [secondBoundary, boundary, if_true, TimeState.secondBoundary, TimeState.drive, rise]
  rfl

theorem tenBack_within {ppb : Int} (h : ppb.natAbs ≤ 10000) :
    tenBack ppb d = d.withTime ({ d.time with tenOk := true, tenRate := d.time.adj + ppb }.rehold.reselect d.anyLive) :=
  if_neg (Nat.not_lt.mpr h)

theorem delayReqSend_sends {k p : Nat} (valid : (d.time.dom k).valid = true) (active : (d.time.dom k).active = some p)
    (up : d.ptpRuns p = true) :
    delayReqSend k d =
      let w : Waiting := ⟨7, 0x4007 + 8 * p, (d.time.dom k).set.reqBytes, d.now, k + 1⟩
      { d with
        time := d.time.setDom k { d.time.dom k with lastReq := PtpTime.sent d.now }
        sched := { d.sched with ports := Tab.upd d.sched.ports p PortSched.reset (fun x => { x with waiting := x.waiting ++ [w] }) } } := by
  simp [delayReqSend, valid, active, up]

end Happenings

/-- Settles O6: in each row the condition given selects the branch with the effect stated. -/
theorem timeHappeningsTakeEffect : Obligations.TimeHappeningsTakeEffect := by
  unfold Obligations.TimeHappeningsTakeEffect
  intro t s d
  refine ⟨?announce, ?timeout, ?sync, ?update, ?revert, ?hour, ?ppsEdge, ?ppsLoss, ?tenLoss, ?tenBack, ?copyLoss, ?copyBack, ?second, ?delayReq⟩
  case announce =>
    intro k p cls gm rank i enabled up mine
    exact answers_of_eq rfl (announceReceived_counts d enabled up mine)
  case timeout =>
    intro k p passed
    exact answers_of_eq rfl (if_pos passed)
  case sync =>
    intro k p l s1 u1 t2 t3 s4 u4 up
    exact answers_of_eq rfl (if_pos up)
  case update =>
    intro k full
    exact answers_of_eq rfl (if_pos full)
  case revert =>
    intro due
    exact answers_of_eq rfl (if_pos due)
  case hour =>
    intro first past
    exact answers_of_eq rfl (holdoverHour_of d first past)
  case ppsEdge =>
    intro edge due
    exact answers_of_eq rfl (ppsIn_due d due)
  case ppsLoss =>
    intro present late
    exact answers_of_eq rfl (ppsLost_of d present late)
  case tenLoss =>
    intro present
    exact answers_of_eq rfl (if_pos present)
  case tenBack =>
    intro ppb close
    exact answers_of_eq rfl (tenBack_within d close)
  case copyLoss =>
    intro locked
    exact answers_of_eq rfl (if_pos locked)
  case copyBack => rfl
  case second =>
    intro boundary
    exact answers_of_eq rfl (secondBoundary_of d boundary)
  case delayReq =>
    intro k p valid active up
    exact answers_of_eq rfl (delayReqSend_sends d valid active up)

/-! ### Captures, triggers and timed steps (R60, R61, R65, R68) -/

section Triggers
variable (d : Device)

theorem captureEvent_of {source : Nat} (edge : Nat) (named : source ≠ 0) (notCommand : source ≠ 0xFE) :
    captureEvent source edge d = d.withTime (d.time.captureAll d.now source edge) := by
  simp [captureEvent, named, notCommand]

theorem timeStepApply_of {p : PendingStep} {r : List PendingStep} (due : dueStep d.now d.time.steps = some (p, r)) :
    timeStepApply d = ({ d with time := { d.time with steps := r } } : Device).applyStep p := by
  simp only [timeStepApply, due, Device.setTime]

/-- The trigger table once slot `k` has fired (R61). -/
def afterFiring (k : Nat) (g : Trigger) (trigs : Tab Trigger) : Tab Trigger :=
  match g.after with
  | none => Tab.del k trigs
  | some h => Tab.put k h trigs

theorem triggerFire_of {k : Nat} {g : Trigger} (armed : Tab.find k d.time.trigs = some g) (due : g.next ≤ d.now)
    (first : firesFirst k g d.time.trigs = true) :
    triggerFire k d = (d.setTime { d.time with trigs := afterFiring k g d.time.trigs }).triggerAct k g := by
  simp only [triggerFire, armed, Device.due, due, first, decide_true, Bool.and_self, if_true]
  rfl

end Triggers

theorem find_afterFiring_of_oneShot {g : Trigger} (oneShot : g.periodic = false) (k : Nat) (trigs : Tab Trigger) :
    Tab.find k (afterFiring k g trigs) = none := by
  simp [afterFiring, Trigger.after, oneShot]

@[simp] theorem drive_trigs (x : TimeState) : x.drive.trigs = x.trigs := rfl

@[simp] theorem capture_trigs (at_ u source : Nat) (x : TimeState) : (x.capture at_ u source).1.trigs = x.trigs := by
  by_cases full : (Tab.read x.caps u CaptureUnit.reset).full <;> simp [TimeState.capture, full]

/-- Feeding captures to word queues leaves the time state as it is. -/
@[simp] theorem feedCaptures_time (old : Tab CaptureUnit) (d : Device) : (d.feedCaptures old).time = d.time := by
  unfold Device.feedCaptures
  induction List.range 8 generalizing d with
  | nil => rfl
  | cons u us ih =>
    rw [List.foldl_cons, ih]
    dsimp only
    split
    · exact feed_time _ _ _ d
    · rfl

@[simp] theorem withTime_time (o : TimeOut) (d : Device) : (d.withTime o).time = o.1.drive := by
  simp [Device.withTime]

/-- No action of a trigger changes which triggers are armed. -/
@[simp] theorem triggerAct_trigs (slot : Nat) (g : Trigger) (d : Device) : (d.triggerAct slot g).time.trigs = d.time.trigs := by
  unfold Device.triggerAct
  split
  · rfl
  · split
    · rfl
    · split <;> simp

theorem triggerAct_event {g : Trigger} (event : g.action = 1) (slot : Nat) (d : Device) : d.triggerAct slot g = d.raise [(272, slot)] :=
  if_pos event

theorem triggerAct_release {g : Trigger} (release : g.action = 2) (slot : Nat) (d : Device) :
    d.triggerAct slot g = { d with sched := d.sched.release d.now g.arg } := by
  simp [Device.triggerAct, release]

/-- Settles O7: a trigger's slot is rewritten before its action runs, and no action arms or disarms a slot. -/
theorem capturesAndTriggersTakeEffect : Obligations.CapturesAndTriggersTakeEffect := by
  unfold Obligations.CapturesAndTriggersTakeEffect
  intro t s d
  refine ⟨?capture, ?release, ?trigger, ?step, ?latch⟩
  case capture => exact fun source edge named notCommand => answers_of_eq rfl (captureEvent_of d edge named notCommand)
  case release => exact fun u => rfl
  case trigger =>
    intro k g armed due first
    refine ⟨_, answers_of_eq rfl (triggerFire_of d armed due first), fun oneShot => ?_, fun event => ?_, fun release => ?_⟩
    · rw [triggerAct_trigs]
      exact find_afterFiring_of_oneShot oneShot _ _
    · exact triggerAct_event event _ _
    · rw [triggerAct_release release]
      rfl
  case step =>
    intro p r due
    exact answers_of_eq rfl (timeStepApply_of d due)
  case latch => exact fun n => rfl

end Sys2Proof.Proofs

/-!
PROOF. Statistics slots and the end of a channel (05 R159, R162, R164; 11 R332): a module that refutes the clause of RowHappeningsTakeEffect on full rings.
-/
namespace Sys2Proof.Proofs

open Sys2Proof Sys2Proof.Machine Sys2Proof.Laws

/-! ### A statistics ring that moves as its channel stops -/

/-- The channel's one rendition, 64 × 64: one row of one block. -/
def lastRend : RendRec :=
  { channel := 0, echoOf := 0xFFFF, codec := 1, profile := 1, level := 62, preset := 0, width := 64, height := 64, cropX := 0, cropY := 0,
    cropW := 64, cropH := 64, chroma := 0, depth := 8, ltTest := false, refs := 1, rateKbps := 8000, delay := 2000, refresh := 0, shadow := 0,
    pool := 2, qpMin := 0, qpMax := 51 }

/-- Its last picture: the row has entered, and only the statistics slot is still due. -/
def lastPicture : Picture :=
  { recd := lastRend, delay := 2000, rodA := 0, rodB := 255, maskA := 0x7F, maskB := 0, buA := 0, buB := 255, split := none, refs := [],
    long := [], heads := [], planned := true, kind := 0, refreshPos := 0, intra := true, plan := ⟨30, 160, 200, 180⟩, ceiling := 2000, left := 100,
    allFloor := false, rows := [(0, ⟨500, [], [], some 100, none, true, [], false, [.coded]⟩)], state := 0, hrdBits := 0, lost := false,
    reported := false }

/-- The channel's record: a ring of two slots at 256 MiB. -/
def stoppedRec : ChannelRec :=
  { ChannelRec.none with width := 64, height := 64, rateNum := 50, rateDen := 1, statsSlots := 2, statsOffset := 0x10000000 }

/-- CHANNEL_SET's block for the same record with the ring at 512 MiB (05 Table 5.16). -/
def movedRingBlock : Bytes :=
  wrLE 2 64 ++ wrLE 2 64 ++ wrLE 4 50 ++ wrLE 4 1 ++ wrLE 4 0 ++ wrLE 8 0 ++ [255, 255, 255, 2] ++ wrLE 4 0 ++ wrLE 8 0x20000000 ++ wrLE 24 0

/-- CHANNEL_SET of channel 0, taken from ring 2 while the channel was stopping, and staged for frame 2, which never comes (11 R332). -/
def movedRing : Staged :=
  { op := 0x0101, channel := 0, frame := 2, status := stOk, detail := 0, flat := none
    ctx := ⟨.ring 2 0, wrLE 2 0x0101 ++ wrLE 2 1 ++ wrLE 20 0 ++ wrLE 8 0x1000 ++ wrLE 4 64 ++ wrLE 28 0, movedRingBlock, 0⟩ }

/-- Channel 0 has ticked its last frame, 0, and its statistics ring is full. -/
def stoppingChannel : Channel :=
  { Channel.reset with
    recd := stoppedRec, state := .stopping, next := 1, committed := 1, stop := some 1, rodA := 0, maskA := 0x7F
    stats := { RingAcct.reset with windex := 2 } }

/-- The module one second on. -/
def stoppingModule : Device :=
  { Device.reset with
    time := { TimeState.reset with beam := second }
    rk := { RanrokState.reset with staged := [movedRing] }
    code := { CodingState.reset with
      channels := [(0, stoppingChannel)]
      rends := [(0, { Rendition.ofRec lastRend with live := true, dInForce := 2000, shareA := 1, buA := 0, pics := [(0, lastPicture)] })] } }

/-- The slot alone leaves WRITE_INDEX at 2. It was the channel's last, so in the same happening the channel reaches DEFINED, and what was staged for it
applies: the ring begins again at 0 (05 R162). -/
theorem lastSlot_moves_ring :
    ((statsSlotDue 0 0 0 [] [] [] [] [] (stoppingModule.at_ 0)).finishStops.chan 0).stats.windex = 0 := by decide

/-- Refutes O25: its clause on statistics slots has a full ring keep its WRITE_INDEX over STATS_SLOT_DUE, whatever is staged. The last slot of a STOPPING
channel also ends the channel (05 R159), and a CHANNEL_SET whose frame never comes applies then (11 R332): one that moves the ring sets the index to 0
(05 R162). -/
theorem not_rowHappeningsTakeEffect : ¬ Obligations.RowHappeningsTakeEffect := by
  unfold Obligations.RowHappeningsTakeEffect
  rintro ⟨happenings, -⟩
  obtain ⟨-, -, -, -, stats, -⟩ := happenings 0 ⟨stoppingModule, []⟩
  obtain ⟨dropped, -⟩ := stats 0 0 0 0 [] [] [] [] [] (by decide) (by decide) rfl rfl
  obtain ⟨d', ran, kept, -⟩ := dropped (by decide)
  have after : d' = (statsSlotDue 0 0 0 [] [] [] [] [] (stoppingModule.at_ 0)).finishStops :=
    (congrArg State.dev (Host.Outcome.next.inj ran)).symm
  rw [after] at kept
  have still : ((stoppingModule.at_ 0).chan 0).stats.windex = 2 := rfl
  exact absurd (lastSlot_moves_ring.symm.trans (kept.trans still)) (by decide)

end Sys2Proof.Proofs

/-!
PROOF. Ingest (03): its commands, the ring that a binding is granted, the merge of a pair, and freeze and return. Taking a sequence number leaves a flow that
shows it as taken (`Passed`), and such a flow takes no copy; what a frame's end and the next frame's start do is said per case.
-/
namespace Sys2Proof.Proofs

open Sys2Proof Sys2Proof.Machine Sys2Proof.Laws

/-! ### Ingest commands (Tables 3.9 to 3.14) -/

/-- Settles O10: each command's specification applies the effect stated for it and completes with OK. -/
theorem ingestCommandsTakeEffect : Obligations.IngestCommandsTakeEffect := by
  unfold Obligations.IngestCommandsTakeEffect
  intro t ring entry s
  refine ⟨?flowSet, ?flowClear, ?bind, ?hostring, ?slate, ?status⟩
  case flowSet => exact commandDoes_of_ok rfl fun _ _ => rfl
  case flowClear => exact commandDoes_of_ok rfl fun _ _ => rfl
  case bind => exact commandDoes_of_ok rfl fun _ _ => rfl
  case hostring => exact commandDoes_of_ok rfl fun _ _ => rfl
  case slate => exact commandDoes_of_ok rfl fun _ _ => rfl
  case status => exact commandDoes_of_ok rfl fun _ _ => rfl

/-! ### Bindings (R78, R83) -/

section Bindings
variable (c : Nat) (b : BindRec) (tag : Nat) (d : Device)

/-- The binding that INGEST_BIND gives a channel that is not live. -/
def newBinding : Binding :=
  { d.bnd c with
    recd := some b, ringLines := (d.bindGrant c b).1, ringBytes := (d.bindGrant c b).2.1, charge := (d.bindGrant c b).2.2, ancTold := false }.start

theorem setBind_ingest (idle : (d.chan c).running = false) : (setBind c b tag d).ingest = d.ingest.setBind c (newBinding c b d) := by
  simp only [setBind, idle, Bool.false_eq_true, if_false]
  split <;> split <;> rfl

theorem setBind_code : (setBind c b tag d).code = d.code := by
  simp only [setBind]
  split <;> split <;> rfl

end Bindings

/-- Settles O11: of ingest only the channel's own binding changes, and it is the one granted, as its channel starts. -/
theorem bindingGrantsTheRing : Obligations.BindingGrantsTheRing := by
  unfold Obligations.BindingGrantsTheRing
  intro c b tag d idle
  have ingest := setBind_ingest c b tag d idle
  have bound : (setBind c b tag d).bnd c = newBinding c b d := by
    simp only [Device.bnd, ingest, IngestState.bind, IngestState.setBind, read_put_same]
  refine ⟨by rw [bound]; rfl, by rw [bound]; rfl, by rw [bound]; rfl, fun k other => ?_, by rw [ingest]; rfl, setBind_code c b tag d⟩
  simp only [Device.bnd, ingest, IngestState.bind, IngestState.setBind, read_put_other other]

/-! ### The merge of a pair (R72) -/

/-- Sequence number `seq` is the newest one, `t`, or lies behind it. -/
def NotAhead (t seq : Nat) : Prop := (seq + 65536 - t) % 65536 = 0 ∨ 32768 ≤ (seq + 65536 - t) % 65536

/-- What R72 remembers of a flow shows that `seq` has been taken: it is not ahead of the newest, and no gap. -/
def Passed (seq : Nat) (x : Flow) : Prop := ∃ t, x.top = some t ∧ NotAhead t seq ∧ ∀ h ∈ x.holes, h.1 ≠ seq

theorem mem_holes_of_prune {now : Nat} {x : Flow} {h : Nat × Nat} (mem : h ∈ (x.prune now).holes) : h ∈ x.holes :=
  (List.mem_filter.mp mem).1

section Take
variable {x : Flow} {seq t : Nat} (paired : x.recd.kind ≠ 4) (now : Nat) (legB : Bool)
include paired

theorem take_first (first : x.top = none) :
    x.take now seq legB = ({ x.prune now with top := some seq, seqs := (x.prune now).seqs ++ [(seq, now, legB)] }, true) := by
  simp only [Flow.take, Flow.prune, paired, first, if_false]

variable (newest : x.top = some t)
include newest

theorem take_gap (behind : NotAhead t seq) (gap : (x.prune now).holes.any (fun h => h.1 == seq) = true) :
    x.take now seq legB =
      ({ x.prune now with
        holes := (x.prune now).holes.filter (fun h => h.1 != seq), seqs := (x.prune now).seqs ++ [(seq, now, legB)] }, true) := by
  simp only [Flow.prune] at gap
  simp only [Flow.take, Flow.prune, paired, newest, gap, if_true, if_false]
  exact if_pos (by simpa [NotAhead] using behind)

theorem take_copy (behind : NotAhead t seq) (noGap : (x.prune now).holes.any (fun h => h.1 == seq) = false) :
    x.take now seq legB = ({ x.prune now with duplicates := satAdd max64 x.duplicates 1 }, false) := by
  simp only [Flow.prune] at noGap
  simp only [Flow.take, Flow.prune, paired, newest, noGap, if_false, Bool.false_eq_true]
  exact if_pos (by simpa [NotAhead] using behind)

theorem take_ahead (ahead : ¬NotAhead t seq) :
    x.take now seq legB =
      ({ x.prune now with
        top := some seq, seqs := (x.prune now).seqs ++ [(seq, now, legB)]
        holes := (x.prune now).holes ++ (List.range ((seq + 65536 - t) % 65536 - 1)).map (fun i => ((t + 1 + i) % 65536, now)) }, true) := by
  simp only [Flow.take, Flow.prune, paired, newest, if_false]
  exact if_neg (by simpa [NotAhead] using ahead)

end Take

theorem take_of_passed {x : Flow} {seq : Nat} (paired : x.recd.kind ≠ 4) (passed : Passed seq x) (now : Nat) (legB : Bool) :
    x.take now seq legB = ({ x.prune now with duplicates := satAdd max64 x.duplicates 1 }, false) := by
  obtain ⟨t, newest, behind, noGap⟩ := passed
  refine take_copy paired now legB newest behind ?_
  simp only [List.any_eq_false, beq_iff_eq]
  exact fun h mem => noGap h (mem_holes_of_prune mem)

/-- The numbers passed over on the way to `seq` stop short of it. -/
theorem ne_of_mem_passedOver {t seq now : Nat} {h : Nat × Nat}
    (mem : h ∈ (List.range ((seq + 65536 - t) % 65536 - 1)).map (fun i => ((t + 1 + i) % 65536, now))) : h.1 ≠ seq := by
  obtain ⟨i, inRange, rfl⟩ := List.mem_map.mp mem
  have near := List.mem_range.mp inRange
  dsimp only
  omega

theorem notAhead_self (seq : Nat) : NotAhead seq seq := Or.inl (by omega)

/-- A number that is taken has passed, and the flow's kind and count of duplicates are as before. -/
theorem take_taken {x : Flow} {now seq : Nat} {legB : Bool} (paired : x.recd.kind ≠ 4)
    (gapsBehind : ∀ t, x.top = some t → t < 65536 ∧ ∀ h ∈ x.holes, 32768 ≤ (h.1 + 65536 - t) % 65536)
    (noGaps : x.top = none → x.holes = []) (taken : (x.take now seq legB).2 = true) :
    Passed seq (x.take now seq legB).1 ∧ (x.take now seq legB).1.recd = x.recd ∧ (x.take now seq legB).1.duplicates = x.duplicates := by
  cases newest : x.top with
  | none =>
    rw [take_first paired now legB newest]
    refine ⟨⟨seq, rfl, notAhead_self seq, fun h mem => ?_⟩, rfl, rfl⟩
    exact absurd (noGaps newest ▸ mem_holes_of_prune mem) List.not_mem_nil
  | some t =>
    obtain ⟨-, behindTop⟩ := gapsBehind t newest
    by_cases behind : NotAhead t seq
    · cases gap : (x.prune now).holes.any (fun h => h.1 == seq) with
      | true =>
        rw [take_gap paired now legB newest behind gap]
        exact ⟨⟨t, newest, behind, fun h mem => by simpa using (List.mem_filter.mp mem).2⟩, rfl, rfl⟩
      | false =>
        rw [take_copy paired now legB newest behind gap] at taken
        exact absurd taken Bool.false_ne_true
    · rw [take_ahead paired now legB newest behind]
      refine ⟨⟨seq, rfl, notAhead_self seq, fun h mem => ?_⟩, rfl, rfl⟩
      rcases List.mem_append.mp mem with old | new
      · rintro rfl
        exact behind (Or.inr (behindTop h (mem_holes_of_prune old)))
      · exact ne_of_mem_passedOver new

/-- Settles O13: a number that is taken has passed, and one that has passed is a copy whenever and from whichever leg it comes. -/
theorem copiesOfTakenPacketsAreDuplicates : Obligations.CopiesOfTakenPacketsAreDuplicates := by
  unfold Obligations.CopiesOfTakenPacketsAreDuplicates
  intro x now later seq legB legB' paired _ gapsBehind noGaps taken
  obtain ⟨passed, recd, duplicates⟩ := take_taken paired gapsBehind noGaps taken
  rw [take_of_passed (recd ▸ paired) passed later legB', duplicates]
  exact ⟨rfl, rfl, rfl⟩

/-! ### Missing frames, freeze and return (R81 to R83) -/

section Frames
variable {x : Binding} {f : Nat} {b : BindRec} (governs : x.at_ f = some b) (tick : Nat) (fr : SourceFrame) (compressed any : Bool)

theorem endFrame_missing (live : x.mode = .live) (missing : fr.received = false) :
    (x.endFrame f tick fr compressed).1.mode = .freeze ∧ (x.endFrame f tick fr compressed).1.freezeTick = tick ∧
      (358, 0) ∈ (x.endFrame f tick fr compressed).2.1 := by
  simp [Binding.endFrame, live, missing]

theorem endFrame_received (live : x.mode = .live) (received : fr.received = true) : (x.endFrame f tick fr compressed).1.mode = .live := by
  simp [Binding.endFrame, live, received]

include governs in
theorem endFrame_run (still : x.mode ≠ .live) :
    (x.endFrame f tick fr compressed).1.run =
      if fr.filled = 0 ∧ fr.received = true ∧ ¬(b.holdUntilRap = true ∧ compressed = true ∧ fr.concealed = true) then x.run + 1 else 0 := by
  have complete : (decide (fr.filled = 0) && fr.received && !(b.holdUntilRap && compressed && fr.concealed)) = true ↔
      fr.filled = 0 ∧ fr.received = true ∧ ¬(b.holdUntilRap = true ∧ compressed = true ∧ fr.concealed = true) := by
    simp only [Bool.and_eq_true, Bool.not_eq_true', ← Bool.not_eq_true, decide_eq_true_eq, and_assoc]
  simp only [Binding.endFrame, still, governs, complete, if_false]

theorem begin_switch (switches : x.switches.contains f = true) :
    (x.begin_ f tick any).1.mode = .freeze ∧ (x.begin_ f tick any).1.freezeTick = tick := by
  simp only [Binding.begin_, switches, if_true, and_self]

section Return
variable (still : x.mode ≠ .live) (same : x.switches.contains f = false) (counted : 0 < b.returnFrames)
include governs still same counted

theorem begin_return (enough : b.returnFrames ≤ x.run) :
    x.begin_ f tick any = ({ x with mode := .live, run := 0, slateFrom := none }, [(360, 0)], [6]) := by
  have counts : b.returnFrames ≠ 0 := by omega
  simp only [Binding.begin_, same, still, governs, enough, bne_iff_ne.mpr counts, Bool.false_eq_true, if_false, decide_true, Bool.and_self,
    Bool.or_true, if_true]

theorem begin_stays (short : ¬b.returnFrames ≤ x.run) : (x.begin_ f tick any).1.mode ≠ .live := by
  have counts : b.returnFrames ≠ 0 := by omega
  simp only [Binding.begin_, same, still, governs, short, counts, Bool.false_eq_true, if_false, decide_false, Bool.and_false, Bool.false_and,
    Bool.or_false]
  split
  · split
    · exact FillMode.noConfusion
    · exact still
  · exact still

end Return
end Frames

/-- Settles O14: the end of a frame decides freeze and the run, and the start of the next one decides the return. -/
theorem freezeAndReturnFollowTheFrames : Obligations.FreezeAndReturnFollowTheFrames := by
  unfold Obligations.FreezeAndReturnFollowTheFrames
  intro x f tick fr compressed b governs
  refine ⟨endFrame_missing tick fr compressed, endFrame_received tick fr compressed, endFrame_run governs tick fr compressed, ?returns,
    begin_switch tick⟩
  case returns =>
    intro still same counted any
    refine ⟨⟨fun live => ?_, fun enough => ?_⟩, fun enough => ?_⟩
    · exact Decidable.byContradiction fun short => begin_stays governs tick any still same counted short live
    · rw [begin_return governs tick any still same counted enough]
    · rw [begin_return governs tick any still same counted enough]

end Sys2Proof.Proofs

/-!
PROOF. Ancillary packets (03 R94, R97; 01 R33): a module that refutes the clause of IngestHappeningsTakeEffect on packets that are not carried.
-/
namespace Sys2Proof.Proofs

open Sys2Proof Sys2Proof.Machine Sys2Proof.Laws

/-! ### An ancillary flow that is enabled while its channel is live -/

/-- An ancillary flow (KIND 7) on P4, not enabled. -/
def ancillaryRec : FlowRec :=
  { kind := 7, enable := false, legB := false, ipv6 := false, sourceSpecific := false, vlan := false, fromHost := false, portA := 4, portB := 0,
    udpA := 5000, udpB := 0, groupA := 0, sourceA := 0, groupB := 0, sourceB := 0, vlanA := 0, vlanB := 0, pt := 96, hostq := 0, losMs := 20,
    width := 0, height := 0, rateNum := 0, rateDen := 0, sampling := 0, depth := 0, colorimetry := 0, tcs := 0, coding := 0, cpbBits := 0,
    maxKbps := 0, audio := [] }

/-- Channel 0 is live at 50 frames a second, with frame 0 committed; its binding takes ancillary data from flow 0, which is not enabled. -/
def captioned : Device :=
  { Device.reset with
    code := { CodingState.reset with
      channels := [(0, { Channel.reset with
        recd := { ChannelRec.none with width := 64, height := 64, rateNum := 50, rateDen := 1 }, state := .live, grid := 1, next := 1, committed := 1 })] }
    ingest := { IngestState.reset with
      flows := [(0, Flow.ofRec 0 ancillaryRec)]
      binds := [(0, { Binding.reset with recd := some ⟨2, false, true, 0, 0, 1, 120000, 2000, 0xFFFF⟩ })] } }

/-- INGEST_FLOW_SET has enabled the flow, for frame 1 on. -/
def captionsEnabled : Device := setFlowRec 0 { ancillaryRec with enable := true } captioned

/-- The flow is an enabled ancillary flow, and nothing of it has been dropped. -/
theorem captionsEnabled_flow :
    ((captionsEnabled.at_ 0).flow? 0).map (fun x => (x.recd.enable, x.recd.kind, x.ancDropped)) = some (true, 7, 0) := by decide

/-- A packet of DID 0x41, SDID 6, captured at Beam time 0, the tick of frame 0, meets the record from before, and is not counted. -/
theorem earlyPacket_not_counted :
    ((ancPacket 0 0 0x41 6 [] (captionsEnabled.at_ 0)).flow? 0).map (·.ancDropped) = some 0 := by decide

/-- Refutes O12: its clause on ancillary packets has every packet that is not carried counted where the flow is enabled now. A flow that INGEST_FLOW_SET
enables while its channel is live is enabled for the frames from the next one on (R97; 01 R33), and a packet of an earlier frame still meets the record
that was not enabled. -/
theorem not_ingestHappeningsTakeEffect : ¬ Obligations.IngestHappeningsTakeEffect := by
  unfold Obligations.IngestHappeningsTakeEffect
  intro happenings
  obtain ⟨-, -, -, -, -, ancillary, -⟩ := happenings 0 ⟨captionsEnabled, []⟩
  obtain ⟨x, found, fields⟩ := Option.map_eq_some_iff.mp captionsEnabled_flow
  obtain ⟨enabled, kind, fresh⟩ : x.recd.enable = true ∧ x.recd.kind = 7 ∧ x.ancDropped = 0 := by simpa using fields
  obtain ⟨dropped, -⟩ := ancillary 0 0 0x41 6 [] x found enabled kind
  obtain ⟨d', ran, counted, -⟩ := dropped (by decide)
  have after : d' = ancPacket 0 0 0x41 6 [] (captionsEnabled.at_ 0) := (congrArg State.dev (Host.Outcome.next.inj ran)).symm
  rw [after, fresh] at counted
  exact absurd (earlyPacket_not_counted.symm.trans counted) (by decide)

end Sys2Proof.Proofs

/-!
PROOF. Flattens and fill points (04 R109 to R113, R101, R103; 03 R76). A flatten that is over is said as what it leaves of its channel's compositor. A line stands in
the compositor once it is drawn, and each step after that keeps it (`composited`).
-/
namespace Sys2Proof.Proofs

open Sys2Proof Sys2Proof.Machine Sys2Proof.Laws

/-- What every step of a fold keeps, the fold keeps. -/
theorem foldl_keeps {α β γ : Type} {part : β → γ} {step : β → α → β} (keeps : ∀ b a, part (step b a) = part b) (xs : List α) (b : β) :
    part (xs.foldl step b) = part b := by
  induction xs generalizing b with
  | nil => rfl
  | cons x xs ih => rw [List.foldl_cons, ih, keeps]

/-! ### What operations leave of a channel's compositor -/

@[simp] theorem compChan_setComp_same (c : Nat) (x : Comp) (d : Device) : (d.setComp c x).compChan c = x := by
  simp only [Device.compChan, Device.setComp, CompState.chan, CompState.setChan, read_put_same]

@[simp] theorem compChan_raise (c : Nat) (evs : List (Nat × Nat)) (d : Device) : (d.raise evs).compChan c = d.compChan c := rfl

@[simp] theorem chan_setComp (c k : Nat) (x : Comp) (d : Device) : (d.setComp k x).chan c = d.chan c := rfl

@[simp] theorem now_setComp (k : Nat) (x : Comp) (d : Device) : (d.setComp k x).now = d.now := rfl

/-- Deciding a command, from a ring or from MCTP, leaves the compositor. -/
@[simp] theorem decideCtx_comp (x : Ctx) (status detail : Nat) (frame : Option Nat) (eff : Nat) (d : Device) :
    (d.decideCtx x status detail frame eff).comp = d.comp := by
  unfold Device.decideCtx Device.decide
  cases x.origin with
  | mctp => rfl
  | ring r seq =>
    dsimp only
    split <;> rfl

@[simp] theorem decideCtx_compChan (c : Nat) (x : Ctx) (status detail : Nat) (frame : Option Nat) (eff : Nat) (d : Device) :
    (d.decideCtx x status detail frame eff).compChan c = d.compChan c := by
  simp only [Device.compChan, decideCtx_comp]

/-! ### Flattens (R109 to R113) -/

theorem mem_planesOf_entries {c : Nat} {t : Tab Layer} {d : Device} {p : FlatPlane} (mem : p ∈ d.planesOf c t) :
    p.entries = p.tiles.length ∧ ∀ e ∈ p.tiles, e.2.any (fun q => q.a != 0) = true := by
  obtain ⟨run, -, rfl⟩ := List.mem_map.mp mem
  exact ⟨rfl, fun e tile => (List.mem_filter.mp tile).2⟩

theorem mem_flattened_entries {c : Nat} {f : Flatten} {d : Device} {p : FlatPlane} (mem : p ∈ d.flattened c f) :
    p.entries = p.tiles.length ∧ ∀ e ∈ p.tiles, e.2.any (fun q => q.a != 0) = true := by
  unfold Device.flattened at mem
  split at mem
  · exact absurd mem List.not_mem_nil
  · exact mem_planesOf_entries mem

/-- With no command waiting, a flatten that does not begin again is followed only by one asked for while it built planes again. -/
theorem next_of_noWaits {f : Flatten} (now : Nat) (due : f.again = false ∨ f.rebuild = true) (alone : f.waits = []) :
    f.next now = if f.again then some ⟨f.gen + 1, now, false, false, []⟩ else none := by
  obtain again | rebuild := due
  · simp [Flatten.next, again]
  · simp [Flatten.next, rebuild, alone]

section Done
variable (c : Nat) (f : Flatten) (ps : List FlatPlane) (d : Device)

/-- The channel's compositor once flatten `f` is over. -/
def afterFlatten : Comp :=
  { d.compChan c with flatten := f.next d.now, flatGen := Nat.max (d.compChan c).flatGen (((f.next d.now).map (·.gen)).getD 0) }

@[simp] theorem endFlatten_compChan : (d.endFlatten c f).compChan c = afterFlatten c f d := compChan_setComp_same _ _ _

theorem flattenFails_compChan : (d.flattenFails c f).compChan c = afterFlatten c f d := by
  unfold Device.flattenFails
  dsimp only
  rw [foldl_keeps (part := Device.compChan c) fun e x => decideCtx_compChan c x _ _ _ _ e]
  exact compChan_setComp_same _ _ _

variable (alone : f.waits = [])
include alone

theorem flattenFits_compChan_live (live : (d.chan c).running = true) :
    (d.flattenFits c f ps).compChan c = { afterFlatten c f d with ready := (d.compChan c).ready ++ [(f.gen, ps, f.rebuild)] } := by
  simp [Device.flattenFits, Device.landWaits, alone, live, afterFlatten]

theorem flattenFits_compChan_idle (idle : (d.chan c).running = false) :
    (d.flattenFits c f ps).compChan c = { afterFlatten c f d with planes := ps, planesLost := false, planesWas := [] } := by
  have same (e : Device) : (e.endFlatten c f).chan c = e.chan c := rfl
  simp [Device.flattenFits, Device.landWaits, Device.setPlanes, alone, idle, afterFlatten, same]

end Done

theorem not_restarted {f : Flatten} (due : f.again = false ∨ f.rebuild = true) : (f.again && !f.rebuild) = false := by
  obtain again | rebuild := due
  · rw [again, Bool.false_and]
  · rw [rebuild, Bool.not_true, Bool.and_false]

section FlattenDone
variable {c : Nat} {f : Flatten} {d : Device} (begun : (d.compChan c).flatten = some f) (fed : d.phys.shed < 3)
include begun fed

theorem flattenDone_again (again : f.again = true) (first : f.rebuild = false) :
    flattenDone c d = d.setComp c { d.compChan c with flatten := some { f with again := false, began := d.now } } := by
  simp only [flattenDone, begun, Nat.not_le.mpr fed, again, first, Bool.not_false, Bool.and_self, if_true, if_false]

variable (due : f.again = false ∨ f.rebuild = true)
include due

theorem flattenDone_fails (full : d.freeEntries < planeEntries (d.flattened c f)) : flattenDone c d = d.flattenFails c f := by
  simp only [flattenDone, begun, Nat.not_le.mpr fed, not_restarted due, full, if_true, if_false, Bool.false_eq_true]

theorem flattenDone_fits (room : ¬d.freeEntries < planeEntries (d.flattened c f)) :
    flattenDone c d = d.flattenFits c f (d.flattened c f) := by
  simp only [flattenDone, begun, Nat.not_le.mpr fed, not_restarted due, room, if_false, Bool.false_eq_true]

end FlattenDone

/-! ### A line composited (R101, R103) -/

/-- What a channel last put out, the lines of its present frame, and its layers. -/
def composited (x : Comp) : LineOut × Tab VLine × Tab Layer := (x.out, x.lines, x.layers)

theorem finished_range (v : Int) : 4 ≤ finished v ∧ finished v ≤ 1019 := by
  unfold finished
  generalize nearest v.toNat 64 = n
  simp only [Nat.min_def, Nat.max_def]
  split <;> split <;> omega

theorem luma_blendEnd {l : List Ycc} {p : Pix} (mem : p ∈ blendEnd l) : 4 ≤ p.y ∧ p.y ≤ 1019 := by
  simp only [blendEnd, to422, List.mem_map] at mem
  obtain ⟨⟨q, i⟩, inLine, rfl⟩ := mem
  obtain ⟨z, -, rfl⟩ := List.mem_map.mp (List.fst_mem_of_mem_zipIdx inLine)
  exact finished_range z.y

section Confidence
variable (c : Nat) (d : Device)

theorem dropConf_composited : composited ((d.dropConf c).compChan c) = composited (d.compChan c) := by
  simp [Device.dropConf, composited]

theorem compChan_writeAt (off : Nat) (b : Bytes) : (d.writeAt off b).compChan c = d.compChan c := rfl

theorem writeProxy_composited (f : Nat) : composited ((d.writeProxy c f).compChan c) = composited (d.compChan c) := by
  simp only [Device.writeProxy]
  split
  · rw [compChan_raise, compChan_setComp_same]
    split <;> rfl
  · simp only [compChan_setComp_same, apply_ite (Device.compChan c), compChan_writeAt, ite_self]
    split <;> rfl

/-- Of two steps from `e` the one taken keeps what both keep. -/
theorem composited_pick {p : Prop} {_ : Decidable p} {a b : Device} (e : Device) {z : LineOut × Tab VLine × Tab Layer}
    (one : composited (a.compChan c) = composited (e.compChan c)) (other : composited (b.compChan c) = composited (e.compChan c))
    (before : composited (e.compChan c) = z) : composited ((if p then a else b).compChan c) = z := by
  split
  · exact one.trans before
  · exact other.trans before

theorem composited_step {p : Prop} {_ : Decidable p} {a b : Device} {z : LineOut × Tab VLine × Tab Layer}
    (kept : composited (a.compChan c) = composited (b.compChan c)) (before : composited (b.compChan c) = z) :
    composited ((if p then a else b).compChan c) = z := composited_pick c b kept rfl before

theorem setComp_composited {x : Comp} (same : composited x = composited (d.compChan c)) :
    composited ((d.setComp c x).compChan c) = composited (d.compChan c) := by rw [compChan_setComp_same, same]

theorem proxyLine_composited (f y : Nat) (last : Bool) : composited ((d.proxyLine c f y last).compChan c) = composited (d.compChan c) := by
  unfold Device.proxyLine
  refine composited_step c (writeProxy_composited c _ f) (composited_step c ?drop (composited_step c ?start rfl))
  case drop => exact foldl_keeps (part := fun e => composited (e.compChan c)) (fun e _ => dropConf_composited c e) _ _
  case start => exact setComp_composited c d rfl

theorem programLine_composited (h y : Nat) (last : Bool) (sizes full : List Nat) :
    composited ((d.programLine c h y last sizes full).compChan c) = composited (d.compChan c) := by
  unfold Device.programLine
  split
  · rfl
  split
  · rfl
  refine composited_step c (setComp_composited c _ rfl) ?_
  refine composited_step c (dropConf_composited c _) ?_
  refine .trans (foldl_keeps (part := fun e : Device => composited (e.compChan c)) ?waits _ _) (composited_step c (setComp_composited c d rfl) rfl)
  case waits => exact fun _ _ => rfl

@[simp] theorem readAsset_compChan (k n : Nat) : (d.readAsset k n).compChan c = d.compChan c := by
  unfold Device.readAsset
  split
  · rfl
  · split <;> rfl

@[simp] theorem handLine_compChan (k f y : Nat) : (d.handLine k f y).compChan c = d.compChan c := rfl

/-- The finished line: the video, the graphics in ascending Z, and L7 on top (R101, R103, R123). -/
def finalLine (li : LineIn) : VLine :=
  let act := d.governing c li.frame
  blendEnd (d.drawSeal c li.line act (act.bind fun a => d.sealLine c li.frame li.line a) (d.drawLayers c li.frame li.line li.pix).line)

/-- What a line puts out: place and flags of the video's line, the graphics drawn, and the finished samples. -/
def lineOut (li : LineIn) : LineOut :=
  let shown := (d.governing c li.frame).bind fun a => d.sealLine c li.frame li.line a
  ⟨li.frame, li.line, li.flags, (d.drawLayers c li.frame li.line li.pix).layers, shown.map (fun z => (z.asset, z.image, z.place)), finalLine c d li⟩

theorem composeLine_composited (li : LineIn) (sizes full : List Nat) :
    composited ((d.composeLine c li sizes full).compChan c) =
      (lineOut c d li, Tab.put li.line (finalLine c d li) (if li.line = 0 then [] else (d.compChan c).lines), (d.compChan c).layers) := by
  unfold Device.composeLine
  refine .trans (congrArg composited (handLine_compChan c _ _ _ _)) ?_
  refine composited_step c (setComp_composited c _ rfl) ?_
  refine composited_pick c _ (proxyLine_composited c _ _ _ _) (composited_step c (programLine_composited c _ _ _ _ _ _) rfl) ?_
  split
  · rw [readAsset_compChan, compChan_raise, compChan_setComp_same]
    rfl
  · rw [compChan_raise, compChan_setComp_same]
    rfl

end Confidence

theorem lineFillPoint_of_none {c : Nat} {d : Device} (idle : d.lineDue c = none) (sizes full : List Nat) : lineFillPoint c sizes full d = d := by
  simp only [lineFillPoint, idle]

theorem lineFillPoint_of_due {c f l : Nat} {d : Device} (due : d.lineDue c = some (f, l)) (sizes full : List Nat) :
    lineFillPoint c sizes full d = (d.takeLine c f l).1.composeLine c (d.takeLine c f l).2 sizes full := by
  simp only [lineFillPoint, due]

/-- Settles O18: a flatten that is over leaves the compositor but for the planes it made, and a line that is composited leaves what was put out. -/
theorem flattensAndFillPointsTakeEffect : Obligations.FlattensAndFillPointsTakeEffect := by
  unfold Obligations.FlattensAndFillPointsTakeEffect
  intro t c s d
  refine ⟨fun f begun fed => ⟨?again, ?finished⟩, fun sizes full => ⟨?noLine, ?line⟩⟩
  case again => exact fun again first => answers_of_eq rfl (flattenDone_again begun fed again first)
  case finished =>
    intro due alone ps
    have next := next_of_noWaits d.now due alone
    have entries : ∀ p ∈ ps, _ := fun p mem => mem_flattened_entries mem
    by_cases full : d.freeEntries < planeEntries ps
    · refine ⟨_, answers_of_eq rfl (flattenDone_fails begun fed due full), ?_⟩
      rw [flattenFails_compChan]
      exact ⟨next, rfl, entries, fun _ => ⟨rfl, rfl⟩, fun fits => absurd full (Nat.not_lt.mpr fits), fun fits => absurd full (Nat.not_lt.mpr fits)⟩
    · refine ⟨_, answers_of_eq rfl (flattenDone_fits begun fed due full), ?_⟩
      cases live : (d.chan c).running with
      | true =>
        rw [flattenFits_compChan_live c f _ d alone live]
        exact ⟨next, rfl, entries, fun noRoom => absurd noRoom full, fun _ => Bool.noConfusion, fun _ _ => ⟨rfl, rfl⟩⟩
      | false =>
        rw [flattenFits_compChan_idle c f _ d alone live]
        exact ⟨next, rfl, entries, fun noRoom => absurd noRoom full, fun _ _ => rfl, fun _ => Bool.noConfusion⟩
  case noLine => exact fun idle => answers_of_eq rfl (lineFillPoint_of_none idle _ _)
  case line =>
    intro f l due
    refine ⟨_, answers_of_eq rfl (lineFillPoint_of_due due _ _), ?_⟩
    have shown := composeLine_composited c (d.takeLine c f l).1 (d.takeLine c f l).2 sizes (full.map (·.val))
    simp only [composited, Prod.mk.injEq] at shown
    obtain ⟨out, lines, layers⟩ := shown
    rw [out, lines, layers]
    exact ⟨rfl, rfl, rfl, rfl, find_put_same _ _ _, fun p mem => luma_blendEnd mem⟩

end Sys2Proof.Proofs

/-!
PROOF. Compositor and seal commands, signed blocks and seal windows (04 R105 to R132). What a signed block leaves is said of the compositor alone, one equation for
each kind of block; the order of the security core's checks and the ticks of an activation get one lemma for each branch.
-/
namespace Sys2Proof.Proofs

open Sys2Proof Sys2Proof.Machine Sys2Proof.Laws

/-! ### Answers -/

@[simp] theorem accept_comp (o : Origin) (frame : Option Nat) (eff : Nat) (d : Device) : (d.accept o frame eff).comp = d.comp := by
  cases o <;> rfl

@[simp] theorem accept_staged (o : Origin) (frame : Option Nat) (eff : Nat) (d : Device) : (d.accept o frame eff).rk.staged = d.rk.staged := by
  cases o <;> rfl

/-! ### A command that asks for a flatten (R112, R113; 11 R328 to R334) -/

/-- A command that passes its checks runs, held up or not. -/
theorem runRow_of_passed {sp : CmdSpec} {t : Nat} {ring : Fin 4} {entry : Bytes} {s : State} (passed : passes sp t ring entry s = true) :
    runRow sp ring entry (s.dev.at_ t) = sp.runChecked (ctxAt sp t ring entry s) (takenAt t ring entry s) := by
  simp only [passes, Bool.and_eq_true, Option.isNone_iff_eq_none] at passed
  obtain ⟨⟨⟨implemented, entryGood⟩, blockGood⟩, allowed⟩ := passed
  change runTaken sp ring (ctxAt sp t ring entry s) (takenAt t ring entry s) = _
  simp only [runTaken, implemented, if_true, CmdSpec.run, entryGood, Option.isNone_some, blockGood, allowed]

section Flatten
variable {sp : CmdSpec} {c : Ctx} {d : Device} (boundary : sp.when_ = .commit) (flat : sp.flat c d = true)
include boundary flat

theorem runChecked_flat_idle (idle : sp.chan c d = none) (immediate : c.effect = 0) :
    sp.runChecked c d = (d.askFlatten c.handle [(sp.op, c)]).accept c.origin none c.now := by
  simp [CmdSpec.runChecked, boundary, idle, immediate, flat]

theorem runChecked_flat_live {k : Nat} (live : sp.chan c d = some k) (near : c.beyond (d.chan k) c.now = false) :
    sp.runChecked c d =
      let g := (((d.askFlatten k []).compChan k).flatten.map Flatten.target).getD 0
      let e := (d.askFlatten k []).stage sp.op c k ((d.chan k).firstOpen c.now) (some g)
      { e with rk := { e.rk with staged := joinFlat k g e.rk.staged } } := by
  simp [CmdSpec.runChecked, boundary, live, near, flat]

end Flatten

/-- The change that joins a flatten last keeps its place and its frame. -/
theorem getLast?_joinFlat (l : List Staged) {x : Staged} {k g : Nat} (channel : x.channel = k) (flat : x.flat = some g) :
    (joinFlat k g (l ++ [x])).getLast? = some x := by
  have kept : (l ++ [x]).dropWhile (fun y => !(y.channel == k && y.flat == some g)) =
      l.dropWhile (fun y => !(y.channel == k && y.flat == some g)) ++ [x] := by
    rw [List.dropWhile_append]
    split
    · next gone =>
      rw [List.isEmpty_iff.mp gone, List.nil_append]
      simp [channel, flat]
    · rfl
  simp only [joinFlat, kept, List.map_append, ← List.append_assoc]
  simp [Staged.delayTo]

@[simp] theorem stage_comp (op : Nat) (c : Ctx) (k least : Nat) (flat : Option Nat) (d : Device) : (d.stage op c k least flat).comp = d.comp :=
  accept_comp _ _ _ _

/-- What is staged for a flatten comes last of all that is staged. -/
theorem getLast?_joinFlat_stage (op : Nat) (c : Ctx) (k least g : Nat) (d : Device) :
    (joinFlat k g (d.stage op c k least (some g)).rk.staged).getLast?.map (fun q => (q.op, q.channel, q.flat)) = some (op, k, some g) := by
  rw [Device.stage, accept_staged]
  simp only [getLast?_joinFlat, Option.map_some]

theorem askFlatten_begins {k : Nat} {d : Device} (unbegun : (d.compChan k).flatten = none) (waits : List (Nat × Ctx)) :
    d.askFlatten k waits =
      d.setComp k { d.compChan k with
        flatGen := (d.compChan k).flatGen + 1
        flatten := some ⟨(d.compChan k).flatGen + 1, d.now, false, false, waits⟩ } := by
  simp only [Device.askFlatten, Comp.askFlatten, unbegun]

/-- A change that a live channel is to take with its flatten, where none is under way: the flatten begins, and the change is staged for it. -/
theorem runChecked_flat_live_first {sp : CmdSpec} {c : Ctx} {d : Device} {k : Nat} (boundary : sp.when_ = .commit) (flat : sp.flat c d = true)
    (live : sp.chan c d = some k) (near : c.beyond (d.chan k) c.now = false) (unbegun : (d.compChan k).flatten = none) :
    ((sp.runChecked c d).compChan k).flatten = some ⟨(d.compChan k).flatGen + 1, d.now, false, false, []⟩ ∧
    (sp.runChecked c d).rk.staged.getLast?.map (fun q => (q.op, q.channel, q.flat)) = some (sp.op, k, some ((d.compChan k).flatGen + 1)) := by
  have joined := runChecked_flat_live boundary flat live near
  simp only [askFlatten_begins unbegun, compChan_setComp_same, Option.map_some, Option.getD_some, Flatten.target, bit01, Bool.false_eq_true,
    if_false, Nat.add_zero] at joined
  rw [joined]
  refine ⟨?_, getLast?_joinFlat_stage _ _ _ _ _ _⟩
  simp only [Device.compChan, stage_comp]
  exact congrArg Comp.flatten (compChan_setComp_same _ _ _)

theorem compReflatten_flat {c : Ctx} {d : Device} (static : runsOf (zOrder (d.newestLayers c.handle)) ≠ []) : compReflatten.flat c d = true := by
  simp [compReflatten, static]

/-- A command that hands its block to the security core does that, and answers later. -/
theorem commandDoes_of_goesOn {i : Instr} {sp : CmdSpec} {t : Nat} {ring : Fin 4} {entry : Bytes} {s : State} {eff : Ctx → Device → Device}
    (runs : exec i s = .next { s with dev := runRow sp ring entry (s.dev.at_ t) }) (does : ∀ c d, sp.apply c d = Done.goesOn (eff c d)) :
    CommandDoes i sp t ring entry s eff :=
  commandDoes_of_apply runs (fun c d => by rw [does]; rfl) fun c d => by rw [does]; exact nofun

/-- Settles O15: each command's specification applies the effect stated for it, and COMP_REFLATTEN, which has none, begins the flatten that it waits for. -/
theorem compositorCommandsTakeEffect : Obligations.CompositorCommandsTakeEffect := by
  unfold Obligations.CompositorCommandsTakeEffect
  intro t ring entry s
  refine ⟨?layers, ?layer, ?reflatten, ?flatten, ?confidence, ?register, ?revoke, ?load, ?activate, ?clear⟩
  case layers => exact commandDoes_of_ok rfl fun _ _ => rfl
  case layer => exact commandDoes_of_ok rfl fun _ _ => rfl
  case reflatten => exact commandDoes_of_ok rfl fun _ _ => rfl
  case flatten =>
    intro d c x n passed static unbegun
    have flat := compReflatten_flat static
    have runs := answers_of_eq (i := .compReflatten t ring entry) (s := s) rfl (runRow_of_passed passed)
    refine ⟨fun idle immediate => ⟨_, runs, ?idle⟩, fun live near => ⟨_, runs, ?live⟩⟩
    case idle =>
      rw [runChecked_flat_idle rfl flat idle immediate, askFlatten_begins unbegun]
      exact accept_accounts _ _ _ _ _
    case live => exact runChecked_flat_live_first rfl flat live near unbegun
  case confidence => exact commandDoes_of_ok rfl fun _ _ => rfl
  case register => exact commandDoes_of_goesOn rfl fun _ _ => rfl
  case revoke => exact commandDoes_of_goesOn rfl fun _ _ => rfl
  case load => exact commandDoes_of_goesOn rfl fun _ _ => rfl
  case activate => exact commandDoes_of_goesOn rfl fun _ _ => rfl
  case clear => exact commandDoes_of_goesOn rfl fun _ _ => rfl

/-! ### The order of the security core's checks (R125, Table 4.2) -/

/-- The key that a block of this opcode must be signed with. -/
def signerKey (op : Nat) (c : Ctx) (d : Device) : Bytes :=
  if op < 0x0312 then d.serv.ownerKey else ((Tab.find (c.b 2 1) d.comp.keys).map (·.pub)).getD []

/-- The last SEQ recorded for its signer. -/
def lastSeq (op : Nat) (c : Ctx) (d : Device) : Nat :=
  if op < 0x0312 then d.comp.ownerSeq else ((Tab.find (c.b 2 1) d.comp.keys).map (·.seq)).getD 0

/-- The owner's blocks need no operator key; any other block needs the one it names. -/
def hasSigner (op : Nat) (c : Ctx) (d : Device) : Prop := op < 0x0312 ∨ Tab.find (c.b 2 1) d.comp.keys ≠ none

section Checks
variable {op : Nat} {c : Ctx} {d : Device}

theorem blockRefusal_unknownKey (operator : ¬op < 0x0312) (unknown : Tab.find (c.b 2 1) d.comp.keys = none) : d.blockRefusal op c = some 0x0313 := by
  simp [Device.blockRefusal, operator, unknown]

theorem not_unknownKey (signer : hasSigner op c d) : (!decide (op < 0x0312) && (Tab.find (c.b 2 1) d.comp.keys).isNone) = false := by
  obtain owner | known := signer
  · rw [decide_eq_true owner]
    rfl
  · rw [Option.isNone_eq_false_iff.mpr (Option.isSome_iff_ne_none.mpr known), Bool.and_false]

theorem blockRefusal_badSignature (signer : hasSigner op c d) (bad : c.signedBy (signerKey op c d) = false) : d.blockRefusal op c = some 0x0310 := by
  unfold signerKey at bad
  simp only [Device.blockRefusal, not_unknownKey signer, bad, Bool.not_false, Bool.false_eq_true, if_false, if_true]

theorem blockRefusal_oldSeq (signer : hasSigner op c d) (good : c.signedBy (signerKey op c d) = true) (old : blockSeq c ≤ lastSeq op c d) :
    d.blockRefusal op c = some 0x0311 := by
  unfold signerKey at good
  unfold lastSeq at old
  simp only [Device.blockRefusal, not_unknownKey signer, good, old, Bool.not_true, Bool.false_eq_true, if_false, if_true]

/-- A check in a chain that finds nothing has passed, and so has the rest of the chain. -/
theorem passed_of_ite_eq_none {p : Prop} {_ : Decidable p} {k : Nat} {rest : Option Nat} (passed : (if p then some k else rest) = none) :
    ¬p ∧ rest = none := by
  split at passed
  · exact nomatch passed
  · next good => exact ⟨good, passed⟩

/-- Of an activation that is accepted, the window has not ended and the asset is loaded. -/
theorem window_and_asset_of_accepted (accepted : d.blockRefusal 0x0313 c = none) :
    d.now < timeOfWord c.block 40 ∧ (Tab.find (c.b 4 2) d.comp.assets).isSome = true := by
  obtain ⟨-, accepted⟩ := passed_of_ite_eq_none accepted
  obtain ⟨-, accepted⟩ := passed_of_ite_eq_none accepted
  obtain ⟨-, accepted⟩ := passed_of_ite_eq_none accepted
  obtain ⟨-, accepted⟩ := passed_of_ite_eq_none accepted
  obtain ⟨window, accepted⟩ := passed_of_ite_eq_none accepted
  obtain ⟨large, -⟩ := passed_of_ite_eq_none accepted
  refine ⟨by simpa using window, ?_⟩
  cases loaded : Tab.find (c.b 4 2) d.comp.assets with
  | some a => rfl
  | none => simp [loaded] at large

/-- An accepted block has passed each check. -/
theorem signed_and_new_of_accepted (accepted : d.blockRefusal op c = none) :
    c.signedBy (signerKey op c d) = true ∧ lastSeq op c d < blockSeq c ∧
      (op = 0x0313 → d.now < timeOfWord c.block 40 ∧ (Tab.find (c.b 4 2) d.comp.assets).isSome = true) := by
  have signer : hasSigner op c d :=
    Decidable.byCases Or.inl fun operator => Or.inr fun unknown => nomatch accepted.symm.trans (blockRefusal_unknownKey operator unknown)
  have good : c.signedBy (signerKey op c d) = true :=
    Decidable.byContradiction fun bad => nomatch accepted.symm.trans (blockRefusal_badSignature signer (eq_false_of_ne_true bad))
  refine ⟨good, ?new, ?activation⟩
  case new => exact Decidable.byContradiction fun old => nomatch accepted.symm.trans (blockRefusal_oldSeq signer good (Nat.not_lt.mp old))
  case activation =>
    rintro rfl
    exact window_and_asset_of_accepted accepted

end Checks

/-- Settles O17: the checks come in order, and an accepted block has passed all of them. -/
theorem refusedBlocksNameTheFirstFault : Obligations.RefusedBlocksNameTheFirstFault := by
  unfold Obligations.RefusedBlocksNameTheFirstFault
  intro op c d owner key last signer n verifies
  have signerIs : signer = signerKey op c d := by simp only [signer, owner, key, signerKey, decide_eq_true_eq]
  have lastIs : last = lastSeq op c d := by simp only [last, owner, key, lastSeq, decide_eq_true_eq]
  have verifiesIs : verifies = c.signedBy (signerKey op c d) := by rw [← signerIs]; rfl
  have signed (h : owner = true ∨ key ≠ none) : hasSigner op c d := h.imp_left of_decide_eq_true
  rw [verifiesIs, lastIs]
  exact ⟨fun operator unknown => blockRefusal_unknownKey (of_decide_eq_false operator) unknown,
    fun h bad => blockRefusal_badSignature (signed h) bad, fun h good old => blockRefusal_oldSeq (signed h) good old, signed_and_new_of_accepted⟩

/-! ### What a signed block leaves of the compositor (R125 to R129) -/

section Accepted
variable (c : Ctx) (d : Device)

/-- Recording the SEQ of an operator's block changes its key's record and nothing else. -/
theorem recordSeq_operator {op : Nat} (operator : ¬op < 0x0312) :
    ∃ keys, d.recordSeq op c = { d with comp := { d.comp with keys := keys } } := by
  simp only [Device.recordSeq, operator, if_false]
  split
  · exact ⟨_, rfl⟩
  · exact ⟨_, rfl⟩

/-- An activation or a clear may leave its final waiting, and nothing else. -/
theorem sealFinal_comp (mask eff asked : Nat) (moves : Bool) :
    ∃ waits, (d.sealFinal c mask eff asked moves).comp = { d.comp with waits := waits } := by
  unfold Device.sealFinal
  split
  · exact ⟨_, decideCtx_comp _ _ _ _ _ _⟩
  · exact ⟨_, accept_comp _ _ _ _⟩

theorem acceptBlock_register : (d.acceptBlock 0x0310 c).comp =
    { d.comp with ownerSeq := blockSeq c, keys := Tab.put (c.b 2 1) ⟨(c.block.drop 24).take 96, 0⟩ d.comp.keys } := by
  simp [Device.acceptBlock, Device.recordSeq]

theorem acceptBlock_revoke : (d.acceptBlock 0x0311 c).comp =
    { d.comp with ownerSeq := blockSeq c, keys := Tab.del (c.b 2 1) d.comp.keys } := by
  simp [Device.acceptBlock, Device.recordSeq]

theorem acceptBlock_load : ∃ keys groupA groupB, (d.acceptBlock 0x0312 c).comp =
    { d.comp with keys := keys, assets := Tab.put c.handle (assetOf c groupA groupB) d.comp.assets } := by
  obtain ⟨keys, recorded⟩ := recordSeq_operator c d (op := 0x0312) (by decide)
  simp only [Device.acceptBlock, recorded]
  exact ⟨_, _, _, decideCtx_comp _ _ _ _ _ _⟩

/-- The activation of a block accepted at `now` (Table 4.8). -/
def activationOf (now : Nat) : Activation :=
  { accepted := now, asset := c.b 4 2, key := c.b 2 1, mode := c.b 3 1, mask := c.b 16 8, winStart := timeOfWord c.block 24,
    winEnd := timeOfWord c.block 40, dstX := signedOf 16 (c.b 56 2), dstY := signedOf 16 (c.b 58 2), speed := signedOf 16 (c.b 60 2),
    crawlWidth := c.b 62 2, chans := [] }

theorem acceptBlock_activate : ∃ keys waits, (d.acceptBlock 0x0313 c).comp =
    { d.comp with keys := keys, waits := waits, acts := d.comp.acts ++ [activationOf c d.now] } := by
  obtain ⟨keys, recorded⟩ := recordSeq_operator c d (op := 0x0313) (by decide)
  simp only [Device.acceptBlock, recorded]
  obtain ⟨waits, final⟩ := sealFinal_comp c { d with comp := { d.comp with keys := keys, acts := d.comp.acts ++ [activationOf c d.now] } }
    (c.b 16 8) (activationOf c d.now).earliest (timeOfWord c.block 24) true
  exact ⟨keys, waits, final⟩

theorem recordSeq_jobs (op : Nat) : (d.recordSeq op c).comp.jobs = d.comp.jobs := by
  unfold Device.recordSeq
  split
  · rfl
  · split <;> rfl

theorem sealFinal_jobs (mask eff asked : Nat) (moves : Bool) : (d.sealFinal c mask eff asked moves).comp.jobs = d.comp.jobs := by
  obtain ⟨waits, final⟩ := sealFinal_comp c d mask eff asked moves
  rw [final]

/-- Accepting a block, of any opcode, takes none of those behind it. -/
theorem acceptBlock_jobs (op : Nat) : (d.acceptBlock op c).comp.jobs = d.comp.jobs := by
  simp only [Device.acceptBlock, apply_ite Device.comp, apply_ite CompState.jobs, decideCtx_comp, raise_comp, sealFinal_jobs, recordSeq_jobs, ite_self]

end Accepted

/-! ### The oldest signed block (R125) -/

theorem blockMask_eq (op : Nat) (c : Ctx) : blockMask op c = if op = 0x0313 ∨ op = 0x0314 then c.b 16 8 else 0 := by simp [blockMask]

theorem find_del {α : Type} (k j : Nat) (t : Tab α) : Tab.find j (Tab.del k t) = if j = k then none else Tab.find j t := by
  split
  · next same => rw [same, find_del_same]
  · next other => exact find_del_other other t

theorem sealBlockVerified_idle {d : Device} (idle : d.comp.jobs = []) : sealBlockVerified d = d := by
  simp only [sealBlockVerified, idle]

section Oldest
variable {d : Device} {j : SealJob} {r : List SealJob} (oldest : d.comp.jobs = j :: r) (up : d.link.secUp = true)
include oldest up

theorem sealBlockVerified_refused {k : Nat} (refused : { d with comp := { d.comp with jobs := r } }.blockRefusal j.op j.ctx = some k) :
    sealBlockVerified d =
      ({ d with comp := { d.comp with jobs := r } }.raise [(392, det2 ((maskChans (blockMask j.op j.ctx)).headD 0xFFFF) (j.ctx.b 2 1))]).decideCtx
        j.ctx stBadParam k none d.now := by
  simp only [sealBlockVerified, oldest, up, refused, Bool.not_true, Bool.false_eq_true, if_false]
  rfl

variable (verified : { d with comp := { d.comp with jobs := r } }.blockRefusal j.op j.ctx = none)
include verified

theorem sealBlockVerified_fails {st k : Nat} (fails : d.loadRefusal j.op j.ctx = some (st, k)) :
    sealBlockVerified d = { d with comp := { d.comp with jobs := r } }.decideCtx j.ctx st k none d.now := by
  have fails : { d with comp := { d.comp with jobs := r } }.loadRefusal j.op j.ctx = some (st, k) := fails
  simp only [sealBlockVerified, oldest, up, verified, fails, Bool.not_true, Bool.false_eq_true, if_false]
  rfl

theorem sealBlockVerified_accepted (may : d.loadRefusal j.op j.ctx = none) :
    sealBlockVerified d = { d with comp := { d.comp with jobs := r } }.acceptBlock j.op j.ctx := by
  have may : { d with comp := { d.comp with jobs := r } }.loadRefusal j.op j.ctx = none := may
  simp only [sealBlockVerified, oldest, up, verified, may, Bool.not_true, Bool.false_eq_true, if_false]

end Oldest

section Load
variable {op : Nat} {c : Ctx} {d : Device}

theorem loadRefusal_other (other : op ≠ 0x0312) : d.loadRefusal op c = none := if_neg other

theorem loadRefusal_active (active : d.assetActive c.handle = true) : d.loadRefusal 0x0312 c = some (stSealed, 0) := by
  simp [Device.loadRefusal, sealed, active, firstOf, orElse]

theorem loadRefusal_fits (unused : d.assetActive c.handle = false)
    (room : ((d.comp.assets.filter (fun e => e.1 != c.handle)).map (fun e => e.2.bytes)).sum + (assetOf c 0 0).bytes ≤ 2 ^ 30) :
    d.loadRefusal 0x0312 c = none := by
  simp only [Device.loadRefusal, sealed, unused, Device.storeFull, Nat.not_lt.mpr room, firstOf, orElse, Bool.false_eq_true, if_false, if_true]

end Load

/-- Settles O16: the block at the head of the queue is refused, fails as an asset in use or without room, or is accepted. -/
theorem signedBlocksAreVerifiedInOrder : Obligations.SignedBlocksAreVerifiedInOrder := by
  unfold Obligations.SignedBlocksAreVerifiedInOrder
  intro t s d
  refine ⟨fun idle => answers_of_eq rfl (sealBlockVerified_idle idle), ?_⟩
  intro j r oldest up e
  obtain ⟨op, c⟩ := j
  cases verified : e.blockRefusal op c with
  | some k =>
    refine ⟨_, answers_of_eq rfl (sealBlockVerified_refused oldest up verified), by rw [decideCtx_comp]; rfl, ?_, nofun⟩
    rintro _ ⟨⟩
    rw [blockMask_eq]
    exact ⟨rfl, decideCtx_comp _ _ _ _ _ _⟩
  | none =>
    cases may : d.loadRefusal op c with
    | some refusal =>
      obtain ⟨st, k⟩ := refusal
      obtain rfl : op = 0x0312 := Decidable.byContradiction fun other => nomatch may.symm.trans (loadRefusal_other other)
      refine ⟨_, answers_of_eq rfl (sealBlockVerified_fails oldest up verified may), by rw [decideCtx_comp], nofun,
        fun _ => ⟨nofun, nofun, fun _ active => ?_, fun _ unused room => ?_, nofun⟩⟩
      · cases may.symm.trans (loadRefusal_active active)
        rfl
      · exact nomatch may.symm.trans (loadRefusal_fits unused room)
    | none =>
      refine ⟨_, answers_of_eq rfl (sealBlockVerified_accepted oldest up verified may), acceptBlock_jobs _ _ _, nofun,
        fun _ => ⟨?register, ?revoke, ?active, ?load, ?activate⟩⟩
      case register =>
        rintro rfl
        rw [acceptBlock_register]
        exact ⟨find_put_same _ _ _, rfl⟩
      case revoke =>
        rintro rfl
        rw [acceptBlock_revoke]
        exact ⟨fun k => find_del _ _ _, rfl⟩
      case active =>
        rintro rfl active
        exact nomatch may.symm.trans (loadRefusal_active active)
      case load =>
        rintro rfl - -
        obtain ⟨keys, groupA, groupB, stored⟩ := acceptBlock_load c e
        rw [stored]
        exact ⟨assetOf c groupA groupB, find_put_same _ _ _, rfl, rfl, rfl, rfl⟩
      case activate =>
        rintro rfl
        obtain ⟨keys, waits, appended⟩ := acceptBlock_activate c e
        rw [appended]
        exact ⟨activationOf c d.now, rfl, rfl, rfl, rfl, rfl, rfl⟩

/-! ### Activations on the ticks of a channel (R127, R128) -/

section Tick
variable {a : Activation} {c tick : Nat} (f : Nat)

theorem tick_of_ended (ended : (Tab.read a.chans c ActChan.reset).ended = true) : a.tick c f tick = (a, [], []) := by
  simp [Activation.tick, ended]

theorem governs_of_ended (ended : (Tab.read a.chans c ActChan.reset).ended = true) : a.governs c tick = false := by
  simp [Activation.governs, ended]

/-- Of two outcomes of a tick the one taken leaves channel `k` as both do. -/
theorem read_pick {p : Prop} {_ : Decidable p} {x y : Activation × List (Nat × Nat) × List (Nat × Nat)} {k : Nat} {z : ActChan}
    (one : Tab.read x.1.chans k ActChan.reset = z) (other : Tab.read y.1.chans k ActChan.reset = z) :
    Tab.read (if p then x else y).1.chans k ActChan.reset = z := by
  split
  · exact one
  · exact other

theorem tick_other {k : Nat} (other : k ≠ c) : Tab.read (a.tick c f tick).1.chans k ActChan.reset = Tab.read a.chans k ActChan.reset := by
  have put (x : ActChan) : Tab.read (Tab.put c x a.chans) k ActChan.reset = Tab.read a.chans k ActChan.reset := read_put_other other x _ _
  exact read_pick rfl (read_pick (put _) (read_pick (put _) (read_pick (put _) rfl)))

variable (masked : natBit a.mask c = true) (runs : (Tab.read a.chans c ActChan.reset).ended = false)
include masked runs

theorem tick_past (past : a.winEnd ≤ tick) : a.tick c f tick =
    ({ a with chans := Tab.put c { Tab.read a.chans c ActChan.reset with ended := true } a.chans }, [(390, c)], [(8, det2 a.asset a.key)]) := by
  simp [Activation.tick, masked, runs, past]

variable (within : tick < a.winEnd)
include within

theorem tick_cleared {u : Nat} (clear : (Tab.read a.chans c ActChan.reset).clearFrom = some u) (reached : u ≤ tick) : a.tick c f tick =
    ({ a with chans := Tab.put c { Tab.read a.chans c ActChan.reset with ended := true } a.chans }, [], [(8, det2 a.asset a.key)]) := by
  simp [Activation.tick, masked, runs, Nat.not_le.mpr within, clear, reached]

variable (uncleared : ∀ u, (Tab.read a.chans c ActChan.reset).clearFrom = some u → tick < u)
include uncleared

/-- Within its window, and not cleared, an activation starts with the first frame that it governs; otherwise it stays as it is. -/
theorem tick_within : a.tick c f tick =
    if a.governs c tick = true ∧ (Tab.read a.chans c ActChan.reset).started = none then
      ({ a with chans := Tab.put c { Tab.read a.chans c ActChan.reset with started := some f } a.chans }, [(388, c)], [(7, det2 a.asset a.key)])
    else (a, [], []) := by
  cases clear : (Tab.read a.chans c ActChan.reset).clearFrom with
  | none => simp [Activation.tick, masked, runs, Nat.not_le.mpr within, clear]
  | some u => simp [Activation.tick, masked, runs, Nat.not_le.mpr within, clear, Nat.not_le.mpr (uncleared u clear)]

end Tick

/-- Settles O19: the window's end comes before a clear, and a clear before a start; only the channel of the frame is touched. -/
theorem sealWindowsFollowTheTicks : Obligations.SealWindowsFollowTheTicks := by
  unfold Obligations.SealWindowsFollowTheTicks
  intro a c f tick masked runs x r
  refine ⟨?past, ?cleared, ?within, fun k other => tick_other f other, fun b ended u => ⟨governs_of_ended ended, tick_of_ended f ended⟩⟩
  case past =>
    intro past
    simp [r, tick_past f masked runs past]
  case cleared =>
    rintro within ⟨u, clear, reached⟩
    simp [r, tick_cleared f masked runs within clear reached]
  case within =>
    intro within uncleared
    have ticks : r = _ := tick_within f masked runs within uncleared
    refine ⟨?open_, ?starts, ?started⟩
    case open_ =>
      rw [ticks]
      split
      · rw [read_put_same]
        exact runs
      · exact runs
    case starts =>
      intro governs first
      rw [ticks, if_pos ⟨governs, first⟩, read_put_same]
      exact ⟨rfl, rfl⟩
    case started =>
      intro started
      rw [ticks, if_neg fun both => started both.2]
      exact ⟨rfl, rfl⟩

end Sys2Proof.Proofs

/-!
PROOF. Channels, admission and spanning channels (05 R144 to R167). A spanning channel's arrangement is two lists of shares, of renditions that are split and of
whole ones; each choice of rods is shown to have the beads for those shares; and admission is read backwards once, as the list of the checks that it passed.
-/
namespace Sys2Proof.Proofs

open Sys2Proof Sys2Proof.Machine Sys2Proof.Laws

/-! ### The arrangement of a spanning channel (R147) -/

theorem insertCost_perm (x : Nat × Nat) (l : List (Nat × Nat)) : (insertCost x l).Perm (x :: l) := by
  induction l with
  | nil => exact .refl _
  | cons y r ih =>
    unfold insertCost
    split
    · exact .refl _
    · exact (ih.cons y).trans (.swap x y r)

theorem byCost_perm (l : List (Nat × Nat)) : (byCost l).Perm l := by
  induction l with
  | nil => exact .refl _
  | cons x r ih => exact (insertCost_perm x (byCost r)).trans (ih.cons x)

/-- A rendition with the cost that its two shares make up. -/
def joinShares (e : Nat × Nat × Nat) : Nat × Nat := (e.1, e.2.1 + e.2.2)

/-- A rendition that R147 splits: it may be split and costs at least 2. -/
def isSplit (x : Nat × Nat × Bool) : Bool := x.2.2 && 2 ≤ x.2.1

theorem isSplit_iff (x : Nat × Nat × Bool) : isSplit x = true ↔ x.2.2 = true ∧ 2 ≤ x.2.1 := by
  rw [isSplit, Bool.and_eq_true, decide_eq_true_eq]

/-- The two shares differ by at most 1. -/
def Halved (e : Nat × Nat × Nat) : Prop := e.2.1 ≤ e.2.2 + 1 ∧ e.2.2 ≤ e.2.1 + 1

/-- One rod codes the whole rendition. -/
def OnOneRod (e : Nat × Nat × Nat) : Prop := e.2.1 = 0 ∨ e.2.2 = 0

theorem ceilDiv_two_bounds (k : Nat) : k / 2 ≤ ceilDiv k 2 ∧ ceilDiv k 2 ≤ k / 2 + 1 ∧ ceilDiv k 2 + k / 2 = k := by
  simp only [ceilDiv]
  omega

theorem map_joinShares_splitHalves (onA : Bool) (l : List (Nat × Nat)) : (splitHalves onA l).map joinShares = l := by
  induction l generalizing onA with
  | nil => rfl
  | cons x r ih =>
    obtain ⟨-, -, total⟩ := ceilDiv_two_bounds x.2
    cases onA <;> simp [splitHalves, joinShares, ih, total, Nat.add_comm (x.2 / 2)]

theorem halved_of_mem_splitHalves {onA : Bool} {l : List (Nat × Nat)} {e : Nat × Nat × Nat} (mem : e ∈ splitHalves onA l) : Halved e := by
  induction l generalizing onA with
  | nil => exact absurd mem List.not_mem_nil
  | cons x r ih =>
    obtain head | tail := List.mem_cons.mp mem
    · obtain ⟨least, most, -⟩ := ceilDiv_two_bounds x.2
      subst head
      cases onA
      · exact ⟨Nat.le_succ_of_le least, most⟩
      · exact ⟨most, Nat.le_succ_of_le least⟩
    · exact ih tail

theorem map_joinShares_placeWhole (a b : Nat) (l : List (Nat × Nat)) : (placeWhole a b l).map joinShares = l := by
  induction l generalizing a b with
  | nil => rfl
  | cons x r ih =>
    unfold placeWhole
    split <;> simp [joinShares, ih]

theorem onOneRod_of_mem_placeWhole {a b : Nat} {l : List (Nat × Nat)} {e : Nat × Nat × Nat} (mem : e ∈ placeWhole a b l) : OnOneRod e := by
  induction l generalizing a b with
  | nil => exact absurd mem List.not_mem_nil
  | cons x r ih =>
    unfold placeWhole at mem
    split at mem
    · obtain rfl | tail := List.mem_cons.mp mem
      · exact Or.inr rfl
      · exact ih tail
    · obtain rfl | tail := List.mem_cons.mp mem
      · exact Or.inl rfl
      · exact ih tail

theorem sumA_add_sumB (sh : List (Nat × Nat × Nat)) : sumA sh + sumB sh = ((sh.map joinShares).map (·.2)).sum := by
  induction sh with
  | nil => rfl
  | cons e r ih =>
    simp only [sumA, sumB, joinShares, List.map_cons, List.sum_cons] at ih ⊢
    omega

/-- The shares `part` are those of the renditions of `l` that `keep` picks. -/
def SharesOf (keep : Nat × Nat × Bool → Bool) (l : List (Nat × Nat × Bool)) (part : List (Nat × Nat × Nat)) : Prop :=
  (part.map joinShares).Perm ((l.filter keep).map fun x => (x.1, x.2.1))

theorem exists_of_mem_sharesOf {keep : Nat × Nat × Bool → Bool} {l : List (Nat × Nat × Bool)} {part : List (Nat × Nat × Nat)}
    (shares : SharesOf keep l part) {e : Nat × Nat × Nat} (mem : e ∈ part) :
    ∃ x ∈ l, keep x = true ∧ x.1 = e.1 ∧ e.2.1 + e.2.2 = x.2.1 := by
  obtain ⟨x, picked, joined⟩ := List.mem_map.mp (shares.mem_iff.mp (List.mem_map_of_mem mem))
  obtain ⟨inList, kept⟩ := List.mem_filter.mp picked
  obtain ⟨number, cost⟩ := Prod.mk.inj joined
  exact ⟨x, inList, kept, number, cost.symm⟩

/-- The totals of the two rods differ by at most 1, and neither is 0. -/
def Balanced (sh : List (Nat × Nat × Nat)) : Prop := sumA sh ≤ sumB sh + 1 ∧ sumB sh ≤ sumA sh + 1 ∧ 0 < sumA sh ∧ 0 < sumB sh

/-- What `arrange` answers: the halves of the renditions that are split, then the whole ones. -/
theorem arrange_parts {l : List (Nat × Nat × Bool)} {sh : List (Nat × Nat × Nat)} (spans : arrange l = some sh) :
    Balanced sh ∧ ∃ halves wholes, sh = halves ++ wholes ∧
      SharesOf isSplit l halves ∧ (∀ e ∈ halves, Halved e) ∧ SharesOf (!isSplit ·) l wholes ∧ ∀ e ∈ wholes, OnOneRod e := by
  simp only [arrange] at spans
  split at spans
  · exact nomatch spans
  · next balanced =>
    rw [Option.some.injEq] at spans
    rw [spans] at balanced
    simp only [Bool.or_eq_true, decide_eq_true_eq, not_or, Nat.not_lt] at balanced
    obtain ⟨⟨⟨bLow, aLow⟩, aPos⟩, bPos⟩ := balanced
    refine ⟨⟨aLow, bLow, Nat.pos_of_ne_zero aPos, Nat.pos_of_ne_zero bPos⟩, _, _, spans.symm, ?halves, fun e => halved_of_mem_splitHalves,
      ?wholes, fun e => onOneRod_of_mem_placeWhole⟩
    case halves =>
      rw [SharesOf, map_joinShares_splitHalves]
      exact byCost_perm _
    case wholes =>
      rw [SharesOf, map_joinShares_placeWhole]
      exact byCost_perm _

/-- The two parts together hold the shares of every rendition. -/
theorem map_joinShares_append_perm {l : List (Nat × Nat × Bool)} {halves wholes : List (Nat × Nat × Nat)}
    (cut : SharesOf isSplit l halves) (whole : SharesOf (!isSplit ·) l wholes) :
    ((halves ++ wholes).map joinShares).Perm (l.map fun x => (x.1, x.2.1)) := by
  rw [List.map_append]
  refine (cut.append whole).trans ?_
  rw [← List.map_append]
  exact (List.filter_append_perm isSplit l).map _

/-- Settles O24: the arrangement is the halves and the whole renditions, whose shares together are a permutation of the costs. -/
theorem spanningSharesBalance : Obligations.SpanningSharesBalance := by
  unfold Obligations.SpanningSharesBalance
  intro l sh spans
  obtain ⟨⟨aLow, bLow, aPos, bPos⟩, halves, wholes, rfl, cut, halved, whole, oneRod⟩ := arrange_parts spans
  have all := map_joinShares_append_perm cut whole
  refine ⟨aLow, bLow, aPos, bPos, ?total, ?count, fun e mem => ?shares⟩
  case total =>
    rw [sumA_add_sumB, (all.map _).sum_nat, List.map_map]
    rfl
  case count => simpa using all.length_eq
  case shares =>
    obtain inHalves | inWholes := List.mem_append.mp mem
    · obtain ⟨x, inList, splits, number, cost⟩ := exists_of_mem_sharesOf cut inHalves
      refine ⟨x, inList, number, cost, ?_⟩
      rw [if_pos ((isSplit_iff x).mp splits)]
      exact halved e inHalves
    · obtain ⟨x, inList, stays, number, cost⟩ := exists_of_mem_sharesOf whole inWholes
      refine ⟨x, inList, number, cost, ?_⟩
      rw [if_neg (mt (isSplit_iff x).mpr (Bool.not_eq_true _ ▸ (Bool.not_eq_true' _).mp stays))]
      exact oneRod e inWholes

/-! ### The choice of rods (R146) -/

/-- The least of a list is its head, or the least of the rest. -/
theorem head_or_rest_of_least {α : Type} {x n : α} {rest : Option α} (less : α → Prop) {_ : DecidablePred less}
    (least : rest.elim (some x) (fun y => if less y then some y else some x) = some n) : n = x ∨ rest = some n := by
  cases rest with
  | none => exact Or.inl (Option.some.inj least).symm
  | some y =>
    rw [Option.elim_some] at least
    split at least
    · exact Or.inr least
    · exact Or.inl (Option.some.inj least).symm

theorem leastBy_cons (f : Nat → Nat) (x : Nat) (r : List Nat) :
    leastBy f (x :: r) = (leastBy f r).elim (some x) (fun y => if f y < f x then some y else some x) := by
  rw [leastBy]
  cases leastBy f r <;> rfl

theorem leastPair_cons (free : Nat → Nat) (p : Nat × Nat) (r : List (Nat × Nat)) :
    leastPair free (p :: r) =
      (leastPair free r).elim (some p) (fun q => if free q.1 + free q.2 < free p.1 + free p.2 then some q else some p) := by
  rw [leastPair]
  cases leastPair free r <;> rfl

theorem mem_of_leastBy {f : Nat → Nat} {l : List Nat} {n : Nat} (least : leastBy f l = some n) : n ∈ l := by
  induction l with
  | nil => exact nomatch least
  | cons x r ih =>
    rw [leastBy_cons] at least
    exact List.mem_cons.mpr ((head_or_rest_of_least _ least).imp_right ih)

theorem mem_of_leastPair {free : Nat → Nat} {l : List (Nat × Nat)} {p : Nat × Nat} (least : leastPair free l = some p) : p ∈ l := by
  induction l with
  | nil => exact nomatch least
  | cons x r ih =>
    rw [leastPair_cons] at least
    exact List.mem_cons.mpr ((head_or_rest_of_least _ least).imp_right ih)

theorem mem_of_mem_pairsOf {l : List Nat} {p : Nat × Nat} (mem : p ∈ pairsOf l) : p.1 ∈ l ∧ p.2 ∈ l := by
  obtain ⟨x, inX, picked⟩ := List.mem_flatMap.mp mem
  obtain ⟨y, inY, rfl⟩ := List.mem_map.mp picked
  exact ⟨inX, (List.mem_filter.mp inY).1⟩

theorem pairTakes_comm (free : Nat → Nat) (a b x y : Nat) : pairTakes free a b x y = pairTakes free a b y x := Bool.or_comm _ _

section Rods
variable {c : Nat} {d : Device}

/-- The rods that may home channels. -/
def servingRods (d : Device) : List Nat := rodNumbers.filter (fun n => d.serving n)

/-- 255 stands for no rod. -/
theorem ne_none_of_mem_servingRods {n : Nat} (mem : n ∈ servingRods d) : n ≠ 255 := by
  have inRange := List.mem_range.mp (List.mem_filter.mp mem).1
  omega

/-- The rods have the beads for the channel's shares on them. -/
def RodsFit (c : Nat) (d : Device) (p : Nat × Nat) : Prop :=
  ∃ sh, d.sharesOn c (p.2 != 255) = some sh ∧ sumA sh ≤ d.freeBeads p.1 c ∧ (p.2 ≠ 255 → sumB sh ≤ d.freeBeads p.2 c)

theorem rodsFit_one {n : Nat} (fits : d.cost c ≤ d.freeBeads n c) : RodsFit c d (n, 255) := by
  refine ⟨_, rfl, ?_, fun second => absurd rfl second⟩
  rw [sumA, List.map_map]
  exact fits

variable {sh : List (Nat × Nat × Nat)} (shares : d.sharesOn c true = some sh)
include shares

theorem rodsFit_two {a b : Nat} (second : b ≠ 255) (fitsA : sumA sh ≤ d.freeBeads a c) (fitsB : sumB sh ≤ d.freeBeads b c) :
    RodsFit c d (a, b) := ⟨sh, by rw [bne_iff_ne.mpr second]; exact shares, fitsA, fun _ => fitsB⟩

/-- A pair that takes the shares is put in an order in which it takes them. -/
theorem rodsFit_ordered {x y : Nat} (rodX : x ∈ servingRods d) (rodY : y ∈ servingRods d)
    (takes : pairTakes (fun n => d.freeBeads n c) (sumA sh) (sumB sh) x y = true) {p : Nat × Nat}
    (ordered : (if sumA sh ≤ d.freeBeads x c && sumB sh ≤ d.freeBeads y c then some (x, y) else some (y, x)) = some p) : RodsFit c d p := by
  simp only [Bool.and_eq_true, decide_eq_true_eq] at ordered
  simp only [pairTakes, Bool.or_eq_true, Bool.and_eq_true, decide_eq_true_eq] at takes
  split at ordered
  · next first =>
    obtain rfl := Option.some.inj ordered
    exact rodsFit_two shares (ne_none_of_mem_servingRods rodY) first.1 first.2
  · next first =>
    obtain rfl := Option.some.inj ordered
    obtain ⟨fitsA, fitsB⟩ := takes.resolve_left first
    exact rodsFit_two shares (ne_none_of_mem_servingRods rodX) fitsA fitsB

omit shares

/-- The choice of a pair: any, or with the rod that is named. -/
def spanRods (c : Nat) (named : Option Nat) (d : Device) : Option (Nat × Nat) :=
  let free n := d.freeBeads n c
  match d.sharesOn c true with
  | none => none
  | some sh =>
    match leastPair free ((pairsOf (servingRods d)).filter (fun p => pairTakes free (sumA sh) (sumB sh) p.1 p.2
        && (match named with | some n => p.1 == n || p.2 == n | none => true))) with
    | none => none
    | some (x, y) => match named with
      | some n =>
        if sumA sh ≤ free n && sumB sh ≤ free (if x = n then y else x) then some (n, if x = n then y else x) else some (if x = n then y else x, n)
      | none => if sumA sh ≤ free x && sumB sh ≤ free y then some (x, y) else some (y, x)

/-- Two rods that are both named. -/
def namedRods (c a b : Nat) (d : Device) : Option (Nat × Nat) :=
  match d.sharesOn c true with
  | none => none
  | some sh =>
    if (servingRods d).contains a && (servingRods d).contains b && sumA sh ≤ d.freeBeads a c && sumB sh ≤ d.freeBeads b c then some (a, b) else none

theorem rodsFit_of_spanRods {named : Option Nat} {p : Nat × Nat} (chosen : spanRods c named d = some p) : RodsFit c d p := by
  simp only [spanRods] at chosen
  split at chosen
  · exact nomatch chosen
  · next sh shares =>
    split at chosen
    · exact nomatch chosen
    · next x y least =>
      obtain ⟨pair, picked⟩ := List.mem_filter.mp (mem_of_leastPair least)
      obtain ⟨takes, hasNamed⟩ := (Bool.and_eq_true _ _).mp picked
      obtain ⟨rodX, rodY⟩ := mem_of_mem_pairsOf pair
      cases named with
      | none => exact rodsFit_ordered shares rodX rodY takes chosen
      | some n =>
        by_cases first : x = n
        · simp only [first, if_true] at chosen
          exact rodsFit_ordered shares (first ▸ rodX) rodY (first ▸ takes) chosen
        · have second : y = n := by simpa [first] using hasNamed
          simp only [first, if_false] at chosen
          exact rodsFit_ordered shares (second ▸ rodY) rodX (second ▸ pairTakes_comm _ _ _ x y ▸ takes) chosen

theorem rodsFit_of_namedRods {a b : Nat} {p : Nat × Nat} (chosen : namedRods c a b d = some p) : RodsFit c d p := by
  simp only [namedRods] at chosen
  split at chosen
  · exact nomatch chosen
  · next sh shares =>
    simp only [Bool.and_eq_true, List.contains_iff_mem, decide_eq_true_eq, Option.ite_none_right_eq_some] at chosen
    obtain ⟨⟨⟨⟨_, rodB⟩, fitsA⟩, fitsB⟩, both⟩ := chosen
    obtain rfl := Option.some.inj both
    exact rodsFit_two shares (ne_none_of_mem_servingRods rodB) fitsA fitsB

end Rods

section Choice
variable (c a b : Nat) (d : Device)

theorem chooseRods_home (span : Bool) : d.chooseRods c (.home a b span) =
    if a = 255 then
      ((leastBy (fun n => d.freeBeads n c) ((servingRods d).filter (fun n => d.cost c ≤ d.freeBeads n c))).map (·, 255)).or
        (if span then spanRods c none d else none)
    else if b = 255 then
      if (servingRods d).contains a && d.cost c ≤ d.freeBeads a c then some (a, 255) else if span then spanRods c (some a) d else none
    else namedRods c a b d := by
  simp only [Device.chooseRods, servingRods]
  split
  · generalize leastBy _ _ = least
    cases least <;> rfl
  · rfl

theorem chooseRods_move (maskA maskB : Nat) : d.chooseRods c (.move a b maskA maskB) =
    if b = 255 then if (servingRods d).contains a && d.cost c ≤ d.freeBeads a c then some (a, 255) else none else namedRods c a b d := rfl

end Choice

/-- One rod is taken where it has the beads for the whole channel; else the choice goes on. -/
theorem rodsFit_or_of_wholeRod {c a : Nat} {d : Device} {rest : Option (Nat × Nat)} {p : Nat × Nat}
    (chosen : (if (servingRods d).contains a && d.cost c ≤ d.freeBeads a c then some (a, 255) else rest) = some p) : RodsFit c d p ∨ rest = some p := by
  split at chosen
  · next whole =>
    obtain rfl := Option.some.inj chosen
    exact Or.inl (rodsFit_one (of_decide_eq_true ((Bool.and_eq_true _ _).mp whole).2))
  · exact Or.inr chosen

/-- Whatever is asked for, the rods chosen have the beads. -/
theorem rodsFit_of_chooseRods {c : Nat} {w : Want} {d : Device} {p : Nat × Nat} (chosen : d.chooseRods c w = some p) : RodsFit c d p := by
  cases w with
  | home a b span =>
    have ofSpan {named : Option Nat} (chosen : (if span then spanRods c named d else none) = some p) : RodsFit c d p :=
      rodsFit_of_spanRods (Option.ite_none_right_eq_some.mp chosen).2
    rw [chooseRods_home] at chosen
    split at chosen
    · obtain single | ⟨-, pair⟩ := Option.or_eq_some_iff.mp chosen
      · obtain ⟨n, least, rfl⟩ := Option.map_eq_some_iff.mp single
        exact rodsFit_one (of_decide_eq_true (List.mem_filter.mp (mem_of_leastBy least)).2)
      · exact ofSpan pair
    · split at chosen
      · exact (rodsFit_or_of_wholeRod chosen).elim id ofSpan
      · exact rodsFit_of_namedRods chosen
  | move a b maskA maskB =>
    rw [chooseRods_move] at chosen
    split at chosen
    · exact (rodsFit_or_of_wholeRod chosen).resolve_right nofun
    · exact rodsFit_of_namedRods chosen
  | stay =>
    simp only [Device.chooseRods] at chosen
    split at chosen
    · obtain ⟨fits, same⟩ := Option.ite_none_right_eq_some.mp chosen
      exact Option.some.inj same ▸ rodsFit_one fits
    · next second =>
      split at chosen
      · exact nomatch chosen
      · next sh shares =>
        obtain ⟨fits, same⟩ := Option.ite_none_right_eq_some.mp chosen
        obtain ⟨fitsA, fitsB⟩ := (Bool.and_eq_true _ _).mp fits
        exact Option.some.inj same ▸ rodsFit_two shares second (of_decide_eq_true fitsA) (of_decide_eq_true fitsB)

/-! ### Admission (R144) -/

/-- A check in a chain that finds nothing has passed, and the rest of the chain answers. -/
theorem passed_of_ite_eq_ok {ε α : Type} {p : Prop} {_ : Decidable p} {e : ε} {rest : Except ε α} {h : α}
    (passed : (if p then .error e else rest) = .ok h) : ¬p ∧ rest = .ok h := by
  split at passed
  · exact nomatch passed
  · next good => exact ⟨good, passed⟩

/-- The rods of a placement. -/
def placedRods (a b : Nat) : List Nat := if b != 255 then [a, b] else [a]

theorem mem_placedRods {a b n : Nat} : n ∈ placedRods a b ↔ n = a ∨ n = b ∧ b ≠ 255 := by
  unfold placedRods
  split
  · next second => simp [bne_iff_ne.mp second]
  · next single => simp [show b = 255 by simpa using single]

/-- The checks of Table 5.6 that a placement which admission answers has passed. -/
structure Admitted (c mode : Nat) (w : Want) (d : Device) (h : Homed) : Prop where
  rate : ∀ e ∈ d.rendsOf c, floorRate (d.chan c).recd (d.delayOf e) e.2.recd ≤ e.2.recd.rateKbps
  delay : ∀ e ∈ d.rendsOf c, delayOk (d.chan c).recd (d.delayOf e) e.2.recd = true
  rungs : ((d.runningWith c).map (fun k => d.rungs k)).sum ≤ 256
  beads : ((d.runningWith c).map (fun k => d.cost k)).sum ≤ d.beadLimit mode
  rods : d.chooseRods c w = some (h.rodA, h.rodB)
  shares : h.shares = (d.sharesOn c (h.rodB != 255)).getD []
  channels : ∀ n ∈ placedRods h.rodA h.rodB, (d.masksOn n (some c)).length < 8
  analysis : ∀ n ∈ placedRods h.rodA h.rodB, d.rodAfe n (some c) + d.afeLoad c (h.rodB != 255) ≤ 7200000000 * 2002
  maskA : masksOk (d.rod h.rodA) (d.masksOn h.rodA (some c) ++ [(c, sumA h.shares, h.maskA)]) = true
  maskB : h.rodB ≠ 255 → masksOk (d.rod h.rodB) (d.masksOn h.rodB (some c) ++ [(c, sumB h.shares, h.maskB)]) = true

theorem admitted_of_admitHome {c mode : Nat} {starting : Bool} {w : Want} {d : Device} {h : Homed}
    (answered : d.admitHome c mode starting w = .ok h) : Admitted c mode w d h := by
  simp only [Device.admitHome] at answered
  obtain ⟨rate, answered⟩ := passed_of_ite_eq_ok answered
  obtain ⟨delay, answered⟩ := passed_of_ite_eq_ok answered
  obtain ⟨-, answered⟩ := passed_of_ite_eq_ok answered
  obtain ⟨rungs, answered⟩ := passed_of_ite_eq_ok answered
  obtain ⟨-, answered⟩ := passed_of_ite_eq_ok answered
  obtain ⟨beads, answered⟩ := passed_of_ite_eq_ok answered
  split at answered
  · exact nomatch answered
  · next a b rods =>
    obtain ⟨channels, answered⟩ := passed_of_ite_eq_ok answered
    obtain ⟨-, answered⟩ := passed_of_ite_eq_ok answered
    obtain ⟨analysis, answered⟩ := passed_of_ite_eq_ok answered
    split at answered
    · exact nomatch answered
    · obtain ⟨masks, answered⟩ := passed_of_ite_eq_ok answered
      obtain rfl := Except.ok.inj answered
      simp only [Bool.or_eq_true, not_or] at channels masks
      simp only [List.any_eq_true, decide_eq_true_eq, Bool.not_eq_true', not_exists, not_and, Nat.not_lt, Bool.not_eq_false] at rate delay channels analysis
      obtain ⟨maskA, maskB⟩ := masks
      exact {
        rate := rate
        delay := delay
        rungs := Nat.not_lt.mp rungs
        beads := Nat.not_lt.mp beads
        rods := rods
        shares := rfl
        channels := channels.1.1
        analysis := analysis
        maskA := by simpa using maskA
        maskB := fun second => by simpa [second] using maskB }

/-- Settles O23: the limits are the checks that admission has passed, and the rods it chose have the beads. -/
theorem admissionKeepsTheLimits : Obligations.AdmissionKeepsTheLimits := by
  unfold Obligations.AdmissionKeepsTheLimits
  intro c mode starting w d h answered
  have admitted := admitted_of_admitHome answered
  obtain ⟨sh, shares, fitsA, fitsB⟩ := rodsFit_of_chooseRods admitted.rods
  have placed : h.shares = sh := by rw [admitted.shares, shares, Option.getD_some]
  refine ⟨fun e mem => ⟨admitted.rate e mem, admitted.delay e mem⟩, admitted.beads, admitted.rungs,
    ⟨sh, shares, fitsA, fitsB, placed ▸ admitted.maskA, placed ▸ admitted.maskB⟩, fun n on => ?_⟩
  have placedOn := mem_placedRods.mpr on
  exact ⟨admitted.channels n placedOn, admitted.analysis n placedOn⟩

/-! ### Channel, rendition and rod commands (R158 to R167) -/

/-- A refusal, if it is one, names another status than BUSY. -/
def NeverBusy (r : Except (Nat × Nat) Homed) : Prop := ∀ e, r = .error e → e.1 ≠ stBusy

theorem neverBusy_error {e : Nat × Nat} (other : e.1 ≠ stBusy) : NeverBusy (.error e) := fun _ same => Except.error.inj same ▸ other

theorem neverBusy_check {p : Prop} {_ : Decidable p} {e : Nat × Nat} {rest : Except (Nat × Nat) Homed} (other : e.1 ≠ stBusy) (h : NeverBusy rest) :
    NeverBusy (if p then .error e else rest) := by
  split
  · exact neverBusy_error other
  · exact h

/-- Admission refuses with BAD_PARAM, BAD_STATE or NO_BEADS. -/
theorem admitHome_neverBusy (c mode : Nat) (starting : Bool) (w : Want) (d : Device) : NeverBusy (d.admitHome c mode starting w) := by
  have param : stBadParam ≠ stBusy := by decide
  have state : stBadState ≠ stBusy := by decide
  have noBeads : stNoBeads ≠ stBusy := by decide
  simp only [Device.admitHome]
  refine neverBusy_check param (neverBusy_check param (neverBusy_check state (neverBusy_check noBeads (neverBusy_check noBeads
    (neverBusy_check noBeads ?rods)))))
  case rods =>
    split
    · exact neverBusy_error noBeads
    · refine neverBusy_check noBeads (neverBusy_check noBeads (neverBusy_check noBeads ?layout))
      case layout =>
        split
        · exact neverBusy_error noBeads
        · exact neverBusy_check noBeads nofun

/-- A start completes with OK, or with STARTED_AT where it is late. -/
theorem startStatus_ne_busy (late : Bool) (k : Nat) : (if late then (stStartedAt, k) else (stOk, 0)).1 ≠ stBusy := by
  cases late
  · exact (by decide : stOk ≠ stBusy)
  · exact (by decide : stStartedAt ≠ stBusy)

section Start
variable (c : Ctx) (d : Device)

theorem channelStart_apply_dev : (channelStart.apply c d).dev =
    match d.admitStart c.handle d.modes.mode with
    | .error _ => d
    | .ok h => d.startChannel c.handle
        (gridFirst (d.chan c.handle).recd (Nat.max (if c.effect = 2 then c.effectTime else 0) (d.now + 5000 * usec))) c.tag h := by
  simp only [channelStart]
  cases d.admitStart c.handle d.modes.mode <;> rfl

theorem channelStart_ne_busy : (channelStart.apply c d).final.map (·.1) ≠ some stBusy := by
  simp only [channelStart]
  cases admission : d.admitStart c.handle d.modes.mode with
  | error e => exact fun busy => admitHome_neverBusy _ _ _ _ _ e admission (Option.some.inj busy)
  | ok h =>
    exact fun busy => startStatus_ne_busy _ _ (Option.some.inj busy)

end Start

theorem renditionClear_apply (c : Ctx) (d : Device) : renditionClear.apply c d = Done.ok (match d.rend? c.handle with
    | none => d
    | some x => (if (d.chan x.recd.channel).running && x.live then d.setRend c.handle { x with stop := some (d.chan x.recd.channel).committed }
        else d.dropRend c.handle).asRun x.recd.channel 13 c.tag (d.frameNow x.recd.channel) c.handle) := by
  simp only [renditionClear]
  cases d.rend? c.handle <;> rfl

/-- Settles O20: each command's specification applies the effect stated for it, and none of them answers BUSY. -/
theorem channelCommandsTakeEffect : Obligations.ChannelCommandsTakeEffect := by
  unfold Obligations.ChannelCommandsTakeEffect
  intro t ring entry s
  refine ⟨?channelSet, ?channelStart, ?channelClear, ?renditionSet, ?renditionClear, ?renditionStatus, ?rodStatus⟩
  case channelSet => exact commandDoes_of_ok rfl fun _ _ => rfl
  case channelStart => exact commandDoes_of_apply rfl channelStart_apply_dev channelStart_ne_busy
  case channelClear => exact commandDoes_of_ok rfl fun _ _ => rfl
  case renditionSet => exact commandDoes_of_ok rfl fun _ _ => rfl
  case renditionClear => exact commandDoes_of_ok rfl renditionClear_apply
  case renditionStatus => exact commandDoes_of_ok rfl fun _ _ => rfl
  case rodStatus => exact commandDoes_of_ok rfl fun _ _ => rfl

end Sys2Proof.Proofs

/-!
PROOF. The budget guard (06 R175, R180, R182, R183). A happening of a row changes one picture of a rendition in one of three ways: its first row mark plans it,
a row mark adds its next row, or a row in progress is put back with no more than its cap. Each way is shown to keep the account of the picture, and each
happening to be one of them.
-/
namespace Sys2Proof.Proofs

open Sys2Proof Sys2Proof.Machine Sys2Proof.Laws

/-! ### Sorted tables -/

section Tables
variable {α : Type} {t : Tab α} {k : Nat} {v : α}

/-- The numbers of a table rise strictly. -/
def Sorted (t : Tab α) : Prop := (t.map (·.1)).Pairwise (· < ·)

theorem sorted_cons {j : Nat} {w : α} : Sorted ((j, w) :: t) ↔ (∀ e ∈ t, j < e.1) ∧ Sorted t := by
  simp [Sorted]

theorem mem_of_find (found : Tab.find k t = some v) : (k, v) ∈ t := by
  induction t with
  | nil => cases found
  | cons p r ih =>
    obtain ⟨j, w⟩ := p
    by_cases same : j = k
    · simp_all [Tab.find]
    · simp_all [Tab.find]

theorem find_of_mem (sorted : Sorted t) (mem : (k, v) ∈ t) : Tab.find k t = some v := by
  induction t with
  | nil => cases mem
  | cons p r ih =>
    obtain ⟨j, w⟩ := p
    obtain ⟨below, sortedR⟩ := sorted_cons.mp sorted
    cases mem with
    | head => simp [Tab.find]
    | tail _ mem =>
      have other : j ≠ k := Nat.ne_of_lt (below _ mem)
      rw [Tab.find, if_neg other, ih sortedR mem]

theorem mem_put {e : Nat × α} (mem : e ∈ Tab.put k v t) : e = (k, v) ∨ e ∈ t := by
  induction t with
  | nil => simpa [Tab.put] using mem
  | cons p r ih =>
    obtain ⟨j, w⟩ := p
    simp only [Tab.put] at mem
    split at mem
    · simpa using mem
    · split at mem <;> grind

theorem sorted_put (sorted : Sorted t) : Sorted (Tab.put k v t) := by
  induction t with
  | nil => simp [Tab.put, Sorted]
  | cons p r ih =>
    obtain ⟨j, w⟩ := p
    obtain ⟨below, sortedR⟩ := sorted_cons.mp sorted
    simp only [Tab.put]
    split
    next first => exact sorted_cons.mpr ⟨fun e mem => by grind, sorted⟩
    next =>
      split
      next same => exact sorted_cons.mpr ⟨same ▸ below, sortedR⟩
      next => exact sorted_cons.mpr ⟨fun e mem => by grind [mem_put mem], ih sortedR⟩

/-- A record under a number above all others comes last. -/
theorem put_last (above : ∀ e ∈ t, e.1 < k) : Tab.put k v t = t ++ [(k, v)] := by
  induction t with
  | nil => rfl
  | cons p r ih =>
    obtain ⟨j, w⟩ := p
    obtain ⟨first, rest⟩ := List.forall_mem_cons.mp above
    rw [Tab.put, if_neg (Nat.lt_asymm first), if_neg (Nat.ne_of_lt first), ih rest, List.cons_append]

/-- A record is replaced in its place. -/
theorem exists_put_eq (sorted : Sorted t) (found : Tab.find k t = some v) :
    ∃ before after, t = before ++ (k, v) :: after ∧ ∀ w, Tab.put k w t = before ++ (k, w) :: after := by
  induction t with
  | nil => cases found
  | cons p r ih =>
    obtain ⟨j, u⟩ := p
    obtain ⟨below, sortedR⟩ := sorted_cons.mp sorted
    by_cases same : j = k
    · subst same
      obtain rfl : u = v := by simpa [Tab.find] using found
      exact ⟨[], r, rfl, fun w => by simp [Tab.put]⟩
    · rw [Tab.find, if_neg same] at found
      have later : j < k := below _ (mem_of_find found)
      obtain ⟨before, after, eq, puts⟩ := ih sortedR found
      refine ⟨(j, u) :: before, after, by rw [eq, List.cons_append], fun w => ?_⟩
      rw [Tab.put, if_neg (Nat.lt_asymm later), if_neg same, puts, List.cons_append]

end Tables

/-! ### The account of a picture -/

/-- What the rows of a picture have used, or may use. -/
def rowsSpent (rows : Tab RowState) : Nat := (rows.map (fun e => e.2.spent)).sum

/-- The account of a picture that has been planned. -/
structure Account (p : Picture) : Prop where
  inOrder : p.rows.map (·.1) = List.range p.rows.length
  fits : p.rows.length ≤ p.recd.rows
  balance : ((p.plan.headerBits + rowsSpent p.rows : Nat) : Int) + p.left = p.ceiling
  covers : (((p.recd.rows - p.rows.length) * p.rowCost : Nat) : Int) ≤ p.left

theorem budgetKept_of_unplanned {p : Picture} (unplanned : p.planned = false) : p.budgetKept ↔ p.rows = [] := by
  simp [Picture.budgetKept, unplanned]

theorem budgetKept_iff_account {p : Picture} (planned : p.planned = true) : p.budgetKept ↔ Account p := by
  rw [Picture.budgetKept, if_pos planned]
  exact ⟨fun ⟨inOrder, fits, balance, covers⟩ => ⟨inOrder, fits, balance, covers⟩,
    fun ⟨inOrder, fits, balance, covers⟩ => ⟨inOrder, fits, balance, covers⟩⟩

/-- Only a planned picture has rows. -/
theorem planned_of_rows {p : Picture} (kept : p.budgetKept) (begun : p.rows ≠ []) : p.planned = true := by
  cases planned : p.planned with
  | true => rfl
  | false => exact absurd ((budgetKept_of_unplanned planned).mp kept) begun

theorem Account.sorted {p : Picture} (account : Account p) : Sorted p.rows := by
  rw [Sorted, account.inOrder]
  exact List.pairwise_lt_range

theorem Account.row_lt {p : Picture} (account : Account p) : ∀ e ∈ p.rows, e.1 < p.rows.length := fun _ mem =>
  List.mem_range.mp (account.inOrder ▸ List.mem_map_of_mem mem)

/-- R182 covers the floor cost of every row to come, so a picture whose rows have all ended lies within its ceiling. -/
theorem Account.spent_le_ceiling {p : Picture} (account : Account p) : p.plan.headerBits + rowsSpent p.rows ≤ p.ceiling := by
  have balance := account.balance
  have covers := account.covers
  omega

/-- A row that has ended has spent its bits. -/
theorem rowsSpent_of_ended {rows : Tab RowState} (ended : ∀ e ∈ rows, e.2.bits ≠ none) :
    rowsSpent rows = (rows.map (fun e => e.2.bits.getD 0)).sum := by
  refine congrArg List.sum (List.map_congr_left fun e mem => ?_)
  obtain ⟨bits, has⟩ := Option.ne_none_iff_exists'.mp (ended e mem)
  rw [RowState.spent, has, Option.getD_some, Option.getD_some]

theorem spent_of_open {r : RowState} (unended : r.bits = none) : r.spent = r.cap := by
  rw [RowState.spent, unended, Option.getD_none]

theorem rowsSpent_append (rows : Tab RowState) (k : Nat) (r : RowState) : rowsSpent (rows ++ [(k, r)]) = rowsSpent rows + r.spent := by
  simp [rowsSpent]

/-! ### A row in progress is put back (R182, R183) -/

/-- What a row in progress is put back with, the picture is credited. -/
theorem account_putRow {p : Picture} {k : Nat} {r r' : RowState} {left : Int} (account : Account p) (found : Tab.find k p.rows = some r)
    (credited : left + r'.spent = p.left + r.spent) (within : r'.spent ≤ r.spent) :
    Account { p with rows := Tab.put k r' p.rows, left := left } := by
  obtain ⟨before, after, rows, puts⟩ := exists_put_eq account.sorted found
  obtain ⟨inOrder, fits, balance, covers⟩ := account
  have spent : rowsSpent (Tab.put k r' p.rows) + r.spent = rowsSpent p.rows + r'.spent := by
    rw [puts, rows]
    simp only [rowsSpent, List.map_append, List.map_cons, List.sum_append, List.sum_cons]
    omega
  have numbers : (Tab.put k r' p.rows).map (·.1) = p.rows.map (·.1) := by
    rw [puts, rows]
    simp
  have length : (Tab.put k r' p.rows).length = p.rows.length := by
    rw [puts, rows]
    simp
  exact {
    inOrder := by rw [numbers, length, inOrder]
    fits := by rw [length]; exact fits
    balance := by dsimp only; omega
    covers := by
      rw [length]
      exact Int.le_trans covers (by dsimp only; omega) }

theorem budgetKept_putRow {p : Picture} {k : Nat} {r r' : RowState} {left : Int} (kept : p.budgetKept) (found : Tab.find k p.rows = some r)
    (credited : left + r'.spent = p.left + r.spent) (within : r'.spent ≤ r.spent) :
    ({ p with rows := Tab.put k r' p.rows, left := left } : Picture).budgetKept := by
  have planned := planned_of_rows kept (List.ne_nil_of_mem (mem_of_find found))
  exact (budgetKept_iff_account (p := { p with rows := Tab.put k r' p.rows, left := left }) planned).mpr
    (account_putRow ((budgetKept_iff_account planned).mp kept) found credited within)

@[simp] theorem withCol_spent (r : RowState) (right : Bool) (l : List Point) : (r.withCol right l).spent = r.spent := by
  cases right <;> rfl

@[simp] theorem restart_spent (p : Picture) (r : RowState) (right : Bool) (l : List Point) : (restart p r right l).spent = r.spent := by
  induction l with
  | nil => exact withCol_spent r right []
  | cons q l ih =>
    simp only [restart]
    split
    · exact withCol_spent r right (q :: l)
    · exact ih

/-! ### The next row is begun (R182) -/

/-- The guard's cap for a row: its floor cost, or what leaves the rows to come theirs. -/
theorem exists_guardRow {p : Picture} {k : Nat} (x : Rendition) (ch : Channel) (forced : Bool) (f : Nat) (more : k < p.recd.rows)
    (covers : (((p.recd.rows - k) * p.rowCost : Nat) : Int) ≤ p.left) :
    ∃ row : RowState, row.bits = none ∧ (guardRow x ch forced f k p).rows = Tab.put k row p.rows ∧
      (guardRow x ch forced f k p).left = p.left - row.cap ∧ (((p.recd.rows - k - 1) * p.rowCost : Nat) : Int) ≤ p.left - row.cap := by
  refine ⟨_, rfl, rfl, rfl, ?_⟩
  have oneMore : (p.recd.rows - k) * p.rowCost = (p.recd.rows - k - 1) * p.rowCost + p.rowCost := by
    rw [← Nat.succ_mul, Nat.succ_eq_add_one, Nat.sub_add_cancel (Nat.sub_pos_of_lt more)]
  dsimp only
  generalize (p.recd.rows - k - 1) * p.rowCost = after at oneMore
  rw [oneMore] at covers
  split
  next floored => omega
  next enough =>
    simp only [Bool.or_eq_true, decide_eq_true_eq, not_or] at enough
    omega

theorem account_guardRow {p : Picture} (x : Rendition) (ch : Channel) (forced : Bool) (f : Nat) (account : Account p)
    (more : p.rows.length < p.recd.rows) : Account (guardRow x ch forced f p.rows.length p) := by
  obtain ⟨row, unended, rows, left, covers⟩ := exists_guardRow x ch forced f more account.covers
  rw [put_last account.row_lt] at rows
  obtain ⟨inOrder, fits, balance, -⟩ := account
  constructor
  case inOrder => simp [rows, inOrder, List.range_succ]
  case fits =>
    rw [rows, List.length_append, List.length_singleton]
    exact more
  case balance =>
    change ((p.plan.headerBits + rowsSpent (guardRow x ch forced f p.rows.length p).rows : Nat) : Int) + _ = p.ceiling
    rw [rows, left, rowsSpent_append, spent_of_open unended]
    omega
  case covers =>
    change (((p.recd.rows - (guardRow x ch forced f p.rows.length p).rows.length) * p.rowCost : Nat) : Int) ≤ _
    rw [rows, left, List.length_append, List.length_singleton, Nat.sub_add_eq]
    exact covers

/-! ### A picture is planned (R180) -/

/-- What the first row mark makes of picture `p`: a planned picture with the same rows, whose ceiling covers its headers and the floor cost of all rows. -/
structure PlannedFrom (p q : Picture) : Prop where
  planned : q.planned = true
  recd : q.recd = p.recd
  rows : q.rows = p.rows
  left : q.left = (q.ceiling : Int) - q.plan.headerBits
  covers : q.plan.headerBits + q.recd.rows * q.rowCost ≤ q.ceiling

theorem PlannedFrom.budgetKept {p q : Picture} (plan : PlannedFrom p q) (unbegun : p.rows = []) : q.budgetKept := by
  obtain ⟨planned, -, rows, left, covers⟩ := plan
  rw [unbegun] at rows
  refine (budgetKept_iff_account planned).mpr ⟨?_, ?_, ?_, ?_⟩
  · rw [rows]; rfl
  · simp [rows]
  · simp only [rows, rowsSpent, List.map_nil, List.sum_nil]
    omega
  · simp only [rows, List.length_nil, Nat.sub_zero]
    omega

theorem headerBits_add_le_pictureCeiling (x : Rendition) (ch : Channel) (p : Picture) (f : Nat) :
    p.plan.headerBits + p.recd.rows * p.rowCost ≤ pictureCeiling x ch p f := by
  refine Nat.le_trans ?_ (Nat.le_max_right _ _)
  omega

theorem plannedFrom_of_ceiling {p q : Picture} {ceil : Nat} (planned : q.planned = true) (recd : q.recd = p.recd) (rows : q.rows = p.rows)
    (covers : q.plan.headerBits + q.recd.rows * q.rowCost ≤ ceil) :
    PlannedFrom p { q with ceiling := ceil, left := (ceil : Int) - (q.plan.headerBits : Nat) } :=
  ⟨planned, recd, rows, rfl, covers⟩

theorem rends_foldl_setRod (g : Device → Nat → Rod) (rods : List Nat) (d : Device) :
    (rods.foldl (fun d r => d.setRod r (g d r)) d).code.rends = d.code.rends :=
  foldl_keeps (part := fun d : Device => d.code.rends) (step := fun d r => d.setRod r (g d r)) (fun _ _ => rfl) rods d

/-- `planPicture` puts the planned picture back, and of the renditions changes no other. -/
theorem exists_planPicture {n f : Nat} {d : Device} {x : Rendition} {p : Picture} (given : Option RctWrite) (here : Tab.find n d.code.rends = some x)
    (begun : x.pic? f = some p) :
    ∃ y q, (d.planPicture n f given).code.rends = Tab.put n y d.code.rends ∧ y.pics = Tab.put f q x.pics ∧ PlannedFrom p q := by
  unfold Device.planPicture
  split
  next absent => cases absent.symm.trans here
  next x' here' =>
    cases here'.symm.trans here
    split
    next absent => cases absent.symm.trans begun
    next p' begun' =>
      cases begun'.symm.trans begun
      extract_lets c ch b w base texts pad anc heads plan p1 ceil p2 x1 x2 d1
      have pics : x2.pics = Tab.put f p2 x.pics := by
        unfold x2
        split <;> rfl
      refine ⟨x2, p2, ?_, pics, plannedFrom_of_ceiling rfl rfl rfl (headerBits_add_le_pictureCeiling x ch p1 f)⟩
      split
      · exact (congrArg CodingState.rends (raise_code _ _)).trans (rends_foldl_setRod _ _ _)
      · rfl

/-! ### The pictures of a rendition -/

/-- The pictures of a rendition are in the order of their frames, and each keeps its budget. -/
def PicsKept (pics : Tab Picture) : Prop := Sorted pics ∧ ∀ e ∈ pics, e.2.budgetKept

theorem budgetsKept_iff (n : Nat) (d : Device) : d.budgetsKept n ↔ ∀ x, Tab.find n d.code.rends = some x → PicsKept x.pics := Iff.rfl

theorem picsKept_put {pics : Tab Picture} {f : Nat} {p : Picture} (kept : PicsKept pics) (keeps : p.budgetKept) : PicsKept (Tab.put f p pics) := by
  obtain ⟨sorted, each⟩ := kept
  refine ⟨sorted_put sorted, fun e mem => ?_⟩
  obtain rfl | mem := mem_put mem
  · exact keeps
  · exact each e mem

section Kept
variable {n : Nat} {d d' : Device}

theorem budgetsKept_of_rends (same : d'.code.rends = d.code.rends) (kept : d.budgetsKept n) : d'.budgetsKept n := by
  rwa [budgetsKept_iff, same]

theorem budgetsKept_of_put {x : Rendition} (put : d'.code.rends = Tab.put n x d.code.rends) (kept : PicsKept x.pics) : d'.budgetsKept n := by
  intro y found
  rw [put, find_put_same] at found
  exact Option.some.inj found ▸ kept

theorem budgetsKept_setPic {f : Nat} {p : Picture} (kept : d.budgetsKept n) (keeps : p.budgetKept) : (d.setPic n f p).budgetsKept n := by
  unfold Device.setPic
  split
  · exact kept
  next x found => exact budgetsKept_of_put rfl (picsKept_put (kept x found) keeps)

theorem budgetKept_of_pic {x : Rendition} {f : Nat} {p : Picture} (kept : d.budgetsKept n) (here : Tab.find n d.code.rends = some x)
    (begun : x.pic? f = some p) : p.budgetKept := (kept x here).2 _ (mem_of_find begun)

/-! ### Rows in progress (R175, R183) -/

/-- A row in progress is an unended row of a picture of the rendition. -/
theorem openRow_eq_some {f k : Nat} {x : Rendition} {p : Picture} {r : RowState} (opened : d.openRow n f k = some (x, p, r)) :
    Tab.find n d.code.rends = some x ∧ x.pic? f = some p ∧ Tab.find k p.rows = some r ∧ r.bits = none := by
  unfold Device.openRow at opened
  split at opened
  · cases opened
  next y here =>
    split at opened
    · cases opened
    next q begun =>
      split at opened
      · cases opened
      next row found =>
        split at opened
        next unended =>
          cases opened
          exact ⟨here, begun, found, Option.isNone_iff_eq_none.mp unended⟩
        · cases opened

theorem budgetsKept_countFloor (f : Nat) (budget : Bool) (kept : d.budgetsKept n) : (d.countFloor n f budget).budgetsKept n := by
  unfold Device.countFloor
  split
  · exact kept
  next x here =>
    split
    · exact kept
    · refine budgetsKept_of_put (d := d) (x := { x with floorRows := satAdd max64 x.floorRows 1 }) ?_ (kept x here)
      rw [raise_code]
      exact rends_foldl_setRod _ _ _

theorem budgetsKept_ite {p : Prop} {_ : Decidable p} {e : Device} (yes : d.budgetsKept n) (no : e.budgetsKept n) :
    (if p then d else e).budgetsKept n := by
  split
  · exact yes
  · exact no

/-- Within its cap or back at a restart point, a row after a block may still use its cap. -/
theorem budgetsKept_peBlock (f k : Nat) (b : CodedBlock) (kept : d.budgetsKept n) : (peBlock n f k b d).budgetsKept n := by
  unfold peBlock
  split
  · exact kept
  next x p r opened =>
    obtain ⟨here, begun, found, -⟩ := openRow_eq_some opened
    have keeps {row : RowState} (same : row.spent = r.spent) : ({ p with rows := Tab.put k row p.rows } : Picture).budgetKept :=
      budgetKept_putRow (budgetKept_of_pic kept here begun) found (by rw [same]) (Nat.le_of_eq same)
    refine budgetsKept_ite kept (budgetsKept_setPic kept (keeps ?_))
    generalize (if b.right = true then r.right else r.points) = done
    split
    · exact withCol_spent r b.right _
    · exact restart_spent p r b.right done

/-- A row ends within its cap, and its picture is credited with what it has not used. -/
theorem budgetsKept_endRow (f k bits : Nat) (cause : Option FloorCause) (kept : d.budgetsKept n) : (d.endRow n f k bits cause).budgetsKept n := by
  unfold Device.endRow
  split
  · exact kept
  next x p r opened =>
    obtain ⟨here, begun, found, unended⟩ := openRow_eq_some opened
    extract_lets c b d1
    have capped : b ≤ r.cap := by
      refine Nat.le_trans (Nat.min_le_right _ _) ?_
      split
      · exact Nat.min_le_left _ _
      · exact Nat.le_refl _
    have kept1 : d1.budgetsKept n := by
      refine budgetsKept_setPic kept (budgetKept_putRow (budgetKept_of_pic kept here begun) found ?_ ?_)
      · rw [spent_of_open unended]
        simp only [RowState.spent, Option.getD_some]
        omega
      · rw [spent_of_open unended]
        exact capped
    clear_value d1 b c
    cases c with
    | some c => exact budgetsKept_countFloor f _ kept1
    | none => exact budgetsKept_of_rends (rends_foldl_setRod _ _ _) kept1

theorem budgetsKept_rowCoded (f k bits : Nat) (kept : d.budgetsKept n) : (rowCoded n f k bits d).budgetsKept n := by
  unfold rowCoded
  split
  · exact kept
  · exact budgetsKept_ite (budgetsKept_endRow f k bits none kept) kept

theorem budgetsKept_floorTrigger (f k bits : Nat) (kept : d.budgetsKept n) : (floorTrigger n f k bits d).budgetsKept n := by
  unfold floorTrigger
  split
  · exact kept
  · exact budgetsKept_ite (budgetsKept_endRow f k bits (some .late) kept) kept

/-! ### Row marks (R63, R180, R182) -/

theorem nextRow_eq_some {pics : Tab Picture} {f k : Nat} {p : Picture} (isNext : nextRow pics = some (f, k, p)) :
    (f, p) ∈ pics ∧ k = p.rows.length ∧ p.rows.length < p.recd.rows := by
  induction pics with
  | nil => cases isNext
  | cons e r ih =>
    obtain ⟨g, q⟩ := e
    rw [nextRow] at isNext
    split at isNext
    next more =>
      cases isNext
      exact ⟨.head _, rfl, more⟩
    next =>
      obtain ⟨mem, rest⟩ := ih isNext
      exact ⟨.tail _ mem, rest⟩

@[simp] theorem rehome_code (c f : Nat) : (d.rehome c f).code = d.code := by
  unfold Device.rehome
  split
  · rfl
  · split
    · rfl
    · split <;> rfl

/-- The next row of a planned picture is begun. -/
theorem budgetsKept_guardRow {x : Rendition} {p : Picture} {f : Nat} (y : Rendition) (ch : Channel) (forced : Bool) (kept : d.budgetsKept n)
    (here : Tab.find n d.code.rends = some x) (begun : x.pic? f = some p) (planned : p.planned = true) (more : p.rows.length < p.recd.rows) :
    (d.setPic n f (guardRow y ch forced f p.rows.length p)).budgetsKept n :=
  budgetsKept_setPic kept ((budgetKept_iff_account (p := guardRow y ch forced f p.rows.length p) planned).mpr
    (account_guardRow y ch forced f ((budgetKept_iff_account planned).mp (budgetKept_of_pic kept here begun)) more))

/-- The first row mark plans the picture, and leaves every picture its account. -/
theorem planPicture_plans {x : Rendition} {p : Picture} {f : Nat} (given : Option RctWrite) (kept : d.budgetsKept n)
    (here : Tab.find n d.code.rends = some x) (begun : x.pic? f = some p) (unbegun : p.rows = []) :
    (d.planPicture n f given).budgetsKept n ∧
      ∃ y q, Tab.find n (d.planPicture n f given).code.rends = some y ∧ y.pic? f = some q ∧ PlannedFrom p q := by
  obtain ⟨y, q, rends, pics, plannedFrom⟩ := exists_planPicture given here begun
  exact ⟨budgetsKept_of_put rends (pics ▸ picsKept_put (kept x here) (plannedFrom.budgetKept unbegun)),
    y, q, by rw [rends, find_put_same], by rw [Rendition.pic?, pics, find_put_same], plannedFrom⟩

/-- Row 0 comes with the plan of its picture; a later row has a picture that is planned. -/
theorem budgetsKept_beginRow {x : Rendition} {p : Picture} {f : Nat} (c : Nat) (given : Option RctWrite) (kept : d.budgetsKept n)
    (here : Tab.find n d.code.rends = some x) (begun : x.pic? f = some p) (more : p.rows.length < p.recd.rows) :
    (d.beginRow n f p.rows.length p c given).budgetsKept n := by
  have kept1 : (d.rehome c f).budgetsKept n := budgetsKept_of_rends (by rw [rehome_code]) kept
  have here1 : Tab.find n (d.rehome c f).code.rends = some x := by rw [rehome_code, here]
  unfold Device.beginRow
  cases planned : p.planned with
  | true =>
    simp only [Bool.not_true, Bool.and_false, Bool.false_eq_true, if_false, here1, begun]
    exact budgetsKept_guardRow x _ _ kept1 here1 begun planned more
  | false =>
    have unbegun := (budgetKept_of_unplanned planned).mp (budgetKept_of_pic kept here begun)
    have first : p.rows.length = 0 := by rw [unbegun, List.length_nil]
    obtain ⟨kept2, y, q, here2, begun2, plan⟩ := planPicture_plans given kept1 here1 begun unbegun
    have length : q.rows.length = 0 := by rw [plan.rows, first]
    simp only [first, decide_true, Bool.not_false, Bool.and_self, if_true, here2, begun2]
    rw [← length]
    exact budgetsKept_guardRow y _ _ kept2 here2 begun2 plan.planned (by rwa [plan.rows, plan.recd])

theorem budgetsKept_rowMark (plan : Option RctWrite) (kept : d.budgetsKept n) : (rowMark n plan d).budgetsKept n := by
  unfold rowMark
  split
  · exact kept
  next x here =>
    split
    · exact kept
    next f k p isNext =>
      obtain ⟨mem, rfl, more⟩ := nextRow_eq_some isNext
      have begun : x.pic? f = some p := find_of_mem (kept x here).1 mem
      exact budgetsKept_ite (budgetsKept_beginRow x.recd.channel plan kept here begun more) kept

end Kept

/-- Settles O26: each happening of a row plans a picture, begins its next row or puts a row back within its cap, and each of these keeps the account. -/
theorem theGuardKeepsPicturesWithinTheirCeilings : Obligations.TheGuardKeepsPicturesWithinTheirCeilings := by
  unfold Obligations.TheGuardKeepsPicturesWithinTheirCeilings
  refine ⟨?happenings, ?ended⟩
  case happenings =>
    intro n t f k bits plan b s s' before happened
    have kept : (s.dev.at_ t).budgetsKept n := budgetsKept_of_rends (by rw [at__code]) before
    obtain marked | delivered | coded | triggered := happened
    · cases marked
      exact budgetsKept_rowMark plan kept
    · cases delivered
      exact budgetsKept_peBlock f k b kept
    · cases coded
      exact budgetsKept_rowCoded f k bits kept
    · cases triggered
      exact budgetsKept_floorTrigger f k bits kept
  case ended =>
    intro p kept planned _ ended
    rw [← rowsSpent_of_ended ended]
    exact ((budgetKept_iff_account planned).mp kept).spent_le_ceiling

end Sys2Proof.Proofs

/-!
PROOF. Output flows (07): the output commands, the launches of a row, the matrix of ST 2022-1 FEC, and the packets of a service. A matrix is followed from packet to
packet by what the packets so far have made of it (`Made`); a service is followed through its packets by what no packet of it changes.
-/
namespace Sys2Proof.Proofs

open Sys2Proof Sys2Proof.Machine Sys2Proof.Laws

/-! ### Output commands (Tables 7.5 to 7.10) -/

theorem serviceClear_apply (c : Ctx) (d : Device) : serviceClear.apply c d = Done.ok (match d.liveOfRend c.handle, Tab.find c.handle d.out.services with
    | some k, some x =>
      let y := { x with gone := true, recd := { x.recd with enable := false, journal := false }, was := keepWas (d.chan k).committed x.recd x.was }
      { d with out := d.out.setSvc c.handle y, journal := d.journal.release c.handle true }
    | _, _ => { d with out := { d.out with services := Tab.del c.handle d.out.services }, journal := d.journal.release c.handle true }) := by
  simp only [serviceClear]
  cases d.liveOfRend c.handle with
  | none => rfl
  | some k => cases Tab.find c.handle d.out.services <;> rfl

theorem subscriberClear_apply (c : Ctx) (d : Device) : subscriberClear.apply c d = Done.ok (match Tab.find c.handle d.out.subs with
    | none => d
    | some x => match d.liveOfRend x.recd.service with
      | some _ => { d with out := d.out.setSub c.handle { x with gone := true, recd := { x.recd with enable := false }, was := d.keepSub x.recd x.was } }
      | none => { d with out := { d.out with subs := Tab.del c.handle d.out.subs } }) := by
  simp only [subscriberClear]
  cases Tab.find c.handle d.out.subs with
  | none => rfl
  | some x =>
    simp only
    cases d.liveOfRend x.recd.service <;> rfl

theorem subscriberKeySet_apply (c : Ctx) (d : Device) : subscriberKeySet.apply c d = Done.ok (match Tab.find c.handle d.out.subs with
    | none => d
    | some x =>
      let k : KeySlot := ⟨true, c.b 0 1, c.b 2 1, c.b 4 4 % 2 ^ (8 * c.b 2 1), (c.block.drop 8).take (if c.b 0 1 = 1 then 16 else 32), (c.block.drop 40).take 12⟩
      { d with out := d.out.setSub c.handle { x with
        slot0 := if c.b 1 1 = 0 then k else x.slot0, slot1 := if c.b 1 1 = 1 then k else x.slot1, effect := some (c.b 1 1, timeOfWord c.block 56) } }) := by
  simp only [subscriberKeySet]
  cases Tab.find c.handle d.out.subs <;> rfl

/-- Settles O27: each command's specification applies the effect stated for it and completes with OK. -/
theorem outputCommandsTakeEffect : Obligations.OutputCommandsTakeEffect := by
  unfold Obligations.OutputCommandsTakeEffect
  intro t ring entry s
  refine ⟨?serviceSet, ?serviceClear, ?subscriberSet, ?subscriberClear, ?keySet, ?programmeOut, ?serviceStatus, ?subscriberStatus⟩
  case serviceSet => exact commandDoes_of_ok rfl fun _ _ => rfl
  case serviceClear => exact commandDoes_of_ok rfl serviceClear_apply
  case subscriberSet => exact commandDoes_of_ok rfl fun _ _ => rfl
  case subscriberClear => exact commandDoes_of_ok rfl subscriberClear_apply
  case keySet => exact commandDoes_of_ok rfl subscriberKeySet_apply
  case programmeOut => exact commandDoes_of_ok rfl fun _ _ => rfl
  case serviceStatus => exact commandDoes_of_ok rfl fun _ _ => rfl
  case subscriberStatus => exact commandDoes_of_ok rfl fun _ _ => rfl

/-! ### The launches of a row (R170, R215, R216) -/

theorem launchAfter_zero (pace b g : Nat) : launchAfter pace b g 0 = 0 := by simp [launchAfter]

theorem launchAfter_mono (pace b g : Nat) {x y : Nat} (h : x ≤ y) : launchAfter pace b g x ≤ launchAfter pace b g y := by
  have atPace : x * 100000000 / pace ≤ y * 100000000 / pace := Nat.div_le_div_right (Nat.mul_le_mul_right _ h)
  have atRow : x * g / (b * 65536) ≤ y * g / (b * 65536) := Nat.div_le_div_right (Nat.mul_le_mul_right _ h)
  simp only [launchAfter]
  split
  · split
    · exact Nat.le_refl _
    · exact atRow
  · split
    · exact atPace
    · exact Nat.le_min.mpr ⟨Nat.le_trans (Nat.min_le_left _ _) atPace, Nat.le_trans (Nat.min_le_right _ _) atRow⟩

/-- A row goes out no slower than its bits in its gap (R215). -/
theorem launchAfter_le_atRow {b : Nat} (pace g beta : Nat) (bits : b ≠ 0) : launchAfter pace b g beta ≤ beta * g / (b * 65536) := by
  simp only [launchAfter, bits, if_false]
  split
  · exact Nat.le_refl _
  · exact Nat.min_le_right _ _

/-- A part of a row's bits is out before the next row, in whole nanoseconds of its gap (R215). -/
theorem launchAfter_lt_gap {b g beta : Nat} (pace : Nat) (part : beta < b) (gap : 0 < g) : launchAfter pace b g beta * nsec < g := by
  have atRow := launchAfter_le_atRow pace g beta (show b ≠ 0 by omega)
  have whole : b * (launchAfter pace b g beta * nsec) < b * g := calc
    b * (launchAfter pace b g beta * nsec) = launchAfter pace b g beta * (b * 65536) := Nat.mul_left_comm _ _ _
    _ ≤ beta * g / (b * 65536) * (b * 65536) := Nat.mul_le_mul_right _ atRow
    _ ≤ beta * g := Nat.div_mul_le_self _ _
    _ < b * g := Nat.mul_lt_mul_of_pos_right part gap
  exact Nat.lt_of_mul_lt_mul_left whole

section Launches
variable (pace b g first : Nat)

@[simp] theorem launches_map_snd (beta : Nat) (ps : List Bytes) : (launches pace b g first beta ps).map (·.2) = ps := by
  induction ps generalizing beta with
  | nil => rfl
  | cons p r ih => rw [launches, List.map_cons, ih]

theorem launches_length (beta : Nat) (ps : List Bytes) : (launches pace b g first beta ps).length = ps.length := by
  have payloads := congrArg List.length (launches_map_snd pace b g first beta ps)
  rwa [List.length_map] at payloads

theorem le_of_mem_launches {beta : Nat} {ps : List Bytes} {e : Nat × Bytes} (mem : e ∈ launches pace b g first beta ps) :
    first + launchAfter pace b g beta * nsec ≤ e.1 := by
  induction ps generalizing beta with
  | nil => cases mem
  | cons p r ih =>
    rcases List.mem_cons.mp mem with rfl | later
    · exact Nat.le_refl _
    · have grows := launchAfter_mono pace b g (Nat.le_add_right beta (8 * p.length))
      exact Nat.le_trans (Nat.add_le_add_left (Nat.mul_le_mul_right _ grows) _) (ih later)

theorem launches_pairwise (beta : Nat) (ps : List Bytes) : ((launches pace b g first beta ps).map (·.1)).Pairwise (· ≤ ·) := by
  induction ps generalizing beta with
  | nil => exact .nil
  | cons p r ih =>
    refine List.pairwise_cons.mpr ⟨fun x mem => ?_, ih _⟩
    obtain ⟨e, later, rfl⟩ := List.mem_map.mp mem
    exact Nat.le_trans (Nat.add_le_add_left (Nat.mul_le_mul_right _ (launchAfter_mono pace b g (Nat.le_add_right ..))) _)
      (le_of_mem_launches pace b g first later)

/-- A packet that is not empty leaves before all of the row's bits are out. -/
theorem lt_of_mem_launches {beta : Nat} {ps : List Bytes} {e : Nat × Bytes} (gap : 0 < g) (full : ∀ p ∈ ps, p ≠ [])
    (row : beta + 8 * (ps.map List.length).sum ≤ b) (mem : e ∈ launches pace b g first beta ps) : e.1 < first + g := by
  induction ps generalizing beta with
  | nil => cases mem
  | cons p r ih =>
    rw [List.map_cons, List.sum_cons] at row
    rcases List.mem_cons.mp mem with rfl | later
    · have some_ : 0 < p.length := List.length_pos_iff.mpr (full p (.head _))
      exact Nat.add_lt_add_left (launchAfter_lt_gap pace (by omega) gap) first
    · exact ih (fun q here => full q (.tail _ here)) (by omega) later

end Launches

/-- Settles O28: a launch lies as far behind the row's first as the bits before it take, which grows from packet to packet and is less than the gap. -/
theorem rowLaunchesStayWithinTheirRow : Obligations.RowLaunchesStayWithinTheirRow := by
  unfold Obligations.RowLaunchesStayWithinTheirRow
  intro pace g first ps gap full
  refine ⟨launches_map_snd .., fun e head => ?first, launches_pairwise .., fun e mem => ⟨?within, ?before⟩⟩
  case first =>
    cases ps with
    | nil => cases head
    | cons p r =>
      cases head
      rw [launchAfter_zero, Nat.zero_mul, Nat.add_zero]
  case within => exact Nat.le_trans (Nat.le_add_right ..) (le_of_mem_launches _ _ _ _ mem)
  case before => exact lt_of_mem_launches _ _ _ _ gap full (Nat.le_of_eq (Nat.zero_add _)) mem

/-! ### A matrix of FEC (R222, R223, R225) -/

/-- The matrix that a service's next packet enters. -/
def enteredMatrix (r : ServiceRec) (takers : List Nat) (s : Service) : FecMatrix :=
  if s.matrix.packets.isEmpty then FecMatrix.start r takers else s.matrix

/-- The next packet enters a matrix of this record and these subscribers that holds `k` packets. -/
def InMatrix (r : ServiceRec) (takers : List Nat) (k : Nat) (s : Service) : Prop :=
  ∃ ps, enteredMatrix r takers s = { FecMatrix.start r takers with packets := ps } ∧ ps.length = k

/-- Packet `i` of a matrix ends a column that is protected. -/
def endsColumn (r : ServiceRec) (i : Nat) : Bool := r.colFec && (r.fecD - 1) * r.fecL ≤ i

/-- Packet `i` of a matrix ends a row that is protected. -/
def endsRow (r : ServiceRec) (i : Nat) : Bool := r.rowFec && i % r.fecL == r.fecL - 1

theorem inMatrix_zero {s : Service} (r : ServiceRec) (takers : List Nat) (boundary : s.matrix.packets = []) : InMatrix r takers 0 s :=
  ⟨[], by rw [enteredMatrix, boundary]; rfl, rfl⟩

/-- The packets that end something, of the first `k` of a matrix. -/
def endsBefore (ends : Nat → Bool) (k : Nat) : Nat := (List.range k).countP ends

theorem endsBefore_succ (ends : Nat → Bool) (k : Nat) : endsBefore ends (k + 1) = endsBefore ends k + if ends k then 1 else 0 := by
  rw [endsBefore, List.range_succ, List.countP_append, List.countP_singleton, endsBefore]

theorem endsBefore_add (ends : Nat → Bool) (a b : Nat) : endsBefore ends (a + b) = endsBefore ends a + endsBefore (fun i => ends (a + i)) b := by
  rw [endsBefore, List.range_add, List.countP_append, List.countP_map]
  rfl

theorem endsBefore_eq_zero {ends : Nat → Bool} {k : Nat} (never : ∀ i < k, ends i = false) : endsBefore ends k = 0 :=
  List.countP_eq_zero.mpr fun i mem => Bool.eq_false_iff.mp (never i (List.mem_range.mp mem))

theorem endsBefore_eq_all {ends : Nat → Bool} {k : Nat} (always : ∀ i < k, ends i = true) : endsBefore ends k = k :=
  (List.countP_eq_length.mpr fun i mem => always i (List.mem_range.mp mem)).trans List.length_range

/-- The last row of a matrix has an end for each column. -/
theorem endsBefore_endsColumn {r : ServiceRec} (deep : 0 < r.fecD) :
    endsBefore (endsColumn r) (r.fecL * r.fecD) = if r.colFec then r.fecL else 0 := by
  cases on : r.colFec with
  | false => exact endsBefore_eq_zero fun i _ => by rw [endsColumn, on, Bool.false_and]
  | true =>
    have size : r.fecL * r.fecD = (r.fecD - 1) * r.fecL + r.fecL := by
      rw [← Nat.succ_mul, Nat.succ_eq_add_one, Nat.sub_add_cancel deep, Nat.mul_comm]
    have above : endsBefore (endsColumn r) ((r.fecD - 1) * r.fecL) = 0 :=
      endsBefore_eq_zero fun i low => by rw [endsColumn, on, Bool.true_and, decide_eq_false (Nat.not_le_of_lt low)]
    have lastRow : endsBefore (fun i => endsColumn r ((r.fecD - 1) * r.fecL + i)) r.fecL = r.fecL :=
      endsBefore_eq_all fun i _ => by rw [endsColumn, on, Bool.true_and, decide_eq_true (Nat.le_add_right ..)]
    rw [size, endsBefore_add, above, lastRow, Nat.zero_add, if_pos rfl]

/-- Of the packets of one row, the last ends it. -/
theorem endsBefore_one_row {r : ServiceRec} (wide : 0 < r.fecL) (on : r.rowFec = true) (row : Nat) :
    endsBefore (fun i => endsRow r (r.fecL * row + i)) r.fecL = 1 := by
  obtain ⟨w, width⟩ := Nat.exists_eq_add_one.mpr wide
  have place (i : Nat) (low : i < r.fecL) : endsRow r (r.fecL * row + i) = (i == w) := by
    rw [endsRow, on, Bool.true_and, Nat.mul_add_mod, Nat.mod_eq_of_lt low, width, Nat.add_sub_cancel]
  have last : endsRow r (r.fecL * row + w) = true := by rw [place w (by omega), beq_self_eq_true]
  have before : endsBefore (fun i => endsRow r (r.fecL * row + i)) w = 0 :=
    endsBefore_eq_zero fun i low => by rw [place i (by omega), beq_eq_false_iff_ne]; exact Nat.ne_of_lt low
  calc endsBefore (fun i => endsRow r (r.fecL * row + i)) r.fecL
    _ = endsBefore (fun i => endsRow r (r.fecL * row + i)) (w + 1) := congrArg _ width
    _ = 1 := by rw [endsBefore_succ, before, last, if_pos rfl]

theorem endsBefore_rows {r : ServiceRec} (wide : 0 < r.fecL) (on : r.rowFec = true) (rows : Nat) :
    endsBefore (endsRow r) (r.fecL * rows) = rows := by
  induction rows with
  | zero => rfl
  | succ rows ih => rw [Nat.mul_succ, endsBefore_add, ih, endsBefore_one_row wide on]

theorem endsBefore_endsRow {r : ServiceRec} (wide : 0 < r.fecL) :
    endsBefore (endsRow r) (r.fecL * r.fecD) = if r.rowFec then r.fecD else 0 := by
  cases on : r.rowFec with
  | false => exact endsBefore_eq_zero fun i _ => by rw [endsRow, on, Bool.false_and]
  | true => exact endsBefore_rows wide on r.fecD

/-- What a packet that enters a matrix as its packet `k` does to its service, and the FEC packets it makes. -/
structure Entered (r : ServiceRec) (takers : List Nat) (k : Nat) (s : Service) (q : Service × List FecPacket) : Prop where
  nextSeq : q.1.nextSeq = s.nextSeq
  packets : q.1.packets = s.packets
  full : k + 1 = r.fecL * r.fecD → q.1.matrix.packets = []
  filling : k + 1 ≠ r.fecL * r.fecD → InMatrix r takers (k + 1) q.1
  columns : (q.2.filter (fun q => q.kind == 1)).length = if endsColumn r k then 1 else 0
  rows : (q.2.filter (fun q => q.kind == 2)).length = if endsRow r k then 1 else 0
  takers : ∀ p ∈ q.2, p.takers = takers

section FecPackets
variable {x y : FecPacket} (column : x.kind = 1) (row : y.kind = 2) (c w : Bool)
include column row

theorem length_filter_columns :
    (((if c then [x] else []) ++ if w then [y] else []).filter (fun q => q.kind == 1)).length = if c then 1 else 0 := by
  cases c <;> cases w <;> simp [column, row]

theorem length_filter_rows :
    (((if c then [x] else []) ++ if w then [y] else []).filter (fun q => q.kind == 2)).length = if w then 1 else 0 := by
  cases c <;> cases w <;> simp [column, row]

end FecPackets

section Matrix
variable {r : ServiceRec} {takers : List Nat} (n launch : Nat)

theorem entered_fecTake (on : r.colFec = true ∨ r.rowFec = true) {k : Nat} {s : Service} (p : Bytes) (inside : InMatrix r takers k s) :
    Entered r takers k s (s.fecTake r n launch takers p) := by
  obtain ⟨ps, matrix, rfl⟩ := inside
  have protects : (!r.colFec && !r.rowFec) = false := by
    rcases on with on | on <;> simp [on]
  unfold enteredMatrix at matrix
  simp only [Service.fecTake, matrix]
  simp only [FecMatrix.start, protects, Bool.false_eq_true, if_false]
  constructor
  case nextSeq => rfl
  case packets => rfl
  case full => exact fun whole => by simp only [whole, if_true]
  case filling =>
    intro part
    refine ⟨ps ++ [p], ?_, List.length_append⟩
    simp [enteredMatrix, part, FecMatrix.start]
  case columns => exact length_filter_columns rfl rfl _ _
  case rows => exact length_filter_rows rfl rfl _ _
  case takers =>
    intro q mem
    rcases List.mem_append.mp mem with column | row
    · rw [List.mem_singleton.mp (List.mem_ite_nil_right.mp column).2]
    · rw [List.mem_singleton.mp (List.mem_ite_nil_right.mp row).2]

/-- What the first packets of a matrix have done: as many columns and rows have FEC packets as have ended. -/
structure Made (r : ServiceRec) (takers : List Nat) (k : Nat) (s : Service) (e : Service × List FecPacket) : Prop where
  nextSeq : e.1.nextSeq = s.nextSeq
  packets : e.1.packets = s.packets
  columns : (e.2.filter (fun q => q.kind == 1)).length = endsBefore (endsColumn r) k
  rows : (e.2.filter (fun q => q.kind == 2)).length = endsBefore (endsRow r) k
  takers : ∀ p ∈ e.2, p.takers = takers

theorem made_zero (s : Service) : Made r takers 0 s (s, []) where
  nextSeq := rfl
  packets := rfl
  columns := rfl
  rows := rfl
  takers := nofun

theorem Made.step {k : Nat} {s : Service} {e q : Service × List FecPacket} (made : Made r takers k s e)
    (entered : Entered r takers k e.1 q) : Made r takers (k + 1) s (q.1, e.2 ++ q.2) where
  nextSeq := entered.nextSeq.trans made.nextSeq
  packets := entered.packets.trans made.packets
  columns := by rw [List.filter_append, List.length_append, made.columns, entered.columns, endsBefore_succ]
  rows := by rw [List.filter_append, List.length_append, made.rows, entered.rows, endsBefore_succ]
  takers p mem := (List.mem_append.mp mem).elim (made.takers p) (entered.takers p)

/-- More packets enter the matrix, one after the other: the service after them, and the FEC packets made so far. -/
def fecTakeAll (r : ServiceRec) (n launch : Nat) (takers : List Nat) (ps : List Bytes) (e : Service × List FecPacket) : Service × List FecPacket :=
  ps.foldl (fun (a : Service × List FecPacket) p =>
    let q := a.1.fecTake r n launch takers p
    (q.1, a.2 ++ q.2)) e

/-- The packets that a matrix still lacks end it. -/
theorem made_fecTakeAll (on : r.colFec = true ∨ r.rowFec = true) {s : Service} {ps : List Bytes} (some_ : ps ≠ []) {k : Nat}
    {e : Service × List FecPacket} (made : Made r takers k s e) (inside : InMatrix r takers k e.1) (whole : k + ps.length = r.fecL * r.fecD) :
    Made r takers (r.fecL * r.fecD) s (fecTakeAll r n launch takers ps e) ∧ (fecTakeAll r n launch takers ps e).1.matrix.packets = [] := by
  induction ps generalizing k e with
  | nil => exact absurd rfl some_
  | cons p ps ih =>
    have entered := entered_fecTake n launch on p inside
    rw [List.length_cons] at whole
    by_cases final : ps = []
    · subst final
      exact ⟨whole ▸ made.step entered, entered.full whole⟩
    · have more := List.length_pos_iff.mpr final
      exact ih final (made.step entered) (entered.filling (by omega)) (by omega)

end Matrix

/-! ### What is lost comes back (R222) -/

@[simp] theorem xorPadded_nil (a : Bytes) : xorPadded a [] = a := by cases a <;> rfl

theorem xorPadded_comm (a b : Bytes) : xorPadded a b = xorPadded b a := by
  induction a generalizing b with
  | nil => rw [xorPadded_nil, xorPadded]
  | cons x a ih =>
    cases b with
    | nil => rfl
    | cons y b => rw [xorPadded, xorPadded, ih, BitVec.xor_comm]

theorem xorPadded_assoc (a b c : Bytes) : xorPadded (xorPadded a b) c = xorPadded a (xorPadded b c) := by
  induction a generalizing b c with
  | nil => rfl
  | cons x a ih =>
    cases b with
    | nil => rfl
    | cons y b =>
      cases c with
      | nil => rw [xorPadded_nil, xorPadded_nil]
      | cons z c => simp only [xorPadded, ih, BitVec.xor_assoc]

/-- What is combined twice is gone. -/
theorem take_xorPadded_cancel (p x : Bytes) : (xorPadded (xorPadded p x) x).take p.length = p := by
  induction p generalizing x with
  | nil => rfl
  | cons b p ih =>
    cases x with
    | nil => rw [xorPadded_nil, xorPadded_nil, List.take_length]
    | cons c x => simp only [xorPadded, List.length_cons, List.take_succ_cons, ih, BitVec.xor_assoc, BitVec.xor_self, BitVec.xor_zero]

/-- What packets combine to is what one of them combines to with the others. -/
theorem foldl_xorPadded_middle (before after : List Bytes) (p : Bytes) :
    (before ++ p :: after).foldl xorPadded [] = xorPadded p ((before ++ after).foldl xorPadded []) := by
  have assoc : Std.Associative xorPadded := ⟨xorPadded_assoc⟩
  rw [List.foldl_append, List.foldl_cons, xorPadded_comm, List.foldl_assoc, List.foldl_append]

/-- Settles O29: `L × D` packets pass the ends of `L` columns and of `D` rows; and combining is an exclusive or, which cancels itself. -/
theorem aMatrixMakesItsFecPackets : Obligations.AMatrixMakesItsFecPackets := by
  unfold Obligations.AMatrixMakesItsFecPackets
  refine ⟨?matrix, ?restored⟩
  case matrix =>
    intro r s n launch takers ps wide deep on boundary whole
    have some_ : ps ≠ [] := List.length_pos_iff.mp (whole ▸ Nat.mul_pos wide deep)
    obtain ⟨made, ended⟩ := made_fecTakeAll n launch on some_ (made_zero s) (inMatrix_zero r takers boundary) ((Nat.zero_add _).trans whole)
    exact ⟨made.columns.trans (endsBefore_endsColumn deep), made.rows.trans (endsBefore_endsRow wide), ended, made.nextSeq, made.packets,
      made.takers⟩
  case restored =>
    intro before after p
    rw [foldl_xorPadded_middle, take_xorPadded_cancel]

/-! ### Copies leave services and coding as they are (R218, R240) -/

/-- Every service, and the coding side, stand as they stood. -/
structure StreamsKept (d e : Device) : Prop where
  services : e.out.services = d.out.services
  code : e.code = d.code

theorem StreamsKept.refl (d : Device) : StreamsKept d d := ⟨rfl, rfl⟩

theorem StreamsKept.trans {a b c : Device} (first : StreamsKept a b) (second : StreamsKept b c) : StreamsKept a c :=
  ⟨second.services.trans first.services, second.code.trans first.code⟩

/-- What each step keeps, a run of steps keeps. -/
theorem streamsKept_foldl {α σ : Type} {dev : σ → Device} {f : σ → α → σ} (one : ∀ a x, StreamsKept (dev a) (dev (f a x))) (l : List α) (a : σ) :
    StreamsKept (dev a) (dev (l.foldl f a)) := by
  induction l generalizing a with
  | nil => exact .refl _
  | cons x l ih => exact (one a x).trans (ih _)

section Kept
variable (d : Device)

theorem streamsKept_dropSub (b : Nat) : StreamsKept d (d.dropSub b) := by
  unfold Device.dropSub
  split
  · exact .refl d
  · exact ⟨rfl, rfl⟩

theorem streamsKept_dropCopy (p : Nat) (full : Bool) (c : Copy) : StreamsKept d (d.dropCopy p full c) := by
  unfold Device.dropCopy
  cases c.queue with
  | some q => exact ⟨rfl, rfl⟩
  | none =>
    obtain ⟨services, code⟩ := streamsKept_dropSub (d.setSched p _) c.sub
    exact ⟨services, code⟩

theorem streamsKept_place (p : Nat) (c : Copy) : StreamsKept d (d.place p c) := by
  simp only [Device.place]
  split
  · exact streamsKept_dropCopy d p true c
  · split
    · exact streamsKept_dropCopy d p false c
    · exact ⟨rfl, rfl⟩

theorem streamsKept_offer (p : Nat) (c : Copy) : StreamsKept d (d.offer p c) := by
  unfold Device.offer
  split
  · exact streamsKept_place d p c
  · exact ⟨rfl, rfl⟩

theorem streamsKept_offers {α : Type} (p : Nat) (copy : α → Copy) (l : List α) : StreamsKept d (l.foldl (fun b x => b.offer p (copy x)) d) :=
  streamsKept_foldl (dev := id) (fun b x => streamsKept_offer b p (copy x)) l d

theorem streamsKept_setSub (n : Nat) (x : Subscriber) : StreamsKept d { d with out := d.out.setSub n x } := ⟨rfl, rfl⟩

theorem streamsKept_copyTo (k : Packet) (fec : List FecPacket) (e : Nat × Subscriber × SubRec) (a : Device × List (Nat × Nat × Nat)) :
    StreamsKept a.1 (Device.copyTo k fec e a).1 := by
  simp only [Device.copyTo]
  split
  · exact .refl _
  · dsimp only
    exact .trans (streamsKept_setSub ..) (.trans (streamsKept_offer ..) (streamsKept_offers ..))

theorem streamsKept_copies (k : Packet) (fec : List FecPacket) : StreamsKept d (d.copies k fec) :=
  streamsKept_foldl (dev := (·.1)) (fun a e => streamsKept_copyTo k fec e a) _ (d, [])

end Kept

/-! ### A packet of a service (R206, R207, R217) -/

/-- A packet that is too late only counts (R217). -/
theorem sendPacket_late {d : Device} {r : ServiceRec} {k : Packet} {v : Service} (fec : List FecPacket) (first : Bool) (rtp : Bytes)
    (enabled : r.enable = true) (unkept : r.journal = false) (here : Tab.find k.service d.out.services = some v)
    (late : k.launch < d.now + usec) :
    d.sendPacket r k fec first rtp =
      { d with out := d.out.setSvc k.service (v.lateDrop d.now).1 }.raise (if (v.lateDrop d.now).2 then [(480, k.service)] else []) := by
  simp [Device.sendPacket, enabled, unkept, lateFor, late, here]

/-- Sending a packet changes of its service no more than what counts late ones. -/
theorem sendPacket_keeps {d : Device} {k : Packet} {s : Service} (r : ServiceRec) (fec : List FecPacket) (first : Bool) (rtp : Bytes)
    (here : Tab.find k.service d.out.services = some s) :
    (∃ drops last, Tab.find k.service (d.sendPacket r k fec first rtp).out.services = some { s with lateDrops := drops, lastE480 := last }) ∧
      (d.sendPacket r k fec first rtp).code = d.code := by
  have journalled : StreamsKept d (if r.journal then d.journalPacket k.service k.launch first k.audio rtp else d) := by
    split
    · exact ⟨rfl, rfl⟩
    · exact .refl d
  unfold Device.sendPacket
  generalize (if r.journal then d.journalPacket k.service k.launch first k.audio rtp else d) = e at journalled ⊢
  obtain ⟨services, code⟩ := journalled
  rw [← services] at here
  simp only [here]
  split
  · exact ⟨⟨_, _, here⟩, code⟩
  · split
    · exact ⟨⟨_, _, find_put_same ..⟩, code⟩
    · obtain ⟨copied, same⟩ := streamsKept_copies e k fec
      exact ⟨⟨_, _, copied ▸ here⟩, same.trans code⟩

/-- A service after a packet of its own: what the counts of late ones do not touch holds of it still. -/
theorem exists_sendPacket_service {d : Device} {k : Packet} {s : Service} {r : ServiceRec} {fec : List FecPacket} {first : Bool} {rtp : Bytes}
    {P : Service → Prop} {n : Nat} (own : k.service = n) (here : Tab.find n d.out.services = some s)
    (holds : ∀ drops last, P { s with lateDrops := drops, lastE480 := last }) :
    ∃ w, Tab.find n (d.sendPacket r k fec first rtp).out.services = some w ∧ P w := by
  subst own
  obtain ⟨⟨drops, last, found⟩, -⟩ := sendPacket_keeps r fec first rtp here
  exact ⟨_, found, holds drops last⟩

section Numbered
variable (n f launch tick : Nat) (r : ServiceRec)

@[simp] theorem fecTake_row (takers : List Nat) (rtp : Bytes) (s : Service) : (s.fecTake r n launch takers rtp).1.row = s.row := by
  unfold Service.fecTake
  extract_lets entered
  split <;> rfl

@[simp] theorem fecTake_recd (takers : List Nat) (rtp : Bytes) (s : Service) : (s.fecTake r n launch takers rtp).1.recd = s.recd := by
  unfold Service.fecTake
  extract_lets entered
  split <;> rfl

/-- A service after `count` packets of its video, and the coding side as it was. -/
def Numbered (n count : Nat) (s : Service) (code : CodingState) (e : Device) : Prop :=
  (∃ w, Tab.find n e.out.services = some w ∧ w.nextSeq = (s.nextSeq + count) % 65536 ∧ w.row = s.row ∧ w.recd = s.recd) ∧ e.code = code

theorem numbered_videoPacket (marker first : Bool) (payload : Bytes) {d : Device} {s : Service} (here : Tab.find n d.out.services = some s) :
    Numbered n 1 s d.code (d.videoPacket n f launch tick marker first payload r) := by
  simp only [Device.videoPacket, here]
  obtain ⟨⟨drops, last, found⟩, code⟩ := sendPacket_keeps (d := { d with out := d.out.setSvc n _ }) (k := ⟨n, f, launch, s.nextSeq, _, false⟩)
    r _ first _ (find_put_same ..)
  refine ⟨⟨_, found, rfl, ?_, ?_⟩, code⟩
  · dsimp only
    split
    · exact fecTake_row ..
    · rfl
  · dsimp only
    split
    · exact fecTake_recd ..
    · rfl

theorem numbered_sendRow (row0 last first : Bool) {ls : List (Nat × Bytes)} {count : Nat} (length : ls.length = count) {d : Device} {s : Service}
    (here : Tab.find n d.out.services = some s) (low : s.nextSeq < 65536) :
    Numbered n count s d.code (d.sendRow n f tick row0 last r ls first) := by
  subst length
  induction ls generalizing d s first with
  | nil => exact ⟨⟨s, here, (Nat.mod_eq_of_lt low).symm, rfl, rfl⟩, rfl⟩
  | cons e rest ih =>
    obtain ⟨launch, payload⟩ := e
    obtain ⟨⟨w, found, next, row, recd⟩, code⟩ := numbered_videoPacket n f launch tick r (last && rest.isEmpty) (row0 && first) payload here
    obtain ⟨⟨z, found', next', row', recd'⟩, code'⟩ := ih false found (next ▸ Nat.mod_lt _ (by decide))
    refine ⟨⟨z, found', ?_, row'.trans row, recd'.trans recd⟩, code'.trans code⟩
    rw [next', next, List.length_cons]
    omega

end Numbered

/-- A row's units are formed into packets, which take the service's next numbers (R207, R209). -/
theorem numbered_payloadUnit {n f k : Nat} {d : Device} {x : Rendition} {v : Service} {p : Picture} {r : RowState} (units heads : List Bytes)
    (rend : Tab.find n d.code.rends = some x) (here : Tab.find n d.out.services = some v) (begun : x.pic? f = some p)
    (marked : Tab.find k p.rows = some r) (coded : r.bits ≠ none) (native : (recAt v.was v.recd f).format = 1)
    (enabled : (recAt v.was v.recd f).enable = true) (low : v.nextSeq < 65536) :
    Numbered n (nativeRow p.recd.codec (recAt v.was v.recd f).payloadTop (k + 1 == p.recd.rows) (if k = 0 then heads else []) units).length
      { v with row := (f, k) } d.code (payloadUnit n f k units heads d) := by
  have ended : r.bits.isNone = false := Option.isNone_eq_false_iff.mpr (Option.isSome_iff_ne_none.mpr coded)
  simp only [payloadUnit, rend, here, begun, marked, ended, enabled, Device.rowTs, RowTs.payloads, native, Bool.not_true, Bool.false_and,
    Bool.false_eq_true, if_false, Nat.one_ne_zero]
  generalize notePeak d.now _ _ = peaks
  exact numbered_sendRow n f _ _ _ _ true (launches_length ..) (s := { v with row := (f, k), peaks := peaks }) (find_put_same ..) low

/-! ### A frame of a service's sound (R227) -/

@[simp] theorem countAudio_out (src : Nat) (late : Bool) (d : Device) : (d.countAudio src late).out = d.out := rfl

/-- A frame of a live FORMAT 1 service goes out as a packet of its own stream, whose number is the stream's next. -/
theorem audioFrameReady_sends {n a capture : Nat} {payload : Bytes} {d : Device} {v : Service} {x : Rendition} {e : AudioEntry}
    (here : Tab.find n d.out.services = some v) (rend : Tab.find n d.code.rends = some x) (stream : v.recd.audio[a]? = some e)
    (native : v.recd.format = 1) (enabled : v.recd.enable = true) (live : x.live = true)
    (captured : capture + audioFrame (d.chan x.recd.channel).recd e ≤ d.now) :
    ∃ w, Tab.find n (audioFrameReady n a capture payload d).out.services = some w ∧
      Tab.read w.audioSeq a 0 = (Tab.read v.audioSeq a 0 + 1) % 65536 ∧ w.audioPackets = satAdd max64 v.audioPackets 1 ∧ w.nextSeq = v.nextSeq := by
  have ready : ¬d.now < capture + audioFrame (d.chan x.recd.channel).recd e := Nat.not_lt.mpr captured
  simp only [audioFrameReady, here, rend, stream, ready, live, enabled, native, decide_false, Bool.not_true, Bool.or_false, Bool.false_and,
    Bool.false_eq_true, if_false, raise_out, countAudio_out, Nat.one_ne_zero]
  exact exists_sendPacket_service rfl (find_put_same ..) fun drops last => ⟨read_put_same .., rfl, rfl⟩

/-! ### Payloads of NAL units stay within PAYLOAD_MAX (R209, R211) -/

@[simp] theorem beBytes_length (n v : Nat) : (beBytes n v).length = n := by rw [beBytes, List.length_reverse, wrLE_length]

theorem length_le_of_mem_pieces {α : Type} {n fuel : Nat} {l p : List α} (mem : p ∈ pieces n fuel l) : p.length ≤ n := by
  induction fuel generalizing l with
  | zero => cases mem
  | succ fuel ih =>
    cases l with
    | nil => cases mem
    | cons x l =>
      rcases List.mem_cons.mp mem with rfl | later
      · exact List.length_take_le ..
      · exact ih later

section Nal
variable (codec : Nat)

theorem nalHeader_le_two : nalHeader codec ≤ 2 := by
  unfold nalHeader
  split <;> omega

@[simp] theorem nalTyped_length (type : Nat) (u : Bytes) : (nalTyped codec type u).length = nalHeader codec := by
  by_cases avc : codec = 0 <;> by_cases hevc : codec = 1 <;> simp [nalTyped, nalHeader, avc, hevc]

theorem length_le_of_mem_fragmentsOf {final first : Bool} {u p : Bytes} {ps : List Bytes} {room : Nat} (short : ∀ q ∈ ps, q.length ≤ room)
    (mem : p ∈ fragmentsOf codec final u first ps) : p.length ≤ fuLead codec + room := by
  induction ps generalizing first with
  | nil => cases mem
  | cons q ps ih =>
    have ⟨here, rest⟩ := List.forall_mem_cons.mp short
    rcases List.mem_cons.mp mem with rfl | later
    · simpa [fuLead, Nat.add_assoc, Nat.add_comm 1] using here
    · exact ih rest later

variable {max : Nat} (room : 3 ≤ max)
include room

theorem length_le_of_mem_nalPackets {final : Bool} {u p : Bytes} (mem : p ∈ nalPackets codec max final u) : p.length ≤ max := by
  unfold nalPackets at mem
  split at mem
  next whole => rwa [List.mem_singleton.mp mem]
  next =>
    have lead : fuLead codec ≤ max := Nat.le_trans (Nat.succ_le_succ (nalHeader_le_two codec)) room
    have fits := length_le_of_mem_fragmentsOf codec (fun q piece => length_le_of_mem_pieces piece) mem
    omega

end Nal

section Aggregate
variable (codec : Nat)

@[simp] theorem aggregateHeader_length (us : List Bytes) : (aggregateHeader codec us).length = nalHeader codec := by
  by_cases avc : codec = 0 <;> by_cases hevc : codec = 1 <;> simp [aggregateHeader, nalHeader, avc, hevc]

theorem aggregate_length_le (us : List Bytes) : (aggregate codec us).length ≤ aggregateBytes codec us := by
  have together : (aggregateHeader codec us ++ us.flatMap (fun u => beBytes 2 u.length ++ u)).length = aggregateBytes codec us := by
    simp [aggregateBytes, List.length_flatMap]
  unfold aggregate
  split
  · simp only [aggregateBytes, List.map_cons, List.map_nil, List.sum_cons, List.sum_nil]
    omega
  · exact Nat.le_of_eq together

variable {max : Nat}

/-- A packet being filled, where there is one, is sent as it is. -/
theorem length_le_of_mem_closed {open_ : List Bytes} {p : Bytes} (fits : open_ ≠ [] → aggregateBytes codec open_ ≤ max)
    (mem : p ∈ if open_.isEmpty then [] else [aggregate codec open_]) : p.length ≤ max := by
  cases open_ with
  | nil => cases mem
  | cons u us =>
    rw [List.mem_singleton.mp mem]
    exact Nat.le_trans (aggregate_length_le codec _) (fits (List.cons_ne_nil _ _))

theorem length_le_of_mem_gather (room : 3 ≤ max) {final : Bool} {units open_ : List Bytes} {p : Bytes}
    (fits : open_ ≠ [] → aggregateBytes codec open_ ≤ max) (mem : p ∈ gather codec max final open_ units) : p.length ≤ max := by
  induction units generalizing open_ with
  | nil => exact length_le_of_mem_closed codec fits mem
  | cons u r ih =>
    simp only [gather] at mem
    split at mem
    next joins => exact ih (fun _ => joins) mem
    next =>
      split at mem
      next alone =>
        rcases List.mem_append.mp mem with closed | later
        · exact length_le_of_mem_closed codec fits closed
        · refine ih (fun _ => ?_) later
          simpa [aggregateBytes, Nat.add_assoc] using alone
      next =>
        rcases List.mem_append.mp mem with before | later
        · rcases List.mem_append.mp before with closed | cut
          · exact length_le_of_mem_closed codec fits closed
          · exact length_le_of_mem_nalPackets codec room cut
        · exact ih (fun some_ => absurd rfl some_) later

theorem length_le_of_mem_separate (room : 3 ≤ max) {last : Bool} {units : List Bytes} {p : Bytes}
    (mem : p ∈ nalRow.separate codec max last units) : p.length ≤ max := by
  induction units with
  | nil => cases mem
  | cons u r ih =>
    rcases List.mem_append.mp mem with here | later
    · exact length_le_of_mem_nalPackets codec room here
    · exact ih later

theorem length_le_of_mem_nalRow (room : 3 ≤ max) {last : Bool} {heads units : List Bytes} {p : Bytes}
    (mem : p ∈ nalRow codec max last heads units) : p.length ≤ max := by
  unfold nalRow at mem
  split at mem
  next => exact length_le_of_mem_separate codec room mem
  next =>
    rcases List.mem_append.mp mem with gathered | later
    · exact length_le_of_mem_gather codec room (fun some_ => absurd rfl some_) gathered
    · exact length_le_of_mem_separate codec room later

end Aggregate

/-! ### Payloads of OBUs stay within PAYLOAD_MAX (R209, R211) -/

theorem leb128_length_of_lt_128 {n : Nat} (fuel : Nat) (low : n < 128) : (leb128 (fuel + 1) n).length = 1 := by
  rw [leb128, if_pos low, beBytes_length]

theorem leb128_length_le_two {n : Nat} (fuel : Nat) (low : n < 16384) : (leb128 (fuel + 2) n).length ≤ 2 := by
  rw [leb128]
  split
  · rw [beBytes_length]; omega
  · exact Nat.le_of_eq (by rw [List.length_append, beBytes_length, leb128_length_of_lt_128 fuel (by omega)])

/-- An OBU of no more bytes than an element holds, and of some, is an element that has room. -/
theorem obuElement_length_le {room : Nat} {b : Bytes} (small : room ≤ 16385) (some_ : 0 < b.length) (fits : b.length ≤ obuFits room) :
    (obuElement b).length ≤ room := by
  rw [obuElement, List.length_append]
  simp only [obuFits, small, if_true] at fits
  split at fits
  next =>
    rw [leb128_length_of_lt_128 7 (by omega)]
    omega
  next =>
    have size : (leb128 8 b.length).length ≤ 2 := leb128_length_le_two 6 (by omega)
    omega

theorem obuFits_pos {room : Nat} (wide : 2 ≤ room) : 0 < obuFits room := by
  unfold obuFits
  split
  · omega
  · split <;> omega

@[simp] theorem close_length (x : ObuPacket) (y n : Bool) : (x.close y n).length = 1 + x.body.length := by
  rw [ObuPacket.close, List.length_append, beBytes_length]

theorem length_le_of_mem_obuPackets {max : Nat} (low : 1 ≤ max) (high : max ≤ 16386) {fuel : Nat} {n : Bool} {x : ObuPacket} {units : List Bytes}
    {p : Bytes} (fits : 1 + x.body.length ≤ max) (full : ∀ u ∈ units, 0 < u.length) (mem : p ∈ obuPackets max fuel n x units) :
    p.length ≤ max := by
  induction fuel generalizing n x units with
  | zero =>
    rw [List.mem_singleton.mp mem, close_length]
    exact fits
  | succ fuel ih =>
    cases units with
    | nil =>
      simp only [obuPackets] at mem
      split at mem
      · cases mem
      · rw [List.mem_singleton.mp mem, close_length]
        exact fits
    | cons u r =>
      have ⟨some_, rest⟩ := List.forall_mem_cons.mp full
      have small : max - 1 - x.body.length ≤ 16385 := by omega
      simp only [obuPackets] at mem
      split at mem
      next whole =>
        have size := obuElement_length_le small some_ whole
        exact ih (by rw [List.length_append]; omega) rest mem
      next cut =>
        split at mem
        next =>
          rcases List.mem_cons.mp mem with rfl | later
          · rwa [close_length]
          · exact ih (x := ⟨false, []⟩) low full later
        next wide =>
          have taken := List.length_take_of_le (Nat.le_of_not_le cut)
          have begun := obuFits_pos (Nat.le_of_not_lt wide)
          have size := obuElement_length_le small (Nat.lt_of_lt_of_eq begun taken.symm) (Nat.le_of_eq taken)
          rcases List.mem_cons.mp mem with rfl | later
          · rw [close_length, List.length_append]
            omega
          · refine ih (x := ⟨true, []⟩) low (List.forall_mem_cons.mpr ⟨?_, rest⟩) later
            rw [List.length_drop]
            omega

/-- What is left of units without the empty ones holds some bytes. -/
theorem pos_of_mem_filled {units : List Bytes} {u : Bytes} (mem : u ∈ units.filter (fun u => !u.isEmpty)) : 0 < u.length := by
  simpa [List.length_pos_iff] using (List.mem_filter.mp mem).2

theorem length_le_of_mem_nativeRow {codec max : Nat} {last : Bool} {heads units : List Bytes} {p : Bytes} (low : 3 ≤ max) (high : max ≤ 16386)
    (mem : p ∈ nativeRow codec max last heads units) : p.length ≤ max := by
  unfold nativeRow at mem
  extract_lets hs us at mem
  split at mem
  next =>
    have empty : 1 ≤ max := by omega
    refine length_le_of_mem_obuPackets (x := ⟨false, []⟩) empty high empty (fun u filled => ?_) mem
    exact (List.mem_append.mp (List.mem_filter.mp filled).1).elim pos_of_mem_filled pos_of_mem_filled
  next => exact length_le_of_mem_nalRow codec low mem

/-- Settles O30: each packet of a row takes one number, and sending it changes no more of its service than the counts of late ones; a late packet is only counted;
and every packet of units is formed within the room that PAYLOAD_MAX leaves. -/
theorem servicePacketsAreNumberedAndNeverLate : Obligations.ServicePacketsAreNumberedAndNeverLate := by
  unfold Obligations.ServicePacketsAreNumberedAndNeverLate
  intro t s d
  refine ⟨?row, ?late, ?audio, ?size⟩
  case row =>
    intro n f k units heads x v p r rend here begun marked coded native enabled low
    obtain ⟨⟨w, found, next, row, recd⟩, code⟩ := numbered_payloadUnit units heads rend here begun marked coded native enabled low
    exact ⟨_, w, rfl, found, next, row, recd, code⟩
  case late =>
    intro r k fec first rtp v enabled unkept here late
    rw [sendPacket_late fec first rtp enabled unkept here late]
    exact ⟨rfl, rfl, congrArg (Option.map Service.lateDrops) (find_put_same ..)⟩
  case audio =>
    intro n a capture payload v x e here rend stream native enabled live captured
    obtain ⟨w, found, sent⟩ := audioFrameReady_sends (payload := payload) here rend stream native enabled live captured
    exact ⟨_, w, rfl, found, sent⟩
  case size => exact fun codec max last heads units low high p mem => length_le_of_mem_nativeRow (by omega) (by omega) mem

end Sys2Proof.Proofs

/-!
PROOF. The port schedulers (08): the scheduler commands, the token buckets, placement in a launch calendar, and the frames of the other classes under the
launch guard. A port's scheduler is followed through an operation by what the operation leaves of it.
-/
namespace Sys2Proof.Proofs

open Sys2Proof Sys2Proof.Machine Sys2Proof.Laws

/-! ### Scheduler commands (Tables 8.12 to 8.19) -/

theorem gateListSet_apply_dev (c : Ctx) (d : Device) :
    (gateListSet.apply c d).dev =
      let x := d.sched.port c.handle
      (d.setSched c.handle { x with pend := some ⟨gateStart (timeOfWord c.block 0) (c.b 16 8) d.now, c.b 16 8, parseGates c⟩ }).raise
        (if x.pend.isSome then [(487, c.handle)] else []) := by
  simp only [gateListSet]
  split <;> rfl

theorem gateListSet_ne_busy (c : Ctx) (d : Device) : (gateListSet.apply c d).final.map (·.1) ≠ some stBusy := by
  simp only [gateListSet]
  split
  case isTrue => exact fun busy => nomatch Option.some.inj busy
  case isFalse => exact fun busy => nomatch Option.some.inj busy

/-- Settles O31: each command's specification applies the effect stated for it, and none of them answers BUSY. -/
theorem schedulerCommandsTakeEffect : Obligations.SchedulerCommandsTakeEffect := by
  unfold Obligations.SchedulerCommandsTakeEffect
  intro t ring entry s
  refine ⟨?portSched, ?shaper, ?dwrr, ?gateSet, ?gateCancel, ?policer, ?hostTx, ?hostRx, ?filter, ?status⟩
  case portSched => exact commandDoes_of_ok rfl fun _ _ => rfl
  case shaper => exact commandDoes_of_ok rfl fun _ _ => rfl
  case dwrr => exact commandDoes_of_ok rfl fun _ _ => rfl
  case gateSet => exact commandDoes_of_apply rfl gateListSet_apply_dev gateListSet_ne_busy
  case gateCancel => exact commandDoes_of_ok rfl fun _ _ => rfl
  case policer => exact commandDoes_of_ok rfl fun _ _ => rfl
  case hostTx => exact commandDoes_of_ok rfl fun _ _ => rfl
  case hostRx => exact commandDoes_of_ok rfl fun _ _ => rfl
  case filter => exact commandDoes_of_ok rfl fun _ _ => rfl
  case status => exact commandDoes_of_ok rfl fun _ _ => rfl

/-! ### Shapers (R245, R246) -/

section Shapers
variable {x : Shaper}

theorem tokensAt_of_frozen (frozen : x.rate = 0) (now : Nat) : x.tokensAt now = x.tokens := if_pos frozen

theorem tokensAt_le_burst (kept : x.tokens ≤ ((x.burst * 65536 : Nat) : Int)) (now : Nat) : x.tokensAt now ≤ ((x.burst * 65536 : Nat) : Int) := by
  unfold Shaper.tokensAt
  split
  · exact kept
  · exact Int.min_le_left _ _

theorem tokensAt_mono {now later : Nat} (h : now ≤ later) : x.tokensAt now ≤ x.tokensAt later := by
  unfold Shaper.tokensAt
  split
  · exact Int.le_refl _
  · have gained : x.rate * 125 * (now - x.at_) / 1000000000 ≤ x.rate * 125 * (later - x.at_) / 1000000000 :=
      Nat.div_le_div_right (Nat.mul_le_mul_left _ (Nat.sub_le_sub_right h _))
    have rises := Int.add_le_add_left (Int.ofNat_le.mpr gained) x.tokens
    exact Int.le_min.mpr ⟨Int.min_le_left _ _, Int.le_trans (Int.min_le_right _ _) rises⟩

theorem eligible_iff {now : Nat} : x.eligible now = true ↔ x.rate ≠ 0 ∧ 0 ≤ x.tokensAt now := by simp [Shaper.eligible]

theorem charge_tokens (bytes now : Nat) : (x.charge bytes now).tokens = x.tokensAt now - ((bytes + 20) * 65536 : Nat) := rfl

end Shapers

/-- Settles O33: tokens are capped at the burst and rise with time; a charge takes at most 9236 bytes from tokens that are not negative. -/
theorem shaperTokensStayInRange : Obligations.ShaperTokensStayInRange := by
  unfold Obligations.ShaperTokensStayInRange
  intro x now later bytes kept
  have capped := tokensAt_le_burst kept now
  refine ⟨capped, tokensAt_mono, fun eligible short => ?charge, fun frozen => ⟨?blocked, tokensAt_of_frozen frozen later⟩⟩
  case charge =>
    have notNegative := (eligible_iff.mp eligible).2
    rw [charge_tokens]
    omega
  case blocked => exact Bool.eq_false_iff.mpr fun eligible => (eligible_iff.mp eligible).1 frozen

/-! ### Placement (R239, R240) -/

theorem le_pathAt {path : List Nat} {from_ t : Nat} {m : Tab Shaper} (at_ : pathAt path from_ m = some t) : from_ ≤ t := by
  refine List.foldlRecOn (motive := fun o => ∀ t, o = some t → from_ ≤ t) _ _ (fun t start => ?_) (fun o ih s _ t next => ?_) t at_
  · cases start
    exact Nat.le_refl _
  · cases o with
    | none => cases next
    | some a =>
      cases e : s.eligibleAt from_ with
      | none => rw [e] at next; cases next
      | some b =>
        rw [e] at next
        cases next
        exact Nat.le_trans (ih a rfl) (Nat.le_max_left _ _)

theorem placeAt_bounds {x : PortSched} {p : Nat} {m : Tab Shaper} {c : Copy} {t : Nat} (placed : x.placeAt p m c = some t) :
    c.nominal ≤ t ∧ x.lastEnd ≤ t ∧ t ≤ c.nominal + x.slackNs * 65536 := by
  simp only [PortSched.placeAt] at placed
  split at placed
  · cases placed
  · next u at_ =>
    split at placed
    · cases placed
    · next within =>
      cases placed
      have from_ := Nat.max_le.mp (le_pathAt at_)
      exact ⟨from_.1, from_.2, Nat.not_lt.mp within⟩

@[simp] theorem dropSub_sched (b : Nat) (d : Device) : (d.dropSub b).sched = d.sched := by
  unfold Device.dropSub
  split <;> rfl

@[simp] theorem setSched_port_same (p : Nat) (x : PortSched) (d : Device) : (d.setSched p x).sched.port p = x := read_put_same ..

/-- A drop counts, and may note when its event was last told. -/
theorem exists_dropCopy_port (p : Nat) (full : Bool) (c : Copy) (d : Device) :
    ∃ a b, (d.dropCopy p full c).sched.port p =
      { d.sched.port p with slackDrops := satAdd max64 (d.sched.port p).slackDrops 1, lastE484 := a, lastE485 := b } := by
  simp only [Device.dropCopy]
  cases c.queue with
  | none => exact ⟨_, _, (congrArg (SchedState.port · p) (dropSub_sched c.sub _)).trans (setSched_port_same p _ d)⟩
  | some q => exact ⟨_, _, setSched_port_same p _ d⟩

/-- A copy is dropped, or it enters the calendar at its placed time. -/
theorem place_port (p : Nat) (c : Copy) (d : Device) :
    (∃ full, d.place p c = d.dropCopy p full c) ∨
      ∃ t, (d.sched.port p).placeAt p d.sched.shapers c = some t ∧
        (d.place p c).sched.port p = (d.sched.port p).enter d.now (d.lanes.kbps p) t c := by
  simp only [Device.place]
  split
  · exact .inl ⟨true, rfl⟩
  · cases placed : (d.sched.port p).placeAt p d.sched.shapers c with
    | none => exact .inl ⟨false, rfl⟩
    | some t => exact .inr ⟨t, rfl, read_put_same ..⟩

/-- Copies that do not overlap and are over by the calendar's end stay so with one that starts at or after that end. -/
theorem noOverlap_append {l : List Placed} {lastEnd : Nat} {e : Placed} (apart : l.Pairwise (fun a b => a.finish ≤ b.placed))
    (ends : ∀ a ∈ l, a.placed ≤ a.finish ∧ a.finish ≤ lastEnd) (after : lastEnd ≤ e.placed) (forward : e.placed ≤ e.finish) :
    (l ++ [e]).Pairwise (fun a b => a.finish ≤ b.placed) ∧ ∀ a ∈ l ++ [e], a.placed ≤ a.finish ∧ a.finish ≤ e.finish := by
  refine ⟨List.pairwise_append.mpr ⟨apart, List.pairwise_singleton _ _, fun a mem b last => ?_⟩, fun a mem => ?_⟩
  · cases List.mem_singleton.mp last
    exact Nat.le_trans (ends a mem).2 after
  · rcases List.mem_append.mp mem with old | new
    · exact ⟨(ends a old).1, Nat.le_trans (Nat.le_trans (ends a old).2 after) forward⟩
    · cases List.mem_singleton.mp new
      exact ⟨forward, Nat.le_refl _⟩

/-- Settles O32: a placed time lies at or after the calendar's end and within the slack; a drop leaves the calendar and counts. -/
theorem placedTimesNeverDecrease : Obligations.PlacedTimesNeverDecrease := by
  unfold Obligations.PlacedTimesNeverDecrease
  intro p c d x y
  obtain ⟨full, dropped⟩ | ⟨t, placed, entered⟩ := place_port p c d
  case inl =>
    obtain ⟨a, b, port⟩ := exists_dropCopy_port p full c d
    have left : y = _ := (congrArg (·.sched.port p) dropped).trans port
    rw [left]
    exact ⟨fun apart ends => ⟨apart, ends⟩, .inl ⟨rfl, rfl, rfl⟩⟩
  case inr =>
    obtain ⟨nominal, lastEnd, slack⟩ := placeAt_bounds placed
    have left : y = _ := entered
    rw [left]
    exact ⟨fun apart ends => noOverlap_append apart ends lastEnd (Nat.le_add_right _ _), .inr ⟨t, rfl, nominal, lastEnd, slack, rfl, rfl⟩⟩

/-! ### Sweeping transmit queues leaves the ports (R254, R259) -/

/-- The ports' schedulers, the lanes and Beam time stand as they stood. -/
structure PortsKept (d e : Device) : Prop where
  ports : e.sched.ports = d.sched.ports
  lanes : e.lanes = d.lanes
  now : e.now = d.now

theorem PortsKept.refl (d : Device) : PortsKept d d := ⟨rfl, rfl, rfl⟩

theorem PortsKept.trans {a b c : Device} (first : PortsKept a b) (second : PortsKept b c) : PortsKept a c :=
  ⟨second.ports.trans first.ports, second.lanes.trans first.lanes, second.now.trans first.now⟩

theorem portsKept_setTx (q : Nat) (g : TxQueue) (d : Device) : PortsKept d (d.setTx q g) := ⟨rfl, rfl, rfl⟩

theorem portsKept_txDone (q i status time : Nat) (d : Device) : PortsKept d (d.txDone q i status time) := ⟨rfl, rfl, rfl⟩

theorem portsKept_sweepTx (q n : Nat) (d : Device) : PortsKept d (sweepTx q n d) := by
  induction n generalizing d with
  | zero => exact .refl d
  | succ n ih =>
    unfold sweepTx
    extract_lets g
    split
    · exact .refl d
    · extract_lets st
      split
      · exact .refl d
      · exact ((portsKept_setTx ..).trans (portsKept_txDone ..)).trans (ih _)

theorem portsKept_sweeps (qs : List Nat) (d : Device) : PortsKept d (qs.foldl (fun d q => d.sweep q) d) := by
  induction qs generalizing d with
  | nil => exact .refl d
  | cons q qs ih => exact (portsKept_sweepTx ..).trans (ih _)

/-! ### The frame that starts (R236, R242) -/

theorem guardOk_iff {x : PortSched} {now wire : Nat} : x.guardOk now wire = true ↔ ∀ e, x.calendar.head? = some e → now + wire ≤ e.placed := by
  unfold PortSched.guardOk PortSched.nextPlaced
  cases x.calendar.head? <;> simp

theorem mem_of_groupHead {x : SchedState} {cs : List Cand} {g : Nat} {c : Cand} {df : Tab Nat} (head : groupHead x cs g = some (c, df)) : c ∈ cs := by
  simp only [groupHead] at head
  split at head
  · cases head
  · obtain ⟨c', found, same⟩ := Option.map_eq_some_iff.mp head
    cases same
    exact (List.mem_filter.mp (List.mem_of_find?_eq_some found)).1

theorem mem_of_classPick {p : Nat} {x : SchedState} {cs : List Cand} {c : Cand} {df : Tab Nat} (picked : classPick p x cs = some (c, df)) : c ∈ cs := by
  unfold classPick at picked
  split at picked
  · next found =>
    cases picked
    exact List.mem_of_find?_eq_some found
  · split at picked
    · cases picked
    · dsimp only at picked
      split at picked
      · cases picked
      · split at picked
        · cases picked
        · next head =>
          cases picked
          exact mem_of_groupHead head

/-- The frame that is picked is one that gate, guard and shapers let start. -/
theorem candMay_of_pickFrame {p : Nat} {d : Device} {r : Cand × Tab Nat} (picked : d.pickFrame p = some r) : d.candMay p r.1 = true := by
  refine List.foldlRecOn (motive := fun o => ∀ r, o = some r → d.candMay p r.1 = true) _ _ ?start (fun o ih a mem r here => ?next) r picked
  case start =>
    intro r none_
    cases none_
  case next =>
    cases o with
    | some y => exact ih r here
    | none =>
      obtain ⟨k, -, rfl⟩ := List.mem_map.mp mem
      exact (List.mem_filter.mp (List.mem_filter.mp (mem_of_classPick here)).1).2

section Start
variable (p : Nat) (c : Cand) (d : Device)

theorem exists_leaveQueue_port : ∃ w, (d.leaveQueue p c).sched.port p = { d.sched.port p with waiting := w } := by
  unfold Device.leaveQueue
  split
  · exact ⟨_, rfl⟩
  · exact ⟨_, read_put_same ..⟩

theorem leaveQueue_lanes : (d.leaveQueue p c).lanes = d.lanes := by
  unfold Device.leaveQueue
  split <;> rfl

variable (df : Tab Nat)

/-- The frame holds the port for its wire time; of the rest of the port's scheduler it leaves the calendar and the counts. -/
theorem exists_startFrame_port : ∃ w g b, (d.startFrame p c df).sched.port p =
    { d.sched.port p with waiting := w, guarded := g, wire := b, busyUntil := d.now + wireTime c.bytes (d.lanes.kbps p) } := by
  obtain ⟨w, left⟩ := exists_leaveQueue_port p c d
  unfold Device.startFrame
  cases c.host with
  | none => exact ⟨w, _, _, (read_put_same p _ _ _).trans (by rw [left])⟩
  | some h => exact ⟨w, _, _, (read_put_same p _ _ _).trans (by rw [left])⟩

theorem startFrame_framesTx : ((d.startFrame p c df).port p).framesTx = satAdd max64 (d.port p).framesTx 1 := by
  have lanes := leaveQueue_lanes p c d
  unfold Device.startFrame
  cases c.host with
  | none => exact (congrArg Port.framesTx (read_put_same p _ _ _)).trans (by rw [lanes]; rfl)
  | some h => exact (congrArg Port.framesTx (read_put_same p _ _ _)).trans (by rw [lanes]; rfl)

end Start

/-! ### PORT_FRAME_START (R236, R242) -/

/-- The module once the fronts of a port's queues outside TC6 are swept. -/
def sweptPort (p : Nat) (d : Device) : Device := ((d.txOf p).filter (fun q => (d.txq q).cls != 6)).foldl (fun d q => d.sweep q) d

/-- The nodes whose head frame the guard alone holds, where it has not been counted yet. -/
def heldLeaves (p : Nat) (d : Device) : List Nat :=
  ((d.heads p).filter (fun c => d.candReady p c && !d.candMay p c && !(d.sched.port p).guarded.contains c.leaf)).map (·.leaf)

/-- The module once those frames are counted. -/
def noteHeld (p : Nat) (d : Device) : Device :=
  let x := d.sched.port p
  d.setSched p { x with guardHolds := satAdd max64 x.guardHolds (heldLeaves p d).length, guarded := x.guarded ++ heldLeaves p d }

section FrameStart
variable {p : Nat} {d : Device}

theorem noteHeld_port (p : Nat) (d : Device) : (noteHeld p d).sched.port p = { d.sched.port p with
    guardHolds := satAdd max64 (d.sched.port p).guardHolds (heldLeaves p d).length, guarded := (d.sched.port p).guarded ++ heldLeaves p d } :=
  setSched_port_same ..

/-- The module once the frame that is picked, where there is one, has started. -/
def startPicked (p : Nat) (d : Device) : Device := (d.pickFrame p).elim d (fun r => d.startFrame p r.1 r.2)

/-- On a port that is UP and idle the frames that the guard holds are counted and the picked one starts; on another nothing more happens. -/
theorem portFrameStart_eq (p : Nat) (d : Device) : portFrameStart p d =
    let a := sweptPort p d
    if a.lanes.isUp p = true ∧ (a.sched.port p).busyUntil ≤ a.now then startPicked p (noteHeld p a) else a := by
  have picks : ∀ a : Device, (match (noteHeld p a).pickFrame p with
      | none => noteHeld p a
      | some (c, df) => (noteHeld p a).startFrame p c df) = startPicked p (noteHeld p a) := fun a => by
    unfold startPicked
    cases (noteHeld p a).pickFrame p <;> rfl
  have closed_iff : ¬((sweptPort p d).lanes.isUp p = true ∧ ((sweptPort p d).sched.port p).busyUntil ≤ (sweptPort p d).now) ↔
      (!(sweptPort p d).lanes.isUp p || (sweptPort p d).now < ((sweptPort p d).sched.port p).busyUntil : Bool) = true := by
    rw [Bool.or_eq_true, Bool.not_eq_true', decide_eq_true_eq, Classical.not_and_iff_not_or_not, Bool.not_eq_true, Nat.not_le]
  dsimp only
  split
  case isTrue opened => exact (if_neg fun closed => closed_iff.mpr closed opened).trans (picks _)
  case isFalse closed => exact if_pos (closed_iff.mp closed)

theorem startPicked_of_some {c : Cand} {df : Tab Nat} (picked : d.pickFrame p = some (c, df)) : startPicked p d = d.startFrame p c df := by
  rw [startPicked, picked]
  rfl

/-- A frame that starts leaves the calendar, and is over by its first placed time. -/
theorem startPicked_port (p : Nat) (d : Device) : ((startPicked p d).sched.port p).calendar = (d.sched.port p).calendar ∧
    (((startPicked p d).sched.port p).busyUntil = (d.sched.port p).busyUntil ∨
      ∀ e, (d.sched.port p).calendar.head? = some e → ((startPicked p d).sched.port p).busyUntil ≤ e.placed) := by
  cases picked : d.pickFrame p with
  | none =>
    rw [startPicked, picked]
    exact ⟨rfl, .inl rfl⟩
  | some r =>
    obtain ⟨c, df⟩ := r
    obtain ⟨w, g, b, port⟩ := exists_startFrame_port p c d df
    have guard : (d.sched.port p).guardOk d.now (wireTime c.bytes (d.lanes.kbps p)) = true := (Bool.and_eq_true_iff.mp (candMay_of_pickFrame picked)).2
    rw [startPicked_of_some picked, port]
    exact ⟨rfl, .inr (guardOk_iff.mp guard)⟩

end FrameStart

/-- Settles O34: sweeping the queues leaves the port; the frame that is picked passes the guard, and starting it leaves the calendar. -/
theorem noFrameRunsIntoAPlacedCopy : Obligations.NoFrameRunsIntoAPlacedCopy := by
  unfold Obligations.NoFrameRunsIntoAPlacedCopy
  intro t p s d
  obtain ⟨ports, lanes, now⟩ : PortsKept d (sweptPort p d) := portsKept_sweeps _ _
  have port : (sweptPort p d).sched.port p = d.sched.port p := congrArg (Tab.read · p.val PortSched.reset) ports
  have noted := noteHeld_port p (sweptPort p d)
  refine ⟨portFrameStart p d, rfl, ?_⟩
  rw [portFrameStart_eq]
  dsimp only
  split
  case isFalse closed =>
    rw [port]
    exact ⟨rfl, .inl rfl, fun up idle => absurd ⟨up, idle⟩ closed⟩
  case isTrue opened =>
    have idle : (d.sched.port p).busyUntil ≤ d.now := port ▸ now ▸ opened.2
    obtain ⟨calendar, busy⟩ := startPicked_port p (noteHeld p (sweptPort p d))
    rw [noted, port] at calendar busy
    refine ⟨calendar, busy.imp_right fun clear => ⟨lanes ▸ opened.1, idle, clear⟩, fun _ _ c df picked => ?_⟩
    obtain ⟨w, g, b, started⟩ := exists_startFrame_port p c (noteHeld p (sweptPort p d)) df
    have sent := startFrame_framesTx p c (noteHeld p (sweptPort p d)) df
    rw [noted] at started
    rw [startPicked_of_some (d := noteHeld p (sweptPort p d)) picked, started]
    refine ⟨?busy, ?sent, ?held⟩
    case busy => exact (congrArg (· + _) now).trans (congrArg (fun l : LanesState => d.now + wireTime c.bytes (l.kbps p)) lanes)
    case sent => exact sent.trans (congrArg (fun l : LanesState => satAdd max64 (l.port p).framesTx 1) lanes)
    case held => rfl

end Sys2Proof.Proofs

/-!
PROOF. A copy whose own record asks for SRTP (07 R219, R228; 08 R243): a module that refutes the clause of SchedulerHappeningsTakeEffect on COPY_LAUNCH. That
clause lets the module that has launched the copy be any that comes to the answer once channels end (`finishStops`). So what ending channels can do is shown
first: each of its steps leaves the schedulers as they are, or answers a command, which shows in a ring or as the MCTP path's reply.
-/
namespace Sys2Proof.Proofs

open Sys2Proof Sys2Proof.Machine Sys2Proof.Laws

/-! ### Steps that answer a command, and steps that leave the schedulers -/

/-- A command has been answered: on a ring, or over MCTP. -/
def Answered (d : Device) : Prop := d.rk.rings ≠ [] ∨ d.rk.mctpReply ≠ none

/-- The rings, the MCTP path's reply and the port schedulers stand as they stood. -/
structure Quiet (d e : Device) : Prop where
  rings : e.rk.rings = d.rk.rings
  reply : e.rk.mctpReply = d.rk.mctpReply
  sched : e.sched = d.sched

/-- A step from `d` to `e` answers a command, or leaves the schedulers and the answers alone. -/
def AnswersOrQuiet (d e : Device) : Prop := Answered e ∨ Quiet d e

theorem Quiet.orAnswers {d e : Device} (quiet : Quiet d e) : AnswersOrQuiet d e := .inr quiet

theorem Quiet.refl (d : Device) : Quiet d d := ⟨rfl, rfl, rfl⟩

theorem Quiet.trans {a b c : Device} (first : Quiet a b) (second : Quiet b c) : Quiet a c :=
  ⟨second.rings.trans first.rings, second.reply.trans first.reply, second.sched.trans first.sched⟩

theorem Quiet.answered {d e : Device} (quiet : Quiet d e) (answered : Answered d) : Answered e := by
  rwa [Answered, quiet.rings, quiet.reply]

theorem AnswersOrQuiet.refl (d : Device) : AnswersOrQuiet d d := (Quiet.refl d).orAnswers

theorem AnswersOrQuiet.trans {a b c : Device} (first : AnswersOrQuiet a b) (second : AnswersOrQuiet b c) : AnswersOrQuiet a c :=
  second.elim .inl fun quiet => first.elim (fun answered => .inl (quiet.answered answered)) fun before => .inr (before.trans quiet)

theorem quiet_foldl {α : Type} {f : Device → α → Device} (one : ∀ d x, Quiet d (f d x)) (l : List α) (d : Device) : Quiet d (l.foldl f d) := by
  induction l generalizing d with
  | nil => exact .refl d
  | cons x l ih => exact (one d x).trans (ih _)

theorem answersOrQuiet_foldl {α : Type} {f : Device → α → Device} (one : ∀ d x, AnswersOrQuiet d (f d x)) (l : List α) (d : Device) :
    AnswersOrQuiet d (l.foldl f d) := by
  induction l generalizing d with
  | nil => exact .refl d
  | cons x l ih => exact (one d x).trans (ih _)

theorem quiet_ite {p : Prop} [Decidable p] {d a b : Device} (yes : Quiet d a) (no : Quiet d b) : Quiet d (if p then a else b) := by
  split
  · exact yes
  · exact no

/-! ### Answers (11 R336) -/

theorem put_ne_nil {α : Type} (k : Nat) (v : α) (t : Tab α) : Tab.put k v t ≠ [] := fun empty => by
  have found := find_put_same k v t
  rw [empty] at found
  cases found

theorem answered_decideCtx (c : Ctx) (status detail : Nat) (frame : Option Nat) (eff : Nat) (d : Device) :
    Answered (d.decideCtx c status detail frame eff) := by
  unfold Device.decideCtx Device.decide
  cases c.origin with
  | mctp => exact .inr nofun
  | ring r seq =>
    dsimp only
    split <;> exact .inl (put_ne_nil _ _ _)

theorem accept_answersOrQuiet (o : Origin) (frame : Option Nat) (eff : Nat) (d : Device) : AnswersOrQuiet d (d.accept o frame eff) := by
  cases o with
  | mctp => exact .refl d
  | ring r seq => exact .inl (.inl (put_ne_nil _ _ _))

theorem decideMaybe_answersOrQuiet (c : Option Ctx) (status detail : Nat) (d : Device) : AnswersOrQuiet d (d.decideMaybe c status detail) := by
  cases c with
  | none => exact .refl d
  | some c => exact .inl (answered_decideCtx ..)

theorem decideWork_answersOrQuiet (op status detail : Nat) (d : Device) : AnswersOrQuiet d (d.decideWork op status detail) := by
  unfold Device.decideWork
  split
  · exact .refl d
  · exact .inl (answered_decideCtx ..)

section Quiet
variable (d : Device)

theorem quiet_raise (evs : List (Nat × Nat)) : Quiet d (d.raise evs) := ⟨rfl, rfl, rfl⟩

/-! ### Units, rods and channels (17 R475, R476; 05 R515) -/

theorem quiet_setRod (n : Nat) (x : Rod) : Quiet d (d.setRod n x) := ⟨rfl, rfl, rfl⟩

theorem quiet_setChan (k : Nat) (x : Channel) : Quiet d (d.setChan k x) := ⟨rfl, rfl, rfl⟩

theorem quiet_noteUnit (u old new cause : Nat) : Quiet d (d.noteUnit u old new cause) := quiet_ite (.refl d) ⟨rfl, rfl, rfl⟩

theorem quiet_setRodService (n new cause : Nat) : Quiet d (d.setRodService n new cause) :=
  quiet_ite (.refl d) (((quiet_setRod d n _).trans (quiet_noteUnit ..)).trans (quiet_raise ..))

theorem quiet_setGroupFor (cause g : Nat) (x : Group) : Quiet d (d.setGroupFor cause g x) :=
  Quiet.trans (b := { d with dram := { d.dram with groups := Tab.put g x d.dram.groups } }) ⟨rfl, rfl, rfl⟩ (quiet_noteUnit ..)

theorem quiet_setUnit (u new cause : Nat) : Quiet d (d.setUnit u new cause) :=
  quiet_ite (quiet_setRodService ..) (quiet_ite (quiet_setGroupFor ..)
    (quiet_ite ((quiet_noteUnit ..).trans (quiet_setRod ..)) (quiet_noteUnit ..)))

theorem quiet_planMoves (l : List PlannedMove) : Quiet d (l.foldl (fun d x => d.planMove x) d) := quiet_foldl (fun _ _ => quiet_setChan ..) l d

theorem quiet_setRole (n role : Nat) : Quiet d (d.setRole n role) := (quiet_setRod ..).trans (quiet_raise ..)

theorem quiet_planSwap (n s : Nat) : Quiet d (d.planSwap n s) := (quiet_setRole ..).trans (quiet_foldl (fun _ _ => quiet_setChan ..) _ _)

theorem quiet_leaveRod (n : Nat) : Quiet d (d.leaveRod n) := by
  unfold Device.leaveRod
  split
  · exact quiet_planSwap ..
  · exact quiet_planMoves ..

/-! ### Time, lanes and the journal (02 R47; 09 R280; 13 R397) -/

theorem quiet_feed (p : Nat) (f : WordQueue → Bool) (ws : List (BitVec 64)) : Quiet d (d.feed p f ws) := ⟨by rw [feed_rk], by rw [feed_rk], feed_sched ..⟩

theorem quiet_feedCaptures (old : Tab CaptureUnit) : Quiet d (d.feedCaptures old) := quiet_foldl (fun _ _ => quiet_ite (quiet_feed ..) (.refl _)) _ _

theorem quiet_setTime (x : TimeState) : Quiet d { d with time := x } := ⟨rfl, rfl, rfl⟩

theorem quiet_withTime (o : TimeOut) : Quiet d (d.withTime o) := by
  unfold Device.withTime
  exact ((quiet_setTime d _).trans (quiet_raise _ _)).trans (quiet_feedCaptures _ _)

theorem quiet_ptpAside (p : Nat) : Quiet d (d.ptpAside p) := quiet_foldl (fun _ _ => quiet_ite (quiet_withTime ..) (.refl _)) _ _

theorem quiet_portTo (p state cause : Nat) : Quiet d (d.portTo p state cause) := quiet_ite ⟨rfl, rfl, rfl⟩ ⟨rfl, rfl, rfl⟩

theorem quiet_setLane (l : Nat) (x : Lane) : Quiet d (d.setLane l x) := ⟨rfl, rfl, rfl⟩

theorem quiet_startRecal (p : Nat) : Quiet d (d.startRecal p) := by
  unfold Device.startRecal
  extract_lets d1 ls d2
  have calibrates : Quiet d1 d2 := quiet_foldl (fun _ _ => quiet_setLane ..) _ _
  exact (((quiet_ptpAside d p).trans (quiet_portTo ..)).trans calibrates).trans ⟨rfl, rfl, rfl⟩

theorem quiet_linkLoss (code : Nat) : Quiet d (d.linkLoss code) := quiet_ite ⟨rfl, rfl, rfl⟩ (.refl d)

theorem quiet_setJournal (j : JournalState) : Quiet d { d with journal := j } := ⟨rfl, rfl, rfl⟩

theorem sessionEnded_answersOrQuiet : AnswersOrQuiet d d.sessionEnded := by
  unfold Device.sessionEnded
  extract_lets j
  split
  · exact ((quiet_setJournal d _).trans (quiet_raise ..)).orAnswers.trans (answersOrQuiet_foldl (fun _ _ => decideWork_answersOrQuiet ..) _ _)
  · exact .refl d

theorem closeSession_answersOrQuiet (cause : Nat) : AnswersOrQuiet d (d.closeSession cause) := by
  unfold Device.closeSession
  split
  · exact (quiet_setJournal d _).orAnswers.trans (sessionEnded_answersOrQuiet _)
  · exact .refl d

/-! ### Modes and rod updates (16 R456 to R458; 17 R480) -/

theorem quiet_stopChannel (c f tag : Nat) : Quiet d (d.stopChannel c f tag) := ⟨rfl, rfl, rfl⟩

theorem quiet_startDrain : Quiet d d.startDrain := by
  unfold Device.startDrain
  extract_lets tag live d1
  have stopped : Quiet d d1 := quiet_foldl (fun _ _ => quiet_stopChannel ..) _ _
  exact stopped.trans ⟨rfl, rfl, rfl⟩

theorem quiet_setUpdate (u : Option RodUpdate) : Quiet d (d.setUpdate u) := ⟨rfl, rfl, rfl⟩

theorem updateNext_answersOrQuiet : AnswersOrQuiet d d.updateNext := by
  unfold Device.updateNext
  split
  · exact .refl d
  · split
    · exact .refl d
    · extract_lets spares
      split
      · split
        · exact ((quiet_planSwap ..).trans (quiet_setUpdate ..)).orAnswers
        · exact (quiet_setUpdate ..).orAnswers
        · exact (quiet_setUpdate ..).orAnswers
      · split
        · exact (quiet_setUpdate ..).orAnswers
        · exact .inl (answered_decideCtx ..)

theorem quiet_setServ (x : ServState) : Quiet d { d with serv := x } := ⟨rfl, rfl, rfl⟩

theorem quiet_setModes (x : ModeState) : Quiet d { d with modes := x } := ⟨rfl, rfl, rfl⟩

theorem quiet_withRoles (m : Nat) : Quiet d (d.withRoles m) := ⟨rfl, rfl, rfl⟩

theorem quiet_beginWork (op : Nat) (c : Ctx) (unit : Nat) (due : Option Nat) : Quiet d (d.beginWork op c unit due) := ⟨rfl, rfl, rfl⟩

theorem quiet_setGroup (g : Nat) (x : Group) : Quiet d (d.setGroup g x) := quiet_setGroupFor ..

theorem quiet_setDram (k : Nat) (x : DramChannel) : Quiet d (d.setDram k x) := ⟨rfl, rfl, rfl⟩

end Quiet

/-! ### Commands that go on at work (11 R328) -/

/-- A run whose final is still to come has answered another command, or has left the schedulers alone. -/
def OnQuietly (d : Device) (r : Done) : Prop := r.final = none → AnswersOrQuiet d r.dev

/-- Every run of a command is so. -/
def GoesOnQuietly (sp : CmdSpec) : Prop := ∀ c d, OnQuietly d (sp.apply c d)

theorem onQuietly_ok (d e : Device) : OnQuietly d (Done.ok e) := nofun

theorem onQuietly_goesOn {d e : Device} (quiet : AnswersOrQuiet d e) : OnQuietly d (Done.goesOn e) := fun _ => quiet

theorem GoesOnQuietly.of_quiet {sp : CmdSpec} (quiet : ∀ c d, Quiet d (sp.apply c d).dev) : GoesOnQuietly sp := fun c d _ => (quiet c d).orAnswers

/-- A command that decides whenever it runs has none to come. -/
theorem GoesOnQuietly.of_final {sp : CmdSpec} (final : ∀ c d, (sp.apply c d).final.isSome = true) : GoesOnQuietly sp := fun c d none_ => by
  have some_ := final c d
  rw [none_] at some_
  cases some_

theorem goesOnQuietly_modeSet : GoesOnQuietly modeSet := .of_quiet fun c d => by
  unfold modeSet
  dsimp -zeta only
  extract_lets m cur asked least e late st moved
  split
  case isTrue => exact quiet_setModes d _
  case isFalse =>
    split
    case isTrue => exact quiet_ite ((quiet_setModes d _).trans (quiet_startDrain _)) (quiet_setModes d _)
    case isFalse =>
      split
      · exact ((quiet_setModes d _).trans (quiet_withRoles ..)).trans (quiet_planMoves ..)
      · exact quiet_setModes d _

theorem goesOnQuietly_laneRecal : GoesOnQuietly laneRecal := .of_quiet fun _ d => (quiet_startRecal d _).trans (quiet_beginWork ..)

theorem goesOnQuietly_hostlaneTest : GoesOnQuietly hostlaneTest := fun c d _ =>
  .inl (((quiet_linkLoss _ 6).trans ⟨rfl, rfl, rfl⟩ : Quiet (d.decideCtx c stOk 0 none c.now) _).answered (answered_decideCtx ..))

theorem goesOnQuietly_memGroupRetrain : GoesOnQuietly memGroupRetrain := .of_quiet fun _ d =>
  ((quiet_setGroup d _ _).trans (quiet_foldl (fun _ _ => quiet_setDram ..) _ _)).trans (quiet_beginWork ..)

theorem goesOnQuietly_memGroupTest : GoesOnQuietly memGroupTest := .of_quiet fun _ d => (quiet_setGroup d _ _).trans (quiet_beginWork ..)

theorem goesOnQuietly_memGroupRestore : GoesOnQuietly memGroupRestore :=
  .of_quiet fun _ d => (quiet_setGroup d _ _).trans (quiet_beginWork ..)

theorem goesOnQuietly_journalSessionClose : GoesOnQuietly journalSessionClose := fun c d _ => by
  simp only [journalSessionClose]
  split
  · exact .refl d
  · exact (quiet_beginWork d 0x0902 c 0 none).orAnswers.trans (closeSession_answersOrQuiet ..)

theorem goesOnQuietly_energyTest : GoesOnQuietly energyTest := .of_quiet fun c d =>
  ((quiet_setJournal d _).trans (quiet_beginWork _ 0x0909 c 0 none)).trans (quiet_ite (quiet_setJournal _ _) (.refl _))

theorem goesOnQuietly_checkContextGet : GoesOnQuietly checkContextGet := .of_quiet fun c d => by
  have measured : Quiet d (d.measureCheck c.handle) := quiet_ite (.refl d) ⟨rfl, rfl, rfl⟩
  unfold checkContextGet
  dsimp -zeta only
  extract_lets e
  split
  · exact measured.trans (quiet_beginWork ..)
  · exact measured.trans ⟨rfl, rfl, rfl⟩

theorem goesOnQuietly_audioPortSet : GoesOnQuietly audioPortSet := fun c d => by
  unfold audioPortSet
  dsimp -zeta only
  extract_lets n r x x0 d1
  split
  · exact onQuietly_ok _ _
  · split
    · exact onQuietly_ok _ _
    · exact onQuietly_goesOn (Quiet.orAnswers ⟨rfl, rfl, rfl⟩)

theorem goesOnQuietly_wqueueFlush : GoesOnQuietly wqueueFlush := fun c d => by
  unfold wqueueFlush
  dsimp -zeta only
  extract_lets w
  split
  · exact onQuietly_ok _ _
  · split
    · exact onQuietly_goesOn (Quiet.orAnswers ⟨rfl, rfl, rfl⟩)
    · exact nofun

theorem drainUnit_onQuietly (u : Nat) (c : Ctx) (d : Device) : OnQuietly d (drainUnit u c d) := by
  unfold drainUnit
  extract_lets n
  split
  · split
    · exact onQuietly_ok _ _
    · have leaves (a : Device) : Quiet a (if isEngine u && engineNo u < 7 then
            (d.channelsOn n).foldl (fun d k => d.setChan k { d.chan k with remask := (d.chan k).remask.filter (· != n) ++ [n] }) a
          else (if u < 24 || (a.rod n).service != 0 then a else a.setUnit n 1 1).leaveRod n) :=
        quiet_ite (quiet_foldl (fun _ _ => quiet_setChan ..) _ _) ((quiet_ite (.refl _) (quiet_setUnit ..)).trans (quiet_leaveRod ..))
      exact onQuietly_goesOn (((quiet_setUnit d u 1 1).trans (leaves _)).trans (quiet_setServ _ _)).orAnswers
  · split
    · exact onQuietly_ok _ _
    · exact onQuietly_ok _ _

theorem goesOnQuietly_unitServiceSet : GoesOnQuietly unitServiceSet := fun c d => by
  unfold unitServiceSet
  dsimp -zeta only
  extract_lets u
  split
  · exact onQuietly_goesOn ((quiet_setUnit ..).trans (quiet_beginWork ..)).orAnswers
  · split
    · exact drainUnit_onQuietly _ _ _
    · exact onQuietly_ok _ _

theorem goesOnQuietly_fwActivate : GoesOnQuietly fwActivate := fun c d => by
  unfold fwActivate
  dsimp -zeta only
  extract_lets k commit at_ d1
  split
  · exact fun _ => Quiet.orAnswers ⟨rfl, rfl, rfl⟩
  · split
    · exact fun _ => ((quiet_raise d _).trans (quiet_setServ _ _)).orAnswers.trans (updateNext_answersOrQuiet _)
    · exact nofun

theorem goesOnQuietly_selftestRun : GoesOnQuietly selftestRun := .of_quiet fun c d => by
  unfold selftestRun
  dsimp -zeta only
  extract_lets n r d1
  have out : Quiet d d1 := quiet_ite (quiet_setUnit ..) (.refl d)
  exact out.trans ⟨rfl, rfl, rfl⟩

/-! ### Every command of Ranrok 1.0 (11 Table 11.14) -/

/-- A command that always completes with OK decides whenever it runs. -/
theorem GoesOnQuietly.of_ok {sp : CmdSpec} {eff : Ctx → Device → Device} (ok : ∀ c d, sp.apply c d = Done.ok (eff c d)) : GoesOnQuietly sp :=
  .of_final fun c d => by rw [ok]; rfl

theorem timeStep_final (c : Ctx) (d : Device) : (timeStep.apply c d).final.isSome = true := by
  simp only [timeStep]
  split
  · split <;> rfl
  · rfl

theorem memGroupRetire_final (c : Ctx) (d : Device) : (memGroupRetire.apply c d).final.isSome = true := by
  simp only [memGroupRetire]
  split
  · rfl
  · split
    · rfl
    · split <;> rfl

theorem channelMove_final (c : Ctx) (d : Device) : (channelMove.apply c d).final.isSome = true := by
  simp only [channelMove]
  split
  · rfl
  · split <;> rfl

theorem goesOnQuietly_interfaceSpecs : ∀ sp ∈ interfaceSpecs, GoesOnQuietly sp := by
  simp only [interfaceSpecs, List.forall_mem_cons]
  exact ⟨.of_final fun _ _ => rfl, .of_final fun _ _ => rfl, List.forall_mem_nil _⟩

theorem goesOnQuietly_modeSpecs : ∀ sp ∈ modeSpecs, GoesOnQuietly sp := by
  simp only [modeSpecs, List.forall_mem_cons]
  refine ⟨goesOnQuietly_modeSet, ?scheduledStartSet, .of_final fun _ _ => rfl, .of_final fun _ _ => rfl, .of_final fun _ _ => rfl, List.forall_mem_nil _⟩
  exact .of_final fun c d => by simp only [scheduledStartSet]; split <;> rfl

theorem goesOnQuietly_channelSpecs : ∀ sp ∈ channelSpecs, GoesOnQuietly sp := by
  simp only [channelSpecs, List.forall_mem_cons]
  refine ⟨.of_final fun _ _ => rfl, ?channelStart, .of_final fun _ _ => rfl, .of_final fun _ _ => rfl, .of_final fun _ _ => rfl, ?renditionClear,
    ?slotmaskSet, .of_final channelMove_final, ?renditionIdr, .of_final fun _ _ => rfl, .of_final fun _ _ => rfl, List.forall_mem_nil _⟩
  case channelStart => exact .of_final fun c d => by simp only [channelStart]; split <;> rfl
  case renditionClear => exact .of_final fun c d => by simp only [renditionClear]; split <;> rfl
  case slotmaskSet => exact .of_final fun c d => by simp only [slotmaskSet]; split <;> rfl
  case renditionIdr => exact .of_final fun c d => by simp only [renditionIdr]; split <;> rfl

theorem goesOnQuietly_ingestSpecs : ∀ sp ∈ ingestSpecs, GoesOnQuietly sp := by
  simp only [ingestSpecs, List.forall_mem_cons]
  exact ⟨.of_final fun _ _ => rfl, .of_final fun _ _ => rfl, .of_final fun _ _ => rfl, .of_final fun _ _ => rfl, .of_final fun _ _ => rfl,
    .of_final fun _ _ => rfl, List.forall_mem_nil _⟩

theorem goesOnQuietly_compositorSpecs : ∀ sp ∈ compositorSpecs, GoesOnQuietly sp := by
  simp only [compositorSpecs, List.forall_mem_cons]
  exact ⟨.of_final fun _ _ => rfl, .of_final fun _ _ => rfl, .of_final fun _ _ => rfl, .of_final fun _ _ => rfl, .of_quiet fun _ _ => ⟨rfl, rfl, rfl⟩,
    .of_quiet fun _ _ => ⟨rfl, rfl, rfl⟩, .of_quiet fun _ _ => ⟨rfl, rfl, rfl⟩, .of_quiet fun _ _ => ⟨rfl, rfl, rfl⟩,
    .of_quiet fun _ _ => ⟨rfl, rfl, rfl⟩, List.forall_mem_nil _⟩

theorem goesOnQuietly_outputSpecs : ∀ sp ∈ outputSpecs, GoesOnQuietly sp := by
  simp only [outputSpecs, List.forall_mem_cons]
  exact ⟨.of_final fun _ _ => rfl, .of_ok serviceClear_apply, .of_final fun _ _ => rfl, .of_ok subscriberClear_apply, .of_ok subscriberKeySet_apply,
    .of_final fun _ _ => rfl, .of_final fun _ _ => rfl, .of_final fun _ _ => rfl, List.forall_mem_nil _⟩

theorem goesOnQuietly_schedulerSpecs : ∀ sp ∈ schedulerSpecs, GoesOnQuietly sp := by
  simp only [schedulerSpecs, List.forall_mem_cons]
  refine ⟨.of_final fun _ _ => rfl, .of_final fun _ _ => rfl, .of_final fun _ _ => rfl, ?gateListSet, .of_final fun _ _ => rfl, .of_final fun _ _ => rfl,
    .of_final fun _ _ => rfl, .of_final fun _ _ => rfl, .of_final fun _ _ => rfl, .of_final fun _ _ => rfl, List.forall_mem_nil _⟩
  exact .of_final fun c d => by simp only [gateListSet]; split <;> rfl

theorem goesOnQuietly_timeSpecs : ∀ sp ∈ timeSpecs, GoesOnQuietly sp := by
  simp only [timeSpecs, List.forall_mem_cons]
  refine ⟨.of_final fun _ _ => rfl, .of_final fun _ _ => rfl, .of_final fun _ _ => rfl, .of_final fun _ _ => rfl, .of_final timeStep_final,
    .of_final fun _ _ => rfl, .of_final fun _ _ => rfl, ?timeTriggerSet, .of_final fun _ _ => rfl, .of_final fun _ _ => rfl, List.forall_mem_nil _⟩
  exact .of_final fun c d => by simp only [timeTriggerSet]; split <;> rfl

theorem goesOnQuietly_laneSpecs : ∀ sp ∈ laneSpecs, GoesOnQuietly sp := by
  simp only [laneSpecs, List.forall_mem_cons]
  refine ⟨.of_final fun _ _ => rfl, .of_final fun _ _ => rfl, .of_final fun _ _ => rfl, ?laneTestSet, goesOnQuietly_laneRecal, goesOnQuietly_hostlaneTest,
    .of_final fun _ _ => rfl, .of_final fun _ _ => rfl, List.forall_mem_nil _⟩
  exact .of_final fun c d => by simp only [laneTestSet]; split <;> rfl

theorem goesOnQuietly_memorySpecs : ∀ sp ∈ memorySpecs, GoesOnQuietly sp := by
  simp only [memorySpecs, List.forall_mem_cons]
  refine ⟨.of_final memGroupRetire_final, goesOnQuietly_memGroupRetrain, goesOnQuietly_memGroupTest, goesOnQuietly_memGroupRestore, ?memGrainSet,
    .of_final fun _ _ => rfl, .of_final fun _ _ => rfl, List.forall_mem_nil _⟩
  exact .of_final fun c d => by simp only [memGrainSet]; split <;> rfl

theorem goesOnQuietly_journalSpecs : ∀ sp ∈ journalSpecs, GoesOnQuietly sp := by
  simp only [journalSpecs, List.forall_mem_cons]
  refine ⟨.of_quiet fun _ _ => ⟨rfl, rfl, rfl⟩, goesOnQuietly_journalSessionClose, .of_final fun _ _ => rfl, .of_final fun _ _ => rfl,
    ?journalMarkRelease, .of_final fun _ _ => rfl, ?journalReplayStop, .of_quiet fun _ _ => ⟨rfl, rfl, rfl⟩, goesOnQuietly_energyTest,
    .of_final fun _ _ => rfl, ?checkContextSet, goesOnQuietly_checkContextGet, List.forall_mem_nil _⟩
  case journalMarkRelease => exact .of_final fun c d => by simp only [journalMarkRelease]; split <;> rfl
  case journalReplayStop => exact .of_final fun c d => by simp only [journalReplayStop]; split <;> rfl
  case checkContextSet => exact .of_final fun c d => by simp only [checkContextSet]; split <;> rfl

theorem goesOnQuietly_audioSpecs : ∀ sp ∈ audioSpecs, GoesOnQuietly sp := by
  simp only [audioSpecs, List.forall_mem_cons]
  refine ⟨goesOnQuietly_audioPortSet, ?audioSourceSet, ?audioEncoderSet, ?audioStatusGet, List.forall_mem_nil _⟩
  case audioSourceSet => exact .of_final fun c d => by simp only [audioSourceSet]; split <;> rfl
  case audioEncoderSet => exact .of_final fun c d => by simp only [audioEncoderSet]; split <;> rfl
  case audioStatusGet => exact .of_final fun c d => by simp only [audioStatusGet]; split <;> rfl

theorem goesOnQuietly_eventSpecs : ∀ sp ∈ eventSpecs, GoesOnQuietly sp := by
  simp only [eventSpecs, List.forall_mem_cons]
  exact ⟨.of_final fun _ _ => rfl, .of_final fun _ _ => rfl, .of_final fun _ _ => rfl, goesOnQuietly_wqueueFlush, List.forall_mem_nil _⟩

theorem goesOnQuietly_serviceSpecs : ∀ sp ∈ serviceSpecs, GoesOnQuietly sp := by
  simp only [serviceSpecs, List.forall_mem_cons]
  refine ⟨goesOnQuietly_unitServiceSet, .of_quiet fun _ _ => ⟨rfl, rfl, rfl⟩, goesOnQuietly_fwActivate, goesOnQuietly_selftestRun, ?selftestResultGet,
    .of_final fun _ _ => rfl, .of_quiet fun _ _ => ⟨rfl, rfl, rfl⟩, List.forall_mem_nil _⟩
  exact .of_final fun c d => by simp only [selftestResultGet]; split <;> rfl

theorem goesOnQuietly_of_mem_specs : ∀ sp ∈ specs, GoesOnQuietly sp := by
  simp only [specs, List.forall_mem_append]
  and_intros
  · exact goesOnQuietly_interfaceSpecs
  · exact goesOnQuietly_modeSpecs
  · exact goesOnQuietly_channelSpecs
  · exact goesOnQuietly_ingestSpecs
  · exact goesOnQuietly_compositorSpecs
  · exact goesOnQuietly_outputSpecs
  · exact goesOnQuietly_schedulerSpecs
  · exact goesOnQuietly_timeSpecs
  · exact goesOnQuietly_laneSpecs
  · exact goesOnQuietly_memorySpecs
  · exact goesOnQuietly_journalSpecs
  · exact goesOnQuietly_audioSpecs
  · exact goesOnQuietly_eventSpecs
  · exact goesOnQuietly_serviceSpecs

/-! ### The end of a channel (05 R159; 17 R476) -/

theorem settle_answersOrQuiet {d : Device} {r : Done} (onQuietly : OnQuietly d r) (c : Ctx) : AnswersOrQuiet d (r.settle c) := by
  unfold Done.settle
  split
  · exact .inl (answered_decideCtx ..)
  · next none_ => exact (onQuietly none_).trans (accept_answersOrQuiet ..)

theorem landLeft_answersOrQuiet (d : Device) (s : Staged) : AnswersOrQuiet d (landLeft d s) := by
  unfold landLeft
  split
  · exact .refl d
  · next sp found =>
    dsimp only
    split
    · exact .inl (answered_decideCtx ..)
    · exact settle_answersOrQuiet (goesOnQuietly_of_mem_specs sp (List.mem_of_find?_eq_some found) _ d) _

section Stopping
variable (c : Nat) (d : Device)

theorem quiet_setParts (x : CodingState) (y : CompState) (z : OutputState) (w : DramState) : Quiet d { d with code := x, comp := y, out := z, dram := w } :=
  ⟨rfl, rfl, rfl⟩

theorem quiet_setStaged (l : List Staged) : Quiet d { d with rk := { d.rk with staged := l } } := ⟨rfl, rfl, rfl⟩

theorem quiet_dropRend (n : Nat) : Quiet d (d.dropRend n) := ⟨rfl, rfl, rfl⟩

theorem quiet_rebuildPlanes : Quiet d (d.rebuildPlanes c) := quiet_ite ⟨rfl, rfl, rfl⟩ ⟨rfl, rfl, rfl⟩

theorem quiet_unbare : Quiet d (d.unbare c) := by
  unfold Device.unbare
  split
  · exact .refl d
  · split
    · exact .refl d
    · split
      · exact .refl d
      · exact ((quiet_setParts d _ _ _ _).trans (quiet_raise _ _)).trans (quiet_rebuildPlanes _ _)

theorem quiet_placeBare : Quiet d d.placeBare := (quiet_foldl (fun d c => quiet_unbare c d) _ d).trans ⟨rfl, rfl, rfl⟩

theorem quiet_toDefined : Quiet d (d.toDefined c) := by
  unfold Device.toDefined
  exact ((quiet_foldl quiet_dropRend _ d).trans (quiet_setParts _ _ _ _ _)).trans (quiet_placeBare _)

theorem sealCommit_answersOrQuiet : AnswersOrQuiet d (d.sealCommit c) := by
  unfold Device.sealCommit
  exact (quiet_setParts d _ _ _ _).orAnswers.trans (answersOrQuiet_foldl (fun _ _ => .inl (answered_decideCtx ..)) _ _)

theorem finishChannel_answersOrQuiet : AnswersOrQuiet d (d.finishChannel c) := by
  unfold Device.finishChannel
  split
  · exact (((quiet_setStaged d _).trans (quiet_toDefined c _)).orAnswers.trans (sealCommit_answersOrQuiet ..)).trans
      (answersOrQuiet_foldl landLeft_answersOrQuiet _ _)
  · exact (quiet_foldl quiet_dropRend _ d).orAnswers

end Stopping

theorem endDrain_answersOrQuiet (x : Drain) (d : Device) : AnswersOrQuiet d (d.endDrain x) :=
  ((quiet_setUnit d _ _ _).trans (quiet_ite (quiet_setUnit ..) (.refl _))).orAnswers.trans (decideMaybe_answersOrQuiet ..)

theorem settleDrains_answersOrQuiet (d : Device) : AnswersOrQuiet d d.settleDrains :=
  (quiet_setServ d _).orAnswers.trans (answersOrQuiet_foldl (fun d x => endDrain_answersOrQuiet x d) _ _)

/-- Where ending channels changes a scheduler, it has answered a command. -/
theorem finishStops_answersOrQuiet (d : Device) : AnswersOrQuiet d d.finishStops :=
  (answersOrQuiet_foldl (fun d c => finishChannel_answersOrQuiet c d) _ d).trans (settleDrains_answersOrQuiet _)

/-! ### A copy that asks for SRTP, of a subscriber that no longer does -/

/-- A subscriber's record, without SRTP. -/
def plainRec : SubRec :=
  { service := 17, port := 4, enable := true, ipv6 := false, vlan := false, srtp := false, ssrcOverride := false, fec := false, dstMac := 0, vlanId := 0
    pcp := 0, dscp := 0, ttl := 64, dstAddr := 0, srcAddr := 0, dstUdp := 5000, srcUdp := 5000, ssrc := 0, skewNs := 0 }

/-- A copy of a packet that the same subscriber's record from before governs, which asked for SRTP; it is placed at Beam time 0. -/
def sealedCopy : Placed := ⟨⟨0, 17, 3, 0, 1, 1058, false, 0, some ({ plainRec with srtp := true }, [])⟩, 0, 10⟩

/-- P4 is UP with that copy first in its calendar; subscriber 3 has no key. -/
def unsealedModule : Device :=
  { Device.reset with
    lanes := { LanesState.reset with cages := [(0, [0, 0, 0, 0, 6, 0, 0, 0])], ports := [(4, { Port.reset with state := 2 })] }
    sched := { SchedState.reset with ports := [(4, { PortSched.reset with calendar := [sealedCopy] })] }
    out := { OutputState.reset with subs := [(3, Subscriber.ofRec plainRec)] } }

/-- The module after COPY_LAUNCH on P4. -/
def unsealedAfter : Device := (copyLaunch 4 (unsealedModule.at_ 0)).finishStops

/-- The copy is dropped, for want of a key, and no command is answered. -/
theorem unsealedAfter_drops :
    (Tab.find 3 unsealedAfter.out.subs).map (fun x => (x.sent, x.dropped)) = some (0, 1) ∧ (unsealedAfter.sched.port 4).copies = 0 ∧
      unsealedAfter.rk.rings = [] ∧ unsealedAfter.rk.mctpReply = none := by decide

/-- Refutes O35: its clause on COPY_LAUNCH has a copy sent wherever its subscriber's record asks for no SRTP now and the port is UP. A copy is governed by the
record in force at its packet's frame (07 R219), and one that asks for SRTP without a key is dropped (07 R228; assumption 15), though SUBSCRIBER_SET has since
ended SRTP. Ending channels counts no copy unless it answers a command, and here none is answered. -/
theorem not_schedulerHappeningsTakeEffect : ¬ Obligations.SchedulerHappeningsTakeEffect := by
  unfold Obligations.SchedulerHappeningsTakeEffect
  intro happenings
  obtain ⟨-, launch, -⟩ := happenings 0 ⟨unsealedModule, []⟩
  obtain ⟨a, ran, -, up, -⟩ := launch 4 sealedCopy [] (Subscriber.ofRec plainRec) rfl (by decide) (by decide) rfl rfl rfl
  obtain ⟨-, counted⟩ := up (by decide)
  have after : a.finishStops = unsealedAfter := (congrArg State.dev (Host.Outcome.next.inj ran)).symm
  obtain ⟨-, uncounted, rings, reply⟩ := unsealedAfter_drops
  rcases finishStops_answersOrQuiet a with answered | quiet
  case inl =>
    rw [after] at answered
    exact answered.elim (fun ring => ring rings) fun mctp => mctp reply
  case inr =>
    have before : (a.sched.port 4).copies = 0 := by rw [← quiet.sched, after, uncounted]
    exact absurd (before.symm.trans counted) (by decide)

end Sys2Proof.Proofs

/-!
PROOF. Cage layouts (09 R263, R286): the slots of an accepted layout form aligned blocks of one code, so each lane of a typed slot lies in the
block of one port.
-/
namespace Sys2Proof.Proofs

open Sys2Proof Sys2Proof.Machine Sys2Proof.Laws

/-! ### Aligned blocks of a cage's slots (Table 9.2) -/

theorem typeLanes_dvd_eight {code : Nat} (typed : typeLanes code ≠ 0) : typeLanes code ∣ 8 := by
  revert typed
  unfold typeLanes
  split_ifs <;> decide

section Blocks
variable {w i : Nat} (dvd : w ∣ 8)
include dvd

/-- The block of a slot lies within the cage. -/
theorem block_end_le (low : i < 8) : i / w * w + w ≤ 8 := by
  obtain ⟨n, eight⟩ := dvd
  have before : i / w < n := Nat.div_lt_of_lt_mul (eight ▸ low)
  calc i / w * w + w = (i / w + 1) * w := (Nat.succ_mul _ _).symm
    _ ≤ n * w := Nat.mul_le_mul_right w before
    _ = 8 := by rw [eight, Nat.mul_comm]

/-- The slots of one block are those with one quotient. -/
theorem forall_block_iff {P : Nat → Prop} (low : i < 8) : (∀ k < w, P (i / w * w + k)) ↔ ∀ j < 8, j / w = i / w → P j := by
  have pos : 0 < w := Nat.pos_of_dvd_of_pos dvd (by decide)
  constructor
  · intro block j _ same
    have at_ : i / w * w + j % w = j := by rw [← same]; exact Nat.div_add_mod' j w
    exact at_ ▸ block (j % w) (Nat.mod_lt j pos)
  · intro all k inside
    have end_ := block_end_le dvd low
    refine all _ (by omega) ?_
    rw [Nat.mul_comm, Nat.mul_add_div pos, Nat.div_eq_of_lt inside, Nat.add_zero]

/-- Two lanes of one block lie in one cage, and their slots there in one block. -/
theorem slots_of_same_block {m l : Nat} (same : m / w = l / w) : m / 8 = l / 8 ∧ m % 8 / w = l % 8 / w := by
  obtain ⟨n, eight⟩ := dvd
  have cage : m / 8 = l / 8 := by rw [eight, ← Nat.div_div_eq_div_mul, ← Nat.div_div_eq_div_mul, same]
  refine ⟨cage, ?_⟩
  rw [eight, Nat.mod_mul_right_div_self, Nat.mod_mul_right_div_self, same]

end Blocks

theorem cageOk_iff (s : List Nat) : cageOk s = true ↔ ∀ i < 8, s.getD i 0 ≤ 9 ∧
    ∀ j < 8, typeLanes (s.getD i 0) ≠ 0 → j / typeLanes (s.getD i 0) = i / typeLanes (s.getD i 0) → s.getD j 0 = s.getD i 0 := by
  simp only [cageOk, List.all_eq_true, List.mem_range, Bool.and_eq_true, decide_eq_true_eq, Bool.or_eq_true, beq_iff_eq]
  refine forall₂_congr fun i low => and_congr_right fun _ => ?_
  by_cases typed : typeLanes (s.getD i 0) = 0
  · exact iff_of_true (.inl typed) fun _ _ other => absurd typed other
  · rw [or_iff_right typed, forall_block_iff (P := fun j => s.getD j 0 = s.getD i 0) (typeLanes_dvd_eight typed) low]
    exact forall₂_congr fun j _ => ⟨fun same _ => same, fun same => same typed⟩

/-! ### Lanes and their ports (R263) -/

section Lanes
variable {x : LanesState} {p l : Nat}

theorem exists_iff : x.exists_ p = true ↔ p < 32 ∧ typeLanes (x.slot p) ≠ 0 ∧ p % typeLanes (x.slot p) = 0 := by
  simp [LanesState.exists_, and_assoc]

theorem mem_lanesOf : l ∈ x.lanesOf p ↔ p ≤ l ∧ l < p + typeLanes (x.slot p) := by
  simp only [LanesState.lanesOf, List.mem_map, List.mem_range]
  constructor
  · rintro ⟨i, inside, rfl⟩
    omega
  · rintro ⟨from_, below⟩
    exact ⟨l - p, by omega, by omega⟩

theorem portOf_of_typed (typed : typeLanes (x.slot l) ≠ 0) : x.portOf l = l / typeLanes (x.slot l) * typeLanes (x.slot l) := if_neg typed

/-- In an accepted layout the lanes of one block have one code. -/
theorem slot_of_same_block (ok : cageOk (Tab.read x.cages (l / 8) []) = true) (typed : typeLanes (x.slot l) ≠ 0) {m : Nat}
    (same : m / typeLanes (x.slot l) = l / typeLanes (x.slot l)) : x.slot m = x.slot l := by
  obtain ⟨cage, block⟩ := slots_of_same_block (typeLanes_dvd_eight typed) same
  obtain ⟨-, one⟩ := (cageOk_iff _).mp ok (l % 8) (Nat.mod_lt l (by decide))
  unfold LanesState.slot at *
  rw [cage]
  exact one (m % 8) (Nat.mod_lt m (by decide)) typed block

/-- The lane belongs to its port. -/
theorem exists_portOf (low : l < 32) (ok : cageOk (Tab.read x.cages (l / 8) []) = true) (typed : typeLanes (x.slot l) ≠ 0) :
    x.exists_ (x.portOf l) = true ∧ l ∈ x.lanesOf (x.portOf l) := by
  have pos := Nat.pos_of_ne_zero typed
  have code : x.slot (l / typeLanes (x.slot l) * typeLanes (x.slot l)) = x.slot l := slot_of_same_block ok typed (Nat.mul_div_cancel _ pos)
  rw [exists_iff, mem_lanesOf, portOf_of_typed typed, code]
  have start := Nat.div_mul_le_self l (typeLanes (x.slot l))
  exact ⟨⟨by omega, typed, Nat.mul_mod_left ..⟩, start, Nat.lt_div_mul_add pos⟩

/-- A port that has the lane is the lane's own. -/
theorem eq_portOf_of_mem (ok : cageOk (Tab.read x.cages (l / 8) []) = true) (there : x.exists_ p = true) (mem : l ∈ x.lanesOf p) : p = x.portOf l := by
  obtain ⟨-, typed, aligned⟩ := exists_iff.mp there
  obtain ⟨from_, below⟩ := mem_lanesOf.mp mem
  have start : p / typeLanes (x.slot p) * typeLanes (x.slot p) = p := Nat.div_mul_cancel (Nat.dvd_of_mod_eq_zero aligned)
  have same : l / typeLanes (x.slot p) = p / typeLanes (x.slot p) :=
    Nat.div_eq_of_lt_le (start.trans_le from_) (by rwa [Nat.succ_mul, start])
  obtain ⟨cage, -⟩ := slots_of_same_block (typeLanes_dvd_eight typed) same
  have code : x.slot l = x.slot p := slot_of_same_block (cage ▸ ok) typed same
  rw [portOf_of_typed (code ▸ typed), code, same, start]

end Lanes

/-- Settles O37: the slots of a block are those with one quotient, and a lane's port begins its block. -/
theorem cageLayoutsAreAlignedBlocks : Obligations.CageLayoutsAreAlignedBlocks := by
  unfold Obligations.CageLayoutsAreAlignedBlocks
  refine ⟨cageOk_iff, fun x l low ok typed => ?_⟩
  obtain ⟨there, mine⟩ := exists_portOf low ok typed
  exact ⟨there, mine, fun p _ other mem => eq_portOf_of_mem ok other mem⟩

end Sys2Proof.Proofs

/-!
PROOF. Lane and port commands (09 R266 to R286): what a step leaves of the ports and lanes, how a port changes its state, and the effects of the commands
0x0701 to 0x0708. A command over several ports or lanes is a fold; each port or lane is followed through it by what one step does to it.
-/
namespace Sys2Proof.Proofs

open Sys2Proof Sys2Proof.Machine Sys2Proof.Laws

/-! ### One part of a state through a fold over numbers -/

section Folds
variable {β γ : Type} {step : β → Nat → β} {part : β → γ} {k : Nat} {ks : List Nat} (other : ∀ b j, k ≠ j → part (step b j) = part b)
include other

theorem foldl_untouched (absent : k ∉ ks) (b : β) : part (ks.foldl step b) = part b := by
  induction ks generalizing b with
  | nil => rfl
  | cons j ks ih =>
    obtain ⟨differs, later⟩ := List.ne_and_not_mem_of_not_mem_cons absent
    rw [List.foldl_cons, ih later, other b j differs]

/-- The step of a number that comes once changes its part once. -/
theorem foldl_once {g : γ → γ} (own : ∀ b, part (step b k) = g (part b)) (once : ks.Nodup) (mem : k ∈ ks) (b : β) :
    part (ks.foldl step b) = g (part b) := by
  induction ks generalizing b with
  | nil => cases mem
  | cons j ks ih =>
    obtain ⟨absent, nodup⟩ := List.nodup_cons.mp once
    rw [List.foldl_cons]
    by_cases this : k = j
    · subst this
      rw [foldl_untouched other absent, own]
    · rw [ih nodup (List.mem_of_ne_of_mem this mem), other b j this]

/-- What the step of a number makes true of its part holds after the fold. -/
theorem foldl_reaches {P : γ → Prop} (own : ∀ b, P (part (step b k))) (mem : k ∈ ks) (b : β) : P (part (ks.foldl step b)) := by
  induction ks generalizing b with
  | nil => cases mem
  | cons j ks ih =>
    by_cases later : k ∈ ks
    · exact ih later _
    · obtain rfl : k = j := (List.mem_cons.mp mem).resolve_right later
      rw [List.foldl_cons, foldl_untouched other later]
      exact own b

end Folds

/-- A record written twice is the last one written. -/
theorem put_put {α : Type} (k : Nat) (v w : α) (t : Tab α) : Tab.put k v (Tab.put k w t) = Tab.put k v t := by
  induction t with
  | nil => simp [Tab.put]
  | cons e t ih =>
    obtain ⟨j, u⟩ := e
    by_cases before : k < j
    · simp [Tab.put, before]
    · by_cases same : j = k
      · simp [Tab.put, same]
      · simp [Tab.put, before, same, ih]

/-! ### Ports and lanes after a write (Table 9.13) -/

section Rules
variable (p q l m : Nat) (x : Port) (y : Lane) (evs : List (Nat × Nat)) (d : Device)

theorem setPort_lanes : (d.setPort p x).lanes = d.lanes.setPort p x := rfl
@[simp] theorem setPort_port_same : (d.setPort p x).port p = x := read_put_same ..
@[simp] theorem setPort_lane : (d.setPort p x).lane l = d.lane l := rfl
@[simp] theorem setLane_lane_same : (d.setLane l y).lane l = y := read_put_same ..
@[simp] theorem setLane_port : (d.setLane l y).port p = d.port p := rfl
@[simp] theorem raise_port : (d.raise evs).port p = d.port p := rfl
@[simp] theorem raise_lane : (d.raise evs).lane l = d.lane l := rfl

theorem setPort_setPort (z : Port) : (d.setPort p z).setPort p x = d.setPort p x := by
  simp only [Device.setPort, LanesState.setPort, put_put]

variable {p q l m}

theorem setPort_port_other (h : q ≠ p) : (d.setPort p x).port q = d.port q := read_put_other h ..
theorem setLane_lane_other (h : m ≠ l) : (d.setLane l y).lane m = d.lane m := read_put_other h ..

end Rules

/-- A port whose state becomes `state` (R267): leaving UP counts as a link down. -/
def enterState (state : Nat) (x : Port) : Port :=
  { x with state := state, linkDowns := if x.state = 2 ∧ state ≠ 2 then satAdd max64 x.linkDowns 1 else x.linkDowns }

section PortTo
variable (p q state cause l : Nat) (d : Device)

theorem portTo_lanes : (d.portTo p state cause).lanes = d.lanes.setPort p (enterState state (d.port p)) := by
  unfold Device.portTo enterState
  by_cases leaves : (d.port p).state = 2 ∧ state ≠ 2
  · rw [if_pos (by simp [leaves]), if_pos leaves]
    rfl
  · rw [if_neg (by simpa using leaves), if_neg leaves]
    rfl

theorem setPort_portTo_lanes (x : Port) : ((d.setPort p x).portTo p state cause).lanes = d.lanes.setPort p (enterState state x) := by
  rw [portTo_lanes, setPort_port_same]
  exact congrArg Device.lanes (setPort_setPort p _ d x)

@[simp] theorem portTo_port_same : (d.portTo p state cause).port p = enterState state (d.port p) := by
  rw [Device.port, portTo_lanes]
  exact read_put_same ..

@[simp] theorem portTo_lane : (d.portTo p state cause).lane l = d.lane l := by
  rw [Device.lane, portTo_lanes]
  rfl

@[simp] theorem portTo_cages : (d.portTo p state cause).lanes.cages = d.lanes.cages := by
  rw [portTo_lanes]
  rfl

theorem portTo_port_other {p q : Nat} (h : q ≠ p) : (d.portTo p state cause).port q = d.port q := by
  rw [Device.port, portTo_lanes]
  exact read_put_other h ..

theorem portTo_recd : ((d.portTo p state cause).port q).recd = (d.port q).recd := by
  by_cases same : q = p
  · rw [same, portTo_port_same]
    rfl
  · rw [portTo_port_other _ _ _ same]

variable (cond : Prop) [Decidable cond]

@[simp] theorem portTo_if_lane : (if cond then d.portTo p state cause else d).lane l = d.lane l := by
  split
  · exact portTo_lane ..
  · rfl

theorem portTo_if_port_other {p q : Nat} (h : q ≠ p) : (if cond then d.portTo p state cause else d).port q = d.port q := by
  split
  · exact portTo_port_other _ _ _ h
  · rfl

end PortTo

section EndTest
variable (p l : Nat) (d : Device)

@[simp] theorem endTest_port : (d.endTest l).port p = d.port p := by
  unfold Device.endTest
  extract_lets x
  split <;> rfl

@[simp] theorem endTest_cages : (d.endTest l).lanes.cages = d.lanes.cages := by
  unfold Device.endTest
  extract_lets x
  split <;> rfl

theorem endTest_lane_other {l m : Nat} (h : m ≠ l) : (d.endTest l).lane m = d.lane m := by
  unfold Device.endTest
  extract_lets x
  split
  · rfl
  · exact setLane_lane_other _ _ h

theorem quiet_endTest : Quiet d (d.endTest l) := quiet_ite (.refl d) ⟨rfl, rfl, rfl⟩

end EndTest

/-! ### A command at its answer -/

section Accounts
variable {d e : Device} (accounts : AccountsOnly d e)
include accounts

theorem lanes_of_accountsOnly : e.lanes = d.lanes := by
  obtain ⟨_, _, _, _, rfl⟩ := accounts
  rfl

theorem sched_of_accountsOnly : e.sched = d.sched := by
  obtain ⟨_, _, _, _, rfl⟩ := accounts
  rfl

theorem port_of_accountsOnly (p : Nat) : e.port p = d.port p := congrArg (LanesState.port · p) (lanes_of_accountsOnly accounts)

theorem lane_of_accountsOnly (l : Nat) : e.lane l = d.lane l := congrArg (LanesState.lane · l) (lanes_of_accountsOnly accounts)

end Accounts

/-- A command that passes its checks and is not held up answers with the module it applies, but for the interface's accounts. -/
theorem answers_of_passes {i : Instr} {sp : CmdSpec} {t : Nat} {ring : Fin 4} {entry : Bytes} {s : State}
    (runs : exec i s = .next { s with dev := runRow sp ring entry (s.dev.at_ t) }) (notBusy : ∀ c d, (sp.apply c d).final.map (·.1) ≠ some stBusy)
    (ok : passes sp t ring entry s = true) (atOnce : sp.atOnce (ctxAt sp t ring entry s) (takenAt t ring entry s) = true) :
    ∃ d', exec i s = .next { s with dev := d' } ∧ AccountsOnly (sp.apply (ctxAt sp t ring entry s) (takenAt t ring entry s)).dev d' :=
  commandDoes_of_apply (eff := fun c d => (sp.apply c d).dev) runs (fun _ _ => rfl) notBusy ok atOnce

/-! ### CAGE_SET (R266) -/

theorem mem_cagePorts {p k : Nat} {s : List Nat} :
    p ∈ cagePorts k s ↔ p / 8 = k ∧ typeLanes (s.getD (p % 8) 0) ≠ 0 ∧ p % 8 % typeLanes (s.getD (p % 8) 0) = 0 := by
  simp only [cagePorts, List.mem_map, List.mem_filter, List.mem_range, Bool.and_eq_true, bne_iff_ne, beq_iff_eq]
  constructor
  · rintro ⟨i, ⟨low, first⟩, rfl⟩
    rw [Nat.mul_add_mod, Nat.mod_eq_of_lt low]
    exact ⟨by omega, first⟩
  · rintro ⟨cage, first⟩
    exact ⟨p % 8, ⟨Nat.mod_lt p (by decide), first⟩, by omega⟩

/-- The cage's ports go down, and the tests on its lanes end. -/
def clearCage (k : Nat) (d : Device) : Device :=
  ((List.range 8).map (8 * k + ·)).foldl (fun d l => d.endTest l) ((cagePorts k (Tab.read d.lanes.cages k [])).foldl (fun d p => d.portTo p 0 6) d)

/-- The cage has the layout. -/
def layCage (k : Nat) (s : List Nat) (d : Device) : Device := { d with lanes := { d.lanes with cages := Tab.put k s d.lanes.cages } }

/-- A port starts: it trains, or it is DISABLED. -/
def startPort (d : Device) (p : Nat) : Device := d.portTo p (d.port p).idleState 6

@[simp] theorem layCage_port (k p : Nat) (s : List Nat) (d : Device) : (layCage k s d).port p = d.port p := rfl

@[simp] theorem layCage_sched (k : Nat) (s : List Nat) (d : Device) : (layCage k s d).sched = d.sched := rfl

theorem cageSet_apply (c : Ctx) (d : Device) :
    cageSet.apply c d = Done.ok ((cagePorts c.handle (cageSlots c)).foldl startPort (layCage c.handle (cageSlots c) (clearCage c.handle d))) := by
  have start : startPort = fun d p => d.portTo p (d.port p).idleState 6 := rfl
  simp only [cageSet, clearCage, layCage, start]

/-- A part of the module that neither `portTo` nor `endTest` touches is as before once the cage is cleared. -/
theorem clearCage_keeps {α : Type} {part : Device → α} (downs : ∀ d p, part (d.portTo p 0 6) = part d) (ends : ∀ d l, part (d.endTest l) = part d)
    (k : Nat) (d : Device) : part (clearCage k d) = part d :=
  (foldl_keeps ends _ _).trans (foldl_keeps downs _ _)

section CageSet
variable (k : Nat) (s : List Nat) (d : Device)

theorem clearCage_cages : (clearCage k d).lanes.cages = d.lanes.cages :=
  clearCage_keeps (part := fun d => d.lanes.cages) (fun d p => portTo_cages p 0 6 d) (fun d l => endTest_cages l d) k d

theorem clearCage_recd (p : Nat) : ((clearCage k d).port p).recd = (d.port p).recd :=
  clearCage_keeps (part := fun d => (d.port p).recd) (fun d q => portTo_recd q p 0 6 d) (fun d l => by rw [endTest_port]) k d

theorem clearCage_port_other {p : Nat} (h : p / 8 ≠ k) : (clearCage k d).port p = d.port p := by
  refine (foldl_keeps (part := Device.port p) (fun d l => endTest_port p l d) _ _).trans ?_
  exact foldl_untouched (part := Device.port p) (fun d q differs => portTo_port_other 0 6 d differs) (fun mem => h (mem_cagePorts.mp mem).1) d

theorem clearCage_sched : (clearCage k d).sched = d.sched :=
  clearCage_keeps (fun d p => (quiet_portTo d p 0 6).sched) (fun d l => (quiet_endTest l d).sched) k d

theorem startPorts_cages (ps : List Nat) : (ps.foldl startPort d).lanes.cages = d.lanes.cages :=
  foldl_keeps (part := fun d : Device => d.lanes.cages) (fun d p => portTo_cages p _ 6 d) ps d

theorem startPorts_state {ps : List Nat} {p : Nat} (mem : p ∈ ps) : ((ps.foldl startPort d).port p).state = if (d.port p).recd.enable then 1 else 0 := by
  have recd : ((ps.foldl startPort d).port p).recd = (d.port p).recd :=
    foldl_keeps (part := fun d : Device => (d.port p).recd) (fun d q => portTo_recd q p _ 6 d) ps d
  rw [← recd]
  refine foldl_reaches (part := Device.port p) (P := fun x : Port => x.state = if x.recd.enable then 1 else 0)
    (fun d q differs => portTo_port_other _ 6 d differs) (fun d => ?_) mem d
  rw [portTo_port_same]
  rfl

theorem startPorts_port_other {ps : List Nat} {p : Nat} (absent : p ∉ ps) : (ps.foldl startPort d).port p = d.port p :=
  foldl_untouched (part := Device.port p) (fun d _ differs => portTo_port_other _ 6 d differs) absent d

theorem startPorts_sched (ps : List Nat) : (ps.foldl startPort d).sched = d.sched :=
  foldl_keeps (part := fun d : Device => d.sched) (fun d p => (quiet_portTo d p _ 6).sched) ps d

end CageSet

theorem slot_of_put {x y : LanesState} {k : Nat} {s : List Nat} (laid : y.cages = Tab.put k s x.cages) (l : Nat) :
    y.slot l = if l / 8 = k then s.getD (l % 8) 0 else x.slot l := by
  unfold LanesState.slot
  rw [laid]
  split
  · next here => rw [here, read_put_same]
  · next other => rw [read_put_other other]

section CageSetApply
variable (c : Ctx) (d : Device)

theorem cageSet_slot (l : Nat) :
    (cageSet.apply c d).dev.lanes.slot l = if l / 8 = c.handle then (cageSlots c).getD (l % 8) 0 else d.lanes.slot l := by
  refine slot_of_put ?_ l
  rw [cageSet_apply, Done.ok, startPorts_cages, layCage, clearCage_cages]

theorem cageSet_port_state {p : Nat} (mem : p ∈ cagePorts c.handle (cageSlots c)) :
    ((cageSet.apply c d).dev.port p).state = if (d.port p).recd.enable then 1 else 0 := by
  rw [cageSet_apply, Done.ok, startPorts_state _ mem, layCage_port, clearCage_recd]

theorem cageSet_port_other {p : Nat} (h : p / 8 ≠ c.handle) : (cageSet.apply c d).dev.port p = d.port p := by
  rw [cageSet_apply, Done.ok, startPorts_port_other _ fun mem => h (mem_cagePorts.mp mem).1, layCage_port, clearCage_port_other _ _ h]

theorem cageSet_sched : (cageSet.apply c d).dev.sched = d.sched := by
  rw [cageSet_apply, Done.ok, startPorts_sched, layCage_sched, clearCage_sched]

end CageSetApply

/-! ### PORT_SET (R271, assumption 13; 02 R56) -/

theorem portSet_apply (c : Ctx) (d : Device) : portSet.apply c d = Done.ok (
    let x := d.port c.handle
    let r := parsePort c
    let a := d.setPort c.handle { x with recd := r }
    let fresh := ({ a.time with lat := Tab.del (latKey false c.handle 2) (Tab.del (latKey true c.handle 2) a.time.lat) }).restartPort c.handle
    let b := if x.recd.rsFec = r.rsFec then a else a.setTime fresh
    if r.enable = false ∨ x.state = 0 ∨ x.recd.direction ≠ r.direction ∨ x.recd.rsFec ≠ r.rsFec then b.portTo c.handle (b.startState c.handle) 7 else b) := by
  by_cases fec : (d.port c.handle).recd.rsFec = (parsePort c).rsFec <;> simp [portSet, fec, or_assoc]

/-! ### LANE_TEST_SET (R275, R276) -/

section LaneTest
variable {c : Ctx} (d : Device)

theorem laneTestSet_begins (on : c.p 0 1 ≠ 0) : (laneTestSet.apply c d).dev =
    let d1 := d.setLane c.handle { d.lane c.handle with test := parseTest c, locked := false, lockLost := false, bits := 0, errors := 0 }
    if d.lanes.exists_ (d.lanes.portOf c.handle) then d1.portTo (d.lanes.portOf c.handle) 4 4 else d1 := by
  have mode : (parseTest c).mode ≠ 0 := on
  simp [laneTestSet, mode, Done.ok]

/-- Where the test of a lane ends, its port alone may change its state. -/
theorem laneTestSet_ends (off : c.p 0 1 = 0) : ∃ cond : Bool, (laneTestSet.apply c d).dev =
    let d1 := (d.endTest c.handle).setLane c.handle { (d.endTest c.handle).lane c.handle with test := parseTest c }
    if cond then d1.portTo (d.lanes.portOf c.handle) (d1.port (d.lanes.portOf c.handle)).idleState 4 else d1 := by
  have mode : (parseTest c).mode = 0 := off
  have test : { parseTest c with mode := 0 } = parseTest c := by rw [← mode]
  simp only [laneTestSet, mode, bne_self_eq_false, Bool.false_eq_true, if_false, Done.ok, test]
  exact ⟨_, rfl⟩

theorem laneTestSet_test : ((laneTestSet.apply c d).dev.lane c.handle).test = parseTest c := by
  by_cases mode : c.p 0 1 = 0
  · obtain ⟨cond, ends⟩ := laneTestSet_ends d mode
    rw [ends, portTo_if_lane, setLane_lane_same]
  · rw [laneTestSet_begins d mode, portTo_if_lane, setLane_lane_same]

theorem laneTestSet_lane_other {l : Nat} (h : l ≠ c.handle) : (laneTestSet.apply c d).dev.lane l = d.lane l := by
  by_cases mode : c.p 0 1 = 0
  · obtain ⟨cond, ends⟩ := laneTestSet_ends d mode
    rw [ends, portTo_if_lane, setLane_lane_other _ _ h, endTest_lane_other _ h]
  · rw [laneTestSet_begins d mode, portTo_if_lane, setLane_lane_other _ _ h]

theorem laneTestSet_port_other {p : Nat} (h : p ≠ d.lanes.portOf c.handle) : (laneTestSet.apply c d).dev.port p = d.port p := by
  by_cases mode : c.p 0 1 = 0
  · obtain ⟨cond, ends⟩ := laneTestSet_ends d mode
    rw [ends, portTo_if_port_other _ _ _ _ h, setLane_port, endTest_port]
  · rw [laneTestSet_begins d mode, portTo_if_port_other _ _ _ _ h, setLane_port]

theorem laneTestSet_counts (on : c.p 0 1 ≠ 0) :
    let y := (laneTestSet.apply c d).dev.lane c.handle
    y.bits = 0 ∧ y.errors = 0 ∧ y.lockLost = false := by
  rw [laneTestSet_begins d on, portTo_if_lane, setLane_lane_same]
  exact ⟨rfl, rfl, rfl⟩

theorem laneTestSet_port_state (on : c.p 0 1 ≠ 0) (there : d.lanes.exists_ (d.lanes.portOf c.handle) = true) :
    ((laneTestSet.apply c d).dev.port (d.lanes.portOf c.handle)).state = 4 := by
  rw [laneTestSet_begins d on]
  dsimp only
  rw [if_pos there, portTo_port_same]
  rfl

theorem laneTestSet_ne_busy (c : Ctx) (d : Device) : (laneTestSet.apply c d).final.map (·.1) ≠ some stBusy := by
  simp only [laneTestSet]
  split <;> exact fun busy => nomatch Option.some.inj busy

end LaneTest

/-! ### HOSTLANE_TEST (R284) -/

theorem linkLoss_down (code : Nat) (d : Device) : (d.linkLoss code).link.up = false := by
  unfold Device.linkLoss
  split
  · rfl
  · next down => exact Bool.eq_false_of_not_eq_true down

/-- HOSTLANE_TEST runs as it is taken: it has its completion written itself. -/
theorem exec_hostlaneTest {t : Nat} {ring : Fin 4} {entry : Bytes} {s : State} (ok : passes hostlaneTest t ring entry s = true) :
    exec (.hostlaneTest t ring entry) s =
      .next { s with dev := (hostlaneTest.apply (ctxAt hostlaneTest t ring entry s) (takenAt t ring entry s)).dev } :=
  answers_of_eq rfl ((runRow_of_passes hostlaneTest t ring entry s ok rfl).trans (if_pos ⟨nofun, rfl⟩))

/-- Settles O36: each command's specification applies the effect stated for it; CAGE_SET and LANE_TEST_SET are followed port by port and lane by lane. -/
theorem laneCommandsTakeEffect : Obligations.LaneCommandsTakeEffect := by
  unfold Obligations.LaneCommandsTakeEffect
  intro t ring entry s
  refine ⟨?cage, ?port, ?synce, ?test, ?recal, ?host, ?portStatus, ?laneStatus⟩
  case cage =>
    intro c slots ok
    obtain ⟨d', runs, accounts⟩ := answers_of_passes (i := .cageSet t ring entry) rfl (fun _ _ busy => nomatch Option.some.inj busy) ok rfl
    refine ⟨d', runs, fun l => ?_, fun p mem => ?_, fun p other => ?_, ?_⟩
    · rw [lanes_of_accountsOnly accounts]
      exact cageSet_slot _ _ l
    · rw [port_of_accountsOnly accounts]
      exact cageSet_port_state _ _ mem
    · rw [port_of_accountsOnly accounts]
      exact cageSet_port_other _ _ other
    · rw [sched_of_accountsOnly accounts]
      exact cageSet_sched _ _
  case port => exact commandDoes_of_ok rfl portSet_apply
  case synce => exact commandDoes_of_ok rfl fun _ _ => rfl
  case test =>
    intro c d ok
    obtain ⟨d', runs, accounts⟩ := answers_of_passes (i := .laneTestSet t ring entry) rfl laneTestSet_ne_busy ok rfl
    refine ⟨d', runs, ?_⟩
    simp only [lane_of_accountsOnly accounts, port_of_accountsOnly accounts]
    refine ⟨laneTestSet_test d, fun l other => laneTestSet_lane_other d other, fun on => ?_, fun p other => laneTestSet_port_other d other⟩
    obtain ⟨bits, errors, lost⟩ := laneTestSet_counts d on
    exact ⟨bits, errors, lost, laneTestSet_port_state d on⟩
  case recal => exact commandDoes_of_apply rfl (fun _ _ => rfl) fun _ _ => nofun
  case host => exact fun ok => ⟨_, exec_hostlaneTest ok, linkLoss_down .., rfl⟩
  case portStatus => exact commandDoes_of_ok rfl fun _ _ => rfl
  case laneStatus => exact commandDoes_of_ok rfl fun _ _ => rfl

end Sys2Proof.Proofs

/-!
PROOF. What lanes, ports and transceivers do (09 R267 to R270, R274, R275, R279, R280, R284, R285). Each happening gets an equation under the condition that
its clause names; the happenings of several lanes or ports are followed lane by lane and port by port.
-/
namespace Sys2Proof.Proofs

open Sys2Proof Sys2Proof.Machine Sys2Proof.Laws

/-! ### The end of a recalibration (R280, Table 9.6) -/

@[simp] theorem decideCtx_lanes (x : Ctx) (status detail : Nat) (frame : Option Nat) (eff : Nat) (d : Device) :
    (d.decideCtx x status detail frame eff).lanes = d.lanes := by
  unfold Device.decideCtx Device.decide
  cases x.origin with
  | mctp => rfl
  | ring r seq =>
    dsimp only
    split <;> rfl

@[simp] theorem decideCtx_works (x : Ctx) (status detail : Nat) (frame : Option Nat) (eff : Nat) (d : Device) :
    (d.decideCtx x status detail frame eff).rk.works = d.rk.works := by
  unfold Device.decideCtx Device.decide
  cases x.origin with
  | mctp => rfl
  | ring r seq =>
    dsimp only
    split <;> rfl

theorem exists_takeWork {ok : Work → Bool} {w : Work} {ws : List Work} (mem : w ∈ ws) (good : ok w = true) :
    ∃ v rest, takeWork ok ws = some (v, rest) ∧ rest.length + 1 = ws.length := by
  induction ws with
  | nil => cases mem
  | cons u ws ih =>
    by_cases first : ok u = true
    · exact ⟨u, ws, by rw [takeWork, if_pos first], rfl⟩
    · have later : w ∈ ws := (List.mem_cons.mp mem).resolve_left fun same => first (same ▸ good)
      obtain ⟨v, rest, taken, length⟩ := ih later
      exact ⟨v, u :: rest, by rw [takeWork, if_neg first, taken], congrArg (· + 1) length⟩

section RecalOver
variable (p cause detail : Nat) (d : Device)

theorem recalOver_lanes : (d.recalOver p cause detail).lanes = { d.lanes with recal := none, recalDone := false } := by
  unfold Device.recalOver
  extract_lets d1 d2
  split
  · rfl
  · exact decideCtx_lanes ..

@[simp] theorem recalOver_port (q : Nat) : (d.recalOver p cause detail).port q = d.port q := by
  rw [Device.port, recalOver_lanes]
  rfl

@[simp] theorem recalOver_lane (l : Nat) : (d.recalOver p cause detail).lane l = d.lane l := by
  rw [Device.lane, recalOver_lanes]
  rfl

theorem recalOver_works {v : Work} {rest : List Work} (taken : takeWork (fun w => w.unit == unitRecal) d.rk.works = some (v, rest)) :
    (d.recalOver p cause detail).rk.works = rest := by
  simp only [Device.recalOver, raise_rk, taken]
  exact decideCtx_works ..

theorem recalTimeout_of {ls : List Nat} {w : Work} {x : Nat} (recal : d.lanes.recal = some (p, ls)) (done : d.lanes.recalDone = true)
    (mem : w ∈ d.rk.works) (unit : w.unit = unitRecal) (due : w.due = some x) (past : x ≤ d.now) : recalTimeout d = d.recalOver p 4 0x0701 := by
  simp only [recalTimeout, recal]
  exact if_pos (Bool.and_eq_true_iff.mpr ⟨done, List.any_eq_true.mpr ⟨w, mem, by simp [unit, due, past]⟩⟩)

end RecalOver

theorem setLane_now (l : Nat) (y : Lane) (d : Device) : (d.setLane l y).now = d.now := rfl

/-- The lanes of a recalibration have finished. -/
def calibrated (ls : List Nat) (d : Device) : Device :=
  ls.foldl (fun d l => d.setLane l { d.lane l with recal := false, recals := satAdd max64 (d.lane l).recals 1, lastRecal := d.now }) d

section Calibration
variable (ls : List Nat) (d : Device)

theorem calibrated_port (p : Nat) : (calibrated ls d).port p = d.port p := foldl_keeps (part := Device.port p) (fun d l => setLane_port p l _ d) ls d

theorem calibrated_lane {l : Nat} (mem : l ∈ ls) : ((calibrated ls d).lane l).recal = false ∧ ((calibrated ls d).lane l).lastRecal = d.now := by
  have now : (calibrated ls d).now = d.now := foldl_keeps (part := Device.now) (fun d l => setLane_now l _ d) ls d
  rw [← now]
  refine foldl_reaches (part := fun d : Device => (d.lane l, d.now)) (P := fun y => y.1.recal = false ∧ y.1.lastRecal = y.2)
    (fun d m differs => ?_) (fun d => ?_) mem d
  · exact congrArg (·, d.now) (setLane_lane_other _ d differs)
  · rw [setLane_lane_same]
    exact ⟨rfl, rfl⟩

variable {p : Nat} (recal : d.lanes.recal = some (p, ls)) (running : d.lanes.recalDone = false)
include recal running

theorem calibrationDone_lanes :
    (calibrationDone d).lanes = { ((calibrated ls d).portTo p ((calibrated ls d).port p).idleState 5).lanes with recalDone := true } := by
  simp only [calibrationDone, recal, running, Bool.false_eq_true, if_false]
  rfl

theorem calibrationDone_port : (calibrationDone d).port p = enterState (d.port p).idleState (d.port p) := by
  rw [Device.port, calibrationDone_lanes ls d recal running, ← calibrated_port ls d p]
  exact portTo_port_same ..

theorem calibrationDone_lane (l : Nat) : (calibrationDone d).lane l = (calibrated ls d).lane l := by
  rw [Device.lane, calibrationDone_lanes ls d recal running]
  exact portTo_lane ..

end Calibration

/-! ### PORT_UP (R268) -/

section PortUp
variable (p : Nat) (d : Device)

theorem receivers_port (q : Nat) : (d.receivers p).port q = d.port q := by
  unfold Device.receivers
  split
  · rfl
  · exact foldl_keeps (part := Device.port q) (fun d l => setLane_port q l _ d) _ d

theorem receivers_lane {l : Nat} (receives : (d.port p).recd.direction ≠ 1) (mem : l ∈ d.lanes.lanesOf p) :
    ((d.receivers p).lane l).signal = true ∧ ((d.receivers p).lane l).cdr = true := by
  rw [Device.receivers, if_neg receives]
  refine foldl_reaches (part := Device.lane l) (P := fun y => y.signal = true ∧ y.cdr = true) (fun d _ differs => setLane_lane_other _ d differs)
    (fun d => ?_) mem d
  rw [setLane_lane_same]
  exact ⟨rfl, rfl⟩

/-- The port has its locks, and E129 + 2p is raised. -/
def lockPort (p : Nat) (d : Device) : Device :=
  ((d.setPort p { d.port p with state := 2, lastUp := d.now, localFault := false, remoteFault := false }).receivers p).raise [(129 + 2 * p, det2 p 0)]

theorem lockPort_port : (lockPort p d).port p = { d.port p with state := 2, lastUp := d.now, localFault := false, remoteFault := false } := by
  rw [lockPort, raise_port, receivers_port, setPort_port_same]

theorem lockPort_lane {l : Nat} (receives : (d.port p).recd.direction ≠ 1) (mem : l ∈ d.lanes.lanesOf p) :
    ((lockPort p d).lane l).signal = true ∧ ((lockPort p d).lane l).cdr = true := by
  rw [lockPort, raise_lane]
  exact receivers_lane p _ (by rwa [setPort_port_same]) mem

section Locks
variable {p d} (there : d.lanes.exists_ p = true) (trains : (d.port p).state = 1) (inService : d.lanesUp p = true) (powered : (d.port p).cmis ≠ 1)
include there trains inService powered

theorem portUp_of : portUp p d = if (lockPort p d).lanes.recalWaits p then (lockPort p d).recalOver p 3 0 else lockPort p d :=
  if_pos (by simp [there, trains, inService, powered, cmisLowPwr])

/-- Ending a recalibration leaves the port as its locks made it. -/
theorem portUp_port : (portUp p d).port p = { d.port p with state := 2, lastUp := d.now, localFault := false, remoteFault := false } := by
  rw [portUp_of there trains inService powered, apply_ite (Device.port p), recalOver_port, ite_self, lockPort_port]

theorem portUp_lane (l : Nat) : (portUp p d).lane l = (lockPort p d).lane l := by
  rw [portUp_of there trains inService powered, apply_ite (Device.lane l), recalOver_lane, ite_self]

end Locks

end PortUp

/-! ### Faults and optics (R269, R270) -/

theorem faultReceived_up {p : Nat} (remote : Bool) {d : Device} (there : d.lanes.exists_ p = true) (up : (d.port p).state = 2)
    (duplex : (d.port p).recd.direction = 0) :
    faultReceived p remote d =
      let x : Port := { d.port p with
        state := 3, localFault := (d.port p).localFault || !remote, remoteFault := (d.port p).remoteFault || remote
        linkDowns := satAdd max64 (d.port p).linkDowns 1 }
      (d.setPort p x).raise [(128 + 2 * p, det2 p (if remote then 2 else 1))] := by
  have cause : 1 + bit01 remote = if remote then 2 else 1 := by cases remote <;> rfl
  simp [faultReceived, there, up, duplex, Device.portTo, setPort_setPort, cause]

theorem faultReceived_oneWay {p : Nat} (remote : Bool) {d : Device} (oneWay : (d.port p).recd.direction ≠ 0) : faultReceived p remote d = d :=
  if_neg (by simp [oneWay])

/-- R270 names no state after FAULT: the port trains (assumption 102). -/
theorem faultCleared_of {p : Nat} {d : Device} (there : d.lanes.exists_ p = true) (down : (d.port p).state = 3) :
    faultCleared p d = d.setPort p { d.port p with state := 1, localFault := false, remoteFault := false } :=
  if_pos (by simp [there, down])

/-- What OPTICS_CHANGE makes of a port of its cage. -/
def opticsPort (inserted : Bool) (cmis mw : Nat) (temp : Int) (there : Bool) (x : Port) : Port :=
  let y := { x with optics := inserted, opticsTemp := temp, cmis := if inserted then if 12000 < mw then 1 else cmis else 0 }
  if inserted = false ∧ there = true ∧ (x.state = 2 ∨ x.state = 3) then enterState 1 y else y

/-- OPTICS_CHANGE at one port of its cage. -/
def opticsStep (inserted : Bool) (cmis mw : Nat) (temp : Int) (d : Device) (p : Nat) : Device :=
  let x := d.port p
  let d1 := d.setPort p { x with optics := inserted, opticsTemp := temp, cmis := if inserted then (if 12000 < mw then cmisLowPwr else cmis) else 0 }
  if inserted then d1 else if d.lanes.exists_ p && (x.state = 2 || x.state = 3) then d1.portTo p 1 3 else d1

section Reports
variable (inserted : Bool) (cmis mw : Nat) (temp : Int) (x : Port)

theorem opticsPort_reports (there : Bool) : let y := opticsPort inserted cmis mw temp there x
    y.optics = inserted ∧ y.opticsTemp = temp ∧ y.cmis = if inserted then if 12000 < mw then 1 else cmis else 0 := by
  unfold opticsPort
  by_cases falls : inserted = false ∧ there = true ∧ (x.state = 2 ∨ x.state = 3)
  · rw [if_pos falls]
    exact ⟨rfl, rfl, rfl⟩
  · rw [if_neg falls]
    exact ⟨rfl, rfl, rfl⟩

theorem opticsPort_state : (opticsPort inserted cmis mw temp true x).state = if inserted = false ∧ (x.state = 2 ∨ x.state = 3) then 1 else x.state := by
  simp only [opticsPort, true_and]
  split <;> rfl

end Reports

section Optics
variable (inserted : Bool) (cmis mw : Nat) (temp : Int) (d : Device)

theorem opticsChange_eq (cage : Nat) :
    opticsChange cage inserted cmis mw temp d = ((List.range 8).map (8 * cage + ·)).foldl (opticsStep inserted cmis mw temp) d := rfl

theorem opticsStep_lanes (p : Nat) :
    (opticsStep inserted cmis mw temp d p).lanes = d.lanes.setPort p (opticsPort inserted cmis mw temp (d.lanes.exists_ p) (d.port p)) := by
  cases inserted with
  | true => simp [opticsStep, opticsPort, cmisLowPwr, setPort_lanes]
  | false =>
    by_cases falls : d.lanes.exists_ p = true ∧ ((d.port p).state = 2 ∨ (d.port p).state = 3)
    · simp [opticsStep, opticsPort, falls, setPort_portTo_lanes]
    · simp [opticsStep, opticsPort, falls, setPort_lanes]

theorem opticsStep_port_same (p : Nat) :
    (opticsStep inserted cmis mw temp d p).port p = opticsPort inserted cmis mw temp (d.lanes.exists_ p) (d.port p) := by
  rw [Device.port, opticsStep_lanes]
  exact read_put_same ..

theorem opticsStep_port_other {p q : Nat} (h : q ≠ p) : (opticsStep inserted cmis mw temp d p).port q = d.port q := by
  rw [Device.port, opticsStep_lanes]
  exact read_put_other h ..

theorem opticsStep_exists (p q : Nat) : (opticsStep inserted cmis mw temp d p).lanes.exists_ q = d.lanes.exists_ q := by
  rw [opticsStep_lanes]
  rfl

theorem mem_lanesOfCage {p cage : Nat} : p ∈ (List.range 8).map (8 * cage + ·) ↔ p / 8 = cage := by
  simp only [List.mem_map, List.mem_range]
  constructor
  · rintro ⟨i, low, rfl⟩
    omega
  · rintro rfl
    exact ⟨p % 8, Nat.mod_lt p (by decide), Nat.div_add_mod p 8⟩

theorem opticsChange_port {p cage : Nat} (here : p / 8 = cage) :
    (opticsChange cage inserted cmis mw temp d).port p = opticsPort inserted cmis mw temp (d.lanes.exists_ p) (d.port p) := by
  have once : ((List.range 8).map (8 * cage + ·)).Nodup := List.nodup_range.map fun _ _ => Nat.add_left_cancel
  rw [opticsChange_eq]
  refine congrArg Prod.fst (foldl_once (step := opticsStep inserted cmis mw temp) (part := fun d : Device => (d.port p, d.lanes.exists_ p))
    (g := fun y => (opticsPort inserted cmis mw temp y.2 y.1, y.2)) (fun d q differs => ?_) (fun d => ?_) once (mem_lanesOfCage.mpr here) d)
  · rw [opticsStep_port_other _ _ _ _ d differs, opticsStep_exists]
  · rw [opticsStep_port_same, opticsStep_exists]

theorem opticsChange_port_other {p cage : Nat} (elsewhere : p / 8 ≠ cage) : (opticsChange cage inserted cmis mw temp d).port p = d.port p :=
  foldl_untouched (part := Device.port p) (fun d _ differs => opticsStep_port_other inserted cmis mw temp d differs)
    (fun mem => elsewhere (mem_lanesOfCage.mp mem)) d

end Optics

/-- The ports of a cage's layout exist. -/
theorem exists_of_mem_cagePorts {x : LanesState} {cage p : Nat} (low : cage < 4) (mem : p ∈ cagePorts cage (Tab.read x.cages cage [])) :
    x.exists_ p = true := by
  obtain ⟨rfl, typed, first⟩ := mem_cagePorts.mp mem
  exact exists_iff.mpr ⟨by omega, typed, by rwa [Nat.mod_mod_of_dvd _ (typeLanes_dvd_eight typed)] at first⟩

/-! ### Lanes (R275, R285) -/

section Lanes
variable {l : Nat} {d : Device}

theorem laneSignalLoss_up (cdr : Bool) (up : d.lanes.isUp (d.lanes.portOf l) = true) :
    laneSignalLoss l cdr d =
      let x : Lane := { d.lane l with signal := cdr && (d.lane l).signal, cdr := false }
      (d.setLane l x).raise [(192 + 2 * l, det2 l (if cdr then 2 else 1))] := by
  cases cdr <;> simp [laneSignalLoss, up, bit01]

theorem laneDegrade_up (up : d.lanes.isUp (d.lanes.portOf l) = true) (watched : (d.port (d.lanes.portOf l)).recd.degrade ≠ 0) :
    laneDegrade l d = d.raise [(192 + 2 * l, det2 l 3)] := by
  simp [laneDegrade, up, watched]

theorem checkerLock_found (checks : natBit (d.lane l).test.mode 1 = true) (unlocked : (d.lane l).locked = false) :
    checkerLock l d = d.setLane l { d.lane l with locked := true, lockedAt := d.now, signal := true, cdr := true } := by
  simp [checkerLock, checks, unlocked]

theorem eyeRefresh_awake (h v : Nat × Nat × Nat) (errors symbols : Nat) (awake : d.rxAwake l = true) :
    eyeRefresh l h v errors symbols d = d.setLane l { d.lane l with
      eyeH := h, eyeV := v, errors := if (d.lane l).locked then satAdd max64 (d.lane l).errors errors else (d.lane l).errors
      symbolErrors := satAdd max64 (d.lane l).symbolErrors symbols } := by
  simp [eyeRefresh, awake]

end Lanes

/-! ### SyncE (R274) -/

theorem esmcSend_lastSsm (d : Device) : (esmcSend d).lanes.synce.lastSsm = d.lanes.synce.ssm d.time.servo := rfl

theorem esmcSend_waiting {p : Nat} {d : Device} (low : p < 32) (named : natBit d.lanes.synce.mask p = true) (up : d.lanes.isUp p = true)
    (sends : (d.port p).recd.direction ≠ 2) : ((esmcSend d).sched.port p).waiting.length = (d.sched.port p).waiting.length + 1 := by
  have once : ((maskBits d.lanes.synce.mask).filter (fun p => d.lanes.isUp p && (d.port p).recd.direction != 2)).Nodup :=
    (List.nodup_range.filter _).filter _
  have mem : p ∈ (maskBits d.lanes.synce.mask).filter (fun p => d.lanes.isUp p && (d.port p).recd.direction != 2) := by
    simp [maskBits, low, named, up, sends]
  refine foldl_once (part := fun m => (Tab.read m p PortSched.reset).waiting.length) (g := (· + 1)) (fun m q differs => ?_) (fun m => ?_) once mem
    d.sched.ports
  · rw [Tab.upd, read_put_other differs]
  · simp [Tab.upd]

/-! ### The end of a host lane test (R284) -/

theorem hostlaneTestEnd_ends {h : HostTest} {d : Device} (results : List (Nat × Nat)) (running : d.lanes.hostTest = some h) (due : h.ends ≤ d.now)
    (perst : d.link.perst = false) (enabled : d.link.disabled = false) :
    (hostlaneTestEnd results d).lanes.hostTest = none ∧ (hostlaneTestEnd results d).link.training.isSome = true := by
  simp [hostlaneTestEnd, running, Device.due, due, perst, enabled]

/-- Settles O38: in each row the condition given selects the branch with the effect stated. The last part of the clause on OPTICS_CHANGE ranges over a number
below 4, since its type follows the cage's; `opticsChange_port_other` says the same of every port of another cage. -/
theorem laneHappeningsTakeEffect : Obligations.LaneHappeningsTakeEffect := by
  unfold Obligations.LaneHappeningsTakeEffect
  intro t s d
  refine ⟨?portUp, ?fault, ?cleared, ?optics, ?signal, ?degrade, ?lock, ?lockLost, ?calibration, ?timeout, ?eye, ?esmc, ?hostEnd⟩
  case portUp =>
    intro p there trains inService powered
    refine ⟨_, rfl, ?_⟩
    rw [portUp_port there trains inService powered]
    refine ⟨rfl, rfl, rfl, fun receives l mem => ?_⟩
    rw [portUp_lane there trains inService powered]
    exact lockPort_lane p d receives mem
  case fault =>
    intro p remote there up
    exact ⟨fun duplex => answers_of_eq rfl (faultReceived_up remote there up duplex), fun oneWay => answers_of_eq rfl (faultReceived_oneWay remote oneWay)⟩
  case cleared =>
    intro p there down
    exact answers_of_eq rfl (faultCleared_of there down)
  case optics =>
    intro cage inserted cmis mw temp
    -- The clause's number is below 4, since its type follows the cage's: it names a port of cage 0.
    have numbers : ∀ p cage : Fin 4, p / 8 ≠ cage → p.val / 8 ≠ cage.val := by decide
    refine ⟨_, rfl, fun p mem => ?_, fun p elsewhere => opticsChange_port_other _ _ _ _ _ (numbers p cage elsewhere)⟩
    rw [opticsChange_port _ _ _ _ d (mem_cagePorts.mp mem).1, exists_of_mem_cagePorts cage.isLt mem]
    obtain ⟨optics, temperature, module⟩ := opticsPort_reports inserted cmis mw temp (d.port p) true
    exact ⟨optics, temperature, module, opticsPort_state ..⟩
  case signal => exact fun l cdr up => answers_of_eq rfl (laneSignalLoss_up cdr up)
  case degrade => exact fun l up watched => answers_of_eq rfl (laneDegrade_up up watched)
  case lock => exact fun l checks unlocked => answers_of_eq rfl (checkerLock_found checks unlocked)
  case lockLost => exact fun l errors locked => answers_of_eq rfl (if_pos locked)
  case calibration =>
    intro p ls recal running _
    refine ⟨_, rfl, ?_⟩
    rw [calibrationDone_port ls d recal running]
    refine ⟨by rw [calibrationDone_lanes ls d recal running], rfl, fun l mem => ?_⟩
    rw [calibrationDone_lane ls d recal running]
    exact calibrated_lane ls d mem
  case timeout =>
    intro p ls w x recal done mem unit due past
    obtain ⟨v, rest, taken, length⟩ := exists_takeWork (ok := fun w => w.unit == unitRecal) mem (by simp [unit])
    refine ⟨_, answers_of_eq rfl (recalTimeout_of p d recal done mem unit due past), ?_, ?_⟩
    · rw [recalOver_lanes]
    · rw [recalOver_works _ _ _ _ taken, length]
  case eye => exact fun l h0 h1 h2 v0 v1 v2 errors symbols awake => answers_of_eq rfl (eyeRefresh_awake _ _ errors symbols awake)
  case esmc =>
    refine ⟨_, rfl, (esmcSend_lastSsm d).trans ?_, fun p low named up sends => esmcSend_waiting low named up sends⟩
    unfold SyncE.ssm
    cases d.time.servo <;> rfl
  case hostEnd => exact fun h results running due perst enabled => ⟨_, rfl, hostlaneTestEnd_ends results running due perst enabled⟩

end Sys2Proof.Proofs

/-!
PROOF. The canonical form of the memories (O3), and that every command answers a next state (O2). `canonical_f` says that the model's function
`f` keeps the form, `keepsForm_c` that the effect of ring command `c` does; in the order of the model.
-/
namespace Sys2Proof.Proofs

open Sys2Proof Sys2Proof.Machine Sys2Proof.Laws

/-! ### The canonical form through the shared operations -/

/-- The window, CMDSRAM and host memory list strictly rising addresses and no entry that reads as an unlisted one (10 R298, 11 R317). -/
structure Canonical (m : MemState) : Prop where
  hdm : Memory.wf m.hdm = true
  cmdsram : Memory.wf m.cmdsram = true
  host : Memory.wf m.host = true

section Canonical
variable {m : MemState} {h : Mem}

theorem Canonical.setHost (ok : Canonical m) (host : Memory.wf h = true) : Canonical { m with host := h } := ⟨ok.hdm, ok.cmdsram, host⟩

theorem Canonical.setWindow {p : List Nat} (ok : Canonical m) (hdm : Memory.wf h = true) : Canonical { m with hdm := h, poison := p } :=
  ⟨hdm, ok.cmdsram, ok.host⟩

theorem Canonical.write {rescue up : Bool} {off : Nat} {b : Bytes} (ok : Canonical m) : Canonical (m.write rescue up off b) := by
  unfold MemState.write
  split
  · exact ok.setHost (memStore_wf _ _ ok.host)
  · split
    · exact ok.setWindow (memStore_wf _ _ ok.hdm)
    · exact ok

theorem Canonical.writeCmd {off n v : Nat} (ok : Canonical m) : Canonical (m.writeCmd off n v) := ⟨ok.hdm, memStore_wf _ _ ok.cmdsram, ok.host⟩

end Canonical

/-- What each step keeps canonical, a fold of them keeps canonical. -/
theorem canonical_foldl_part {α β : Type} {part : β → Device} {f : β → α → β} (one : ∀ b x, Canonical (part b).mem → Canonical (part (f b x)).mem)
    {l : List α} {b : β} (ok : Canonical (part b).mem) : Canonical (part (l.foldl f b)).mem := by
  induction l generalizing b with
  | nil => exact ok
  | cons x l ih => exact ih (one b x ok)

theorem canonical_foldl {α : Type} {f : Device → α → Device} (one : ∀ d x, Canonical d.mem → Canonical (f d x).mem) {l : List α} {d : Device}
    (ok : Canonical d.mem) : Canonical (l.foldl f d).mem :=
  canonical_foldl_part (part := id) one ok

/-- A fold of steps that leave the memories alone keeps them canonical. -/
theorem canonical_foldl_same {α : Type} {f : Device → α → Device} {l : List α} {d : Device} (ok : Canonical d.mem)
    (same : ∀ d x, (f d x).mem = d.mem := by intros; rfl) : Canonical (l.foldl f d).mem :=
  canonical_foldl (fun d x ok => (same d x).symm ▸ ok) ok

theorem canonical_ite {p : Prop} {_ : Decidable p} {a b : Device} (yes : Canonical a.mem) (no : Canonical b.mem) : Canonical
    (if p then a else b).mem := by
  split
  · exact yes
  · exact no

/-! ### Events (15 R433, R436) -/

section Events
variable {p : EvPort} {quarter : Nat → Bool} {r : EvRec}

theorem canonical_logWrite (ok : Canonical p.mem) : Canonical (logWrite r p).mem := ⟨memStore_wf _ _ (memStore_wf _ _ ok.hdm), ok.cmdsram, ok.host⟩

theorem canonical_logHeld (ok : Canonical p.mem) : Canonical (logHeld p).mem := by
  unfold logHeld
  split
  · exact ok
  · split
    · exact ok
    · exact canonical_logWrite ok

theorem canonical_logDrop (ok : Canonical p.mem) : Canonical (logDrop r p).mem := by
  unfold logDrop
  split <;> exact ok

theorem canonical_logRecord (ok : Canonical p.mem) : Canonical (logRecord quarter r p).mem := by
  unfold logRecord
  split
  · exact ok
  · split
    · exact ok
    · extract_lets held
      have okHeld : Canonical held.mem := canonical_logHeld ok
      split
      · exact canonical_logDrop okHeld
      · exact canonical_logWrite okHeld

theorem canonical_occur {now n detail : Nat} (ok : Canonical p.mem) : Canonical (occur quarter now n detail p).1.mem := by
  unfold occur
  split
  · exact ok
  · extract_lets
    split
    · exact canonical_logRecord ok
    · exact ok

theorem canonical_occurAll {now fuel : Nat} {evs : List (Nat × Nat)} (ok : Canonical p.mem) : Canonical (occurAll quarter now fuel evs p).mem := by
  induction fuel generalizing evs p with
  | zero => exact ok
  | succ fuel ih =>
    cases evs with
    | nil => exact ok
    | cons _ rest => exact ih (canonical_occur ok)

end Events

section Device
variable {d : Device}

theorem canonical_raise {evs} (ok : Canonical d.mem) : Canonical (d.raise evs).mem := canonical_occurAll ok

/-! ### Time and events -/

theorem canonical_useFree (ok : Canonical d.mem) : Canonical d.useFree.mem := ok

theorem canonical_asRun {channel entry tag frame detail} (ok : Canonical d.mem) : Canonical (d.asRun channel entry tag frame detail).mem := ok

theorem canonical_mgmtStop (ok : Canonical d.mem) : Canonical d.mgmtStop.mem := ok

/-! ### The window and host memory -/

theorem canonical_writeAt {off b} (ok : Canonical d.mem) : Canonical (d.writeAt off b).mem := ok.write

theorem canonical_zeroIndices {off} (ok : Canonical d.mem) : Canonical (d.zeroIndices off).mem :=
  canonical_writeAt (canonical_writeAt ok)

theorem canonical_dma {addr b} (ok : Canonical d.mem) : Canonical (d.dma addr b).mem := ok.setHost (memStore_wf _ _ ok.host)

/-! ### Frame ticks -/

theorem canonical_setChan {c x} (ok : Canonical d.mem) : Canonical (d.setChan c x).mem := ok

/-! ### Command entries -/

/-- Whatever a run of the command does, the memories keep their form. -/
def KeepsForm (sp : CmdSpec) : Prop := ∀ c d, Canonical d.mem → Canonical (sp.apply c d).dev.mem

/-! ### Records -/

theorem wf_foldl_put {ready : Bool} {hs : List HeldRec} {p : CqPort} (wf : Memory.wf p.host = true) :
    Memory.wf (hs.foldl (CqPort.put ready) p).host = true := by
  induction hs generalizing p with
  | nil => exact wf
  | cons h hs ih =>
    refine ih ?_
    unfold CqPort.put
    split
    · exact memStore_wf _ _ wf
    · exact wf

theorem wf_foldl_write {hs : List HeldRec} {p : CqPort} (wf : Memory.wf p.host = true) : Memory.wf (hs.foldl
    (fun p h => p.write h) p).host = true := by
  induction hs generalizing p with
  | nil => exact wf
  | cons h hs ih => exact ih (memStore_wf _ _ wf)

theorem canonical_putRecords {hs} (ok : Canonical d.mem) : Canonical (d.putRecords hs).mem := ok.setHost (wf_foldl_put ok.host)

theorem canonical_drainRecords (ok : Canonical d.mem) : Canonical d.drainRecords.mem :=
  canonical_ite (ok.setHost (wf_foldl_write ok.host)) ok

theorem canonical_flushRing {r} (ok : Canonical d.mem) : Canonical (d.flushRing r).mem :=
  canonical_putRecords ok

theorem canonical_busyAnswer {r hint} (ok : Canonical d.mem) : Canonical (d.busyAnswer r hint).mem :=
  canonical_raise ok

theorem canonical_decideFinal {o tag status detail frame eff} (ok : Canonical d.mem) : Canonical (d.decideFinal o tag status detail frame eff).mem :=
    by
  unfold Device.decideFinal
  split
  · exact ok
  · exact canonical_flushRing ok

theorem canonical_decide {o tag status detail frame eff} (ok : Canonical d.mem) : Canonical (d.decide o tag status detail frame eff).mem := by
  unfold Device.decide
  split
  · exact canonical_decideFinal ok
  · exact canonical_ite (canonical_busyAnswer (canonical_decideFinal ok)) (canonical_decideFinal ok)

theorem canonical_accept {o frame eff} (ok : Canonical d.mem) : Canonical (d.accept o frame eff).mem := by
  unfold Device.accept
  split
  · exact ok
  · exact canonical_flushRing ok

theorem canonical_decideCtx {c status detail frame eff} (ok : Canonical d.mem) : Canonical (d.decideCtx c status detail frame eff).mem :=
  canonical_decide ok

/-! ### Commands at frame boundaries -/

theorem canonical_setComp {c x} (ok : Canonical d.mem) : Canonical (d.setComp c x).mem := ok

theorem canonical_settle {c} {r : Done} (ok : Canonical r.dev.mem) : Canonical (r.settle c).mem := by
  unfold Done.settle
  split
  · exact canonical_decideCtx ok
  · exact canonical_accept ok

theorem canonical_stage {op c ch least flat} (ok : Canonical d.mem) : Canonical (d.stage op c ch least flat).mem :=
  canonical_accept ok

theorem canonical_waitUnit {op u c} (ok : Canonical d.mem) : Canonical (d.waitUnit op u c).mem :=
  canonical_accept ok

theorem canonical_beginWork {op c unit due} (ok : Canonical d.mem) : Canonical (d.beginWork op c unit due).mem := ok

theorem canonical_runChecked {sp c} (keeps : KeepsForm sp) (ok : Canonical d.mem) : Canonical (sp.runChecked c d).mem := by
  have settled : Canonical ((sp.apply c d).settle c).mem := canonical_settle (keeps c d ok)
  unfold CmdSpec.runChecked
  split
  · split
    · exact canonical_ite (canonical_decideCtx ok) (canonical_ite (canonical_accept ok) settled)
    · exact canonical_ite (canonical_decideCtx ok) (canonical_ite (canonical_stage ok) (canonical_stage ok))
  · split
    · exact keeps c d ok
    · split
      · exact settled
      · exact canonical_ite (canonical_waitUnit ok) settled

theorem canonical_run {sp ahead ring c} (keeps : KeepsForm sp) (ok : Canonical d.mem) : Canonical (sp.run ahead ring c d).mem := by
  unfold CmdSpec.run
  split
  · exact canonical_decideCtx ok
  · split
    · exact canonical_decideCtx ok
    · split
      · exact canonical_decideCtx ok
      · exact canonical_runChecked keeps ok

theorem canonical_takeEntry {r e stamp} (ok : Canonical d.mem) : Canonical (d.takeEntry r e stamp).mem := ok

theorem canonical_writeRecord {b c} (ok : Canonical d.mem) : Canonical (writeRecord b c d).dev.mem :=
  canonical_writeAt ok

/-! ### Details and service states -/

theorem canonical_noteUnit {u old new cause} (ok : Canonical d.mem) : Canonical (d.noteUnit u old new cause).mem :=
  canonical_ite ok (canonical_raise ok)

/-! ### Word queues -/

theorem canonical_feed {producer mine ws} (ok : Canonical d.mem) : Canonical (d.feed producer mine ws).mem :=
  canonical_raise ok

/-! ### Time -/

theorem canonical_feedCaptures {old} (ok : Canonical d.mem) : Canonical (d.feedCaptures old).mem :=
  canonical_foldl (fun _ _ ok => canonical_ite (canonical_feed ok) ok) ok

theorem canonical_withTime {o} (ok : Canonical d.mem) : Canonical (d.withTime o).mem :=
  canonical_feedCaptures (canonical_raise ok)

theorem canonical_setTime {x} (ok : Canonical d.mem) : Canonical (d.setTime x).mem := ok

/-! ### Commands -/

theorem keepsForm_timeDomainSet : KeepsForm timeDomainSet := fun _ _ ok => by
  dsimp only [timeDomainSet, Done.ok, Done.goesOn]
  exact canonical_withTime ok

theorem keepsForm_timeSourceSelect : KeepsForm timeSourceSelect := fun _ _ ok => by
  dsimp only [timeSourceSelect, Done.ok, Done.goesOn]
  exact canonical_withTime ok

/-! ### Commanded steps (R65) -/

theorem canonical_movePending {δ} (ok : Canonical d.mem) : Canonical (d.movePending δ).mem := ok

theorem canonical_applyStep {s} (ok : Canonical d.mem) : Canonical (d.applyStep s).mem :=
  canonical_raise (canonical_ite (canonical_movePending (canonical_setTime ok)) (canonical_setTime ok))

theorem keepsForm_timeStep : KeepsForm timeStep := fun _ _ ok => by
  unfold timeStep
  dsimp -zeta only
  split
  · split
    · exact canonical_setTime ok
    · exact canonical_applyStep ok
  · exact canonical_applyStep ok

/-! ### Captures and triggers -/

theorem keepsForm_timeCaptureNow : KeepsForm timeCaptureNow := fun _ _ ok => by
  dsimp only [timeCaptureNow, Done.ok, Done.goesOn]
  exact canonical_withTime ok

theorem keepsForm_timeTriggerSet : KeepsForm timeTriggerSet := fun _ _ ok => by
  unfold timeTriggerSet
  dsimp -zeta only
  extract_lets
  split
  · exact canonical_setTime ok
  · exact canonical_setTime ok

theorem keepsForm_timeRefioSet : KeepsForm timeRefioSet := fun _ _ ok => by
  dsimp only [timeRefioSet, Done.ok, Done.goesOn]
  exact canonical_withTime ok

/-! ### Happenings -/

theorem canonical_syncReceived {k p logSync sec1 sub1 t2 t3 sec4 sub4} (ok : Canonical d.mem) : Canonical
    (syncReceived k p logSync sec1 sub1 t2 t3 sec4 sub4 d).mem :=
  canonical_ite (canonical_setTime ok) ok

theorem canonical_servoUpdateDom {k} (ok : Canonical d.mem) : Canonical (servoUpdateDom k d).mem :=
  canonical_ite (canonical_withTime ok) ok

theorem canonical_announceReceived {k p cls gm rank info} (ok : Canonical d.mem) : Canonical (announceReceived k p cls gm rank info d).mem :=
  canonical_withTime ok

theorem canonical_announceTimeout {k p} (ok : Canonical d.mem) : Canonical (announceTimeout k p d).mem :=
  canonical_ite (canonical_withTime ok) ok

theorem canonical_revertHold (ok : Canonical d.mem) : Canonical (revertHold d).mem :=
  canonical_ite (canonical_withTime ok) ok

theorem canonical_holdoverHour (ok : Canonical d.mem) : Canonical (holdoverHour d).mem :=
  canonical_ite (canonical_raise ok) ok

theorem canonical_ppsIn {edge} (ok : Canonical d.mem) : Canonical (ppsIn edge d).mem :=
  canonical_ite ok (canonical_ite (canonical_withTime (canonical_withTime (canonical_withTime ok))) (canonical_withTime (canonical_withTime ok)))

theorem canonical_inputLost {ev x} (ok : Canonical d.mem) : Canonical (inputLost ev x d).mem :=
  canonical_withTime ok

theorem canonical_ppsLost (ok : Canonical d.mem) : Canonical (ppsLost d).mem :=
  canonical_ite (canonical_inputLost ok) ok

theorem canonical_tenLost (ok : Canonical d.mem) : Canonical (tenLost d).mem :=
  canonical_ite (canonical_inputLost ok) ok

theorem canonical_tenBack {ppb} (ok : Canonical d.mem) : Canonical (tenBack ppb d).mem :=
  canonical_ite ok (canonical_withTime ok)

theorem canonical_captureEvent {source edge} (ok : Canonical d.mem) : Canonical (captureEvent source edge d).mem :=
  canonical_ite ok (canonical_withTime ok)

theorem canonical_triggerAct {slot g} (ok : Canonical d.mem) : Canonical (d.triggerAct slot g).mem :=
  canonical_ite (canonical_raise ok) (canonical_ite ok (canonical_ite (canonical_withTime ok) ok))

theorem canonical_triggerFire {slot} (ok : Canonical d.mem) : Canonical (triggerFire slot d).mem := by
  unfold triggerFire
  split
  · exact ok
  · exact canonical_ite (canonical_triggerAct (canonical_setTime ok)) ok

theorem canonical_timeStepApply (ok : Canonical d.mem) : Canonical (timeStepApply d).mem := by
  unfold timeStepApply
  split
  · exact ok
  · exact canonical_applyStep (canonical_setTime ok)

theorem canonical_copyLost (ok : Canonical d.mem) : Canonical (copyLost d).mem :=
  canonical_ite (canonical_raise ok) ok

theorem canonical_secondBoundary (ok : Canonical d.mem) : Canonical (secondBoundary d).mem :=
  canonical_ite (canonical_withTime ok) ok

theorem canonical_delayReqSend {k} (ok : Canonical d.mem) : Canonical (delayReqSend k d).mem := by
  unfold delayReqSend
  extract_lets
  split
  · exact ok
  · exact canonical_ite ok ok

theorem canonical_timeLatchRead {n} (ok : Canonical d.mem) : Canonical (timeLatchRead n d).mem := ok

/-! ### Word queues -/

theorem canonical_wqFlushed (ok : Canonical d.mem) : Canonical d.wqFlushed.mem :=
  canonical_foldl (fun _ _ ok => canonical_decide ok) ok

/-! ### Ranrok -/

theorem canonical_setRing {r g} (ok : Canonical d.mem) : Canonical (d.setRing r g).mem := ok

theorem canonical_ringError {r code} (ok : Canonical d.mem) : Canonical (d.ringError r code).mem :=
  canonical_raise (canonical_setRing ok)

theorem canonical_ringDoorbell {r tail} (ok : Canonical d.mem) : Canonical (ringDoorbell r tail d).mem :=
  canonical_ite (canonical_ringError ok) (canonical_setRing ok)

theorem canonical_ringCfgWrite {r v} (ok : Canonical d.mem) : Canonical (ringCfgWrite r v d).mem :=
  canonical_ite (canonical_ringError (canonical_setRing ok)) (canonical_ite (canonical_setRing ok) (canonical_ite (canonical_setRing ok)
      (canonical_ringError ok)))

theorem canonical_busyStopClear {r} (ok : Canonical d.mem) : Canonical (busyStopClear r d).mem := ok

theorem canonical_cqError {code} (ok : Canonical d.mem) : Canonical (d.cqError code).mem :=
  canonical_raise ok

theorem canonical_clearCqWait (ok : Canonical d.mem) : Canonical d.clearCqWait.mem := ok

theorem canonical_cqReadWrite {v} (ok : Canonical d.mem) : Canonical (cqReadWrite v d).mem :=
  canonical_ite (canonical_cqError ok) (canonical_clearCqWait ok)

theorem canonical_cqConfigWrite {cfg v} (ok : Canonical d.mem) : Canonical (cqConfigWrite cfg v d).mem :=
  canonical_ite (canonical_cqError ok) (canonical_ite (canonical_clearCqWait ok) ok)

theorem canonical_dmaWriteRefused {old} (ok : Canonical d.mem) : Canonical (dmaWriteRefused old d).mem :=
  canonical_ite ok (canonical_raise (canonical_cqError (ok.setHost (memStore_wf _ _ ok.host))))

/-! ### Events -/

theorem keepsForm_eventLogSet : KeepsForm eventLogSet := fun _ _ ok => by
  dsimp only [eventLogSet, Done.ok, Done.goesOn]
  exact canonical_ite ok (canonical_zeroIndices ok)

theorem keepsForm_wqueueFlush : KeepsForm wqueueFlush := fun _ _ ok => by
  unfold wqueueFlush
  dsimp -zeta only
  extract_lets
  split
  · exact ok
  · split <;> exact ok

/-! ### Accesses -/

theorem canonical_replyData {b} (ok : Canonical d.mem) : Canonical (d.replyData b).mem := ok

theorem canonical_tallyClear {k} (ok : Canonical d.mem) : Canonical (tallyClear k d).mem := ok

theorem canonical_wqPop {q} (ok : Canonical d.mem) : Canonical (wqPop q d).mem := by
  unfold wqPop
  extract_lets
  split
  · exact canonical_replyData ok
  · split
    · exact canonical_replyData ok
    · exact canonical_replyData ok

/-! ### Happenings -/

theorem canonical_eventOccurrence {n detail} (ok : Canonical d.mem) : Canonical (eventOccurrence n detail d).mem :=
  canonical_ite ok (canonical_wqFlushed (canonical_raise ok))

theorem canonical_eventLogHeld (ok : Canonical d.mem) : Canonical (eventLogHeld d).mem :=
  canonical_ite (canonical_logHeld (p := ⟨d.events, d.mem, d.msix, d.wq, d.logs, d.free⟩) ok) ok

theorem canonical_wqPush {q ws last} (ok : Canonical d.mem) : Canonical (wqPush q ws last d).mem :=
  canonical_ite (canonical_wqFlushed (canonical_raise ok)) ok

theorem canonical_wqForce {q} (ok : Canonical d.mem) : Canonical (wqForce q d).mem :=
  canonical_ite (canonical_raise (canonical_foldl (fun _ _ ok => canonical_decide ok) ok)) ok

theorem canonical_wqMismatch {q} (ok : Canonical d.mem) : Canonical (wqMismatch q d).mem :=
  canonical_raise (canonical_foldl (fun _ _ ok => canonical_decide ok) ok)

/-! ### Ports -/

theorem canonical_setPort {p x} (ok : Canonical d.mem) : Canonical (d.setPort p x).mem := ok

theorem canonical_setLane {l x} (ok : Canonical d.mem) : Canonical (d.setLane l x).mem := ok

theorem canonical_portTo {p state cause} (ok : Canonical d.mem) : Canonical (d.portTo p state cause).mem :=
  canonical_ite (canonical_raise (canonical_setPort ok)) (canonical_setPort ok)

/-! ### Cages and ports -/

theorem canonical_endTest {l} (ok : Canonical d.mem) : Canonical (d.endTest l).mem :=
  canonical_ite ok (canonical_raise (canonical_setLane ok))

theorem keepsForm_cageSet : KeepsForm cageSet := fun _ _ ok => by
  unfold cageSet
  dsimp -zeta only
  extract_lets k old d1 d2 _ d3
  have down : Canonical d1.mem := canonical_foldl (fun _ _ ok => canonical_portTo ok) ok
  have ended : Canonical d2.mem := canonical_foldl (fun _ _ ok => canonical_endTest ok) down
  clear_value d2
  dsimp only [Done.ok]
  exact canonical_foldl (fun _ _ ok => canonical_portTo ok) (d := d3) ended

/-! ### Pattern tests (R275 to R278) -/

theorem keepsForm_laneTestSet : KeepsForm laneTestSet := fun _ _ ok => by
  unfold laneTestSet
  dsimp -zeta only
  extract_lets
  split
  · exact canonical_ite (canonical_portTo (canonical_setLane ok)) (canonical_setLane ok)
  · exact canonical_ite (canonical_portTo (canonical_setLane (canonical_endTest ok))) (canonical_setLane (canonical_endTest ok))

theorem canonical_checkerLock {l} (ok : Canonical d.mem) : Canonical (checkerLock l d).mem :=
  canonical_ite (canonical_setLane ok) ok

theorem canonical_checkerLost {l errors} (ok : Canonical d.mem) : Canonical (checkerLost l errors d).mem :=
  canonical_ite (canonical_raise (canonical_setLane ok)) ok

theorem canonical_eyeRefresh {l h v errors symbols} (ok : Canonical d.mem) : Canonical (eyeRefresh l h v errors symbols d).mem :=
  canonical_ite ok (canonical_setLane ok)

/-! ### Recalibration (R280 to R282) -/

theorem canonical_ptpAside {p} (ok : Canonical d.mem) : Canonical (d.ptpAside p).mem :=
  canonical_foldl (fun _ _ ok => canonical_ite (canonical_withTime ok) ok) ok

theorem canonical_startRecal {p} (ok : Canonical d.mem) : Canonical (d.startRecal p).mem := by
  unfold Device.startRecal
  extract_lets d1 ls d2
  have marked : Canonical d2.mem := canonical_foldl (fun _ _ ok => canonical_setLane ok) (canonical_portTo (canonical_ptpAside ok))
  clear_value d2
  exact marked

theorem keepsForm_laneRecal : KeepsForm laneRecal := fun _ _ ok => by
  dsimp only [laneRecal, Done.ok, Done.goesOn]
  exact canonical_beginWork (canonical_startRecal ok)

theorem canonical_calibrationDone (ok : Canonical d.mem) : Canonical (calibrationDone d).mem := by
  unfold calibrationDone
  split
  · exact ok
  · exact canonical_ite ok (canonical_portTo (canonical_foldl (fun _ _ ok => canonical_setLane ok) ok))

theorem canonical_recalOver {p cause detail} (ok : Canonical d.mem) : Canonical (d.recalOver p cause detail).mem := by
  unfold Device.recalOver
  extract_lets
  split
  · exact canonical_raise ok
  · exact canonical_decideCtx (canonical_raise ok)

theorem canonical_receivers {p} (ok : Canonical d.mem) : Canonical (d.receivers p).mem :=
  canonical_ite ok (canonical_foldl (fun _ _ ok => canonical_setLane ok) ok)

theorem canonical_portUp {p} (ok : Canonical d.mem) : Canonical (portUp p d).mem :=
  have told := canonical_raise (canonical_receivers (canonical_setPort ok))
  canonical_ite (canonical_ite (canonical_recalOver told) told) ok

theorem canonical_recalTimeout (ok : Canonical d.mem) : Canonical (recalTimeout d).mem := by
  unfold recalTimeout
  split
  · exact ok
  · exact canonical_ite (canonical_recalOver ok) ok

/-! ### Faults, optics and lanes -/

theorem canonical_faultReceived {p remote} (ok : Canonical d.mem) : Canonical (faultReceived p remote d).mem :=
  canonical_ite (canonical_portTo (canonical_setPort ok)) ok

theorem canonical_faultCleared {p} (ok : Canonical d.mem) : Canonical (faultCleared p d).mem :=
  canonical_ite (canonical_setPort ok) ok

theorem canonical_opticsChange {cage inserted cmis milliwatts temp} (ok : Canonical d.mem) :
    Canonical (opticsChange cage inserted cmis milliwatts temp d).mem := by
  unfold opticsChange
  refine canonical_foldl (fun _ _ ok => ?_) ok
  exact canonical_ite (canonical_setPort ok) (canonical_ite (canonical_portTo (canonical_setPort ok)) (canonical_setPort ok))

theorem canonical_laneSignalLoss {l cdr} (ok : Canonical d.mem) : Canonical (laneSignalLoss l cdr d).mem :=
  canonical_ite (canonical_raise (canonical_setLane ok)) (canonical_setLane ok)

theorem canonical_laneDegrade {l} (ok : Canonical d.mem) : Canonical (laneDegrade l d).mem :=
  canonical_ite (canonical_raise ok) ok

/-! ### SyncE (R274) -/

theorem canonical_esmcSend (ok : Canonical d.mem) : Canonical (esmcSend d).mem := ok

/-! ### Status -/

theorem canonical_measurePort {p} (ok : Canonical d.mem) : Canonical (d.measurePort p).mem := ok

theorem canonical_measureLane {l} (ok : Canonical d.mem) : Canonical (d.measureLane l).mem :=
  canonical_ite ok ok

/-! ### Placement (R239 to R241) -/

theorem canonical_dropSub {b} (ok : Canonical d.mem) : Canonical (d.dropSub b).mem := by
  unfold Device.dropSub
  split
  · exact ok
  · exact canonical_raise ok

theorem canonical_setSched {p x} (ok : Canonical d.mem) : Canonical (d.setSched p x).mem := ok

/-! ### Host transmit queues: write-back (R254, R258) -/

theorem wf_txWriteBack {dma : Bool} {n : Nat} {m : Mem} {g : TxQueue} (wf : Memory.wf m = true) : Memory.wf (txWriteBack dma n m g).1 = true := by
  induction n generalizing m g with
  | zero => exact wf
  | succ n ih =>
    unfold txWriteBack
    split
    · exact wf
    · split
      · exact wf
      · exact ih (memStore_wf _ _ wf)

theorem canonical_txDone {q i status time} (ok : Canonical d.mem) : Canonical (d.txDone q i status time).mem :=
  canonical_raise (ok.setHost (wf_txWriteBack ok.host))

theorem canonical_dropCopy {p full c} (ok : Canonical d.mem) : Canonical (d.dropCopy p full c).mem := by
  unfold Device.dropCopy
  refine canonical_raise ?_
  split
  · exact canonical_txDone (canonical_setSched ok)
  · exact canonical_dropSub (canonical_setSched ok)

theorem canonical_place {p c} (ok : Canonical d.mem) : Canonical (d.place p c).mem := by
  unfold Device.place
  extract_lets
  split
  · exact canonical_dropCopy ok
  · split
    · exact canonical_dropCopy ok
    · exact ok

theorem canonical_offer {p c} (ok : Canonical d.mem) : Canonical (d.offer p c).mem :=
  canonical_ite (canonical_place ok) (canonical_setSched ok)

/-! ### Gate lists (R248 to R251) -/

theorem keepsForm_gateListSet : KeepsForm gateListSet := fun _ _ ok => by
  unfold gateListSet
  dsimp -zeta only
  extract_lets
  split
  · exact canonical_raise (canonical_setSched ok)
  · exact canonical_raise (canonical_setSched ok)

theorem canonical_gateTakeover {p} (ok : Canonical d.mem) : Canonical (gateTakeover p d).mem := by
  unfold gateTakeover
  extract_lets
  split
  · exact ok
  · exact canonical_ite (canonical_raise (canonical_setSched ok)) ok

theorem canonical_gateEntryChange {p} (ok : Canonical d.mem) : Canonical (gateEntryChange p d).mem := by
  unfold gateEntryChange
  extract_lets
  split
  · exact ok
  · exact canonical_setSched ok

/-! ### Members -/

theorem canonical_sayMembers {rs} (ok : Canonical d.mem) : Canonical (d.sayMembers rs).mem :=
  canonical_ite ok ok

theorem canonical_reportSince {old} (ok : Canonical d.mem) : Canonical (d.reportSince old).mem :=
  canonical_sayMembers ok

theorem canonical_answerQuery {p q} (ok : Canonical d.mem) : Canonical (d.answerQuery p q).mem :=
  canonical_sayMembers ok

theorem canonical_reportMembers (ok : Canonical d.mem) : Canonical (reportMembers d).mem :=
  canonical_sayMembers ok

/-! ### HostQueues -/

theorem canonical_setTx {q g} (ok : Canonical d.mem) : Canonical (d.setTx q g).mem := ok

theorem canonical_setRx {q g} (ok : Canonical d.mem) : Canonical (d.setRx q g).mem := ok

/-! ### Transmit queues -/

theorem canonical_sweepTx {q n} (ok : Canonical d.mem) : Canonical (sweepTx q n d).mem := by
  induction n generalizing d with
  | zero => exact ok
  | succ n ih =>
    unfold sweepTx
    extract_lets
    split
    · exact ok
    · exact canonical_ite ok (ih (canonical_txDone ok))

theorem canonical_sweep {q} (ok : Canonical d.mem) : Canonical (d.sweep q).mem :=
  canonical_sweepTx ok

theorem wf_storeDescs {addr entries i : Nat} {l : List Bytes} {m : Mem} (wf : Memory.wf m = true) : Memory.wf
    (storeDescs addr entries i l m) = true := by
  induction l generalizing i m with
  | nil => exact wf
  | cons b l ih => exact ih (memStore_wf _ _ wf)

theorem canonical_txDoorbell {q tail descs} (ok : Canonical d.mem) : Canonical (txDoorbell q tail descs d).mem :=
  canonical_ite (canonical_setTx (ok.setHost (wf_storeDescs ok.host))) (canonical_sweep (canonical_setTx (ok.setHost (wf_storeDescs ok.host))))

theorem canonical_rxDoorbell {q tail descs} (ok : Canonical d.mem) : Canonical (rxDoorbell q tail descs d).mem :=
  canonical_ite (canonical_setRx (ok.setHost (wf_storeDescs ok.host))) (canonical_setRx (ok.setHost (wf_storeDescs ok.host)))

theorem canonical_flushTx {q i n} (ok : Canonical d.mem) : Canonical (flushTx q i n d).mem := by
  induction n generalizing i d with
  | zero => exact ok
  | succ n ih => exact ih (canonical_txDone ok)

theorem canonical_disableTx {q} (ok : Canonical d.mem) : Canonical (d.disableTx q).mem :=
  canonical_flushTx (canonical_setTx ok)

/-! ### The calendar's happenings -/

theorem canonical_fetchTc6 {q n} (ok : Canonical d.mem) : Canonical (fetchTc6 q n d).1.mem := by
  induction n generalizing d with
  | zero => exact ok
  | succ n ih =>
    have swept := canonical_sweep (q := q) ok
    unfold fetchTc6
    extract_lets e
    split
    · exact swept
    · extract_lets
      split
      · split
        · exact ih (canonical_txDone swept)
        · exact ih swept
      · exact swept

theorem canonical_fetchAll {qs} (ok : Canonical d.mem) : Canonical (fetchAll qs d).1.mem := by
  induction qs generalizing d with
  | nil => exact ok
  | cons q qs ih => exact ih (canonical_fetchTc6 ok)

theorem canonical_calendarEntry {p} (ok : Canonical d.mem) : Canonical (calendarEntry p d).mem :=
  canonical_foldl (fun _ _ ok => canonical_place ok) (canonical_fetchAll (canonical_setSched ok))

theorem canonical_launchSub {p e} (ok : Canonical d.mem) : Canonical (launchSub p e d).mem := by
  unfold launchSub
  split
  · exact ok
  · exact canonical_ite (canonical_dropSub (canonical_ite (canonical_raise ok) ok)) (canonical_raise (canonical_ite (canonical_raise ok) ok))

theorem canonical_launchHost {p e} (ok : Canonical d.mem) : Canonical (launchHost p e d).mem :=
  canonical_ite (canonical_ite (canonical_txDone ok) ok) (canonical_ite (canonical_txDone ok) ok)

theorem canonical_copyLaunch {p} (ok : Canonical d.mem) : Canonical (copyLaunch p d).mem := by
  unfold copyLaunch
  extract_lets
  split
  · exact ok
  · exact canonical_ite (canonical_ite (canonical_launchHost (canonical_setSched ok)) (canonical_launchSub (canonical_setSched ok))) ok

/-! ### Frames of the other classes (R236, R237) -/

theorem canonical_leaveQueue {p c} (ok : Canonical d.mem) : Canonical (d.leaveQueue p c).mem := by
  unfold Device.leaveQueue
  split
  · exact canonical_setTx ok
  · exact canonical_setTime (canonical_setSched ok)

theorem canonical_startFrame {p c df} (ok : Canonical d.mem) : Canonical (d.startFrame p c df).mem := by
  unfold Device.startFrame
  extract_lets
  split
  · exact canonical_leaveQueue ok
  · exact canonical_txDone (canonical_leaveQueue ok)

theorem canonical_portFrameStart {p} (ok : Canonical d.mem) : Canonical (portFrameStart p d).mem := by
  unfold portFrameStart
  extract_lets
  split
  · exact canonical_foldl (fun _ _ ok => canonical_sweep ok) ok
  · split
    · exact canonical_setSched (canonical_foldl (fun _ _ ok => canonical_sweep ok) ok)
    · exact canonical_startFrame (canonical_setSched (canonical_foldl (fun _ _ ok => canonical_sweep ok) ok))

theorem canonical_gateCycleDrop {p node} (ok : Canonical d.mem) : Canonical (gateCycleDrop p node d).mem := by
  unfold gateCycleDrop
  split
  · split
    · refine canonical_raise ?_
      split
      · exact canonical_txDone (canonical_leaveQueue ok)
      · exact canonical_leaveQueue ok
    · exact ok
  · exact ok

/-! ### Received frames (R252, R253, R257) -/

theorem canonical_rxDrop {q} (ok : Canonical d.mem) : Canonical (d.rxDrop q).mem :=
  canonical_raise (canonical_setRx ok)

theorem canonical_deliver {p q filter yellow b} (ok : Canonical d.mem) : Canonical (d.deliver p q filter yellow b).mem := by
  unfold Device.deliver
  extract_lets
  split
  · exact canonical_raise (canonical_rxDrop ok)
  · exact canonical_ite (canonical_rxDrop ok) (ok.setHost (memStore_wf _ _ (memStore_wf _ _ ok.host)))

theorem canonical_redDrop {p} (ok : Canonical d.mem) : Canonical (d.redDrop p).mem :=
  canonical_raise (canonical_setSched ok)

theorem canonical_rxHost {p h b} (ok : Canonical d.mem) : Canonical (d.rxHost p h b).mem := by
  unfold Device.rxHost
  extract_lets x hit pol m
  have metered : Canonical m.2.mem := by
    dsimp only [m]
    cases pol <;> exact ok
  split
  · exact canonical_redDrop metered
  · extract_lets
    cases hit with
    | none => exact metered
    | some e => exact canonical_ite metered (canonical_deliver metered)

theorem canonical_rxFrame {p b} (ok : Canonical d.mem) : Canonical (rxFrame p b d).mem := by
  unfold rxFrame
  extract_lets
  split
  · exact ok
  · split
    · exact canonical_setPort ok
    · split
      · exact canonical_rxHost (canonical_answerQuery (canonical_setPort ok))
      · exact canonical_rxHost (canonical_setPort ok)

/-! ### Homing -/

theorem canonical_setRod {n x} (ok : Canonical d.mem) : Canonical (d.setRod n x).mem := ok

theorem canonical_setRend {n x} (ok : Canonical d.mem) : Canonical (d.setRend n x).mem := ok

/-! ### Working sets (R369 to R371) -/

theorem canonical_replan (ok : Canonical d.mem) : Canonical d.replan.mem := ok

/-! ### Admission (R143 to R145) -/

theorem canonical_setHomed {c h} (ok : Canonical d.mem) : Canonical (d.setHomed c h).mem := ok

/-! ### CHANNEL_SET -/

theorem canonical_setChannelRec {k r} (ok : Canonical d.mem) : Canonical (setChannelRec k r d).mem :=
  canonical_ite (canonical_zeroIndices (canonical_setChan ok)) (canonical_setChan ok)

/-! ### RENDITION_SET -/

theorem canonical_withRend {n r} (ok : Canonical d.mem) : Canonical (d.withRend n r).mem := by
  unfold Device.withRend
  split
  · exact canonical_setRend ok
  · exact canonical_setRend ok

theorem canonical_rendLive {n r f} (ok : Canonical d.mem) : Canonical (d.rendLive n r f).mem := by
  unfold Device.rendLive
  extract_lets
  split
  · exact canonical_ite (canonical_setRend ok) (canonical_setRend ok)
  · exact canonical_setRend ok

theorem canonical_setRendition {n r} (ok : Canonical d.mem) : Canonical (setRendition n r d).mem := by
  unfold setRendition
  extract_lets
  split
  · split
    · exact canonical_setHomed (canonical_rendLive ok)
    · exact canonical_rendLive ok
  · exact canonical_withRend ok

/-! ### Clearing renditions and channels -/

theorem canonical_dropRend {n} (ok : Canonical d.mem) : Canonical (d.dropRend n).mem := ok

theorem keepsForm_renditionClear : KeepsForm renditionClear := fun _ _ ok => by
  unfold renditionClear
  dsimp -zeta only
  extract_lets
  split
  · exact ok
  · exact canonical_asRun (canonical_ite (canonical_setRend ok) (canonical_dropRend ok))

/-! ### Starting and stopping -/

theorem canonical_startChannel {c k tag h} (ok : Canonical d.mem) : Canonical (d.startChannel c k tag h).mem :=
  canonical_raise (canonical_asRun ok)

theorem keepsForm_channelStart : KeepsForm channelStart := fun _ _ ok => by
  unfold channelStart
  dsimp -zeta only
  split
  · exact ok
  · exact canonical_startChannel ok

theorem canonical_stopChannel {c f tag} (ok : Canonical d.mem) : Canonical (d.stopChannel c f tag).mem := ok

/-! ### Masks, moves and IDR pictures -/

theorem canonical_endFaultPaths {c f} (ok : Canonical d.mem) : Canonical (d.endFaultPaths c f).mem := ok

theorem canonical_settleRod {n} (ok : Canonical d.mem) : Canonical (d.settleRod n).mem :=
  canonical_ite ok (canonical_foldl (fun _ _ ok => canonical_endFaultPaths ok) (canonical_setRod ok))

theorem keepsForm_slotmaskSet : KeepsForm slotmaskSet := fun _ _ ok => by
  unfold slotmaskSet
  dsimp -zeta only
  extract_lets
  split
  · exact canonical_settleRod (canonical_raise (canonical_setChan ok))
  · exact canonical_settleRod (canonical_raise (canonical_setChan ok))

theorem canonical_moveEnds {c f ends h} (ok : Canonical d.mem) : Canonical (d.moveEnds c f ends h).mem :=
  canonical_raise (canonical_ite (canonical_endFaultPaths (canonical_setHomed ok)) (canonical_setChan (canonical_setHomed ok)))

theorem canonical_moveTo {c f h} (ok : Canonical d.mem) : Canonical (d.moveTo c f h).mem :=
  canonical_foldl (fun _ _ ok => canonical_settleRod ok) (canonical_moveEnds ok)

theorem keepsForm_channelMove : KeepsForm channelMove := fun _ _ ok => by
  unfold channelMove
  dsimp -zeta only
  extract_lets
  split
  · exact ok
  · split
    · exact canonical_moveTo ok
    · exact canonical_moveTo ok

theorem keepsForm_renditionIdr : KeepsForm renditionIdr := fun _ _ ok => by
  unfold renditionIdr
  dsimp -zeta only
  split
  · exact ok
  · exact canonical_setRend ok

/-! ### Rows -/

theorem canonical_setPic {n f p} (ok : Canonical d.mem) : Canonical (d.setPic n f p).mem := by
  unfold Device.setPic
  split
  · exact ok
  · exact canonical_setRend ok

/-! ### Frame ticks -/

theorem canonical_tickRods {c} (ok : Canonical d.mem) : Canonical (d.tickRods c).mem :=
  canonical_foldl (fun _ _ ok => canonical_asRun ok) (canonical_foldl (fun _ _ ok => canonical_asRun ok) ok)

/-! ### Row marks and the guard (R180 to R182) -/

theorem canonical_rehome {c f} (ok : Canonical d.mem) : Canonical (d.rehome c f).mem := by
  unfold Device.rehome
  split
  · exact ok
  · split
    · exact ok
    · exact canonical_ite ok (canonical_raise ok)

/-! ### Headers (R156, R157; Tables 5.8, 6.3 and 6.5) -/

theorem canonical_planPicture {n f given} (ok : Canonical d.mem) : Canonical (d.planPicture n f given).mem := by
  unfold Device.planPicture
  split
  · exact ok
  · split
    · exact ok
    · exact canonical_ite (canonical_raise (canonical_foldl (fun _ _ ok => canonical_setRod ok) (canonical_setRend ok))) (canonical_setRend ok)

theorem canonical_countFloor {n f budget} (ok : Canonical d.mem) : Canonical (d.countFloor n f budget).mem := by
  unfold Device.countFloor
  split
  · exact ok
  · split
    · exact ok
    · exact canonical_raise (canonical_foldl (fun _ _ ok => canonical_setRod ok) (canonical_setRend ok))

theorem canonical_beginRow {n f k p c plan} (ok : Canonical d.mem) : Canonical (d.beginRow n f k p c plan).mem := by
  unfold Device.beginRow
  extract_lets
  split
  · exact canonical_ite (canonical_planPicture (canonical_rehome ok)) (canonical_rehome ok)
  · split
    · exact canonical_ite (canonical_planPicture (canonical_rehome ok)) (canonical_rehome ok)
    · exact canonical_setPic (canonical_ite (canonical_planPicture (canonical_rehome ok)) (canonical_rehome ok))

/-! ### Rows being coded -/

theorem canonical_peBlock {n f k b} (ok : Canonical d.mem) : Canonical (peBlock n f k b d).mem := by
  unfold peBlock
  split
  · exact ok
  · exact canonical_ite ok (canonical_setPic ok)

theorem canonical_endRow {n f k bits cause} (ok : Canonical d.mem) : Canonical (d.endRow n f k bits cause).mem := by
  unfold Device.endRow
  split
  · exact ok
  · extract_lets c b d1
    have put : Canonical d1.mem := canonical_setPic ok
    cases c with
    | none => exact canonical_foldl (fun _ _ ok => canonical_setRod ok) put
    | some c => exact canonical_countFloor put

theorem canonical_rowCoded {n f k bits} (ok : Canonical d.mem) : Canonical (rowCoded n f k bits d).mem := by
  unfold rowCoded
  split
  · exact ok
  · exact canonical_ite (canonical_endRow ok) ok

theorem canonical_floorTrigger {n f k bits} (ok : Canonical d.mem) : Canonical (floorTrigger n f k bits d).mem := by
  unfold floorTrigger
  split
  · exact ok
  · exact canonical_ite (canonical_endRow ok) ok

/-! ### Deadlines (R170, R176, R179) -/

theorem canonical_enterRow {n f k} (ok : Canonical d.mem) : Canonical (d.enterRow n f k).mem := by
  unfold Device.enterRow
  split
  · exact ok
  · split
    · exact ok
    · split
      · exact ok
      · split
        · exact ok
        · exact canonical_setRend ok

/-! ### Statistics (R162 to R165) -/

theorem canonical_writeStats {c f slot} (ok : Canonical d.mem) : Canonical (d.writeStats c f slot).mem :=
  canonical_ite (canonical_raise (canonical_setChan ok)) (canonical_ite (canonical_raise (canonical_setChan ok)) (canonical_setChan (canonical_ite
      (canonical_writeAt ok) (canonical_writeAt (canonical_writeAt ok)))))

theorem canonical_dropEnded {c} (ok : Canonical d.mem) : Canonical (d.dropEnded c).mem :=
  canonical_foldl (fun _ _ ok => canonical_dropRend ok) ok

theorem canonical_statsSlotDue {c scene changeRow quality dram stored mf cx} (ok : Canonical d.mem) : Canonical
    (statsSlotDue c scene changeRow quality dram stored mf cx d).mem := by
  unfold statsSlotDue
  split
  · exact ok
  · exact canonical_ite ok (canonical_dropEnded (canonical_setChan (canonical_writeStats ok)))

/-! ### Reference pool (R192 to R194) -/

theorem canonical_shadowCopyDone {n} (ok : Canonical d.mem) : Canonical (shadowCopyDone n d).mem := by
  unfold shadowCopyDone
  split
  · exact ok
  · split
    · exact canonical_setRend ok
    · exact ok

/-! ### Engine faults (R198, R199) -/

theorem canonical_enterPath {c kind degraded ends} (ok : Canonical d.mem) : Canonical (d.enterPath c kind degraded ends).mem :=
  canonical_foldl (fun _ _ ok => canonical_asRun ok) ok

theorem canonical_faultPath {c degraded ends} (ok : Canonical d.mem) : Canonical (d.faultPath c degraded ends).mem :=
  canonical_enterPath ok

theorem canonical_floorRow {n f k} (ok : Canonical d.mem) : Canonical (d.floorRow n f k).mem := by
  unfold Device.floorRow
  split
  · exact ok
  · exact canonical_ite ok (canonical_setPic ok)

theorem canonical_updateHit {rod} (ok : Canonical d.mem) : Canonical (d.updateHit rod).mem := by
  unfold Device.updateHit
  split
  · exact ok
  · exact canonical_ite ok (canonical_decideCtx (canonical_ite (canonical_foldl (fun _ _ ok => canonical_setChan ok) ok) (canonical_setRod
      (canonical_foldl (fun _ _ ok => canonical_setChan ok) ok))))

theorem canonical_peFault {rod pe rows} (ok : Canonical d.mem) : Canonical (peFault rod pe rows d).mem := by
  unfold peFault
  extract_lets x cs hit d1 _ d2 holds d3 _ d4
  have noted : Canonical d2.mem := canonical_noteUnit (canonical_setRod ok)
  clear_value d2
  have parted : Canonical d3.mem := canonical_foldl (fun _ _ ok => canonical_faultPath (canonical_setChan ok)) noted
  have handed : Canonical d4.mem := canonical_ite parted (canonical_setRod parted)
  exact canonical_ite ok (canonical_updateHit (canonical_raise (canonical_foldl (fun _ _ ok => canonical_floorRow ok) handed)))

theorem canonical_swapUnits {rod u} (ok : Canonical d.mem) : Canonical (d.swapUnits rod u).mem := ok

theorem canonical_engineFault {rod engine} (ok : Canonical d.mem) : Canonical (d.engineFault rod engine).mem :=
  have faulted := canonical_foldl (fun _ _ ok => canonical_faultPath ok) (canonical_noteUnit (canonical_setRod ok))
  canonical_ite ok (canonical_updateHit (canonical_raise
    (canonical_ite (canonical_swapUnits (canonical_foldl (fun _ _ ok => canonical_floorRow ok) faulted)) faulted)))

/-! ### Audio-core units (14 R427, Table 14.4) -/

theorem canonical_setService {n r} (ok : Canonical d.mem) : Canonical (setService n r d).mem := ok

/-! ### SERVICE_CLEAR -/

theorem keepsForm_serviceClear : KeepsForm serviceClear := fun _ _ ok => by
  unfold serviceClear
  dsimp -zeta only
  extract_lets
  split
  · exact ok
  · exact ok

/-! ### SUBSCRIBER_SET and SUBSCRIBER_CLEAR -/

theorem canonical_setSub {n r} (ok : Canonical d.mem) : Canonical (setSub n r d).mem := by
  unfold setSub
  split
  · exact ok
  · exact ok

theorem keepsForm_subscriberClear : KeepsForm subscriberClear := fun _ _ ok => by
  unfold subscriberClear
  dsimp -zeta only
  extract_lets
  split
  · exact ok
  · split
    · exact ok
    · exact ok

/-! ### SUBSCRIBER_KEY_SET (R228, R229) -/

theorem keepsForm_subscriberKeySet : KeepsForm subscriberKeySet := fun _ _ ok => by
  unfold subscriberKeySet
  dsimp -zeta only
  split
  · exact ok
  · exact ok

/-! ### Ingest -/

theorem canonical_setFlow {n x} (ok : Canonical d.mem) : Canonical (d.setFlow n x).mem := ok

theorem canonical_updFlow {n f} (ok : Canonical d.mem) : Canonical (d.updFlow n f).mem := by
  unfold Device.updFlow
  split
  · exact canonical_setFlow ok
  · exact ok

theorem canonical_setBnd {c x} (ok : Canonical d.mem) : Canonical (d.setBnd c x).mem := ok

theorem canonical_audioInput {kind input lost} (ok : Canonical d.mem) : Canonical (d.audioInput kind input lost).mem :=
  canonical_raise ok

/-! ### INGEST_FLOW_SET -/

theorem canonical_setFlowRec {n r} (ok : Canonical d.mem) : Canonical (setFlowRec n r d).mem := by
  unfold setFlowRec
  refine canonical_reportSince ?_
  split
  · exact canonical_setFlow ok
  · exact canonical_setFlow ok

theorem canonical_clearFlow {n} (ok : Canonical d.mem) : Canonical (clearFlow n d).mem :=
  canonical_reportSince (canonical_audioInput ok)

/-! ### INGEST_BIND -/

theorem canonical_setBind {c b tag} (ok : Canonical d.mem) : Canonical (setBind c b tag d).mem := by
  unfold setBind
  extract_lets x ch g moved f x1 x2 k d1 _ d2
  have bound : Canonical d2.mem := by
    dsimp only [d2]
    dsimp only [d1]
    split <;> exact ok
  exact canonical_ite (canonical_asRun bound) bound

/-! ### Packets (R72 to R76) -/

theorem canonical_countLate {n k} (ok : Canonical d.mem) : Canonical (d.countLate n k).mem :=
  canonical_updFlow ok

theorem canonical_claimFrame {n c f cap} (ok : Canonical d.mem) : Canonical (d.claimFrame n c f cap).1.mem := by
  unfold Device.claimFrame
  extract_lets
  split
  · split
    · exact ok
    · split
      · exact ok
      · exact canonical_raise (canonical_updFlow ok)
  · split <;> exact ok

theorem canonical_landRuns {n c f depth rs} (ok : Canonical d.mem) : Canonical (d.landRuns n c f depth rs).1.mem := by
  unfold Device.landRuns
  extract_lets
  exact canonical_updFlow (canonical_ite ok ok)

theorem canonical_landPacket {n depth cap rs} (ok : Canonical d.mem) : Canonical (d.landPacket n depth cap rs).mem := by
  unfold Device.landPacket
  extract_lets r
  have landed : Canonical r.1.mem := by
    refine canonical_foldl_part (part := Prod.fst) (fun a e ok => ?_) ok
    have claimed := canonical_claimFrame (n := n) (c := e.1) (f := e.2) (cap := cap) ok
    extract_lets k _ d1
    have aligned : Canonical d1.mem := canonical_updFlow claimed
    split
    · exact canonical_landRuns aligned
    · exact aligned
  exact canonical_ite (canonical_updFlow landed) landed

theorem canonical_lateCopy {n cap rs} (ok : Canonical d.mem) : Canonical (d.lateCopy n cap rs).mem :=
  canonical_ite (canonical_countLate ok) ok

theorem canonical_notePcr {n pcr} (ok : Canonical d.mem) : Canonical (d.notePcr n pcr).mem := by
  unfold Device.notePcr
  extract_lets
  refine canonical_foldl (fun _ _ ok => ?_) (canonical_updFlow ok)
  extract_lets
  split
  · exact ok
  · exact canonical_ite ok (canonical_ite (canonical_raise ok) (canonical_raise ok))

theorem canonical_noteFit {n fits} (ok : Canonical d.mem) : Canonical (d.noteFit n fits).mem := by
  unfold Device.noteFit
  split
  · exact ok
  · exact canonical_raise (canonical_setFlow ok)

theorem canonical_ingestPacket {n legB seq rtp bits runs pcr sig} (ok : Canonical d.mem) :
    Canonical (ingestPacket n legB seq rtp bits runs pcr sig d).mem := by
  unfold ingestPacket
  split
  · exact ok
  · extract_lets _ _ _ _ _ _ _ d1 d2 fits d3 d4
    have heard : Canonical d1.mem := canonical_raise (canonical_setFlow (canonical_ite ok (canonical_setPort ok)))
    have told : Canonical d2.mem := canonical_ite (canonical_audioInput heard) heard
    have noted : Canonical d3.mem := canonical_ite (canonical_noteFit told) told
    have counted : Canonical d4.mem := canonical_updFlow noted
    clear_value d4 d3 d2
    refine canonical_ite ok (canonical_ite (canonical_ite (canonical_lateCopy told) told) (canonical_ite (canonical_updFlow noted)
      (canonical_ite noted (canonical_ite (canonical_landPacket noted) (canonical_ite ?_ noted)))))
    cases pcr with
    | none => exact counted
    | some q => exact canonical_ite counted (canonical_notePcr counted)

theorem canonical_legLos {n legB} (ok : Canonical d.mem) : Canonical (legLos n legB d).mem := by
  unfold legLos
  split
  · exact ok
  · exact canonical_ite ok (canonical_ite (canonical_audioInput (canonical_raise (canonical_setFlow ok))) (canonical_raise (canonical_setFlow ok)))

theorem canonical_pairSkew {n} (ok : Canonical d.mem) : Canonical (pairSkew n d).mem := by
  unfold pairSkew
  split
  · exact ok
  · split
    · exact canonical_ite (canonical_raise (canonical_setFlow ok)) ok
    · exact ok

/-! ### Decoders (R90 to R92) -/

theorem canonical_landPicture {n c f concealed lines t35} (ok : Canonical d.mem) : Canonical (d.landPicture n c f concealed lines t35).mem :=
  canonical_updFlow (canonical_ite (canonical_setBnd ok) ok)

theorem canonical_pictureFrames {n stamp rap} (ok : Canonical d.mem) : Canonical (d.pictureFrames n stamp rap).1.mem := by
  unfold Device.pictureFrames
  split
  · exact ok
  · split
    · exact ok
    · refine canonical_foldl_part (part := Prod.fst) (fun a c ok => ?_) ok
      extract_lets
      split
      · extract_lets
        split <;> exact ok
      · split <;> exact ok

theorem canonical_pictureDone {n stamp bits rap clean refers fault sig p} (ok : Canonical d.mem) : Canonical
    (pictureDone n stamp bits rap clean refers fault sig p d).mem := by
  unfold pictureDone
  split
  · exact ok
  · exact canonical_ite ok (canonical_ite (canonical_noteFit (canonical_setFlow ok)) (canonical_ite (canonical_raise (canonical_updFlow
      (canonical_noteFit (canonical_setFlow ok)))) (canonical_countLate (canonical_foldl (fun _ _ ok => canonical_ite (canonical_landPicture
      (canonical_ite (canonical_updFlow (canonical_claimFrame ok)) (canonical_claimFrame ok))) (canonical_ite (canonical_updFlow
      (canonical_claimFrame ok)) (canonical_claimFrame ok))) (canonical_pictureFrames (canonical_raise (canonical_updFlow (canonical_noteFit
      (canonical_setFlow ok)))))))))

/-! ### Ancillary data (R94) -/

theorem canonical_landAnc {n did sdid data e} (ok : Canonical d.mem) : Canonical (d.landAnc n did sdid data e).mem := by
  unfold Device.landAnc
  extract_lets
  split
  · split
    · exact canonical_ite (canonical_setBnd ok) ok
    · exact ok
  · exact canonical_raise (canonical_setBnd ok)

theorem canonical_ancPacket {n rtp did sdid data} (ok : Canonical d.mem) : Canonical (ancPacket n rtp did sdid data d).mem := by
  unfold ancPacket
  split
  · exact ok
  · exact canonical_ite ok (canonical_foldl (fun _ _ ok => canonical_landAnc ok) (canonical_ite ok (canonical_setFlow ok)))

/-! ### Host frame rings (R84 to R87) -/

theorem canonical_writeBack {h x st} (ok : Canonical d.mem) : Canonical (d.writeBack h x st).mem :=
  canonical_ite (canonical_dma (canonical_dma ok)) ok

theorem canonical_setRingOf {c f} (ok : Canonical d.mem) : Canonical (d.setRingOf c f).mem := ok

theorem canonical_dropDesc {c x st evs} (ok : Canonical d.mem) : Canonical (d.dropDesc c x st evs).mem := by
  unfold Device.dropDesc
  split
  · exact ok
  · exact canonical_raise (canonical_setRingOf (canonical_writeBack ok))

theorem canonical_pumpRing {c n} (ok : Canonical d.mem) : Canonical (pumpRing c n d).mem := by
  induction n generalizing d with
  | zero => exact ok
  | succ n ih =>
    unfold pumpRing
    split
    · exact ok
    · split
      · exact ok
      · exact canonical_ite ok (canonical_ite (ih (canonical_dropDesc ok)) (canonical_ite (ih (canonical_dropDesc ok))
          (canonical_ite (ih (canonical_dropDesc ok)) (canonical_ite (ih ok) ok))))

theorem canonical_pump {c} (ok : Canonical d.mem) : Canonical (d.pump c).mem :=
  canonical_pumpRing ok

theorem canonical_fetchRing {c} (ok : Canonical d.mem) : Canonical (d.fetchRing c).mem := by
  unfold Device.fetchRing
  split
  · exact ok
  · exact canonical_ite ok (canonical_pump (canonical_setRingOf ok))

theorem wf_ringStore {h : HostRing} {i : Nat} {l : List Bytes} {m : Mem} (wf : Memory.wf m = true) : Memory.wf (h.store i l m) = true := by
  induction l generalizing i m with
  | nil => exact wf
  | cons b l ih => exact ih (memStore_wf _ _ wf)

theorem wf_foldl_memStore {l : List (Nat × Bytes)} {m : Mem} (wf : Memory.wf m = true) :
    Memory.wf (l.foldl (fun m e => memStore m e.1 e.2) m) = true := by
  induction l generalizing m with
  | nil => exact wf
  | cons e l ih => exact ih (memStore_wf _ _ wf)

theorem canonical_snoop {c tail x} (ok : Canonical d.mem) : Canonical (snoop c tail x d).mem := by
  unfold snoop
  split
  · exact ok
  · exact canonical_fetchRing (ok.setHost (memStore_wf _ _ (wf_foldl_memStore (wf_ringStore ok.host))))

theorem canonical_frameChecked {c} (ok : Canonical d.mem) : Canonical (frameChecked c d).mem := by
  unfold frameChecked
  split
  · exact ok
  · split
    · exact ok
    · exact canonical_ite (canonical_setRingOf ok) (canonical_dropDesc ok)

theorem canonical_hostDeadline {c f} (ok : Canonical d.mem) : Canonical (d.hostDeadline c f).mem := by
  unfold Device.hostDeadline
  split
  · exact canonical_ite ok (canonical_ite (canonical_pump ok) (canonical_raise (canonical_pump ok)))
  · exact ok

/-! ### Taking lines (R76 to R82) -/

theorem canonical_tell {c f evs runs} (ok : Canonical d.mem) : Canonical (d.tell c f evs runs).mem :=
  canonical_foldl (fun _ _ ok => canonical_asRun ok) (canonical_raise ok)

theorem canonical_takeSlate {c f} (ok : Canonical d.mem) : Canonical (d.takeSlate c f).mem := by
  unfold Device.takeSlate
  split
  · exact ok
  · exact ok

theorem canonical_freezeTimeout {c} (ok : Canonical d.mem) : Canonical (freezeTimeout c d).mem :=
  canonical_ite (canonical_tell (canonical_setBnd ok)) ok

/-! ### The write path (R384, R391, R402) -/

theorem canonical_journalPacket {src launch first audio payload} (ok : Canonical d.mem) : Canonical (d.journalPacket src launch first audio
    payload).mem :=
  canonical_raise ok

theorem canonical_gapRecordWrite (ok : Canonical d.mem) : Canonical (gapRecordWrite d).mem := by
  unfold gapRecordWrite
  split
  · exact ok
  · exact canonical_raise ok

/-! ### Batches (R391) -/

theorem canonical_batchCommit (ok : Canonical d.mem) : Canonical (batchCommit d).mem :=
  canonical_ite ok ok

theorem canonical_decideWork {op status detail} (ok : Canonical d.mem) : Canonical (d.decideWork op status detail).mem := by
  unfold Device.decideWork
  split
  · exact ok
  · exact canonical_decideCtx ok

theorem canonical_sessionClosed (ok : Canonical d.mem) : Canonical d.sessionClosed.mem :=
  canonical_foldl (fun _ _ ok => canonical_decideWork ok) ok

theorem canonical_sessionEnded (ok : Canonical d.mem) : Canonical d.sessionEnded.mem :=
  canonical_ite (canonical_sessionClosed (canonical_raise ok)) ok

theorem canonical_closeSession {cause} (ok : Canonical d.mem) : Canonical (d.closeSession cause).mem :=
  canonical_ite (canonical_sessionEnded ok) ok

theorem canonical_batchProgrammed {b wear} (ok : Canonical d.mem) : Canonical (batchProgrammed b wear d).mem :=
  canonical_ite ok (canonical_sessionEnded (canonical_ite (canonical_closeSession (canonical_raise ok)) (canonical_raise ok)))

/-! ### The NAND (R392 to R395) -/

theorem canonical_nandProgramFail {fc block} (ok : Canonical d.mem) : Canonical (nandProgramFail fc block d).mem :=
  canonical_raise ok

theorem canonical_journalScrub {fc block stage soft half bad} (ok : Canonical d.mem) : Canonical (journalScrub fc block stage soft half bad d).mem :=
  canonical_raise ok

theorem canonical_mismatch {src seq suspect} (ok : Canonical d.mem) : Canonical (d.mismatch src seq suspect).mem :=
  canonical_raise ok

/-! ### Sessions and energy (R397 to R400, R403, R414) -/

theorem canonical_beginTest (ok : Canonical d.mem) : Canonical d.beginTest.mem := ok

theorem keepsForm_journalSessionClose : KeepsForm journalSessionClose := fun _ _ ok => by
  unfold journalSessionClose
  dsimp -zeta only
  split
  · exact ok
  · exact canonical_closeSession (canonical_beginWork ok)

theorem canonical_periodicEnergyTest (ok : Canonical d.mem) : Canonical (periodicEnergyTest d).mem :=
  canonical_ite (canonical_ite (canonical_beginTest ok) (canonical_beginTest ok)) ok

theorem canonical_regrant (ok : Canonical d.mem) : Canonical d.regrant.mem :=
  canonical_ite ok (canonical_ite (canonical_closeSession (canonical_raise ok)) (canonical_ite ok (canonical_raise ok)))

theorem canonical_openSession {c} (ok : Canonical d.mem) : Canonical (d.openSession c).1.mem := by
  unfold Device.openSession
  split
  · exact ok
  · extract_lets
    split
    · exact ok
    · split
      · exact ok
      · exact canonical_raise ok

theorem canonical_energyTestDone {u cap} (ok : Canonical d.mem) : Canonical (energyTestDone u cap d).mem := by
  unfold energyTestDone
  split
  · exact ok
  · extract_lets work more _ d1
    have told : Canonical d1.mem := canonical_raise ok
    clear_value d1 work
    split
    · exact canonical_regrant told
    · exact canonical_ite (canonical_decideCtx (canonical_openSession told)) (canonical_decideCtx (canonical_regrant told))

theorem canonical_stagingLost (ok : Canonical d.mem) : Canonical d.stagingLost.mem := by
  unfold Device.stagingLost
  extract_lets
  split
  · exact ok
  · split
    · exact canonical_sessionClosed (canonical_raise ok)
    · exact canonical_sessionEnded (canonical_raise ok)

/-! ### Services, marks (R384 to R388) -/

theorem canonical_letGo {n} (ok : Canonical d.mem) : Canonical (d.letGo n).mem := ok

theorem keepsForm_journalMarkPin : KeepsForm journalMarkPin := fun c d ok => by
  dsimp only [journalMarkPin, Done.ok]
  split <;> exact ok

theorem keepsForm_journalMarkRelease : KeepsForm journalMarkRelease := fun _ _ ok => by
  unfold journalMarkRelease
  dsimp -zeta only
  split
  · exact ok
  · exact canonical_letGo ok

/-! ### Replay (R406 to R408) -/

theorem canonical_endReplay {slot code} (ok : Canonical d.mem) : Canonical (d.endReplay slot code).mem := by
  unfold Device.endReplay
  split
  · exact ok
  · exact canonical_raise (canonical_letGo ok)

theorem canonical_withhold {target from_} (ok : Canonical d.mem) : Canonical (d.withhold target from_).mem := ok

theorem keepsForm_journalReplayStop : KeepsForm journalReplayStop := fun _ _ ok => by
  unfold journalReplayStop
  dsimp -zeta only
  split
  · exact ok
  · exact canonical_ite (canonical_endReplay (canonical_withhold ok)) (canonical_withhold ok)

theorem canonical_replayEnd {slot} (ok : Canonical d.mem) : Canonical (replayEnd slot d).mem := by
  unfold replayEnd
  split
  · exact ok
  · exact canonical_ite (canonical_endReplay ok) (canonical_ite (canonical_endReplay ok) (canonical_ite (canonical_endReplay ok) ok))

/-! ### Export (R409) -/

theorem canonical_journalExportDone (ok : Canonical d.mem) : Canonical (journalExportDone d).mem := by
  unfold journalExportDone
  split
  · exact ok
  · exact canonical_ite (canonical_decideCtx (canonical_raise ok)) (canonical_decideCtx (canonical_raise (canonical_writeAt (canonical_foldl
      (fun _ _ ok => canonical_mismatch ok) ok))))

/-! ### Check units (R411, R412) -/

theorem canonical_setCheck {k x} (ok : Canonical d.mem) : Canonical (d.setCheck k x).mem := ok

theorem keepsForm_checkContextSet : KeepsForm checkContextSet := fun _ _ ok => by
  unfold checkContextSet
  dsimp -zeta only
  extract_lets
  split
  · exact canonical_setCheck ok
  · exact canonical_setCheck ok

theorem canonical_measureCheck {k} (ok : Canonical d.mem) : Canonical (d.measureCheck k).mem :=
  canonical_ite ok ok

theorem keepsForm_checkContextGet : KeepsForm checkContextGet := fun _ _ ok => by
  unfold checkContextGet
  dsimp -zeta only
  extract_lets
  split
  · exact canonical_beginWork (canonical_measureCheck ok)
  · exact canonical_writeRecord (canonical_measureCheck ok)

theorem canonical_lateRecord {b c} (ok : Canonical d.mem) : Canonical (d.lateRecord b c).mem :=
  canonical_ite (canonical_decideCtx (canonical_raise ok)) (canonical_decideCtx (canonical_writeAt ok))

theorem canonical_checkRunDone {k} (ok : Canonical d.mem) : Canonical (checkRunDone k d).mem :=
  canonical_ite ok (canonical_foldl (fun _ _ ok => canonical_lateRecord ok) (canonical_feed (canonical_raise (canonical_setCheck (canonical_ite ok
      (canonical_useFree ok))))))

/-! ### Copies (R218, R224, R225) -/

theorem canonical_copyTo {k fec e} {a : Device × List (Nat × Nat × Nat)} (ok : Canonical a.1.mem) : Canonical (Device.copyTo k fec e a).1.mem := by
  unfold Device.copyTo
  extract_lets
  split
  · exact ok
  · exact canonical_foldl (fun _ _ ok => canonical_offer ok) (canonical_offer ok)

theorem canonical_copies {k fec} (ok : Canonical d.mem) : Canonical (d.copies k fec).mem :=
  canonical_foldl_part (part := Prod.fst) (fun _ _ ok => canonical_copyTo ok) ok

/-! ### Service packets -/

theorem canonical_sendPacket {r k fec first rtp} (ok : Canonical d.mem) : Canonical (d.sendPacket r k fec first rtp).mem := by
  unfold Device.sendPacket
  extract_lets
  split
  · exact canonical_ite (canonical_journalPacket ok) ok
  · split
    · split
      · exact canonical_ite (canonical_journalPacket ok) ok
      · exact canonical_raise (canonical_ite (canonical_journalPacket ok) ok)
    · exact canonical_copies (canonical_ite (canonical_journalPacket ok) ok)

theorem canonical_videoPacket {n f launch tick marker first payload r} (ok : Canonical d.mem) : Canonical
    (d.videoPacket n f launch tick marker first payload r).mem := by
  unfold Device.videoPacket
  split
  · exact ok
  · exact canonical_sendPacket ok

/-! ### PAYLOAD_UNIT_ARRIVAL -/

theorem canonical_sendRow {n f tick row0 last r l first} (ok : Canonical d.mem) : Canonical (Device.sendRow n f tick row0 last r l first d).mem := by
  induction l generalizing first d with
  | nil => exact ok
  | cons p l ih => exact ih (canonical_videoPacket ok)

theorem canonical_payloadUnit {n f k units heads} (ok : Canonical d.mem) : Canonical (payloadUnit n f k units heads d).mem := by
  unfold payloadUnit
  split
  · split
    · exact ok
    · exact canonical_ite ok (canonical_ite ok (canonical_sendRow ok))
  · exact ok

/-! ### Audio (R226, R227, R427) -/

theorem canonical_countAudio {src late} (ok : Canonical d.mem) : Canonical (d.countAudio src late).mem := ok

theorem canonical_audioFrameReady {n a capture payload} (ok : Canonical d.mem) : Canonical (audioFrameReady n a capture payload d).mem := by
  unfold audioFrameReady
  split
  · split
    · exact ok
    · extract_lets
      split
      · exact ok
      · split
        · exact canonical_raise (canonical_countAudio ok)
        · exact canonical_ite (canonical_raise (canonical_countAudio ok)) (canonical_sendPacket (canonical_raise (canonical_countAudio ok)))
  · exact ok

/-! ### Replays in the calendars (13 R407) -/

theorem canonical_replayRecord {r x} (ok : Canonical d.mem) : Canonical (d.replayRecord r x).mem := by
  unfold Device.replayRecord
  split
  · exact canonical_mismatch ok
  · split
    · exact ok
    · exact canonical_copies ok

theorem canonical_feedReplay {slot} (ok : Canonical d.mem) : Canonical (d.feedReplay slot).mem := by
  unfold Device.feedReplay
  split
  · exact ok
  · exact canonical_foldl (fun _ _ ok => canonical_replayRecord ok) (canonical_raise ok)

theorem canonical_feedReplays (ok : Canonical d.mem) : Canonical d.feedReplays.mem :=
  canonical_foldl (fun _ _ ok => canonical_feedReplay ok) ok

/-! ### Audio -/

theorem canonical_setAport {n x} (ok : Canonical d.mem) : Canonical (d.setAport n x).mem := ok

/-! ### Switches (R421, R422) -/

theorem canonical_portDone {n} (ok : Canonical d.mem) : Canonical (d.portDone n).mem :=
  canonical_ite (canonical_foldl (fun _ _ ok => canonical_decideCtx ok) ok) ok

theorem canonical_portTell {n} (ok : Canonical d.mem) : Canonical (d.portTell n).mem :=
  canonical_ite (canonical_raise (canonical_setAport ok)) ok

theorem canonical_portMoved {n x} (ok : Canonical d.mem) : Canonical (d.portMoved n x).mem :=
  canonical_portDone (canonical_portTell (canonical_setAport ok))

theorem canonical_setSource {n x} (ok : Canonical d.mem) : Canonical (d.setSource n x).mem := ok

theorem canonical_zeroCrossing {source n pair right} (ok : Canonical d.mem) : Canonical (zeroCrossing source n pair right d).mem := by
  unfold zeroCrossing
  split
  · split
    · exact canonical_setSource ok
    · exact ok
  · exact canonical_ite (canonical_portMoved ok) ok

theorem canonical_countTimeout {n} (ok : Canonical d.mem) : Canonical (d.countTimeout n).mem :=
  canonical_raise (canonical_setAport ok)

theorem canonical_zcTimeout {source n pair right} (ok : Canonical d.mem) : Canonical (zcTimeout source n pair right d).mem := by
  unfold zcTimeout
  split
  · split
    · split
      · exact canonical_ite ok (canonical_ite (canonical_countTimeout (canonical_setSource ok)) (canonical_setSource ok))
      · exact ok
    · exact ok
  · split
    · split
      · exact canonical_ite ok (canonical_portMoved (canonical_countTimeout ok))
      · exact ok
    · exact ok

/-! ### Clock loss and re-lock (R418 to R420, R422) -/

theorem canonical_clockLoss {n rateChange} (ok : Canonical d.mem) : Canonical (clockLoss n rateChange d).mem :=
  canonical_ite ok (canonical_portDone (canonical_ite (canonical_raise (canonical_setAport ok)) (canonical_audioInput (canonical_raise
      (canonical_setAport ok)))))

theorem canonical_rateMeasured {n hz} (ok : Canonical d.mem) : Canonical (rateMeasured n hz d).mem := by
  unfold rateMeasured
  extract_lets
  split
  · exact ok
  · split
    · exact canonical_ite (canonical_setAport ok) (canonical_raise (canonical_setAport ok))
    · exact canonical_raise (canonical_setAport ok)

theorem canonical_relock {n} (ok : Canonical d.mem) : Canonical (relock n d).mem :=
  canonical_ite ok (canonical_portDone (canonical_ite (canonical_setAport ok) (canonical_audioInput (canonical_setAport ok))))

/-! ### Alignment (R423, R424) -/

theorem canonical_fifoSlip {n ovr} (ok : Canonical d.mem) : Canonical (fifoSlip n ovr d).mem :=
  canonical_ite ok (canonical_ite (canonical_raise (canonical_setAport ok)) (canonical_raise (canonical_setAport ok)))

theorem canonical_packetMissing {n} (ok : Canonical d.mem) : Canonical (packetMissing n d).mem := by
  unfold packetMissing
  split
  · exact ok
  · split
    · exact ok
    · exact canonical_ite ok (canonical_raise ok)

/-! ### AUDIO_PORT_SET (R415, R422, R429, R431) -/

theorem keepsForm_audioPortSet : KeepsForm audioPortSet := fun _ _ ok => by
  unfold audioPortSet
  dsimp -zeta only
  extract_lets
  split
  · exact canonical_setAport ok
  · split
    · exact canonical_portDone (canonical_portTell (canonical_setAport ok))
    · exact canonical_beginWork (canonical_setAport ok)

/-! ### AUDIO_SOURCE_SET (R425, R431) -/

theorem canonical_changeSource {n ps rate} (ok : Canonical d.mem) : Canonical (d.changeSource n ps rate).mem := ok

theorem keepsForm_audioSourceSet : KeepsForm audioSourceSet := fun _ _ ok => by
  unfold audioSourceSet
  dsimp -zeta only
  split
  · exact ok
  · exact canonical_changeSource ok

/-! ### AUDIO_ENCODER_SET (R428, R431) -/

theorem keepsForm_audioEncoderSet : KeepsForm audioEncoderSet := fun _ _ ok => by
  unfold audioEncoderSet
  dsimp -zeta only
  split
  · exact ok
  · exact canonical_setSource ok

/-! ### AUDIO_STATUS_GET (Table 14.9) -/

theorem keepsForm_audioStatusGet : KeepsForm audioStatusGet := fun _ _ ok => by
  unfold audioStatusGet
  dsimp -zeta only
  split
  · exact canonical_writeRecord ok
  · exact canonical_writeRecord ok

/-! ### Layers (R101 to R115, R132) -/

theorem canonical_setLayers {c t tag} (ok : Canonical d.mem) : Canonical (d.setLayers c t tag).mem :=
  canonical_ite (canonical_setComp ok) (canonical_asRun (canonical_setComp ok))

/-! ### Flattens (R109 to R113, R119) -/

theorem canonical_setPlanes {c ps rebuilt} (ok : Canonical d.mem) : Canonical (d.setPlanes c ps rebuilt).mem :=
  canonical_raise (canonical_setComp ok)

theorem canonical_endFlatten {c f} (ok : Canonical d.mem) : Canonical (d.endFlatten c f).mem := ok

theorem canonical_flattenFails {c f} (ok : Canonical d.mem) : Canonical (d.flattenFails c f).mem :=
  canonical_foldl (fun _ _ ok => canonical_decideCtx ok) (canonical_raise (canonical_endFlatten ok))

theorem canonical_landWaits {c g ws} (ok : Canonical d.mem) : Canonical (d.landWaits c g ws).mem :=
  canonical_foldl (fun _ _ ok => canonical_ite (canonical_stage ok) (canonical_decideCtx (canonical_setLayers ok))) ok

theorem canonical_flattenFits {c f ps} (ok : Canonical d.mem) : Canonical (d.flattenFits c f ps).mem :=
  have ended := canonical_endFlatten (canonical_setComp ok)
  have landed := canonical_ite ended (canonical_landWaits ended)
  canonical_ite landed (canonical_setPlanes landed)

theorem canonical_flattenDone {c} (ok : Canonical d.mem) : Canonical (flattenDone c d).mem := by
  unfold flattenDone
  extract_lets
  split
  · exact ok
  · exact canonical_ite ok (canonical_ite (canonical_setComp ok) (canonical_ite (canonical_flattenFails ok) (canonical_flattenFits ok)))

theorem canonical_landPlanes {c} (ok : Canonical d.mem) : Canonical (d.landPlanes c).mem := by
  unfold Device.landPlanes
  extract_lets
  split
  · exact ok
  · exact canonical_setPlanes (canonical_setComp ok)

theorem canonical_rebuildPlanes {c} (ok : Canonical d.mem) : Canonical (d.rebuildPlanes c).mem :=
  canonical_ite (canonical_setComp ok) (canonical_setComp ok)

theorem canonical_losePlanes {c} (ok : Canonical d.mem) : Canonical (d.losePlanes c).mem :=
  canonical_rebuildPlanes (canonical_setComp ok)

/-! ### Confidence outputs (R120 to R122) -/

theorem canonical_setConf {c r} (ok : Canonical d.mem) : Canonical (d.setConf c r).mem :=
  canonical_ite (canonical_zeroIndices (canonical_setComp ok)) (canonical_setComp ok)

/-! ### Signed blocks (R124 to R130) -/

theorem canonical_addJob {op c} (ok : Canonical d.mem) : Canonical (d.addJob op c).mem := ok

theorem canonical_recordSeq {op c} (ok : Canonical d.mem) : Canonical (d.recordSeq op c).mem := by
  unfold Device.recordSeq
  split
  · exact ok
  · split
    · exact ok
    · exact ok

theorem canonical_sealFinal {c mask eff asked moves} (ok : Canonical d.mem) : Canonical (d.sealFinal c mask eff asked moves).mem := by
  unfold Device.sealFinal
  split
  · exact canonical_decideCtx ok
  · exact canonical_accept ok

theorem canonical_acceptBlock {op c} (ok : Canonical d.mem) : Canonical (d.acceptBlock op c).mem :=
  have noted := canonical_recordSeq ok
  canonical_ite (canonical_decideCtx (canonical_raise noted)) (canonical_ite (canonical_decideCtx (canonical_raise noted))
    (canonical_ite (canonical_decideCtx noted) (canonical_ite (canonical_sealFinal noted) (canonical_sealFinal noted))))

theorem canonical_sealBlockVerified (ok : Canonical d.mem) : Canonical (sealBlockVerified d).mem := by
  unfold sealBlockVerified
  split
  · exact ok
  · extract_lets
    split
    · exact ok
    · split
      · exact canonical_decideCtx (canonical_raise ok)
      · split
        · exact canonical_decideCtx ok
        · exact canonical_acceptBlock ok

theorem canonical_sealCommit {c} (ok : Canonical d.mem) : Canonical (d.sealCommit c).mem :=
  canonical_foldl (fun _ _ ok => canonical_decideCtx ok) ok

theorem canonical_sealTick {c f tick} (ok : Canonical d.mem) : Canonical (d.sealTick c f tick).mem :=
  canonical_raise (canonical_foldl (fun _ _ ok => canonical_asRun ok) ok)

/-! ### Compositing a line -/

theorem canonical_readAsset {c n} (ok : Canonical d.mem) : Canonical (d.readAsset c n).mem := by
  unfold Device.readAsset
  split
  · exact ok
  · exact canonical_ite ok (canonical_raise ok)

/-! ### The renditions' lines (R116, R118) -/

theorem canonical_handLine {c f y} (ok : Canonical d.mem) : Canonical (d.handLine c f y).mem := ok

/-! ### Confidence output -/

theorem canonical_dropConf {c} (ok : Canonical d.mem) : Canonical (d.dropConf c).mem :=
  canonical_raise (canonical_setComp ok)

theorem canonical_writeProxy {c f} (ok : Canonical d.mem) : Canonical (d.writeProxy c f).mem :=
  canonical_ite (canonical_raise (canonical_setComp ok)) (canonical_setComp (canonical_ite (canonical_writeAt (canonical_writeAt ok))
      (canonical_writeAt (canonical_writeAt (canonical_writeAt ok)))))

theorem canonical_proxyLine {c f y last} (ok : Canonical d.mem) : Canonical (d.proxyLine c f y last).mem :=
  have asked := canonical_ite (canonical_setComp ok) ok
  have dropped := canonical_ite (canonical_foldl (fun _ _ ok => canonical_dropConf ok) asked) asked
  canonical_ite (canonical_writeProxy dropped) dropped

theorem canonical_programLine {c h y last sizes full} (ok : Canonical d.mem) : Canonical (d.programLine c h y last sizes full).mem := by
  unfold Device.programLine
  split
  · exact ok
  · exact canonical_ite ok (canonical_ite (canonical_setComp (canonical_ite (canonical_dropConf (canonical_foldl_same (canonical_ite
      (canonical_setComp ok) ok))) (canonical_foldl_same (canonical_ite (canonical_setComp ok) ok)))) (canonical_ite (canonical_dropConf
      (canonical_foldl_same (canonical_ite (canonical_setComp ok) ok))) (canonical_foldl_same (canonical_ite (canonical_setComp ok) ok))))

theorem canonical_composeLine {c li sizes full} (ok : Canonical d.mem) : Canonical (d.composeLine c li sizes full).mem := by
  unfold Device.composeLine
  extract_lets f y g x act shown line tell d1 d2 d3 k d4
  have told : Canonical d2.mem := canonical_raise (canonical_setComp ok)
  have read : Canonical d3.mem := by
    dsimp only [d3]
    cases shown with
    | none => exact told
    | some z => exact canonical_readAsset told
  have drawn : Canonical d4.mem := canonical_ite (canonical_proxyLine read) (canonical_ite (canonical_programLine read) read)
  exact canonical_handLine (canonical_ite (canonical_setComp drawn) drawn)

theorem canonical_takeLine {c f l} (ok : Canonical d.mem) : Canonical (d.takeLine c f l).1.mem := by
  unfold Device.takeLine
  extract_lets ch w b0 fr0 any o rec src got now0 back _ b1 conc flags flow kind xs first fr1 last e old in_ line _ b2 d1 d2 d3 d4 d5 d6 d7
  have counted : Canonical d2.mem := by
    dsimp only [d2]
    cases flow with
    | none => exact canonical_setBnd ok
    | some n => exact canonical_updFlow (canonical_setBnd ok)
  have told : Canonical d4.mem := by
    have before : Canonical d3.mem := canonical_tell counted
    dsimp only [d4]
    clear_value d3 xs flow
    split
    · exact canonical_raise before
    · exact before
  have slated : Canonical d6.mem := canonical_ite (canonical_takeSlate (canonical_tell told)) (canonical_tell told)
  show Canonical d7.mem
  dsimp only [d7]
  clear_value last d6
  split
  · exact canonical_dropDesc slated
  · exact slated

theorem canonical_lineFillPoint {c sizes full} (ok : Canonical d.mem) : Canonical (lineFillPoint c sizes full d).mem := by
  unfold lineFillPoint
  split
  · exact ok
  · exact canonical_composeLine (canonical_takeLine ok)

/-! ### The address map (R356 to R359) -/

theorem canonical_setGroupFor {cause g x} (ok : Canonical d.mem) : Canonical (d.setGroupFor cause g x).mem :=
  canonical_noteUnit ok

theorem canonical_setGroup {g x} (ok : Canonical d.mem) : Canonical (d.setGroup g x).mem :=
  canonical_setGroupFor ok

theorem canonical_setDram {c x} (ok : Canonical d.mem) : Canonical (d.setDram c x).mem := ok

/-! ### Renditions that read a group (06 R201) -/

theorem canonical_poisonRow {n f k} (ok : Canonical d.mem) : Canonical (d.poisonRow n f k).mem := by
  unfold Device.poisonRow
  extract_lets
  split
  · exact canonical_floorRow ok
  · exact canonical_setPic (canonical_floorRow ok)

theorem canonical_floorOpen {n} (ok : Canonical d.mem) : Canonical (d.floorOpen n).mem := by
  unfold Device.floorOpen
  split
  · exact ok
  · exact canonical_foldl (fun _ _ ok => canonical_poisonRow ok) ok

theorem canonical_floorReaders {g} (ok : Canonical d.mem) : Canonical (d.floorReaders g).mem :=
  canonical_foldl (fun _ _ ok => canonical_floorOpen ok) ok

/-! ### Freezes (R372, R373) -/

theorem canonical_freezeChannel {c i} (ok : Canonical d.mem) : Canonical (d.freezeChannel c i).mem :=
  canonical_ite (canonical_setGroup ok) (canonical_ite ok (canonical_floorReaders (canonical_raise (canonical_setGroup (canonical_setDram ok)))))

theorem canonical_uncorrectableRead {g a requester requesterId syndrome history} (ok : Canonical d.mem) :
    Canonical (uncorrectableRead g a requester requesterId syndrome history d).mem := by
  unfold uncorrectableRead
  extract_lets gr p
  refine canonical_ite ok (canonical_ite (canonical_freezeChannel ok) (canonical_ite ok ?_))
  have counted : Canonical (d.setGroup g { d.dram.group g with
      uncorrectable := satAdd max64 (d.dram.group g).uncorrectable 1, poisonReads := satAdd max64 (d.dram.group g).poisonReads 1 }).mem :=
          canonical_setGroup ok
  have poisoned {b : Nat} : Canonical ((d.setGroup g { d.dram.group g with
      uncorrectable := satAdd max64 (d.dram.group g).uncorrectable 1, poisonReads := satAdd max64 (d.dram.group g).poisonReads 1 }).mem.poisonBurst
          b) := ⟨counted.hdm, counted.cmdsram, counted.host⟩
  exact canonical_ite (canonical_ite (canonical_freezeChannel poisoned) poisoned) (canonical_freezeChannel counted)

theorem canonical_commandError {c rule bank page slot requester requesterId address history} (ok : Canonical d.mem) : Canonical
    (commandError c rule bank page slot requester requesterId address history d).mem :=
  canonical_freezeChannel ok

theorem canonical_dramCorrection {g a} (ok : Canonical d.mem) : Canonical (dramCorrection g a d).mem :=
  canonical_ite ok (canonical_raise (canonical_setDram (canonical_setGroup ok)))

theorem canonical_refreshDue {c b placed} (ok : Canonical d.mem) : Canonical (refreshDue c b placed d).mem :=
  canonical_raise (canonical_setDram ok)

/-! ### References and shadows of a retired group (06 R201, R202) -/

theorem canonical_loseSet {c} (ok : Canonical d.mem) : Canonical (d.loseSet c).mem :=
  canonical_losePlanes (canonical_foldl (fun _ _ ok => canonical_asRun ok) ok)

theorem canonical_moveShadow {drain n extents} (ok : Canonical d.mem) : Canonical (d.moveShadow drain n extents).mem := by
  unfold Device.moveShadow
  extract_lets _ without d0 g d1
  have placed : Canonical d1.mem := by
    dsimp only [d1]
    cases g <;> exact ok
  clear_value d1
  split
  · exact placed
  · exact canonical_ite (canonical_setRend placed) (canonical_setRend placed)

/-! ### Homes of a retired group (R371, R375, R376) -/

theorem canonical_moveHome {c old from_ drain} (ok : Canonical d.mem) : Canonical (d.moveHome c old from_ drain).mem := by
  unfold Device.moveHome
  split
  · exact ok
  · split
    · exact ok
    · exact canonical_raise ok

theorem canonical_unbare {c} (ok : Canonical d.mem) : Canonical (d.unbare c).mem := by
  unfold Device.unbare
  split
  · exact ok
  · split
    · exact ok
    · split
      · exact ok
      · exact canonical_rebuildPlanes (canonical_raise ok)

theorem canonical_placeBare (ok : Canonical d.mem) : Canonical d.placeBare.mem :=
  canonical_replan (canonical_foldl (fun _ _ ok => canonical_unbare ok) ok)

/-! ### The module store (R360, Table 12.5) -/

theorem canonical_moveSlate {tell g n} (ok : Canonical d.mem) : Canonical (d.moveSlate tell g n).mem := by
  unfold Device.moveSlate
  split
  · exact canonical_ite ok (canonical_raise ok)
  · exact ok

theorem canonical_moveStore {tell g} (ok : Canonical d.mem) : Canonical (d.moveStore tell g).mem :=
  canonical_ite (canonical_foldl (fun _ _ ok => canonical_moveSlate ok) ok) (canonical_raise (canonical_foldl
      (fun _ _ ok => canonical_moveSlate ok) ok))

/-! ### Retirement (R374, R377, R378) -/

theorem canonical_groupOut {g frozen cause} (ok : Canonical d.mem) : Canonical (d.groupOut g frozen cause).mem :=
  canonical_raise (ok.setWindow (memDrop_wf _ _ ok.hdm))

theorem canonical_retireGroup {g frozen cause} (ok : Canonical d.mem) : Canonical (d.retireGroup g frozen cause).mem := by
  unfold Device.retireGroup
  extract_lets sets d1 d2 d3 d4 d5 d6
  have out : Canonical d1.mem := canonical_groupOut (canonical_floorReaders ok)
  have homed : Canonical d2.mem := canonical_foldl (fun _ _ ok => canonical_moveHome ok) out
  have lost : Canonical d3.mem := canonical_foldl (fun _ _ ok => canonical_loseSet ok) homed
  have shadowed : Canonical d4.mem := canonical_foldl (fun _ _ ok => canonical_moveShadow ok) lost
  have stored : Canonical d5.mem := canonical_moveStore shadowed
  have staged : Canonical d6.mem := canonical_ite (canonical_stagingLost stored) stored
  clear_value d6
  exact canonical_replan staged

theorem canonical_groupRetirement {g} (ok : Canonical d.mem) : Canonical (groupRetirement g d).mem := by
  unfold groupRetirement
  split
  · exact canonical_ite ok (canonical_retireGroup ok)
  · exact ok

theorem canonical_moveAssets {g} (ok : Canonical d.mem) : Canonical (d.moveAssets g).mem := ok

theorem canonical_drainGroup {g} (ok : Canonical d.mem) : Canonical (d.drainGroup g).mem := by
  unfold Device.drainGroup
  extract_lets x sets d1 d2 d3 d4 _ d5
  have drains : Canonical d1.mem := canonical_setGroup ok
  have homed : Canonical d2.mem := canonical_foldl (fun _ _ ok => canonical_rebuildPlanes (canonical_moveHome ok)) drains
  have shadowed : Canonical d3.mem := canonical_foldl (fun _ _ ok => canonical_moveShadow ok) homed
  have stored : Canonical d4.mem := canonical_moveAssets (canonical_moveStore shadowed)
  have staged : Canonical d5.mem := canonical_ite stored stored
  exact canonical_replan staged

theorem canonical_groupDrainDone {g} (ok : Canonical d.mem) : Canonical (groupDrainDone g d).mem :=
  canonical_ite ok (canonical_groupOut ok)

/-! ### Commands (R378 to R382) -/

theorem keepsForm_memGroupRetire : KeepsForm memGroupRetire := fun _ _ ok => by
  unfold memGroupRetire
  dsimp -zeta only
  extract_lets
  split
  · exact ok
  · split
    · exact canonical_setGroup ok
    · split
      · exact ok
      · exact canonical_drainGroup ok

theorem canonical_endGroupWork {op g detail} (ok : Canonical d.mem) : Canonical (d.endGroupWork op g detail).mem := by
  unfold Device.endGroupWork
  split
  · exact ok
  · exact canonical_decideCtx ok

theorem canonical_groupRetrainDone {g mask trained} (ok : Canonical d.mem) : Canonical (groupRetrainDone g mask trained d).mem := by
  unfold groupRetrainDone
  refine canonical_ite ok ?_
  extract_lets x d1
  have stored : Canonical d1.mem := by
    refine canonical_foldl (fun _ _ ok => ?_) ok
    exact canonical_ite (canonical_setDram ok) ok
  exact canonical_endGroupWork (canonical_raise (canonical_setGroup stored))

theorem canonical_groupTestDone {g failing} (ok : Canonical d.mem) : Canonical (groupTestDone g failing d).mem :=
  canonical_ite ok (canonical_endGroupWork (canonical_raise (canonical_setGroup ok)))

theorem canonical_groupRestoreDone {g} (ok : Canonical d.mem) : Canonical (groupRestoreDone g d).mem :=
  canonical_ite ok (canonical_endGroupWork (canonical_placeBare (canonical_raise (canonical_setGroup ok))))

theorem canonical_regrain {g} (ok : Canonical d.mem) : Canonical (d.regrain g).mem := by
  have dropped : Canonical { d.mem with
      hdm := memDrop d.mem.hdm (g * 2 ^ 32) ((g + 1) * 2 ^ 32)
      poison := d.mem.poison.filter (fun b => !(g * 2 ^ 26 ≤ b && b < (g + 1) * 2 ^ 26)) } := ok.setWindow (memDrop_wf _ _ ok.hdm)
  unfold Device.regrain
  extract_lets src d1 d2
  have moved : Canonical d2.mem := canonical_moveAssets (canonical_moveStore dropped)
  exact canonical_ite (canonical_ite (canonical_stagingLost moved) moved) dropped

theorem keepsForm_memGrainSet : KeepsForm memGrainSet := fun _ _ ok => by
  unfold memGrainSet
  dsimp -zeta only
  extract_lets
  split
  · exact ok
  · exact canonical_regrain (canonical_setGroup ok)

theorem canonical_measureChan {c} (ok : Canonical d.mem) : Canonical (d.measureChan c).mem := ok

theorem canonical_measureGroup {g} (ok : Canonical d.mem) : Canonical (d.measureGroup g).mem :=
  canonical_setGroup ok

/-! ### BAR0 writes -/

theorem canonical_badAccess {off} (ok : Canonical d.mem) : Canonical (d.badAccess off).mem :=
  canonical_raise ok

theorem canonical_ringStatusClear {r v} (ok : Canonical d.mem) : Canonical (ringStatusClear r v d).mem := ok

theorem canonical_doorbellWrite {o v low base} (ok : Canonical d.mem) : Canonical (doorbellWrite o v low base d).mem :=
  canonical_ite (canonical_ite (canonical_ringStatusClear ok) (canonical_ite ok (canonical_ite (canonical_ringCfgWrite ok) (canonical_ite
      (canonical_ringDoorbell ok) ok)))) (canonical_ite (canonical_cqConfigWrite ok) (canonical_ite (canonical_cqConfigWrite ok) (canonical_ite
      (canonical_cqReadWrite ok) (canonical_ite ok ok))))

theorem canonical_hostqWrite {o v low} (ok : Canonical d.mem) : Canonical (hostqWrite o v low d).mem :=
  canonical_ite (canonical_ite (canonical_txDoorbell ok) (canonical_ite (canonical_setTx ok) ok)) (canonical_ite (canonical_ite
      (canonical_rxDoorbell ok) (canonical_ite (canonical_setRx ok) ok)) ok)

theorem canonical_barWrite {off v wide} (ok : Canonical d.mem) : Canonical (barWrite off v wide d).mem :=
  canonical_ite (canonical_badAccess ok) (canonical_ite (canonical_doorbellWrite ok) (canonical_ite (canonical_hostqWrite ok)
    (canonical_ite (canonical_ite ok ok) (canonical_ite ok (canonical_ite (canonical_ite ok ok) (canonical_ite (canonical_ite ok ok)
      (canonical_ite ok.writeCmd ok)))))))

/-! ### The HDM window -/

theorem canonical_windowRead {off n} (ok : Canonical d.mem) : Canonical (windowRead off n d).mem :=
  canonical_ite ok (canonical_ite ok (canonical_ite (canonical_raise ok) (canonical_replyData ok)))

theorem canonical_writeQuarter {q off b} (ok : Canonical d.mem) : Canonical (writeQuarter q off b d).mem := by
  by_cases up : d.groupUp q = true
  · rw [writeQuarter_mem_up up]
    exact ok.setWindow (memStore_wf _ _ ok.hdm)
  · rwa [writeQuarter_mem_down up]

theorem canonical_windowWrite {off b} (ok : Canonical d.mem) : Canonical (windowWrite off b d).mem :=
  canonical_ite (canonical_foldl (fun _ _ ok => canonical_writeQuarter ok) ok) ok

/-! ### DMA and MSI-X come and go -/

theorem canonical_writeBackTx {q} (ok : Canonical d.mem) : Canonical (d.writeBackTx q).mem := ok.setHost (wf_txWriteBack ok.host)

theorem canonical_resume (ok : Canonical d.mem) : Canonical d.resume.mem :=
  canonical_ite (canonical_clearCqWait (canonical_drainRecords (canonical_foldl (fun _ _ ok => canonical_writeBackTx ok) ok))) ok

/-! ### The link goes down -/

theorem canonical_linkLoss {code} (ok : Canonical d.mem) : Canonical (d.linkLoss code).mem :=
  canonical_ite (canonical_raise ok) ok

theorem canonical_hostReset {code stays training before} (ok : Canonical d.mem) : Canonical (d.hostReset code stays training before).mem :=
  canonical_raise ok

theorem canonical_perstAssert (ok : Canonical d.mem) : Canonical (perstAssert d).mem :=
  canonical_ite ok (canonical_hostReset ok)

theorem canonical_perstRelease (ok : Canonical d.mem) : Canonical (perstRelease d).mem :=
  canonical_ite ok ok

theorem canonical_resetAndTrain {code} (ok : Canonical d.mem) : Canonical (resetAndTrain code d).mem :=
  canonical_ite (canonical_hostReset ok) ok

theorem canonical_linkDisable {on} (ok : Canonical d.mem) : Canonical (linkDisable on d).mem :=
  canonical_ite (canonical_ite (canonical_hostReset ok) ok) (canonical_ite ok ok)

theorem canonical_ideFailure {stream} (ok : Canonical d.mem) : Canonical (ideFailure stream d).mem :=
  canonical_ite (canonical_hostReset ok) ok

theorem canonical_refClockLost (ok : Canonical d.mem) : Canonical (refClockLost d).mem :=
  canonical_linkLoss (canonical_raise ok)

/-! ### The link comes up -/

theorem canonical_linkUp {mode width} (ok : Canonical d.mem) : Canonical (linkUp mode width d).mem :=
  canonical_ite (canonical_foldl (fun _ _ ok => canonical_fetchRing ok) (canonical_resume (canonical_raise ok))) ok

theorem canonical_linkRetrain {width} (ok : Canonical d.mem) : Canonical (linkRetrain width d).mem :=
  canonical_ite (canonical_raise ok) ok

theorem canonical_replayStorm {count} (ok : Canonical d.mem) : Canonical (replayStorm count d).mem :=
  canonical_raise ok

/-! ### DOE, SPDM and IDE -/

theorem canonical_doeRequest {vendor type} (ok : Canonical d.mem) : Canonical (doeRequest vendor type d).mem :=
  canonical_ite ok ok

theorem canonical_mctpAnswer {r} (ok : Canonical d.mem) : Canonical (d.mctpAnswer r).mem := ok

theorem canonical_spdmRequest {mctp code session} (ok : Canonical d.mem) : Canonical (spdmRequest mctp code session d).mem :=
  canonical_ite (canonical_mctpAnswer ok) (canonical_ite ok (canonical_ite (canonical_mctpAnswer ok) ok))

theorem canonical_ideKm {session cxl action} (ok : Canonical d.mem) : Canonical (ideKm session cxl action d).mem :=
  canonical_ite ok (canonical_raise ok)

/-! ### The SMBus path -/

theorem canonical_pldmSensor {n} (ok : Canonical d.mem) : Canonical (pldmSensor n d).mem :=
  canonical_ite (canonical_mctpAnswer ok) (canonical_mctpAnswer ok)

/-! ### Host lane tests (09 R284) -/

theorem canonical_hostlaneTestEnd {results} (ok : Canonical d.mem) : Canonical (hostlaneTestEnd results d).mem := by
  unfold hostlaneTestEnd
  split
  · exact ok
  · exact canonical_ite (canonical_ite ok ok) ok

/-! ### Rods in a mode (05 R142; 17 R478) -/

theorem canonical_setRole {n role} (ok : Canonical d.mem) : Canonical (d.setRole n role).mem :=
  canonical_raise (canonical_setRod ok)

theorem canonical_setRodService {n new cause} (ok : Canonical d.mem) : Canonical (d.setRodService n new cause).mem :=
  canonical_ite ok (canonical_raise (canonical_noteUnit (canonical_setRod ok)))

theorem canonical_withRoles {m} (ok : Canonical d.mem) : Canonical (d.withRoles m).mem :=
  canonical_raise ok

theorem canonical_planMove {m} (ok : Canonical d.mem) : Canonical (d.planMove m).mem := ok

/-! ### Channels of a START_MASK (R456) -/

theorem canonical_startAll {m tag from_ cs} (ok : Canonical d.mem) : Canonical (d.startAll m tag from_ cs).mem := by
  unfold Device.startAll
  refine canonical_foldl (fun _ _ ok => ?_) ok
  split
  · split
    · exact ok
    · exact canonical_startChannel ok
  · exact ok

/-! ### Entering and leaving modes -/

theorem canonical_loseDram (ok : Canonical d.mem) : Canonical d.loseDram.mem := ok.setWindow rfl

theorem canonical_leaveKeep (ok : Canonical d.mem) : Canonical d.leaveKeep.mem :=
  canonical_loseDram ok

theorem canonical_coldStart (ok : Canonical d.mem) : Canonical d.coldStart.mem := ⟨rfl, rfl, ok.host⟩

theorem canonical_identImages (ok : Canonical d.mem) : Canonical d.identImages.mem := ok

theorem canonical_fullBoot (ok : Canonical d.mem) : Canonical d.fullBoot.mem := by
  unfold Device.fullBoot
  refine canonical_raise (canonical_identImages ?_)
  split <;> exact ⟨rfl, ok.cmdsram, ok.host⟩

theorem canonical_leaveMode {old new} (ok : Canonical d.mem) : Canonical (d.leaveMode old new).mem :=
  canonical_ite (canonical_leaveKeep ok) (canonical_ite ok (canonical_ite (canonical_fullBoot ok) ok))

theorem canonical_arrive {new} (ok : Canonical d.mem) : Canonical (d.arrive new).mem :=
  have closed := canonical_ite ok (canonical_closeSession ok)
  canonical_withRoles (canonical_ite (canonical_linkLoss (canonical_loseDram (canonical_mgmtStop closed)))
    (canonical_ite (canonical_linkLoss closed) (canonical_ite (canonical_loseDram closed) closed)))

theorem canonical_enterMode {new} (ok : Canonical d.mem) : Canonical (d.enterMode new).mem :=
  canonical_arrive (canonical_leaveMode ok)

theorem canonical_tellEnd {e} (ok : Canonical d.mem) : Canonical (d.tellEnd e).mem := by
  unfold Device.tellEnd
  extract_lets
  split
  · exact canonical_raise ok
  · exact canonical_decideCtx (canonical_raise ok)

theorem canonical_endTransition {e} (ok : Canonical d.mem) : Canonical (d.endTransition e).mem :=
  canonical_ite (canonical_tellEnd ok) ok

/-! ### Drains (R458) -/

theorem canonical_startDrain (ok : Canonical d.mem) : Canonical d.startDrain.mem :=
  canonical_raise (canonical_foldl (fun _ _ ok => canonical_stopChannel ok) ok)

/-! ### Transitions end -/

theorem canonical_drainDone (ok : Canonical d.mem) : Canonical (drainDone d).mem := by
  unfold drainDone
  split
  · exact ok
  · exact canonical_ite (canonical_ite (canonical_endTransition (canonical_enterMode ok)) ok) ok

theorem canonical_beginRest (ok : Canonical d.mem) : Canonical d.beginRest.mem := by
  unfold Device.beginRest
  split
  · exact ok
  · exact canonical_ite ok ok

theorem canonical_modeTransitionDone (ok : Canonical d.mem) : Canonical (modeTransitionDone d).mem := by
  unfold modeTransitionDone
  split
  · exact ok
  · exact canonical_ite ok (canonical_ite (canonical_ite ok (canonical_startDrain ok)) (canonical_beginRest (canonical_endTransition (canonical_ite
      (canonical_enterMode ok) (canonical_startAll (canonical_enterMode ok))))))

/-! ### MODE_SET (R454 to R458) -/

theorem keepsForm_modeSet : KeepsForm modeSet := fun _ _ ok => by
  unfold modeSet
  dsimp -zeta only
  extract_lets
  split
  · exact ok
  · split
    · exact canonical_ite (canonical_startDrain ok) ok
    · split
      · exact canonical_foldl (fun _ _ ok => canonical_planMove ok) (canonical_withRoles ok)
      · exact ok

/-! ### Scheduled starts (R461, R462) -/

theorem keepsForm_scheduledStartSet : KeepsForm scheduledStartSet := fun _ _ ok => by
  unfold scheduledStartSet
  dsimp -zeta only
  split
  · exact canonical_beginRest ok
  · exact ok

theorem canonical_scheduledWake (ok : Canonical d.mem) : Canonical (scheduledWake d).mem := by
  unfold scheduledWake
  split
  · exact ok
  · refine canonical_ite ok ?_
    extract_lets s _ d1
    have told : Canonical d1.mem := canonical_raise ok
    split <;> exact told

theorem canonical_scheduledStartTime (ok : Canonical d.mem) : Canonical (scheduledStartTime d).mem := by
  unfold scheduledStartTime
  split
  · exact ok
  · exact canonical_ite ok (canonical_raise (canonical_ite (canonical_startAll ok) ok))

/-! ### Quiet windows and island sleep (R463, R464) -/

theorem canonical_islandIdle {i next} (ok : Canonical d.mem) : Canonical (islandIdle i next d).mem := ok

theorem canonical_islandWake {i} (ok : Canonical d.mem) : Canonical (islandWake i d).mem := ok

theorem canonical_quietWindowEdge (ok : Canonical d.mem) : Canonical (quietWindowEdge d).mem := by
  unfold quietWindowEdge
  split
  · exact ok
  · exact canonical_ite ok ok

/-! ### Floor-only operation (R468) -/

theorem canonical_enterFloorOnly (ok : Canonical d.mem) : Canonical d.enterFloorOnly.mem :=
  canonical_ite ok ok

theorem canonical_leaveFloorOnly (ok : Canonical d.mem) : Canonical d.leaveFloorOnly.mem :=
  canonical_ite ok ok

/-! ### Units (R475, Table 17.4) -/

theorem canonical_setUnit {u new cause} (ok : Canonical d.mem) : Canonical (d.setUnit u new cause).mem :=
  canonical_ite (canonical_setRodService ok) (canonical_ite (canonical_setGroupFor ok) (canonical_ite (canonical_setRod (canonical_noteUnit ok))
      (canonical_noteUnit ok)))

/-! ### Drains (R476) -/

theorem canonical_decideMaybe {c status detail} (ok : Canonical d.mem) : Canonical (d.decideMaybe c status detail).mem := by
  unfold Device.decideMaybe
  split
  · exact ok
  · exact canonical_decideCtx ok

theorem canonical_endDrain {x} (ok : Canonical d.mem) : Canonical (d.endDrain x).mem :=
  canonical_decideMaybe (canonical_ite (canonical_setUnit (canonical_setUnit ok)) (canonical_setUnit ok))

theorem canonical_settleDrains (ok : Canonical d.mem) : Canonical d.settleDrains.mem :=
  canonical_foldl (fun _ _ ok => canonical_endDrain ok) ok

theorem canonical_noteLeft {c f} (ok : Canonical d.mem) : Canonical (d.noteLeft c f).mem := ok

theorem canonical_planSwap {n s} (ok : Canonical d.mem) : Canonical (d.planSwap n s).mem :=
  canonical_foldl (fun _ _ ok => canonical_planMove ok) (canonical_setRole ok)

theorem canonical_leaveRod {n} (ok : Canonical d.mem) : Canonical (d.leaveRod n).mem := by
  unfold Device.leaveRod
  split
  · exact canonical_planSwap ok
  · exact canonical_foldl (fun _ _ ok => canonical_planMove ok) ok

theorem canonical_rodFault {n} (ok : Canonical d.mem) : Canonical (d.rodFault n).mem :=
  canonical_updateHit (canonical_foldl (fun _ _ ok => canonical_floorRow ok) (canonical_foldl (fun _ _ ok => canonical_faultPath ok)
      (canonical_setRod (canonical_setRodService ok))))

theorem canonical_laneOut {l} (ok : Canonical d.mem) : Canonical (d.laneOut l).mem :=
  canonical_ite (canonical_portTo ok) ok

theorem canonical_takeOut {u} (ok : Canonical d.mem) : Canonical (d.takeOut u).mem :=
  canonical_ite (canonical_ite (canonical_rodFault ok) (canonical_ite (canonical_ite (canonical_peFault ok) (canonical_engineFault ok))
      (canonical_ite (canonical_laneOut (canonical_setUnit ok)) (canonical_setUnit ok)))) (canonical_ite (canonical_laneOut (canonical_setUnit ok))
      (canonical_endDrain ok))

theorem canonical_drainUnit {u c} (ok : Canonical d.mem) : Canonical (drainUnit u c d).dev.mem := by
  unfold drainUnit
  extract_lets
  split
  · split
    · exact canonical_endDrain (canonical_ite (canonical_foldl (fun _ _ ok => canonical_setChan ok) (canonical_setUnit ok)) (canonical_leaveRod
        (canonical_ite (canonical_setUnit ok) (canonical_setUnit (canonical_setUnit ok)))))
    · exact canonical_ite (canonical_foldl (fun _ _ ok => canonical_setChan ok) (canonical_setUnit ok)) (canonical_leaveRod (canonical_ite
        (canonical_setUnit ok) (canonical_setUnit (canonical_setUnit ok))))
  · split
    · exact canonical_laneOut (canonical_setUnit (canonical_setUnit (canonical_ptpAside ok)))
    · exact canonical_setUnit (canonical_setUnit ok)

theorem keepsForm_unitServiceSet : KeepsForm unitServiceSet := fun _ _ ok => by
  unfold unitServiceSet
  dsimp -zeta only
  extract_lets
  split
  · exact canonical_beginWork (canonical_setUnit ok)
  · split
    · exact canonical_drainUnit ok
    · exact canonical_foldl (fun _ _ ok => canonical_decideMaybe ok) (canonical_takeOut ok)

/-! ### Rod updates (R480, R484) -/

theorem canonical_setUpdate {u} (ok : Canonical d.mem) : Canonical (d.setUpdate u).mem := ok

theorem canonical_endUpdate {u status detail} (ok : Canonical d.mem) : Canonical (d.endUpdate u status detail).mem :=
  canonical_decideCtx (canonical_setUpdate ok)

theorem canonical_updateNext (ok : Canonical d.mem) : Canonical d.updateNext.mem := by
  unfold Device.updateNext
  split
  · exact ok
  · refine canonical_ite ok ?_
    extract_lets
    split
    · split
      · exact canonical_planSwap ok
      · exact ok
      · exact ok
    · split
      · exact ok
      · exact canonical_endUpdate ok

theorem canonical_loadImage {n} (ok : Canonical d.mem) : Canonical (d.loadImage n).mem := ok

theorem canonical_rodUpdateStepDone {n} (ok : Canonical d.mem) : Canonical (rodUpdateStepDone n d).mem := by
  unfold rodUpdateStepDone
  split
  · exact ok
  · exact canonical_ite (canonical_updateNext (canonical_raise (canonical_setUpdate (canonical_loadImage ok)))) (canonical_ite (canonical_updateNext
      (canonical_setRole (canonical_raise (canonical_setUpdate (canonical_loadImage ok))))) (canonical_updateNext ok))

theorem canonical_rodUpdateSpareTimeout (ok : Canonical d.mem) : Canonical (rodUpdateSpareTimeout d).mem := by
  unfold rodUpdateSpareTimeout
  split
  · exact ok
  · split
    · exact ok
    · exact canonical_ite (canonical_endUpdate ok) ok

theorem canonical_rodReturns {n} (ok : Canonical d.mem) : Canonical (d.rodReturns n).mem := by
  unfold Device.rodReturns
  extract_lets back d1 _ d2
  have passed : Canonical d1.mem := canonical_foldl (fun _ _ ok => canonical_setUnit ok) ok
  have returned : Canonical d2.mem := canonical_setRodService (canonical_setRod passed)
  exact canonical_replan (canonical_setRole (canonical_loadImage returned))

theorem canonical_unitReturnDone {u} (ok : Canonical d.mem) : Canonical (unitReturnDone u d).mem := by
  unfold unitReturnDone
  split
  · exact ok
  · refine canonical_updateNext ?_
    split
    · exact canonical_ite (canonical_rodReturns ok) (canonical_setUnit ok)
    · exact canonical_decideCtx (canonical_ite (canonical_rodReturns ok) (canonical_setUnit ok))

/-! ### Firmware images (R479 to R483) -/

theorem canonical_setImage {n k} (ok : Canonical d.mem) : Canonical (d.setImage n k).mem := ok

theorem canonical_setOwner {chain} (ok : Canonical d.mem) : Canonical (d.setOwner chain).mem :=
  canonical_raise (canonical_ite ok ok)

theorem canonical_fwImageStageDone {good} (ok : Canonical d.mem) : Canonical (fwImageStageDone good d).mem := by
  unfold fwImageStageDone
  split
  · exact ok
  · extract_lets
    split
    · exact canonical_decideCtx (canonical_raise ok)
    · exact canonical_decideCtx (canonical_ite (canonical_setOwner ok) (canonical_raise (canonical_setImage ok)))

theorem keepsForm_fwActivate : KeepsForm fwActivate := fun _ _ ok => by
  unfold fwActivate
  dsimp -zeta only
  extract_lets
  split
  · exact canonical_beginWork (canonical_raise ok)
  · split
    · exact canonical_updateNext (canonical_setUpdate (canonical_setImage (canonical_raise ok)))
    · exact canonical_setImage (canonical_raise ok)

/-! ### Self-test (R485 to R488) -/

theorem canonical_abortTest (ok : Canonical d.mem) : Canonical d.abortTest.mem := by
  unfold Device.abortTest
  split
  · exact ok
  · exact canonical_ite (canonical_setUnit ok) ok

theorem canonical_notePasses {level target fails} (ok : Canonical d.mem) : Canonical (d.notePasses level target fails).mem := ok

theorem canonical_selftestDone {units fails} (ok : Canonical d.mem) : Canonical (selftestDone units fails d).mem := by
  unfold selftestDone
  split
  · exact canonical_decideCtx (canonical_raise (canonical_ite (canonical_setUnit (canonical_notePasses ok)) (canonical_notePasses ok)))
  · exact ok

theorem keepsForm_selftestResultGet : KeepsForm selftestResultGet := fun _ _ ok => by
  unfold selftestResultGet
  dsimp -zeta only
  split
  · exact ok
  · exact canonical_writeRecord ok

/-! ### Status and diagnosis -/

theorem canonical_diagExportDone {data} (ok : Canonical d.mem) : Canonical (diagExportDone data d).mem := by
  unfold diagExportDone
  split
  · exact ok
  · exact canonical_decideCtx (canonical_raise (canonical_writeAt ok))

/-! ### Every command of Ranrok 1.0 (11 Table 11.14) -/

theorem keepsForm_interfaceSpecs : ∀ sp ∈ interfaceSpecs, KeepsForm sp := by
  simp only [interfaceSpecs, List.forall_mem_cons]
  exact ⟨fun _ _ ok => canonical_writeRecord ok,
    fun _ _ ok => ok,
    List.forall_mem_nil _⟩

theorem keepsForm_modeSpecs : ∀ sp ∈ modeSpecs, KeepsForm sp := by
  simp only [modeSpecs, List.forall_mem_cons]
  exact ⟨keepsForm_modeSet,
    keepsForm_scheduledStartSet,
    fun _ _ ok => ok,
    fun _ _ ok => canonical_writeRecord ok,
    fun _ _ ok => ok,
    List.forall_mem_nil _⟩

theorem keepsForm_channelSpecs : ∀ sp ∈ channelSpecs, KeepsForm sp := by
  simp only [channelSpecs, List.forall_mem_cons]
  exact ⟨fun _ _ ok => canonical_setChannelRec ok,
    keepsForm_channelStart,
    fun _ _ ok => canonical_stopChannel ok,
    fun _ _ ok => canonical_foldl (fun _ _ ok => canonical_dropRend ok) ok,
    fun _ _ ok => canonical_asRun (canonical_setRendition ok),
    keepsForm_renditionClear,
    keepsForm_slotmaskSet,
    keepsForm_channelMove,
    keepsForm_renditionIdr,
    fun _ _ ok => canonical_writeRecord ok,
    fun _ _ ok => canonical_writeRecord ok,
    List.forall_mem_nil _⟩

theorem keepsForm_ingestSpecs : ∀ sp ∈ ingestSpecs, KeepsForm sp := by
  simp only [ingestSpecs, List.forall_mem_cons]
  exact ⟨fun _ _ ok => canonical_setFlowRec ok,
    fun _ _ ok => canonical_clearFlow ok,
    fun _ _ ok => canonical_setBind ok,
    fun _ _ ok => canonical_setBnd ok,
    fun _ _ ok => ok,
    fun _ _ ok => canonical_writeRecord ok,
    List.forall_mem_nil _⟩

theorem keepsForm_compositorSpecs : ∀ sp ∈ compositorSpecs, KeepsForm sp := by
  simp only [compositorSpecs, List.forall_mem_cons]
  exact ⟨fun _ _ ok => canonical_setLayers ok,
    fun _ _ ok => canonical_setLayers ok,
    fun _ _ ok => ok,
    fun _ _ ok => canonical_setConf ok,
    fun _ _ ok => canonical_addJob ok,
    fun _ _ ok => canonical_addJob ok,
    fun _ _ ok => canonical_addJob ok,
    fun _ _ ok => canonical_addJob ok,
    fun _ _ ok => canonical_addJob ok,
    List.forall_mem_nil _⟩

theorem keepsForm_outputSpecs : ∀ sp ∈ outputSpecs, KeepsForm sp := by
  simp only [outputSpecs, List.forall_mem_cons]
  exact ⟨fun _ _ ok => canonical_setService ok,
    keepsForm_serviceClear,
    fun _ _ ok => canonical_setSub ok,
    keepsForm_subscriberClear,
    keepsForm_subscriberKeySet,
    fun _ _ ok => ok,
    fun _ _ ok => canonical_writeRecord ok,
    fun _ _ ok => canonical_writeRecord ok,
    List.forall_mem_nil _⟩

theorem keepsForm_schedulerSpecs : ∀ sp ∈ schedulerSpecs, KeepsForm sp := by
  simp only [schedulerSpecs, List.forall_mem_cons]
  exact ⟨fun _ _ ok => canonical_setSched ok,
    fun _ _ ok => ok,
    fun _ _ ok => ok,
    keepsForm_gateListSet,
    fun _ _ ok => canonical_raise (canonical_setSched ok),
    fun _ _ ok => canonical_setSched ok,
    fun _ _ ok => canonical_setTx (canonical_ite (canonical_disableTx ok) ok),
    fun _ _ ok => canonical_setRx ok,
    fun _ _ ok => ok,
    fun _ _ ok => canonical_writeRecord ok,
    List.forall_mem_nil _⟩

theorem keepsForm_timeSpecs : ∀ sp ∈ timeSpecs, KeepsForm sp := by
  simp only [timeSpecs, List.forall_mem_cons]
  exact ⟨fun _ _ ok => canonical_setTime ok,
    keepsForm_timeDomainSet,
    keepsForm_timeSourceSelect,
    fun _ _ ok => canonical_setTime ok,
    keepsForm_timeStep,
    fun _ _ ok => canonical_setTime ok,
    keepsForm_timeCaptureNow,
    keepsForm_timeTriggerSet,
    fun _ _ ok => canonical_setTime ok,
    keepsForm_timeRefioSet,
    List.forall_mem_nil _⟩

theorem keepsForm_laneSpecs : ∀ sp ∈ laneSpecs, KeepsForm sp := by
  simp only [laneSpecs, List.forall_mem_cons]
  exact ⟨keepsForm_cageSet,
    fun _ _ ok => canonical_ite (canonical_portTo (canonical_ite (canonical_setTime (canonical_setPort ok)) (canonical_setPort ok))) (canonical_ite
        (canonical_setTime (canonical_setPort ok)) (canonical_setPort ok)),
    fun _ _ ok => ok,
    keepsForm_laneTestSet,
    keepsForm_laneRecal,
    fun _ _ ok => canonical_linkLoss (canonical_decideCtx ok),
    fun _ _ ok => canonical_writeRecord (canonical_measurePort ok),
    fun _ _ ok => canonical_writeRecord (canonical_measureLane ok),
    List.forall_mem_nil _⟩

theorem keepsForm_memorySpecs : ∀ sp ∈ memorySpecs, KeepsForm sp := by
  simp only [memorySpecs, List.forall_mem_cons]
  exact ⟨keepsForm_memGroupRetire,
    fun _ _ ok => canonical_beginWork (canonical_foldl (fun _ _ ok => canonical_setDram ok) (canonical_setGroup ok)),
    fun _ _ ok => canonical_beginWork (canonical_setGroup ok),
    fun _ _ ok => canonical_beginWork (canonical_setGroup ok),
    keepsForm_memGrainSet,
    fun _ _ ok => canonical_writeRecord (canonical_measureChan ok),
    fun _ _ ok => canonical_writeRecord (canonical_measureGroup ok),
    List.forall_mem_nil _⟩

theorem keepsForm_journalSpecs : ∀ sp ∈ journalSpecs, KeepsForm sp := by
  simp only [journalSpecs, List.forall_mem_cons]
  exact ⟨fun _ _ ok => canonical_beginWork (canonical_beginTest ok),
    keepsForm_journalSessionClose,
    fun _ _ ok => ok,
    keepsForm_journalMarkPin,
    keepsForm_journalMarkRelease,
    fun _ _ ok => ok,
    keepsForm_journalReplayStop,
    fun _ _ ok => canonical_beginWork ok,
    fun _ _ ok => canonical_ite ok ok,
    fun _ _ ok => canonical_writeRecord ok,
    keepsForm_checkContextSet,
    keepsForm_checkContextGet,
    List.forall_mem_nil _⟩

theorem keepsForm_audioSpecs : ∀ sp ∈ audioSpecs, KeepsForm sp := by
  simp only [audioSpecs, List.forall_mem_cons]
  exact ⟨keepsForm_audioPortSet,
    keepsForm_audioSourceSet,
    keepsForm_audioEncoderSet,
    keepsForm_audioStatusGet,
    List.forall_mem_nil _⟩

theorem keepsForm_eventSpecs : ∀ sp ∈ eventSpecs, KeepsForm sp := by
  simp only [eventSpecs, List.forall_mem_cons]
  exact ⟨fun _ _ ok => ok,
    keepsForm_eventLogSet,
    fun _ _ ok => canonical_wqFlushed ok,
    keepsForm_wqueueFlush,
    List.forall_mem_nil _⟩

theorem keepsForm_serviceSpecs : ∀ sp ∈ serviceSpecs, KeepsForm sp := by
  simp only [serviceSpecs, List.forall_mem_cons]
  exact ⟨keepsForm_unitServiceSet,
    fun _ _ ok => canonical_beginWork ok,
    keepsForm_fwActivate,
    fun _ _ ok => canonical_beginWork (canonical_ite (canonical_setUnit ok) ok),
    keepsForm_selftestResultGet,
    fun _ _ ok => canonical_writeRecord ok,
    fun _ _ ok => canonical_beginWork ok,
    List.forall_mem_nil _⟩

theorem keepsForm_of_mem_specs : ∀ sp ∈ specs, KeepsForm sp := by
  simp only [specs, List.forall_mem_append]
  and_intros
  · exact keepsForm_interfaceSpecs
  · exact keepsForm_modeSpecs
  · exact keepsForm_channelSpecs
  · exact keepsForm_ingestSpecs
  · exact keepsForm_compositorSpecs
  · exact keepsForm_outputSpecs
  · exact keepsForm_schedulerSpecs
  · exact keepsForm_timeSpecs
  · exact keepsForm_laneSpecs
  · exact keepsForm_memorySpecs
  · exact keepsForm_journalSpecs
  · exact keepsForm_audioSpecs
  · exact keepsForm_eventSpecs
  · exact keepsForm_serviceSpecs

theorem keepsForm_of_specOf {op : Nat} {sp : CmdSpec} (found : specOf op = some sp) : KeepsForm sp :=
  keepsForm_of_mem_specs sp (List.mem_of_find?_eq_some found)

/-! ### CmdTable -/

theorem canonical_runTaken {sp r c} (keeps : KeepsForm sp) (ok : Canonical d.mem) : Canonical (runTaken sp r c d).mem :=
  canonical_ite (canonical_run keeps ok) (canonical_decideCtx ok)

theorem canonical_runRow {sp r entry} (keeps : KeepsForm sp) (ok : Canonical d.mem) : Canonical (runRow sp r entry d).mem :=
  canonical_runTaken keeps ok

/-! ### Automatic handover (R199, R200) -/

theorem canonical_handGiven {c f} (ok : Canonical d.mem) : Canonical (d.handGiven c f).mem :=
  canonical_foldl (fun _ _ ok => canonical_setRod ok) ok

theorem canonical_spareFor {n} (ok : Canonical d.mem) : Canonical (d.spareFor n).2.mem := by
  unfold Device.spareFor
  split
  · exact ok
  · exact canonical_setRole ok
  · exact ok

theorem canonical_handOver {c f n} (ok : Canonical d.mem) : Canonical (d.handOver c f n).mem :=
  canonical_setRodService (canonical_moveEnds (canonical_spareFor ok))

/-! ### Moves and masks that firmware has arranged -/

theorem canonical_landMove {c f} (ok : Canonical d.mem) : Canonical (d.landMove c f).mem := by
  unfold Device.landMove
  extract_lets
  split
  · exact ok
  · exact canonical_setChan (canonical_noteLeft (canonical_moveTo ok))

theorem canonical_displaced {c} (ok : Canonical d.mem) : Canonical (d.displaced c).mem :=
  canonical_ite ok ok

theorem canonical_landMasks {c f} (ok : Canonical d.mem) : Canonical (d.landMasks c f).mem :=
  canonical_ite ok (canonical_noteLeft (canonical_raise (canonical_setChan ok)))

/-! ### Landing -/

theorem canonical_landStaged {f s} (ok : Canonical d.mem) : Canonical (d.landStaged f s).mem := by
  unfold Device.landStaged
  extract_lets
  split
  · exact ok
  · next found =>
    have kept := keepsForm_of_specOf found s.ctx d ok
    extract_lets
    split
    · exact kept
    · exact canonical_ite (canonical_decideCtx kept) (canonical_decideCtx kept)

theorem canonical_landDue {c f handed} (ok : Canonical d.mem) : Canonical (d.landDue c f handed).mem :=
  canonical_foldl (fun _ _ ok => canonical_landStaged ok) ok

/-! ### Commit points -/

theorem canonical_passCommit {c f} (ok : Canonical d.mem) : Canonical (d.passCommit c f).mem := ok

theorem canonical_landFrame {c f} (ok : Canonical d.mem) : Canonical (d.landFrame c f).mem :=
  have handed := canonical_foldl (fun _ _ ok => canonical_handOver ok) (canonical_handGiven ok)
  canonical_landPlanes (canonical_landDue (canonical_ite (canonical_landMasks (canonical_landMove handed)) (canonical_displaced handed)))

theorem canonical_commitPoint {c} (ok : Canonical d.mem) : Canonical (commitPoint c d).mem := by
  unfold commitPoint
  refine canonical_ite (canonical_ite (canonical_sealCommit (canonical_raise (canonical_stopChannel ok))) ?_) ok
  split
  · refine canonical_sealCommit (canonical_landStaged ?_)
    exact canonical_foldl (fun _ _ ok => canonical_landStaged ok) ok
  · exact canonical_hostDeadline (canonical_passCommit (canonical_sealCommit (canonical_landFrame ok)))

/-! ### The end of a channel (R159) -/

theorem canonical_toDefined {c} (ok : Canonical d.mem) : Canonical (d.toDefined c).mem :=
  canonical_placeBare (canonical_foldl (fun _ _ ok => canonical_dropRend ok) ok)

theorem canonical_landLeft {s} (ok : Canonical d.mem) : Canonical (landLeft d s).mem := by
  unfold landLeft
  extract_lets
  split
  · exact ok
  · next found =>
    split
    · exact canonical_decideCtx ok
    · exact canonical_settle (keepsForm_of_specOf found _ _ ok)

theorem canonical_finishChannel {c} (ok : Canonical d.mem) : Canonical (d.finishChannel c).mem :=
  canonical_ite (canonical_foldl (fun _ _ ok => canonical_landLeft ok) (canonical_sealCommit (canonical_toDefined ok))) (canonical_dropEnded ok)

theorem canonical_finishStops (ok : Canonical d.mem) : Canonical d.finishStops.mem :=
  canonical_settleDrains (canonical_foldl (fun _ _ ok => canonical_finishChannel ok) ok)

/-! ### Ticks, deadlines and launches -/

theorem canonical_frameTick {c} (ok : Canonical d.mem) : Canonical (frameTick c d).mem :=
  canonical_ite (canonical_tickRods (canonical_sealTick ok)) ok

/-! ### Row marks (02 R63) -/

theorem canonical_rowMark {n plan} (ok : Canonical d.mem) : Canonical (rowMark n plan d).mem := by
  unfold rowMark
  split
  · exact ok
  · split
    · exact ok
    · exact canonical_ite (canonical_beginRow ok) ok

theorem canonical_feedRow {n f k} (ok : Canonical d.mem) : Canonical (d.feedRow n f k).mem := by
  unfold Device.feedRow
  split
  · exact ok
  · split
    · exact ok
    · exact canonical_feed ok

theorem canonical_rowDeadline {n f k} (ok : Canonical d.mem) : Canonical (rowDeadline n f k d).mem :=
  canonical_ite (canonical_feedRow (canonical_enterRow ok)) ok

/-! ### Taking an entry -/

theorem canonical_stallRing {r} (ok : Canonical d.mem) : Canonical (d.stallRing r).mem :=
  canonical_ite (canonical_ite ok (canonical_raise ok)) (canonical_setRing ok)

theorem canonical_runEntry {r e ctx} (ok : Canonical d.mem) : Canonical (runEntry r e ctx d).mem := by
  unfold runEntry
  split
  · exact canonical_decideCtx ok
  · next found => exact canonical_runTaken (keepsForm_of_specOf found) ok

theorem canonical_takeHead {r estimate hint} (ok : Canonical d.mem) : Canonical (takeHead r estimate hint d).mem :=
  canonical_ite (canonical_decideCtx (canonical_takeEntry (canonical_setRing ok))) (canonical_ite (canonical_decideCtx (canonical_useFree
      (canonical_takeEntry (canonical_setRing ok)))) (canonical_runEntry (canonical_takeEntry (canonical_setRing ok))))

theorem canonical_cmdEntryTake {estimates hint} (ok : Canonical d.mem) : Canonical (cmdEntryTake estimates hint d).mem := by
  unfold cmdEntryTake
  refine canonical_ite ?_ ok
  extract_lets d1
  have stalled : Canonical d1.mem := canonical_foldl (fun _ _ ok => canonical_stallRing ok) ok
  split
  · exact stalled
  · exact canonical_takeHead stalled

/-! ### Waiting for a unit -/

theorem canonical_runWaiting {sp w} (keeps : KeepsForm sp) (ok : Canonical d.mem) : Canonical (runWaiting sp w d).mem := by
  unfold runWaiting
  extract_lets
  split
  · exact canonical_decideCtx ok
  · exact canonical_settle (keeps _ _ ok)

theorem canonical_unitReleased (ok : Canonical d.mem) : Canonical (unitReleased d).mem := by
  unfold unitReleased
  split
  · exact ok
  · extract_lets
    split
    · exact ok
    · next found => exact canonical_runWaiting (keepsForm_of_specOf found) ok

/-! ### MCTP -/

theorem canonical_runMctp {e} (ok : Canonical d.mem) : Canonical (runMctp e d).mem := by
  unfold runMctp
  extract_lets
  refine canonical_ite ?_ (canonical_decideCtx ok)
  split
  · exact canonical_decideCtx ok
  · next found => exact canonical_run (keepsForm_of_specOf found) ok

theorem canonical_mctpVendor {entry} (ok : Canonical d.mem) : Canonical (mctpVendor entry d).mem :=
  canonical_ite ok (canonical_ite (canonical_ite (canonical_runMctp ok) (canonical_mctpAnswer ok)) (canonical_ite (canonical_runMctp ok) ok))

/-! ### HOLD -/

theorem canonical_haltChannel {c} (ok : Canonical d.mem) : Canonical (d.haltChannel c).mem :=
  canonical_foldl (fun _ _ ok => canonical_landLeft ok) (canonical_sealCommit (canonical_toDefined (canonical_ite (canonical_asRun ok) ok)))

theorem canonical_dropTest (ok : Canonical d.mem) : Canonical d.dropTest.mem := by
  unfold Device.dropTest
  extract_lets
  split
  · exact canonical_abortTest ok
  · exact canonical_decideCtx (canonical_abortTest ok)

theorem canonical_enterHold {cause} (ok : Canonical d.mem) : Canonical (d.enterHold cause).mem := by
  unfold Device.enterHold
  split
  · refine canonical_endTransition ?_
    refine canonical_arrive ?_
    refine canonical_settleDrains ?_
    refine canonical_dropTest ?_
    split
    · exact canonical_foldl (fun _ _ ok => canonical_endReplay ok) (canonical_foldl (fun _ _ ok => canonical_haltChannel ok) (canonical_raise ok))
    · exact canonical_endUpdate (canonical_foldl (fun _ _ ok => canonical_endReplay ok) (canonical_foldl (fun _ _ ok => canonical_haltChannel ok)
        (canonical_raise ok)))
  · exact ok

/-! ### Restarts of management firmware (11 R344 to R346) -/

theorem canonical_switchImage {k} (ok : Canonical d.mem) : Canonical (d.switchImage k).mem := ok

theorem canonical_setActivating {a} (ok : Canonical d.mem) : Canonical (d.setActivating a).mem := ok

theorem canonical_mgmtDown {cause} (ok : Canonical d.mem) : Canonical (d.mgmtDown cause).mem :=
  canonical_raise (canonical_mgmtStop ok)

theorem canonical_commandedRestart {a hint} (ok : Canonical d.mem) : Canonical (d.commandedRestart a hint).mem :=
  canonical_mgmtDown (canonical_setActivating (canonical_switchImage (canonical_foldl (fun _ _ ok => canonical_decideCtx ok) ok)))

theorem canonical_mgmtRestart {cause hint} (ok : Canonical d.mem) : Canonical (mgmtRestart cause hint d).mem := by
  unfold mgmtRestart
  split
  · exact ok
  · split
    · split
      · exact ok
      · exact canonical_ite (canonical_commandedRestart ok) ok
    · exact canonical_mgmtDown ok

theorem canonical_drainUnits {α : Type} {unit : α → Nat} {l : List α} (ok : Canonical d.mem) :
    Canonical (l.foldl (fun (d : Device) w => d.setUnit (unit w) 2 0) d).mem :=
  canonical_foldl (fun _ _ ok => canonical_setUnit ok) ok

theorem canonical_interrupted (ok : Canonical d.mem) : Canonical d.interrupted.mem := by
  unfold Device.interrupted
  refine canonical_foldl (fun _ _ ok => canonical_decideCtx ok) ?_
  generalize List.filter _ _ = cut
  refine canonical_drainUnits (unit := fun w : Work => w.unit - 0x1000) ?_
  exact canonical_foldl (fun _ _ ok => canonical_ite (canonical_setGroupFor ok) ok) (canonical_abortTest ok)

theorem canonical_endActivation {k} (ok : Canonical d.mem) : Canonical (d.endActivation k).mem := by
  unfold Device.endActivation
  split
  · exact ok
  · split
    · exact ok
    · exact canonical_ite ok (canonical_decideCtx (canonical_ite ok (canonical_ite (canonical_setImage ok) ok)))

theorem canonical_mgmtRestartEnd (ok : Canonical d.mem) : Canonical (mgmtRestartEnd d).mem :=
  canonical_ite ok (canonical_updateNext (canonical_foldl (fun _ _ ok => canonical_tellEnd ok) (canonical_identImages (canonical_endActivation
      (canonical_ite (canonical_raise ok) (canonical_interrupted (canonical_raise ok)))))))

/-! ### Restarts of the security core (17 R482) -/

theorem canonical_busyJobs (ok : Canonical d.mem) : Canonical d.busyJobs.mem :=
  canonical_foldl (fun _ _ ok => canonical_decideCtx ok) ok

theorem canonical_secDown (ok : Canonical d.mem) : Canonical d.secDown.mem :=
  canonical_busyJobs (canonical_raise ok)

theorem canonical_secFailed (ok : Canonical d.mem) : Canonical d.secFailed.mem :=
  canonical_ite (canonical_enterHold (canonical_secDown ok)) (canonical_secDown ok)

theorem canonical_secRestart (ok : Canonical d.mem) : Canonical d.secRestart.mem :=
  canonical_ite (canonical_secDown ok) (canonical_secFailed ok)

theorem canonical_secRestartBegin {commanded} (ok : Canonical d.mem) : Canonical (secRestartBegin commanded d).mem := by
  unfold secRestartBegin
  split
  · exact ok
  · split
    · split
      · exact ok
      · exact canonical_ite (canonical_secDown (canonical_setActivating (canonical_switchImage ok))) ok
    · exact canonical_secRestart ok

theorem canonical_secRestartEnd (ok : Canonical d.mem) : Canonical (secRestartEnd d).mem :=
  canonical_ite ok (canonical_identImages (canonical_endActivation (canonical_ite (canonical_raise (canonical_raise ok)) (canonical_raise ok))))

/-! ### Falling back (17 R481, R482) -/

theorem canonical_fallBack {a} (ok : Canonical d.mem) : Canonical (d.fallBack a).mem :=
  canonical_raise (canonical_setActivating (canonical_setImage ok))

theorem canonical_fwFallback (ok : Canonical d.mem) : Canonical (fwFallback d).mem := by
  unfold fwFallback
  split
  · exact ok
  · exact canonical_ite (canonical_ite (canonical_fallBack ok) ok) (canonical_ite (canonical_fallBack ok) ok)

/-! ### The die bridge (01 R22, R23) -/

theorem canonical_dieBridge {replays} (ok : Canonical d.mem) : Canonical (dieBridge replays d).mem :=
  canonical_ite (canonical_raise ok) (canonical_enterHold (canonical_raise (canonical_raise ok)))

/-! ### SRAM (01 R26; 17 R473) -/

theorem canonical_countCorrected {u} (ok : Canonical d.mem) : Canonical (d.countCorrected u).mem := ok

theorem canonical_sramCorrected {unit coding} (ok : Canonical d.mem) : Canonical (sramCorrected unit coding d).mem :=
  canonical_ite (canonical_setRod ok) (canonical_ite (canonical_countCorrected (canonical_setRod ok)) (canonical_raise (canonical_countCorrected ok)))

theorem canonical_spoilLine {c} (ok : Canonical d.mem) : Canonical (d.spoilLine c).mem :=
  canonical_ite (canonical_setBnd ok) ok

theorem canonical_discardPacket {service seq} (ok : Canonical d.mem) : Canonical (d.discardPacket service seq).mem := by
  unfold Device.discardPacket
  extract_lets
  split
  · exact ok
  · exact canonical_raise ok

theorem canonical_loseDirectory {c} (ok : Canonical d.mem) : Canonical (d.loseDirectory c).mem :=
  canonical_losePlanes ok

theorem canonical_spoilTally {k} (ok : Canonical d.mem) : Canonical (d.spoilTally k).mem :=
  canonical_raise ok

theorem canonical_storeError {store place item} (ok : Canonical d.mem) : Canonical (d.storeError store place item).mem :=
  canonical_ite (canonical_spoilLine ok) (canonical_ite (canonical_loseDirectory ok) (canonical_ite (canonical_ite (canonical_setUnit ok) ok)
      (canonical_ite (canonical_discardPacket ok) (canonical_ite (canonical_mgmtRestart ok) (canonical_ite (canonical_secRestart ok) (canonical_ite
      (canonical_spoilTally ok) (canonical_ite (canonical_wqMismatch ok) (canonical_enterHold ok))))))))

theorem canonical_causeUnits {k us} (ok : Canonical d.mem) : Canonical (d.causeUnits k us).mem := ok

theorem canonical_sramUncorrected {store place item hit} (ok : Canonical d.mem) : Canonical (sramUncorrected store place item hit d).mem := by
  unfold sramUncorrected
  extract_lets _ d0 e
  have engine : Canonical (if e < 7 then peFault place e hit.rows d0 else d0.engineFault place e).mem :=
    canonical_ite (canonical_peFault ok) (canonical_engineFault ok)
  exact canonical_ite (canonical_storeError (canonical_raise ok)) (canonical_ite (canonical_ite ok (canonical_causeUnits engine)) ⟨ok.hdm,
      ok.cmdsram, ok.host⟩)

/-! ### Clocks and supplies (16 R465; 17 R492) -/

theorem canonical_wholeRod {n} (ok : Canonical d.mem) : Canonical (d.wholeRod n).mem :=
  canonical_foldl (fun _ _ ok => canonical_engineFault ok) (canonical_foldl (fun _ _ ok => canonical_peFault ok) ok)

theorem canonical_retireNow {g} (ok : Canonical d.mem) : Canonical (d.retireNow g).mem :=
  canonical_ite ok (canonical_setGroup ok)

theorem canonical_allPortsDown (ok : Canonical d.mem) : Canonical d.allPortsDown.mem :=
  canonical_foldl (fun _ _ ok => canonical_ite (canonical_portTo ok) ok) ok

theorem canonical_pllLoss {domain place} (ok : Canonical d.mem) : Canonical (pllLoss domain place d).mem := by
  unfold pllLoss
  exact canonical_ite (canonical_enterHold ok) (canonical_ite (canonical_mgmtRestart ok) (canonical_ite (canonical_secRestart ok) (canonical_ite
      (canonical_ite (canonical_causeUnits (canonical_wholeRod ok)) ok) (canonical_ite (canonical_ite (canonical_setUnit ok) ok) (canonical_ite
      (canonical_ite (canonical_retireNow ok) ok) (canonical_ite (canonical_allPortsDown ok) (canonical_ite (canonical_ite
      (canonical_laneSignalLoss ok) ok) (canonical_ite (canonical_linkLoss ok) (canonical_ite (canonical_foldl
      (fun _ _ ok => canonical_setUnit ok) ok) (canonical_ite (canonical_ite (canonical_raise ok) ok) ok))))))))))

/-! ### Temperatures (16 R469) -/

theorem canonical_clockRods (ok : Canonical d.mem) : Canonical d.clockRods.mem := ok

theorem canonical_thermalSample {temps} (ok : Canonical d.mem) : Canonical (thermalSample temps d).mem :=
  canonical_ite ok (canonical_ite (canonical_enterHold (canonical_ite (canonical_clockRods (canonical_raise ok)) (canonical_raise ok)))
      (canonical_ite (canonical_clockRods (canonical_raise ok)) (canonical_raise ok)))

/-! ### Power and its governor (16 R466 to R468; 18 R499, R500) -/

theorem canonical_governorTick {edgeMw auxMw edgeMa auxMa duty} (ok : Canonical d.mem) : Canonical (governorTick edgeMw auxMw edgeMa auxMa duty
    d).mem :=
  canonical_ite (canonical_enterFloorOnly (canonical_raise ok)) (canonical_raise ok)

theorem canonical_auxChange {condition} (ok : Canonical d.mem) : Canonical (auxChange condition d).mem :=
  canonical_ite (canonical_ite (canonical_raise ok) (canonical_enterFloorOnly (canonical_raise (canonical_raise ok)))) (canonical_ite
      (canonical_raise (canonical_leaveFloorOnly (canonical_raise ok))) (canonical_raise ok))

theorem canonical_endSheds (ok : Canonical d.mem) : Canonical d.endSheds.mem := ok

theorem canonical_edgeChange {condition} (ok : Canonical d.mem) : Canonical (edgeChange condition d).mem :=
  canonical_ite (canonical_ite (canonical_leaveFloorOnly (canonical_endSheds (canonical_raise ok))) (canonical_endSheds (canonical_raise ok)))
      (canonical_raise ok)

theorem canonical_shedStep (ok : Canonical d.mem) : Canonical (shedStep d).mem :=
  canonical_ite ok ok

theorem canonical_shedHold (ok : Canonical d.mem) : Canonical (shedHold d).mem :=
  canonical_ite (canonical_enterHold ok) ok

theorem canonical_holdupCharged (ok : Canonical d.mem) : Canonical (holdupCharged d).mem :=
  canonical_ite ok ok

/-! ### Power loss (13 R401; 18 R504) -/

theorem canonical_powerLoss {held vaux} (ok : Canonical d.mem) : Canonical (powerLoss held vaux d).mem :=
  canonical_ite (canonical_ite ok ok) (canonical_coldStart (canonical_abortTest ok))

/-! ### Power-up (18 R504 to R506) -/

theorem canonical_readFlash {i} (ok : Canonical d.mem) : Canonical (d.readFlash i).mem :=
  canonical_ite (canonical_identImages ok) (canonical_identImages ok)

theorem canonical_bootRescue (ok : Canonical d.mem) : Canonical d.bootRescue.mem :=
  canonical_raise (canonical_arrive ok)

theorem canonical_bootFell {k} (ok : Canonical d.mem) : Canonical (d.bootFell k).mem := ok

theorem canonical_bootErrorDo {error} (ok : Canonical d.mem) : Canonical (d.bootErrorDo error).mem :=
  canonical_ite (canonical_bootFell (canonical_ite ok ok)) (canonical_ite (canonical_bootFell (canonical_ite ok ok)) (canonical_ite
      (canonical_bootFell (canonical_ite ok ok)) (canonical_ite (canonical_bootRescue (canonical_ite ok ok)) (canonical_ite (canonical_enterHold
      (canonical_ite ok ok)) (canonical_ite ok ok)))))

theorem canonical_tellFlush (ok : Canonical d.mem) : Canonical d.tellFlush.mem := by
  unfold Device.tellFlush
  split
  · exact ok
  · exact canonical_raise ok

theorem canonical_stageDo {stage error failed ident} (ok : Canonical d.mem) : Canonical (d.stageDo stage error failed ident).mem := by
  have restored : Canonical (match d.saved with
      | none => d
      | some v => d.restoreConfig v).mem := by
    split <;> exact ok
  unfold Device.stageDo
  refine canonical_ite ok (canonical_ite (canonical_readFlash ok) (canonical_ite ok (canonical_ite ok (canonical_ite ok (canonical_ite ok
    (canonical_ite (canonical_tellFlush ok) (canonical_ite (canonical_ite ok restored) ?_)))))))
  extract_lets _ d1 d2
  have booted : Canonical d2.mem := canonical_raise (canonical_arrive ok)
  clear_value d2
  exact booted

theorem canonical_powerUpStage {stage error failed ident} (ok : Canonical d.mem) : Canonical (powerUpStage stage error failed ident d).mem :=
  canonical_ite ok (canonical_ite (canonical_stageDo (canonical_bootErrorDo ok)) (canonical_bootErrorDo ok))

end Device

/-! ### Every step (10 R298; 11 R317) -/

/-- A row that carries a ring command runs it at the row's Beam moment. -/
theorem exec_of_ringRow {i : Instr} {sp : CmdSpec} {t : Nat} {ring : Fin 4} {entry : Bytes} (row : ringRow i = some (sp, t, ring, entry))
    (s : State) :
    exec i s = .next { s with dev := runRow sp ring entry (s.dev.at_ t) } := by
  cases i <;> cases row <;> rfl

/-- The table of opcodes finds the command of a ring row under its own number. -/
theorem specOf_of_ringRow {i : Instr} {sp : CmdSpec} {t : Nat} {ring : Fin 4} {entry : Bytes} (row : ringRow i = some (sp, t, ring, entry)) :
    specOf sp.op = some sp := by
  cases i <;> cases row <;> rfl

/-- Where an outcome is a next state, its memories are in canonical form. -/
def NextCanonical : Host.Outcome State Fault Refusal → Prop
  | .next s => Canonical s.dev.mem
  | _ => True

theorem nextCanonical_exec {i : Instr} {s : State} (ok : Canonical s.dev.mem) : NextCanonical (exec i s) := by
  cases row : ringRow i with
  | some r =>
    obtain ⟨sp, t, ring, entry⟩ := r
    rw [exec_of_ringRow row]
    exact canonical_runRow (keepsForm_of_specOf (specOf_of_ringRow row)) ok
  | none =>
    cases i with
    | hdmWindowRead t off n =>
      rcases Nat.lt_or_ge (2 ^ 34) (off + n) with beyond | within
      · rw [exec_hdmWindowRead_beyond beyond]
        trivial
      · rw [exec_hdmWindowRead_within within]
        exact canonical_windowRead ok
    | hdmWindowWrite t off b =>
      rcases Nat.lt_or_ge (2 ^ 34) (off + b.length) with beyond | within
      · rw [exec_hdmWindowWrite_beyond beyond]
        trivial
      · rw [exec_hdmWindowWrite_within within]
        exact canonical_windowWrite ok
    | sealBlockVerified => exact canonical_sealBlockVerified ok
    | mctpVendorMessage => exact canonical_mctpVendor ok
    | pldmSensorRequest => exact canonical_pldmSensor ok
    | mctpControlMessage => exact canonical_mctpAnswer ok
    | doeRequest => exact canonical_doeRequest ok
    | spdmRequest => exact canonical_spdmRequest ok
    | ideKmRequest => exact canonical_ideKm ok
    | cmdEntryTake => exact canonical_cmdEntryTake ok
    | unitReleased => exact canonical_unitReleased ok
    | cmdRingDoorbell => exact canonical_ringDoorbell ok
    | ringCfgWrite => exact canonical_ringCfgWrite ok
    | busyStopClear => exact canonical_busyStopClear ok
    | cqReadWrite => exact canonical_cqReadWrite ok
    | cqConfigWrite => exact canonical_cqConfigWrite ok
    | timeLatchRead => exact canonical_timeLatchRead ok
    | captureRelease => exact canonical_setTime ok
    | hostqTxDoorbell => exact canonical_txDoorbell ok
    | hostqRxDoorbell => exact canonical_rxDoorbell ok
    | eventPendingClear => exact ok
    | tallySnapshotClear => exact canonical_tallyClear ok
    | wqDataPop => exact canonical_wqPop ok
    | bar0BadAccess => exact canonical_replyData (canonical_badAccess ok)
    | registerWrite => exact canonical_barWrite ok
    | snoopInvalidate => exact canonical_snoop ok
    | busMasterEnable => exact canonical_ite (canonical_resume ok) ok
    | msixUnmask => exact canonical_ite ok ok
    | powerStateChange => exact canonical_ite (canonical_resume ok) ok
    | syncReceived => exact canonical_syncReceived ok
    | servoUpdate => exact canonical_servoUpdateDom ok
    | announceReceived t k p cls gm rank info =>
      show Canonical (announceReceived k p cls gm rank info (s.dev.at_ t)).mem
      exact canonical_announceReceived ok
    | announceTimeout => exact canonical_announceTimeout ok
    | revertHoldExpiry => exact canonical_revertHold ok
    | holdoverHour => exact canonical_holdoverHour ok
    | ppsInEdge => exact canonical_ppsIn ok
    | ppsInLoss => exact canonical_ppsLost ok
    | tenMhzInLoss => exact canonical_tenLost ok
    | captureEvent => exact canonical_captureEvent ok
    | triggerFire => exact canonical_triggerFire ok
    | timeStepApply => exact canonical_timeStepApply ok
    | timeCopyLockLoss => exact canonical_copyLost ok
    | timeCopyLockReturn => exact canonical_setTime ok
    | frameTick => exact canonical_frameTick ok
    | commitPoint => exact canonical_finishStops (canonical_commitPoint ok)
    | ingestPacketReceived => exact canonical_ingestPacket ok
    | legLosTimeout => exact canonical_legLos ok
    | pairSkewExceeded => exact canonical_pairSkew ok
    | lineFillPoint => exact canonical_lineFillPoint ok
    | freezeTimeout => exact canonical_freezeTimeout ok
    | hostFrameCheckDone => exact canonical_frameChecked ok
    | decoderPictureDone => exact canonical_pictureDone ok
    | ancPacketReceived => exact canonical_ancPacket ok
    | flattenDone => exact canonical_flattenDone ok
    | rowMark => exact canonical_rowMark ok
    | peBlockDelivered => exact canonical_peBlock ok
    | rowCoded => exact canonical_rowCoded ok
    | floorTrigger => exact canonical_floorTrigger ok
    | rowDeadline => exact canonical_finishStops (canonical_rowDeadline ok)
    | statsSlotDue => exact canonical_finishStops (canonical_statsSlotDue ok)
    | shadowCopyDone => exact canonical_shadowCopyDone ok
    | peFault => exact canonical_peFault ok
    | engineFault => exact canonical_engineFault ok
    | payloadUnitArrival => exact canonical_finishStops (canonical_payloadUnit ok)
    | calendarEntry => exact canonical_calendarEntry (canonical_feedReplays ok)
    | copyLaunch => exact canonical_finishStops (canonical_copyLaunch ok)
    | audioFrameReady => exact canonical_audioFrameReady ok
    | portFrameStart => exact canonical_portFrameStart ok
    | gateListTakeover => exact canonical_gateTakeover ok
    | gateEntryChange => exact canonical_gateEntryChange ok
    | gateCycleDrop => exact canonical_gateCycleDrop ok
    | rxFrameReceived => exact canonical_rxFrame ok
    | portUp => exact canonical_portUp ok
    | faultReceived => exact canonical_faultReceived ok
    | opticsChange => exact canonical_opticsChange ok
    | laneSignalLoss => exact canonical_laneSignalLoss ok
    | laneDegrade => exact canonical_laneDegrade ok
    | checkerLock => exact canonical_checkerLock ok
    | checkerLockLost => exact canonical_checkerLost ok
    | recalTimeout => exact canonical_recalTimeout ok
    | hostlaneTestEnd => exact canonical_hostlaneTestEnd ok
    | esmcPduSend => exact canonical_esmcSend ok
    | eyeRefresh => exact canonical_eyeRefresh ok
    | perstAssert => exact canonical_perstAssert ok
    | perstRelease => exact canonical_perstRelease ok
    | hotReset => exact canonical_resetAndTrain ok
    | linkDisable => exact canonical_linkDisable ok
    | flr => exact canonical_ite (canonical_hostReset ok) ok
    | cxlReset => exact canonical_resetAndTrain ok
    | linkLoss => exact canonical_linkLoss ok
    | referenceClockLoss => exact canonical_refClockLost ok
    | linkUp => exact canonical_linkUp ok
    | linkRetrain => exact canonical_linkRetrain ok
    | ideIntegrityFailure => exact canonical_ideFailure ok
    | linkReplayStorm => exact canonical_replayStorm ok
    | dmaWriteRefused => exact canonical_dmaWriteRefused ok
    | cxlCacheRefused => exact canonical_raise ok
    | mgmtRestartBegin => exact canonical_ite ok (canonical_mgmtRestart ok)
    | mgmtRestartEnd => exact canonical_mgmtRestartEnd ok
    | fwActivateFallback => exact canonical_fwFallback ok
    | secRestartBegin => exact canonical_secRestartBegin ok
    | secRestartEnd => exact canonical_secRestartEnd ok
    | rodUpdateStepDone => exact canonical_rodUpdateStepDone ok
    | dieBridgeCrcFail => exact canonical_dieBridge ok
    | sramCorrectedError => exact canonical_sramCorrected ok
    | sramUncorrectedError => exact canonical_sramUncorrected ok
    | pllLockLoss => exact canonical_pllLoss ok
    | supplyRailFault => exact canonical_enterHold ok
    | dramUncorrectableRead => exact canonical_uncorrectableRead ok
    | dramCommandError => exact canonical_commandError ok
    | groupRetirement => exact canonical_groupRetirement ok
    | groupDrainDone => exact canonical_groupDrainDone ok
    | dramCorrection => exact canonical_dramCorrection ok
    | patrolScrub => exact canonical_ite ok ok
    | refreshDue => exact canonical_refreshDue ok
    | wck2dqTrack => exact canonical_ite ok (canonical_setDram ok)
    | batchCommit => exact canonical_batchCommit ok
    | batchProgrammed => exact canonical_batchProgrammed ok
    | nandProgramFail => exact canonical_nandProgramFail ok
    | journalScrub => exact canonical_journalScrub ok
    | periodicEnergyTest => exact canonical_periodicEnergyTest ok
    | gapRecordWrite => exact canonical_gapRecordWrite ok
    | powerLoss => exact canonical_powerLoss ok
    | replayEnd => exact canonical_replayEnd ok
    | checkRunDone => exact canonical_checkRunDone ok
    | audioClockLoss => exact canonical_clockLoss ok
    | audioRateMeasured => exact canonical_rateMeasured ok
    | audioRelock => exact canonical_relock ok
    | zeroCrossing => exact canonical_zeroCrossing ok
    | zcTimeout => exact canonical_zcTimeout ok
    | fifoUnderrun => exact canonical_fifoSlip ok
    | fifoOverrun => exact canonical_fifoSlip ok
    | audioPacketMissing => exact canonical_packetMissing ok
    | eventOccurrence => exact canonical_eventOccurrence ok
    | eventLogHeldWrite => exact canonical_eventLogHeld ok
    | wqItemPush => exact canonical_wqPush ok
    | wqFlushForced => exact canonical_wqForce ok
    | wqPointerMismatch => exact canonical_wqMismatch ok
    | modeTransitionDone => exact canonical_modeTransitionDone ok
    | drainDone => exact canonical_drainDone ok
    | scheduledWake => exact canonical_scheduledWake ok
    | scheduledStartTime => exact canonical_scheduledStartTime ok
    | islandIdle => exact canonical_islandIdle ok
    | islandWake => exact canonical_islandWake ok
    | thermalSample => exact canonical_thermalSample ok
    | powerGovernorTick => exact canonical_governorTick ok
    | auxInputChange => exact canonical_auxChange ok
    | edge12vChange => exact canonical_edgeChange ok
    | shedStep => exact canonical_shedStep ok
    | shedHoldTimeout => exact canonical_shedHold ok
    | edge3v3Low => exact canonical_linkLoss ok
    | holdupCharged => exact canonical_holdupCharged ok
    | powerUpStage => exact canonical_powerUpStage ok
    | tenMhzInPresent => exact canonical_tenBack ok
    | beamSecondBoundary => exact canonical_secondBoundary ok
    | delayReqSend => exact canonical_delayReqSend ok
    | membershipReportRepeat => exact canonical_reportMembers ok
    | faultCleared => exact canonical_faultCleared ok
    | laneCalibrationDone => exact canonical_calibrationDone ok
    | memGroupRetrainDone => exact canonical_groupRetrainDone ok
    | memGroupTestDone => exact canonical_groupTestDone ok
    | memGroupRestoreDone => exact canonical_groupRestoreDone ok
    | energyTestDone => exact canonical_energyTestDone ok
    | journalExportDone => exact canonical_journalExportDone ok
    | diagExportDone => exact canonical_diagExportDone ok
    | fwImageStageDone => exact canonical_fwImageStageDone ok
    | selftestDone => exact canonical_selftestDone ok
    | unitReturnDone => exact canonical_unitReturnDone ok
    | rodUpdateSpareTimeout => exact canonical_rodUpdateSpareTimeout ok
    | quietWindowEdge => exact canonical_quietWindowEdge ok
    | _ => cases row

/-- Settles O3: the form is kept by every function of the model that touches a memory, since `memStore`, `memWrite` and `memDrop` keep it, and so by
each command's effect. -/
theorem memoriesStayCanonical : Obligations.MemoriesStayCanonical := by
  intro s s' hdm cmdsram host stepped
  have ok : Canonical s.dev.mem := ⟨hdm, cmdsram, host⟩
  suffices kept : Canonical s'.dev.mem from ⟨kept.hdm, kept.cmdsram, kept.host⟩
  unfold step at stepped
  split at stepped
  · cases stepped
    exact ok
  · next c rest _ =>
    have kept : NextCanonical (exec c { s with pending := rest }) := nextCanonical_exec ok
    rwa [stepped] at kept

/-- Settles O2: every row of the table but the two window accesses answers a next state outright, and those two do so within the window. -/
theorem everyCommandAnswersANextState : Obligations.EveryCommandAnswersANextState := by
  intro i s read write
  cases i with
  | hdmWindowRead t off n => exact ⟨_, exec_hdmWindowRead_within (read t off n rfl) t s⟩
  | hdmWindowWrite t off b => exact ⟨_, exec_hdmWindowWrite_within (write t off b rfl) t s⟩
  | _ => exact ⟨_, rfl⟩

end Sys2Proof.Proofs

/-!
PROOF. Resets and losses of the host link (10 R307 to R311): what triggers of vectors keep, and what a host-link reset and a link loss leave of the module.
-/
namespace Sys2Proof.Proofs

open Sys2Proof Sys2Proof.Machine Sys2Proof.Laws

/-! ### Vectors through events (10 R303; 15 R433, R438) -/

/-- What holds of MSI-X whatever vector is triggered. -/
def Triggered (P : MsixState → Prop) : Prop := ∀ v m, P m → P (msixTrigger v m)

section Triggered
variable {P : MsixState → Prop} (closed : Triggered P) {quarter : Nat → Bool} {r : EvRec} {p : EvPort}
include closed

theorem triggered_logWrite (holds : P p.msix) : P (logWrite r p).msix := by
  show P (if p.events.log.irq then msixTrigger p.events.log.vector p.msix else p.msix)
  split
  · exact closed _ _ holds
  · exact holds

theorem triggered_logHeld (holds : P p.msix) : P (logHeld p).msix := by
  unfold logHeld
  split
  · exact holds
  · split
    · exact holds
    · exact triggered_logWrite closed holds

theorem triggered_logRecord (holds : P p.msix) : P (logRecord quarter r p).msix := by
  unfold logRecord
  split
  · exact holds
  · split
    · exact holds
    · have held := triggered_logHeld closed holds
      extract_lets q
      split
      · unfold logDrop
        split <;> exact held
      · exact triggered_logWrite closed held

theorem triggered_occur {now n detail : Nat} (holds : P p.msix) : P (occur quarter now n detail p).1.msix := by
  unfold occur
  split
  · exact holds
  · extract_lets _ _ _ _ _ _ _ p2 _ p3
    split
    · have recorded : P p2.msix := triggered_logRecord closed holds
      show P p3.msix
      dsimp only [p3]
      split
      · exact closed _ _ recorded
      · exact recorded
    · exact holds

theorem triggered_raise {evs : List (Nat × Nat)} {d : Device} (holds : P d.msix) : P (d.raise evs).msix := by
  have all (fuel : Nat) : ∀ (l : List (Nat × Nat)) (p : EvPort), P p.msix → P (occurAll d.groupUp d.now fuel l p).msix := by
    induction fuel with
    | zero => exact fun _ _ holds => holds
    | succ fuel ih =>
      intro l p holds
      cases l with
      | nil => exact holds
      | cons _ _ => exact ih _ _ (triggered_occur closed holds)
  exact all _ _ _ holds

end Triggered

/-- A trigger changes no mask bit. -/
theorem triggered_mask (c : BitVec 256) : Triggered (·.mask = c) := fun v m same => by
  unfold msixTrigger
  split <;> exact same

@[simp] theorem raise_msix_mask (evs : List (Nat × Nat)) (d : Device) : (d.raise evs).msix.mask = d.msix.mask :=
  triggered_raise (triggered_mask _) rfl

/-! ### Tables changed record by record -/

theorem find_mapVals {α : Type} (f : Nat → α → α) (k : Nat) (t : Tab α) : Tab.find k (Tab.mapVals f t) = (Tab.find k t).map (f k) := by
  induction t with
  | nil => rfl
  | cons e t ih =>
    simp only [Tab.mapVals, List.map_cons, Tab.find]
    split
    · next same => simp [same]
    · exact ih

/-- Where the default stays, a change of every record is what a read shows. -/
theorem read_mapVals {α : Type} {f : Nat → α → α} {k : Nat} {z : α} (t : Tab α) (same : f k z = z := by rfl) :
    Tab.read (Tab.mapVals f t) k z = f k (Tab.read t k z) := by
  rw [Tab.read, find_mapVals, Tab.read]
  cases Tab.find k t with
  | none => exact same.symm
  | some x => rfl

/-! ### Resets and losses of the host link (10 R307 to R311) -/

/-- `e` is `d` after the host link has ended: LAST_RESET, HOST_RESETS, no session and no IDE stream; of the programme only each channel's stop is decided. -/
def HostLinkEnded (code : Nat) (up : Bool) (training : Option Nat) (d e : Device) : Prop :=
  e.link.up = up ∧ e.link.lastReset = code ∧ e.link.hostResets = satAdd 0xFFFFFFFF d.link.hostResets 1 ∧ e.link.sessions = [] ∧
  e.link.ideCm = false ∧ e.link.ideIo = false ∧ e.link.training = training ∧
  e.code.rends = d.code.rends ∧ e.code.rods = d.code.rods ∧ e.out = d.out ∧ e.comp = d.comp ∧ e.time = d.time ∧ e.dram = d.dram ∧ e.audio = d.audio ∧
  e.journal = d.journal ∧ e.modes = d.modes ∧ e.rk.staged = d.rk.staged ∧ e.rk.works = d.rk.works ∧ e.rk.waiting = d.rk.waiting ∧
  (∀ c, e.chan c = { d.chan c with lossStop := (d.chan c).lossStop || ((d.chan c).running && !(d.chan c).recd.hostIndependent) })

/-- `e` is `d` with the host's side reset: rings, completion ring, host queues and frame rings, but not the rings' accounts. -/
def HostSideReset (d e : Device) : Prop :=
  e.link.bme = false ∧ e.link.d3hot = false ∧ e.rk.cq = CompRing.reset ∧ e.msix.mask = MsixState.reset.mask ∧
  (∀ r, (e.rk.ring r).head = 0 ∧ (e.rk.ring r).tail = 0 ∧ (e.rk.ring r).enable = true ∧ (e.rk.ring r).log2 = 8 ∧ (e.rk.ring r).busyStop = false ∧
    (e.rk.ring r).taken = (d.rk.ring r).taken ∧ (e.rk.ring r).done = (d.rk.ring r).done ∧ (e.rk.ring r).results = (d.rk.ring r).results) ∧
  (∀ q, (e.txq q).enable = false ∧ (e.txq q).head = 0 ∧ (e.txq q).tail = 0 ∧ (e.rxq q).enable = false ∧ (e.rxq q).head = 0 ∧ (e.rxq q).tail = 0) ∧
  (∀ c h, (e.bnd c).host = some h → h.enabled = false ∧ h.queue = [])

/-- `e` has the host's side of `d`. -/
def HostSideKept (d e : Device) : Prop := e.link.bme = d.link.bme ∧ e.rk = d.rk ∧ e.sched = d.sched ∧ e.msix.mask = d.msix.mask

theorem chan_linkEnded (x : CodingState) (c : Nat) :
    x.linkEnded.chan c = { x.chan c with lossStop := (x.chan c).lossStop || ((x.chan c).running && !(x.chan c).recd.hostIndependent) } :=
  read_mapVals (f := fun _ (c : Channel) => { c with lossStop := c.lossStop || (c.running && !c.recd.hostIndependent) }) x.channels

section Reset
variable (code : Nat) (stays : Bool) (training : Option Nat) (before : List (Nat × Nat)) (d : Device)

theorem hostReset_ring (r : Nat) : (d.hostReset code stays training before).rk.ring r = (d.rk.ring r).hostReset :=
  read_mapVals (f := fun _ (g : Ring) => g.hostReset) d.rk.rings

theorem hostReset_txq (q : Nat) : (d.hostReset code stays training before).txq q = { d.txq q with
    enable := false, head := 0, tail := 0, fetched := 0, eligible := 0, flushing := false, lastTime := 0, done := [] } :=
  read_mapVals (f := fun _ (g : TxQueue) => { g with
    enable := false, head := 0, tail := 0, fetched := 0, eligible := 0, flushing := false, lastTime := 0, done := [] }) d.sched.tx

theorem hostReset_rxq (q : Nat) : (d.hostReset code stays training before).rxq q = { d.rxq q with enable := false, head := 0, tail := 0, seen := 0 } :=
  read_mapVals (f := fun _ (g : RxQueue) => { g with enable := false, head := 0, tail := 0, seen := 0 }) d.sched.rx

theorem hostReset_bnd (c : Nat) : (d.hostReset code stays training before).bnd c = { d.bnd c with host := (d.bnd c).host.map HostRing.dead } :=
  read_mapVals (f := fun _ (b : Binding) => { b with host := b.host.map HostRing.dead }) d.ingest.binds

theorem hostLinkEnded_hostReset : HostLinkEnded code (d.link.up && stays) training d (d.hostReset code stays training before) :=
  ⟨rfl, rfl, rfl, rfl, rfl, rfl, rfl, rfl, rfl, rfl, rfl, rfl, rfl, rfl, rfl, rfl, rfl, rfl, rfl, chan_linkEnded d.code⟩

theorem hostSideReset_hostReset : HostSideReset d (d.hostReset code stays training before) := by
  refine ⟨rfl, rfl, rfl, raise_msix_mask _ _, fun r => ?_, fun q => ?_, fun c h found => ?_⟩
  · rw [hostReset_ring]
    exact ⟨rfl, rfl, rfl, rfl, rfl, rfl, rfl, rfl⟩
  · rw [hostReset_txq, hostReset_rxq]
    exact ⟨rfl, rfl, rfl, rfl, rfl, rfl⟩
  · rw [hostReset_bnd] at found
    obtain ⟨_, _, rfl⟩ := Option.map_eq_some_iff.mp found
    exact ⟨rfl, rfl⟩

end Reset

section Down
variable {d : Device} (up : d.link.up = true)
include up

theorem linkLoss_up (code : Nat) : d.linkLoss code = { d with
    link := { d.link.ended code with up := false, training := none }
    msix := { d.msix with open_ := false }
    ingest := d.ingest.rings HostRing.unplugged
    code := d.code.linkEnded }.raise (d.link.ideEnds ++ [(dtIndex 4, 0), (432, code)]) := if_pos up

theorem hostLinkEnded_linkLoss (code : Nat) : HostLinkEnded code false none d (d.linkLoss code) := by
  rw [linkLoss_up up]
  exact ⟨rfl, rfl, rfl, rfl, rfl, rfl, rfl, rfl, rfl, rfl, rfl, rfl, rfl, rfl, rfl, rfl, rfl, rfl, rfl, chan_linkEnded d.code⟩

theorem hostSideKept_linkLoss (code : Nat) : HostSideKept d (d.linkLoss code) := by
  rw [linkLoss_up up]
  exact ⟨rfl, rfl, rfl, raise_msix_mask _ _⟩

/-- A reset that needs the link up takes it down, or with FLR leaves it up. -/
theorem hostReset_ends (code : Nat) (stays : Bool) (training : Option Nat) (before : List (Nat × Nat)) :
    HostLinkEnded code stays training d (d.hostReset code stays training before) ∧ HostSideReset d (d.hostReset code stays training before) := by
  have ended := hostLinkEnded_hostReset code stays training before d
  rw [up, Bool.true_and] at ended
  exact ⟨ended, hostSideReset_hostReset code stays training before d⟩

end Down

/-- A reset after which the link trains. -/
theorem resetAndTrain_ends {d : Device} (up : d.link.up = true) (code : Nat) :
    HostLinkEnded code false (some (d.now + trainTime)) d (resetAndTrain code d) ∧ HostSideReset d (resetAndTrain code d) := by
  rw [resetAndTrain, if_pos up]
  exact hostReset_ends up code false (some (d.now + trainTime)) []

/-- Settles O39: under its condition each row is a host-link reset or a link loss, and what they leave is read off. -/
theorem hostResetsSpareTheProgramme : Obligations.HostResetsSpareTheProgramme := by
  intro t s d ended wiped kept
  refine ⟨fun perst => ⟨perstAssert d, rfl, ?perst⟩, fun up => ⟨⟨_, rfl, resetAndTrain_ends up 2⟩, ⟨linkDisable true d, rfl, ?disable⟩, ⟨_, rfl, ?flr⟩,
    ⟨_, rfl, resetAndTrain_ends up 5⟩, ⟨_, rfl, hostLinkEnded_linkLoss up 6, hostSideKept_linkLoss up 6⟩,
    fun stream ide => ⟨ideFailure stream d, rfl, ?ide⟩, ⟨refClockLost d, rfl, ?clock⟩⟩⟩
  case perst =>
    have down := hostLinkEnded_hostReset 1 false none [] d
    rw [Bool.and_false] at down
    rw [perstAssert, perst]
    exact ⟨down, hostSideReset_hostReset 1 false none [] d, rfl⟩
  case disable =>
    obtain ⟨down, reset⟩ := hostReset_ends up 3 false none []
    rw [linkDisable, if_pos rfl, if_pos up]
    exact ⟨down, reset, rfl⟩
  case flr =>
    rw [if_pos up]
    exact hostReset_ends up 4 true none []
  case ide =>
    rw [ideFailure, up, ide, Bool.and_self, if_pos rfl]
    exact hostReset_ends up 7 false (some (d.now + trainTime)) [(441, stream)]
  case clock =>
    let d1 := { d with link := { d.link with refClock := false } }.raise [(442, 0)]
    have up1 : d1.link.up = true := up
    obtain ⟨bme, rk, sched, mask⟩ := hostSideKept_linkLoss up1 8
    refine ⟨hostLinkEnded_linkLoss up1 8, ⟨bme, rk, sched, mask.trans (raise_msix_mask _ _)⟩, ?_⟩
    rw [refClockLost, linkLoss_up up1]
    rfl

end Sys2Proof.Proofs

/-!
PROOF. The link's return and MSI-X (10 R287 to R294, R303): `resume` leaves nothing held and nothing pending that may be sent, and the host frame rings' work
keeps it so.
-/
namespace Sys2Proof.Proofs

open Sys2Proof Sys2Proof.Machine Sys2Proof.Laws

/-! ### Vectors sent and pending (10 R303) -/

/-- Nothing that may be sent is pending. -/
def Flowing (m : MsixState) : Prop := m.open_ = true ∧ (m.funcMask = false → m.pending &&& ~~~m.mask = 0)

/-- The bit of a vector. -/
theorem getLsbD_vectorBit {v w : Nat} (range : v < 256) : (1#256 <<< v).getLsbD w = decide (w = v) := by
  rw [← BitVec.twoPow_eq, BitVec.getLsbD_twoPow, decide_eq_true range, Bool.true_and]
  exact decide_eq_decide.mpr eq_comm

/-- A triggered vector that may send does not pend. -/
theorem triggered_flowing : Triggered Flowing := by
  intro v m flows
  obtain ⟨opened, none_⟩ := flows
  unfold msixTrigger
  split
  · exact ⟨opened, none_⟩
  · next shut =>
    refine ⟨opened, fun free => ?_⟩
    rw [opened, show m.funcMask = false from free] at shut
    have masked : m.mask.getLsbD v = true := by simpa using shut
    apply BitVec.eq_of_getLsbD_eq
    intro w range
    have before := congrArg (BitVec.getLsbD · w) (none_ free)
    rcases eq_or_ne w v with rfl | other
    · simp [masked]
    · simpa [getLsbD_vectorBit (BitVec.lt_of_getLsbD masked), other] using before

@[simp] theorem msixDrain_mask (m : MsixState) : (msixDrain m).mask = m.mask := by
  unfold msixDrain
  split <;> rfl

@[simp] theorem msixDrain_funcMask (m : MsixState) : (msixDrain m).funcMask = m.funcMask := by
  unfold msixDrain
  split <;> rfl

theorem msixDrain_open {m : MsixState} (opened : m.open_ = true) (free : m.funcMask = false) : msixDrain m = { m with
    pending := m.pending &&& m.mask, sent := m.sent ++ (List.range 256).filter (fun v => (m.pending &&& ~~~m.mask).getLsbD v) } := by
  rw [msixDrain, opened, free]
  rfl

theorem flowing_msixDrain {m : MsixState} (opened : m.open_ = true) : Flowing (msixDrain m) := by
  cases free : m.funcMask with
  | true =>
    have still : msixDrain m = m := by rw [msixDrain, free, Bool.not_true, Bool.and_false, if_neg Bool.false_ne_true]
    rw [still]
    exact ⟨opened, fun absurd_ => by rw [free] at absurd_; cases absurd_⟩
  | false =>
    rw [msixDrain_open opened free]
    refine ⟨opened, fun _ => ?_⟩
    show m.pending &&& m.mask &&& ~~~m.mask = 0
    rw [BitVec.and_assoc, BitVec.and_not_self]
    exact BitVec.and_zero

/-! ### DMA becomes possible (10 R303, R308; 11 R339) -/

/-- Once DMA is possible no record is held, and nothing that may be sent pends. -/
def HostServed (d : Device) : Prop := d.dmaUp = true → d.rk.cq.held = [] ∧ Flowing d.msix

theorem held_foldl_write (hs : List HeldRec) (p : CqPort) : (hs.foldl (fun p h => p.write h) p).cq.held = p.cq.held := by
  induction hs generalizing p with
  | nil => rfl
  | cons h hs ih => exact ih (p.write h)

theorem link_foldl_writeBackTx (qs : List Nat) (d : Device) : (qs.foldl (fun d q => d.writeBackTx q) d).link = d.link := by
  induction qs generalizing d with
  | nil => rfl
  | cons q qs ih => exact ih (d.writeBackTx q)

theorem drainRecords_link (d : Device) : d.drainRecords.link = d.link := by
  unfold Device.drainRecords
  split <;> rfl

theorem held_drainRecords {d : Device} (way : d.dmaUp = true) : d.drainRecords.rk.cq.held = [] := by
  rw [Device.drainRecords, if_pos way]
  exact held_foldl_write _ _

theorem dmaUp_of_link {d e : Device} (same : e.link = d.link) : e.dmaUp = d.dmaUp := by simp only [Device.dmaUp, same]

@[simp] theorem resume_link (d : Device) : d.resume.link = d.link := by
  unfold Device.resume
  split
  · exact (drainRecords_link _).trans (link_foldl_writeBackTx _ d)
  · rfl

theorem hostServed_resume (d : Device) : HostServed d.resume := by
  intro way
  rw [dmaUp_of_link (resume_link d)] at way
  rw [Device.resume, if_pos way]
  exact ⟨held_drainRecords ((dmaUp_of_link (link_foldl_writeBackTx _ d)).trans way), flowing_msixDrain rfl⟩

/-! ### Host frame rings (03 R84, R85; 10 R291) -/

/-- What the work on a host frame ring leaves of the host's side: link and command interface as they were, and of MSI-X what triggers leave. -/
structure HostSideHolds (P : MsixState → Prop) (d e : Device) : Prop where
  link : e.link = d.link
  rk : e.rk = d.rk
  msix : P e.msix

section Rings
variable {P : MsixState → Prop} (closed : Triggered P) {d e : Device}
include closed

theorem hostSideHolds_dropDesc {c : Nat} {x : HostDesc} {st : Nat} {evs : List (Nat × Nat)} (holds : HostSideHolds P d e) :
    HostSideHolds P d (e.dropDesc c x st evs) := by
  obtain ⟨link, rk, msix⟩ := holds
  unfold Device.dropDesc
  split
  · exact ⟨link, rk, msix⟩
  · next h _ =>
    have back : (e.writeBack h x st).link = e.link ∧ (e.writeBack h x st).rk = e.rk ∧ (e.writeBack h x st).msix = e.msix := by
      unfold Device.writeBack
      split <;> exact ⟨rfl, rfl, rfl⟩
    obtain ⟨backLink, backRk, backMsix⟩ := back
    exact ⟨backLink.trans link, backRk.trans rk, triggered_raise closed (backMsix.symm ▸ msix)⟩

theorem hostSideHolds_pumpRing {c n : Nat} (holds : HostSideHolds P d e) : HostSideHolds P d (pumpRing c n e) := by
  induction n generalizing e with
  | zero => exact holds
  | succ n ih =>
    unfold pumpRing
    split
    · exact holds
    · split
      · exact holds
      · dsimp only
        split
        · exact holds
        · split
          · exact ih (hostSideHolds_dropDesc closed holds)
          · split
            · exact ih (hostSideHolds_dropDesc closed holds)
            · split
              · exact ih (hostSideHolds_dropDesc closed holds)
              · split
                · exact ih ⟨holds.link, holds.rk, holds.msix⟩
                · exact holds

theorem hostSideHolds_fetchRing {c : Nat} (holds : HostSideHolds P d e) : HostSideHolds P d (e.fetchRing c) := by
  unfold Device.fetchRing
  split
  · exact holds
  · dsimp only
    split
    · exact holds
    · exact hostSideHolds_pumpRing closed ⟨holds.link, holds.rk, holds.msix⟩

theorem hostSideHolds_fetchRings {cs : List Nat} (holds : HostSideHolds P d e) : HostSideHolds P d (cs.foldl (fun d c => d.fetchRing c) e) := by
  induction cs generalizing e with
  | nil => exact holds
  | cons c cs ih => exact ih (hostSideHolds_fetchRing closed holds)

end Rings

/-- The frame rings' work keeps what is served served. -/
theorem hostServed_fetchRings {cs : List Nat} {d : Device} (served : HostServed d) : HostServed (cs.foldl (fun d c => d.fetchRing c) d) := by
  intro way
  have link := (hostSideHolds_fetchRings (P := fun _ => True) (fun _ _ _ => trivial) (cs := cs) ⟨rfl, rfl, trivial⟩ : HostSideHolds _ d _).link
  obtain ⟨held, flows⟩ := served (by rw [← dmaUp_of_link link]; exact way)
  obtain ⟨_, rk, msix⟩ := hostSideHolds_fetchRings triggered_flowing (cs := cs) (⟨rfl, rfl, flows⟩ : HostSideHolds Flowing d d)
  exact ⟨rk ▸ held, msix⟩

/-! ### Mask bits -/

section Mask
variable (v : Fin 256) (masked func : Bool) (m : MsixState)

theorem msixMask_funcMask : (msixMask v masked func m).funcMask = if func then masked else m.funcMask := by
  rw [msixMask, msixDrain_funcMask]
  cases func <;> rfl

theorem msixMask_mask {w : Nat} (range : w < 256) :
    (msixMask v masked func m).mask.getLsbD w = if func = false ∧ w = v.val then masked else m.mask.getLsbD w := by
  rw [msixMask, msixDrain_mask]
  cases func with
  | true => simp
  | false =>
    have bit := getLsbD_vectorBit (w := w) v.isLt
    cases masked with
    | true =>
      show (m.mask ||| 1#256 <<< v.val).getLsbD w = _
      rw [BitVec.getLsbD_or, bit]
      by_cases same : w = v.val <;> simp only [same, decide_true, decide_false, Bool.or_true, Bool.or_false, and_self, and_false, if_true, if_false]
    | false =>
      show (m.mask &&& ~~~(1#256 <<< v.val)).getLsbD w = _
      rw [BitVec.getLsbD_and, BitVec.getLsbD_not, bit, decide_eq_true range]
      by_cases same : w = v.val <;>
        simp only [same, decide_true, decide_false, Bool.not_true, Bool.not_false, Bool.and_true, Bool.and_false, and_self, and_false, if_true, if_false]

/-- A vector that pends while messages can go is sent unless its own mask holds it. -/
theorem msixMask_pending (opened : m.open_ = true) (free : (msixMask v masked func m).funcMask = false) {w : Nat} (range : w < 256)
    (pends : m.pending.getLsbD w = true) :
    (msixMask v masked func m).pending.getLsbD w = (msixMask v masked func m).mask.getLsbD w ∧
    ((msixMask v masked func m).mask.getLsbD w = false → w ∈ (msixMask v masked func m).sent) := by
  unfold msixMask at free ⊢
  rw [msixDrain_funcMask] at free
  rw [msixDrain_mask]
  generalize new : (if func then { m with funcMask := masked }
    else { m with mask := if masked then m.mask ||| (1#256 <<< v.val) else m.mask &&& ~~~(1#256 <<< v.val) } : MsixState) = n at free ⊢
  have same : n.open_ = m.open_ ∧ n.pending = m.pending := by
    rw [← new]
    split <;> exact ⟨rfl, rfl⟩
  obtain ⟨openSame, pendingSame⟩ := same
  rw [msixDrain_open (openSame.trans opened) free]
  refine ⟨?_, fun clear => List.mem_append_right _ (List.mem_filter.mpr ⟨List.mem_range.mpr range, ?_⟩)⟩
  · rw [BitVec.getLsbD_and, pendingSame, pends, Bool.true_and]
  · rw [BitVec.getLsbD_and, BitVec.getLsbD_not, pendingSame, pends, clear, decide_eq_true range]
    rfl

end Mask

/-! ### The link's return (10 R287 to R289, R308) -/

theorem linkUp_trained {mode width : Nat} {d : Device} (may : d.mayTrain = true) (shape : linkShapeOk mode width = true) :
    (linkUp mode width d).link = { d.link with up := true, mode := mode, width := width, training := none, refClock := true } ∧
    HostServed (linkUp mode width d) := by
  rw [linkUp, may, shape, Bool.and_self, if_pos rfl]
  extract_lets _ _ d1 d2
  have link := (hostSideHolds_fetchRings (P := fun _ => True) (fun _ _ _ => trivial) (cs := d2.ingest.binds.map (·.1)) ⟨rfl, rfl, trivial⟩ :
    HostSideHolds _ d2.resume _).link
  exact ⟨link.trans (resume_link d2), hostServed_fetchRings (hostServed_resume d2)⟩

/-- Settles O40: what may be sent flows after `resume`, and the frame rings' work keeps it flowing; the other rows have one effect each. -/
theorem linkReturnsAndVectorsFire : Obligations.LinkReturnsAndVectorsFire := by
  intro t s d flowing
  refine ⟨?up, ?retrain, ?release, ?disable, ?bme, ?power, ?mask, ?storm, ?cache, ?refused⟩
  case up =>
    intro mode width may shape
    obtain ⟨link, served⟩ := linkUp_trained may shape
    exact ⟨linkUp mode width d, rfl, by rw [link], by rw [link], by rw [link], by rw [link], by rw [link], served⟩
  case retrain =>
    intro width up shape x a
    show Host.Outcome.next { s with dev := linkRetrain width d } = _
    rw [linkRetrain, up, shape, Bool.and_self, if_pos rfl]
    simp only [Device.linkWarnings, Bool.false_and, Bool.or_false, decide_eq_true_eq]
    rfl
  case release =>
    intro perst
    refine ⟨_, rfl, ?_⟩
    rw [perstRelease, if_pos perst]
    exact ⟨rfl, rfl⟩
  case disable =>
    intro disabled
    refine ⟨_, rfl, ?_⟩
    rw [linkDisable, if_neg Bool.false_ne_true, if_pos disabled]
    exact ⟨rfl, rfl⟩
  case bme =>
    intro on up
    refine ⟨_, rfl, ?_⟩
    rw [if_pos up]
    exact ⟨congrArg LinkState.bme (resume_link _), hostServed_resume _⟩
  case power =>
    intro hot up
    refine ⟨_, rfl, ?_⟩
    rw [if_pos up]
    exact ⟨congrArg LinkState.d3hot (resume_link _), hostServed_resume _⟩
  case mask =>
    intro v masked func up
    refine ⟨_, rfl, ?_⟩
    rw [if_pos up]
    exact ⟨msixMask_funcMask v masked func d.msix, fun w range => msixMask_mask v masked func d.msix range,
      fun opened free w range => msixMask_pending v masked func d.msix opened free range⟩
  case storm => exact fun count _ => ⟨_, rfl, rfl, rfl, rfl⟩
  case cache => exact fun _ => rfl
  case refused =>
    intro old written
    refine ⟨_, rfl, ?_⟩
    rw [dmaWriteRefused, if_neg written]
    exact ⟨rfl, rfl⟩

end Sys2Proof.Proofs

/-!
PROOF. Messages of DOE, SPDM, IDE_KM, MCTP control and PLDM (10 R304 to R306, R312 to R315; 17 R491).
-/
namespace Sys2Proof.Proofs

open Sys2Proof Sys2Proof.Machine Sys2Proof.Laws

/-! ### Measurements (17 R491) -/

/-- Param2 0xFF asks for all ten blocks. -/
theorem measurements_all (d : Device) : (d.measurements 0xFF).map (·.1) = [1, 2, 3, 4, 5, 6, 7, 8, 9, 10] := rfl

/-- An index of a block asks for it alone. -/
theorem measurements_one (d : Device) {p2 : Nat} (least : 1 ≤ p2) (most : p2 ≤ 10) : (d.measurements p2).map (·.1) = [p2] := by
  interval_cases p2 <;> rfl

theorem measurement_of_mem {d : Device} {p2 : Nat} {b : Nat × Bytes} (asked : b ∈ d.measurements p2) : b.2 = d.measurement b.1 := by
  obtain ⟨n, _, rfl⟩ := List.mem_map.mp asked
  rfl

theorem measured_of_digest {i : Image} {kind : Nat} (known : i.digest ≠ []) : i.measured kind = i.digest := by
  rw [Image.measured, if_neg (by rwa [List.isEmpty_iff])]

theorem secondRct_of_none {d : Device} (idle : d.serv.update = none) : d.secondRct = List.replicate 48 0 := by
  simp [Device.secondRct, idle]

/-- What each block of Table 17.9 that the statement names holds. -/
theorem measurements_hold {d : Device} {p2 : Nat} : ∀ b ∈ d.measurements p2,
    (b.1 = 2 → (d.serv.image 1).running.digest ≠ [] → b.2 = (d.serv.image 1).running.digest) ∧
    (b.1 = 3 → (d.serv.image 3).running.digest ≠ [] → b.2 = (d.serv.image 3).running.digest) ∧
    (b.1 = 4 → (d.serv.image 2).running.digest ≠ [] → b.2 = (d.serv.image 2).running.digest) ∧
    (b.1 = 6 → d.serv.update = none → b.2 = List.replicate 48 0) ∧
    (b.1 = 7 → (d.serv.image 5).running.digest ≠ [] → b.2 = (d.serv.image 5).running.digest) ∧
    (b.1 = 8 → (d.serv.image 6).running.digest ≠ [] → b.2 = (d.serv.image 6).running.digest) ∧
    (b.1 = 9 → b.2 = sha384 (d.serv.ownerChain ++ d.comp.registrations)) ∧
    (b.1 = 10 → b.2 = sha384 [BitVec.ofNat 8 d.serv.lifecycle]) := by
  intro b asked
  rw [measurement_of_mem asked]
  refine ⟨?_, ?_, ?_, ?_, ?_, ?_, ?_, ?_⟩ <;> intro index <;> rw [index]
  case refine_4 => exact secondRct_of_none
  case refine_7 | refine_8 => rfl
  all_goals exact measured_of_digest

/-! ### DOE (10 R304) -/

section Doe
variable {d : Device} (up : d.link.up = true)
include up

theorem doeRequest_up (vendor type : Nat) : (doeRequest vendor type d).link.doe =
    if vendor = 1 && within 1 2 type && !d.link.secUp then none else doeProtocol d.link.windowRate vendor type := by
  rw [doeRequest, up]
  rfl

/-- SPDM and secured messages are answered while the security core runs. -/
theorem doeRequest_spdm {type : Nat} (spdm : type = 1 ∨ type = 2) : (doeRequest 1 type d).link.doe.isSome = true ↔ d.link.secUp = true := by
  rw [doeRequest_up up]
  rcases spdm with rfl | rfl <;> cases d.link.secUp <;> simp [doeProtocol, within]

theorem doeRequest_unknown {vendor type : Nat} (pci : vendor ≠ 1) (cxl : vendor ≠ 0x1E98) : (doeRequest vendor type d).link.doe = none := by
  rw [doeRequest_up up]
  simp [doeProtocol, pci, cxl]

end Doe

/-! ### SPDM (10 R305, R315) -/

section Spdm
variable {d : Device} {mctp : Bool}

/-- The SPDM request reaches the security core. -/
def SpdmReaches (mctp : Bool) (d : Device) : Prop := d.link.secUp = true ∧ if mctp then d.mctpAsleep = false else d.link.up = true

theorem spdmRequest_reaches (reaches : SpdmReaches mctp d) (code : Nat) (session : Nat × Nat) : ∃ d1 : Device,
    d1 = { d with link := d.link.spdm mctp code session.1 } ∧
    spdmRequest mctp code session d = if mctp then d1.mctpAnswer (.spdm (if code = 0xE0 then d.measurements session.2 else []))
      else { d1 with link := { d1.link with doe := some (.spdm (if code = 0xE0 then d.measurements session.2 else [])) } } := by
  refine ⟨_, rfl, ?_⟩
  obtain ⟨sec, way⟩ := reaches
  cases mctp with
  | true => 
    have awake : d.mctpAsleep = false := way
    simp only [spdmRequest, awake, sec]
    rfl
  | false => 
    have up : d.link.up = true := way
    simp only [spdmRequest, up, sec]
    rfl

theorem spdmRequest_sessions (reaches : SpdmReaches mctp d) (code : Nat) (session : Nat × Nat) :
    (spdmRequest mctp code session d).link.sessions = (d.link.spdm mctp code session.1).sessions := by
  obtain ⟨d1, rfl, answer⟩ := spdmRequest_reaches reaches code session
  rw [answer]
  cases mctp <;> rfl

theorem sessions_keyExchange (x : LinkState) (session : Nat) :
    (x.spdm mctp 0xE4 session).sessions = if x.sessions.length < 4 then x.sessions ++ [⟨x.nextSession, mctp⟩] else x.sessions := by
  rw [LinkState.spdm, if_pos rfl]
  split <;> rfl

theorem mem_sessions_endSession {x : LinkState} {session : Nat} {z : SpdmSession} :
    z ∈ (x.spdm mctp 0xEC session).sessions ↔ z ∈ x.sessions ∧ ¬(z.id = session ∧ z.mctp = mctp) := by
  show z ∈ x.sessions.filter (fun z => !(z.id == session && z.mctp == mctp)) ↔ _
  rw [List.mem_filter]
  exact and_congr_right fun _ => by simp [imp_iff_not_or]

end Spdm

/-! ### IDE_KM (10 R306) -/

/-- The stream of IDE that a request names. -/
def IdeOn (cxl : Bool) (x : LinkState) : Bool := if cxl then x.ideCm else x.ideIo

/-- The session is one over DOE, and the stream one that the mode has. -/
def IdeAllowed (session : Nat) (cxl : Bool) (d : Device) : Bool :=
  d.link.up && d.link.secUp && d.link.sessions.any (fun z => z.id == session && !z.mctp) && (if cxl then within 1 2 d.link.mode else within 1 3 d.link.mode)

section Ide
variable {d : Device} {session : Nat} {cxl : Bool}

theorem ideKm_refused (no : IdeAllowed session cxl d = false) (action : Nat) : ideKm session cxl action d = d := by
  unfold IdeAllowed at no
  simp only [ideKm, no, Bool.not_false, Bool.true_or, if_true]

theorem ideAllowed_of_open (up : d.link.up = true) (sec : d.link.secUp = true) (session_ : ⟨session, false⟩ ∈ d.link.sessions)
    (mode : if cxl then d.link.mode = 1 ∨ d.link.mode = 2 else 1 ≤ d.link.mode ∧ d.link.mode ≤ 3) : IdeAllowed session cxl d = true := by
  have any : d.link.sessions.any (fun z => z.id == session && !z.mctp) = true := List.any_eq_true.mpr ⟨_, session_, by simp⟩
  rw [IdeAllowed, up, sec, any]
  cases cxl with
  | true =>
    have shape : d.link.mode = 1 ∨ d.link.mode = 2 := mode
    rcases shape with m | m <;> rw [m] <;> rfl
  | false =>
    obtain ⟨least, most⟩ := (mode : 1 ≤ d.link.mode ∧ d.link.mode ≤ 3)
    simp [within, least, most]

/-- A refresh pauses nothing. -/
theorem ideKm_refresh : ideKm session cxl 1 d = d := by simp [ideKm]

/-- Set and end leave the stream as asked, and the other one as it was. -/
theorem ideKm_sets (allowed : IdeAllowed session cxl d = true) {action : Nat} (sets : action ≠ 1) :
    IdeOn cxl (ideKm session cxl action d).link = (action == 0) ∧ IdeOn (!cxl) (ideKm session cxl action d).link = IdeOn (!cxl) d.link := by
  unfold IdeAllowed at allowed
  simp only [ideKm, allowed, Bool.not_true, Bool.false_or, sets, decide_false]
  cases cxl
  all_goals
    simp only [if_true, Bool.false_eq_true, if_false]
    split
    · next same => exact ⟨eq_of_beq same, rfl⟩
    · exact ⟨rfl, rfl⟩

end Ide

/-! ### PLDM (10 R313, R315) -/

theorem pldmSensor_cases (n : Nat) (d : Device) :
    ((1 ≤ n ∧ n ≤ 12 ∧ (d.mctpAsleep = true → n = 1 ∨ n = 6 ∨ n = 11 ∨ n = 12)) → pldmSensor n d =
      d.mctpAnswer (.sensor (sensorValue n d) ((sensorLimits n d).1.map Int.ofNat) ((sensorLimits n d).2.map Int.ofNat))) ∧
    (¬(1 ≤ n ∧ n ≤ 12 ∧ (d.mctpAsleep = true → n = 1 ∨ n = 6 ∨ n = 11 ∨ n = 12)) → pldmSensor n d = d.mctpAnswer .unavailable) := by
  have refuses : (!within 1 12 n || (d.mctpAsleep && !(n == 1 || n == 6 || n == 11 || n == 12))) = true ↔
      ¬(1 ≤ n ∧ n ≤ 12 ∧ (d.mctpAsleep = true → n = 1 ∨ n = 6 ∨ n = 11 ∨ n = 12)) := by
    cases d.mctpAsleep <;> simp [within] <;> omega
  exact ⟨fun answers => if_neg (fun r => refuses.mp r answers), fun silent => if_pos (refuses.mpr silent)⟩

theorem pldmSensor_rings (n : Nat) (d : Device) : (pldmSensor n d).rk.rings = d.rk.rings := by
  unfold pldmSensor
  split <;> rfl

/-- Settles O42: each message is answered by its protocol's function, and its cases are read off. -/
theorem messagesAreAnswered : Obligations.MessagesAreAnswered := by
  intro t s d
  refine ⟨fun up => ⟨⟨_, rfl, doeRequest_up up 1 0⟩, ⟨doeRequest 0x1E98 2 d, rfl, ?cdat⟩, fun type spdm => ⟨_, rfl, doeRequest_spdm up spdm⟩,
      fun vendor type pci cxl => ⟨_, rfl, doeRequest_unknown up pci cxl⟩⟩,
    fun mctp session p2 sec way => ⟨⟨spdmRequest mctp 0xE0 (session, p2) d, rfl, ?measure⟩, ⟨_, rfl, ?exchange⟩, ⟨_, rfl, ?endSession⟩⟩,
    fun session cxl up sec open_ mode => ?ide, fun session cxl action mctpOnly => ?refused, fun code => ⟨_, rfl, rfl, rfl⟩,
    fun n => ⟨pldmSensor n d, rfl, pldmSensor_rings n d, ?pldm⟩⟩
  case cdat =>
    intro mode
    rw [doeRequest_up up, LinkState.windowRate, mode]
    rfl
  case measure =>
    have reaches : SpdmReaches mctp d := ⟨sec, way⟩
    refine ⟨spdmRequest_sessions reaches _ _, d.measurements p2, ?_, ?_, measurements_one d, measurements_hold⟩
    · obtain ⟨d1, _, answer⟩ := spdmRequest_reaches reaches 0xE0 (session, p2)
      rw [answer]
      cases mctp <;> rfl
    · rintro rfl
      exact measurements_all d
  case exchange => rw [spdmRequest_sessions ⟨sec, way⟩, sessions_keyExchange]
  case endSession =>
    intro z
    rw [spdmRequest_sessions ⟨sec, way⟩, mem_sessions_endSession]
  case ide =>
    have allowed := ideAllowed_of_open up sec open_ mode
    have set_ := ideKm_sets allowed (action := 0) (by decide)
    have end_ := ideKm_sets allowed (action := 2) (by decide)
    refine ⟨⟨_, rfl, set_.1, ?_⟩, ⟨_, rfl, ideKm_refresh⟩, ⟨_, rfl, end_.1⟩⟩
    cases cxl <;> exact set_.2
  case refused =>
    have none_ : d.link.sessions.any (fun z => z.id == session && !z.mctp) = false :=
      List.any_eq_false.mpr fun z mem => by
        have := mctpOnly z mem
        simpa using this
    have no : IdeAllowed session cxl d = false := by rw [IdeAllowed, none_, Bool.and_false, Bool.false_and]
    show Host.Outcome.next { s with dev := ideKm session cxl action d } = _
    rw [ideKm_refused no]
  case pldm =>
    obtain ⟨answers, silent⟩ := pldmSensor_cases n d
    exact ⟨fun h => by rw [answers h]; rfl, fun h => by rw [silent h]; rfl⟩

end Sys2Proof.Proofs

/-!
PROOF. How entries are taken (11 R320, R324 to R328, R344; 10 R314): which ring is served, and what taking its head entry does.
-/
namespace Sys2Proof.Proofs

open Sys2Proof Sys2Proof.Machine Sys2Proof.Laws

/-! ### The ring that is served next (11 R320) -/

/-- The rings whose head entry can be taken now. -/
def ableRings (d : Device) : List Nat := (List.range 4).filter (fun r => d.offers r && !d.cqShort r)

theorem mem_ableRings {d : Device} {r : Nat} : r ∈ ableRings d ↔ r < 4 ∧ d.offers r = true ∧ d.cqShort r = false := by
  rw [ableRings, List.mem_filter, List.mem_range, Bool.and_eq_true, Bool.not_eq_true']

/-- Of the rings gone through, the one kept has the earliest answer deadline. -/
theorem foldl_sooner (d : Device) (l : List Nat) (b : Nat) :
    ∃ r, l.foldl d.sooner (some b) = some r ∧ r ∈ b :: l ∧ ∀ k ∈ b :: l, d.answerBy r ≤ d.answerBy k := by
  induction l generalizing b with
  | nil => exact ⟨b, rfl, List.mem_singleton.mpr rfl, fun k mem => by rw [List.mem_singleton.mp mem]⟩
  | cons x l ih =>
    rcases Nat.lt_or_ge (d.answerBy x) (d.answerBy b) with sooner | later
    · obtain ⟨r, found, mem, least⟩ := ih x
      refine ⟨r, by rw [List.foldl_cons, Device.sooner, if_pos sooner, found], List.mem_cons_of_mem b mem, fun k among => ?_⟩
      rcases List.mem_cons.mp among with rfl | among
      · exact (least x List.mem_cons_self).trans sooner.le
      · exact least k among
    · obtain ⟨r, found, mem, least⟩ := ih b
      refine ⟨r, by rw [List.foldl_cons, Device.sooner, if_neg later.not_gt, found], ?_, fun k among => ?_⟩
      · rcases List.mem_cons.mp mem with rfl | mem
        · exact List.mem_cons_self
        · exact List.mem_cons_of_mem _ (List.mem_cons_of_mem _ mem)
      · rcases List.mem_cons.mp among with rfl | among
        · exact least k List.mem_cons_self
        · rcases List.mem_cons.mp among with rfl | among
          · exact (least b List.mem_cons_self).trans later
          · exact least k (List.mem_cons_of_mem b among)

/-- CR0 where it can be served, else the ring of the earliest answer deadline. -/
theorem nextRing_some {d : Device} {r : Nat} (next : d.nextRing = some r) :
    r ∈ ableRings d ∧ (0 ∈ ableRings d → r = 0) ∧ (r ≠ 0 → ∀ k ∈ ableRings d, d.answerBy r ≤ d.answerBy k) := by
  change (if (ableRings d).contains 0 then some 0 else (ableRings d).foldl d.sooner none) = some r at next
  split at next
  · next zero =>
    cases next
    exact ⟨List.contains_iff_mem.mp zero, fun _ => rfl, fun other => absurd rfl other⟩
  · next noZero =>
    cases able : ableRings d with
    | nil => rw [able] at next; cases next
    | cons b l =>
      obtain ⟨m, found, mem, least⟩ := foldl_sooner d l b
      rw [able] at next noZero
      cases found.symm.trans next
      exact ⟨mem, fun zero => absurd (List.contains_iff_mem.mpr zero) noZero, fun _ => least⟩

theorem nextRing_none {d : Device} (next : d.nextRing = none) : ableRings d = [] := by
  change (if (ableRings d).contains 0 then some 0 else (ableRings d).foldl d.sooner none) = none at next
  split at next
  · cases next
  · cases able : ableRings d with
    | nil => rfl
    | cons b l =>
      obtain ⟨m, found, _, _⟩ := foldl_sooner d l b
      rw [able] at next
      cases found.symm.trans next

/-! ### Rings whose entries can reserve their slots stand as they stood (11 R339) -/

/-- `e` is `d` but for the rings' table, and each ring reads as it read. -/
def SameRings (d e : Device) : Prop := ∃ rings : Tab Ring, e = { d with rk := { d.rk with rings := rings } } ∧ ∀ r, e.rk.ring r = d.rk.ring r

theorem SameRings.refl (d : Device) : SameRings d d := ⟨d.rk.rings, rfl, fun _ => rfl⟩

section Same
variable {d e : Device} (same : SameRings d e) (r : Nat)
include same

theorem SameRings.ring : e.rk.ring r = d.rk.ring r := same.choose_spec.2 r

theorem SameRings.offers : e.offers r = d.offers r := by
  obtain ⟨rings, rfl, read⟩ := same
  simp only [Device.offers, read]

theorem SameRings.cqShort : e.cqShort r = d.cqShort r := by
  obtain ⟨rings, rfl, read⟩ := same
  simp only [Device.cqShort, Device.cqActive, RanrokState.cqFree, RanrokState.cqHeld, Device.headEntry, read]
  rfl

theorem SameRings.answerBy : e.answerBy r = d.answerBy r := by
  obtain ⟨rings, rfl, read⟩ := same
  simp only [Device.answerBy, Device.countsFrom, Device.headStamp, Device.now, read]

omit r in
theorem SameRings.nextRing : e.nextRing = d.nextRing := by
  have sooner : e.sooner = d.sooner := by
    funext best r
    simp only [Device.sooner, same.answerBy]
  simp only [Device.nextRing, same.offers, same.cqShort, sooner]

/-- A ring that does not wait and whose entry can reserve its slots is not stalled. -/
theorem SameRings.stallRing (fits : d.offers r = true → d.cqShort r = false) (flows : (d.rk.ring r).cqWait = false) : SameRings d (e.stallRing r) := by
  have goes : (e.offers r && e.cqShort r) = false := by
    rw [same.offers, same.cqShort]
    cases offers : d.offers r with
    | false => rfl
    | true => exact fits offers
  have still : ({ e.rk.ring r with cqWait := false } : Ring) = e.rk.ring r := by
    rw [← flows, same.ring r]
  rw [Device.stallRing, goes, if_neg Bool.false_ne_true, still]
  obtain ⟨rings, rfl, read⟩ := same
  refine ⟨Tab.put r _ rings, rfl, fun k => ?_⟩
  refine Eq.trans ?_ (read k)
  rcases eq_or_ne k r with rfl | other
  · exact read_put_same ..
  · exact read_put_other other ..

omit r in
theorem SameRings.stallRings {l : List Nat} (fits : ∀ r ∈ l, d.offers r = true → d.cqShort r = false) (flow : ∀ r ∈ l, (d.rk.ring r).cqWait = false) :
    SameRings d (l.foldl Device.stallRing e) := by
  induction l generalizing e with
  | nil => exact same
  | cons r l ih =>
    exact ih (same.stallRing r (fits r List.mem_cons_self) (flow r List.mem_cons_self)) (fun k mem => fits k (List.mem_cons_of_mem r mem))
      (fun k mem => flow k (List.mem_cons_of_mem r mem))

end Same

/-! ### The rings' registers through a final (11 R336, R348) -/

/-- What an answer's account leaves of a ring: HEAD, TAKEN, BUSY, BUSY_STOP and its hint. -/
def ringRegs (g : Ring) : Nat × Nat × Nat × Bool × Nat := (g.head, g.taken, g.busy, g.busyStop, g.busyHint)

theorem ringRegs_answered (now seq : Nat) (g : Ring) : ringRegs (g.answered now seq) = ringRegs g := by
  unfold Ring.answered
  split <;> rfl

theorem ringRegs_conclude (fs : List (Taken × CRec)) (g : Ring) : ringRegs (fs.foldl (fun g x => g.conclude x.2) g) = ringRegs g := by
  induction fs generalizing g with
  | nil => rfl
  | cons x fs ih => exact ih (g.conclude x.2)

theorem ringRegs_flushRing (r : Nat) (d : Device) : ringRegs ((d.flushRing r).rk.ring r) = ringRegs (d.rk.ring r) :=
  (congrArg ringRegs (read_put_same r _ Ring.reset d.rk.rings)).trans (ringRegs_conclude _ _)

theorem ringRegs_decideFinal (r seq tag status detail : Nat) (frame : Option Nat) (eff : Nat) (d : Device) :
    ringRegs ((d.decideFinal (.ring r seq) tag status detail frame eff).rk.ring r) = ringRegs (d.rk.ring r) := by
  refine (ringRegs_flushRing r _).trans ((congrArg ringRegs (read_put_same r _ Ring.reset d.rk.rings)).trans ?_)
  exact ringRegs_answered d.now seq (d.rk.ring r)

/-- A BUSY answer stops the ring with its hint and counts. -/
theorem ringRegs_decide_busy (r seq tag hint : Nat) (eff : Nat) (d : Device) : let g := d.rk.ring r
    ringRegs ((d.decide (.ring r seq) tag stBusy hint none eff).rk.ring r) = (g.head, g.taken, satAdd max64 g.busy 1, true, hint) := by
  have final := ringRegs_decideFinal r seq tag stBusy hint none eff d
  generalize ends : d.decideFinal (.ring r seq) tag stBusy hint none eff = e at final
  simp only [ringRegs, Prod.mk.injEq] at final
  obtain ⟨head, taken, busy, _, _⟩ := final
  simp only [Device.decide, if_true, ends]
  refine (congrArg ringRegs (read_put_same r _ Ring.reset e.rk.rings)).trans ?_
  simp only [ringRegs, head, taken, busy]

/-! ### Taking the head entry (11 R320, R324, R326) -/

/-- The module with the head entry of ring `r` taken. -/
def headTaken (r : Nat) (e : Bytes) (d : Device) : Device := (d.setRing r (d.rk.ring r).pass).takeEntry r e (some (d.headStamp r))

theorem headTaken_ring (r : Nat) (e : Bytes) (d : Device) : let g := (headTaken r e d).rk.ring r
    ringRegs g = (((d.rk.ring r).head + 1) % 2 ^ 32, (d.rk.ring r).taken + 1, (d.rk.ring r).busy, (d.rk.ring r).busyStop, (d.rk.ring r).busyHint) := by
  have passed : (d.setRing r (d.rk.ring r).pass).rk.ring r = (d.rk.ring r).pass := read_put_same ..
  refine (congrArg ringRegs (read_put_same r _ Ring.reset _)).trans ?_
  rw [passed]
  rfl

/-- The head entry of a stopped ring is taken and answered BUSY with the ring's own hint. -/
theorem takeHead_stopped {r : Nat} {d : Device} (stopped : (d.rk.ring r).busyStop = true) (estimate hint : Nat) : ∃ tag : Nat,
    takeHead r estimate hint d = (headTaken r (d.takenBytes r (d.headBad r)) d).decide (.ring r (d.rk.ring r).taken) tag stBusy (d.rk.ring r).busyHint
      none d.now := by
  refine ⟨rdLE (d.takenBytes r (d.headBad r)) 4 4, ?_⟩
  have busy : d.mustBusy r estimate = true := by rw [Device.mustBusy, stopped, Bool.true_or]
  simp only [takeHead, busy, stopped, if_true]
  rfl

/-- A BUSY answer of a stopped ring counts, and changes nothing of the programme. -/
theorem takeHead_stopped_regs {r : Nat} {d : Device} (stopped : (d.rk.ring r).busyStop = true) (estimate hint : Nat) :
    let g := d.rk.ring r
    let e := takeHead r estimate hint d
    ringRegs (e.rk.ring r) = ((g.head + 1) % 2 ^ 32, g.taken + 1, satAdd max64 g.busy 1, true, g.busyHint) ∧
    e.code = d.code ∧ e.out = d.out ∧ e.sched = d.sched := by
  obtain ⟨tag, answer⟩ := takeHead_stopped stopped estimate hint
  have taken := headTaken_ring r (d.takenBytes r (d.headBad r)) d
  simp only [ringRegs, Prod.mk.injEq] at taken
  obtain ⟨head, count, busy, _, _⟩ := taken
  refine ⟨?_, ?_, ?_, ?_⟩ <;> rw [answer]
  · rw [ringRegs_decide_busy, head, count, busy]
  all_goals rfl

/-- The head entry of a ring that goes on, whole and answered in time, is taken, and its command runs. -/
theorem takeHead_runs {r estimate hint : Nat} {d : Device} {sp : CmdSpec} (inTime : d.mustBusy r estimate = false) (whole : d.headBad r = false)
    (found : specOf (rdLE (d.headEntry r) 0 2) = some sp) : let b := headTaken r (d.headEntry r) d
    takeHead r estimate hint d = runTaken sp r ⟨.ring r (d.rk.ring r).taken, d.headEntry r, b.fetchBlock sp (d.headEntry r), d.now⟩ b := by
  simp only [takeHead, inTime, whole, Device.takenBytes, Bool.false_eq_true, if_false, runEntry, found]
  rfl

theorem now_stallRings (l : List Nat) (d : Device) : (l.foldl Device.stallRing d).now = d.now := by
  induction l generalizing d with
  | nil => rfl
  | cons r l ih =>
    refine (ih (d.stallRing r)).trans ?_
    unfold Device.stallRing
    dsimp only
    split
    · split <;> rfl
    · rfl

theorem cmdEntryTake_next {d : Device} (fw : d.rk.mgmtUp = true) (ring : d.cqActive = true) {r : Nat}
    (next : ((List.range 4).foldl Device.stallRing d).nextRing = some r) (estimates : List Nat) (hint : Nat) :
    cmdEntryTake estimates hint d = takeHead r (estimates.getD r 0) hint ((List.range 4).foldl Device.stallRing d) := by
  simp only [cmdEntryTake, fw, ring, Bool.and_self, if_true, next]

/-! ### Commands over MCTP (10 R314) -/

section Mctp
variable {d : Device} (closed : d.rk.mctpOpen = false) (awake : d.mctpAsleep = false) (fw : d.rk.mgmtUp = true) (entry : Bytes)
include closed awake fw

theorem mctpVendor_runs : mctpVendor entry d = runMctp (entry64 entry) d := by
  simp only [mctpVendor, closed, awake, fw, Bool.false_eq_true, if_false, if_true]

end Mctp

theorem runMctp_outside {e : Bytes} {d : Device} (outside : mctpOpcodes.contains (rdLE e 0 2) = false) : runMctp e d =
    ({ d with rk := { d.rk with mctpOpen := true, mctpReply := none, mctpCount := d.rk.mctpCount + 1 } } : Device).decideCtx
      ⟨.mctp, e, [], d.now⟩ stNotSupported 0 none d.now := by
  simp only [runMctp, Ctx.opcode, outside, Bool.false_and, Bool.false_eq_true, if_false]

/-- RANROK_NOP over MCTP passes its checks and is answered OK. -/
theorem runMctp_nop {e : Bytes} {d : Device} (nop : rdLE e 0 2 = 2) (awake : d.rescue = false)
    (whole : entryCheck ranrokNop none ⟨.mctp, e, [], d.now⟩ = none) (block : blockCheck ranrokNop d true ⟨.mctp, e, [], d.now⟩ = none)
    (handle : rdLE e 8 2 = 0) : (runMctp e d).rk.mctpReply = some (.record ⟨rdLE e 4 4, stOk, 0, false, 0, none, d.now⟩) := by
  have known : d.implements 2 = true := by
    rw [Device.implements, awake]
    decide
  have found : specOf 2 = some ranrokNop := rfl
  have passes : handleZero ⟨.mctp, e, [], d.now⟩ = none := by simp [handleZero, badParam, Ctx.handle, handle]
  have listed : mctpOpcodes.contains 2 = true := by decide
  simp only [runMctp, Ctx.opcode, nop, known, listed, Bool.and_self, if_true, found]
  generalize opened : ({ d with rk := { d.rk with mctpOpen := true, mctpReply := none, mctpCount := d.rk.mctpCount + 1 } } : Device) = d1
  have blockOpen : blockCheck ranrokNop d1 true ⟨.mctp, e, [], d.now⟩ = none := block
  have check : ranrokNop.check ⟨.mctp, e, [], d.now⟩ (aheadOf d1) = none := passes
  simp only [CmdSpec.run, whole, Option.isNone_none, blockOpen, check]
  rfl

/-- Settles O46: the ring served is read off the filter and the fold of `nextRing`; the head entry's three outcomes, a released unit and an MCTP command have a
lemma each. -/
theorem entriesAreTakenInOrder : Obligations.EntriesAreTakenInOrder := by
  intro t s d
  refine ⟨?shut, ?stopped, ?runs, ⟨fun r next => ?served, fun next r low offers => ?none⟩, ?released, ?mctp⟩
  case shut =>
    intro estimates hint shut
    show Host.Outcome.next { s with dev := cmdEntryTake estimates hint d } = _
    have no : (d.rk.mgmtUp && d.cqActive) = false := by
      rcases shut with h | h <;> simp [h]
    rw [cmdEntryTake, no, if_neg Bool.false_ne_true]
  case stopped =>
    intro estimates hint fw ring fits flow r next stopped
    have same : SameRings d ((List.range 4).foldl Device.stallRing d) :=
      (SameRings.refl d).stallRings (fun k mem => fits k (List.mem_range.mp mem)) (fun k mem => flow k (List.mem_range.mp mem))
    refine ⟨cmdEntryTake estimates hint d, rfl, ?_⟩
    rw [cmdEntryTake_next fw ring (same.nextRing.trans next)]
    generalize (List.range 4).foldl Device.stallRing d = a at same
    have ringSame := same.ring r
    obtain ⟨regs, code, out, sched⟩ := takeHead_stopped_regs (ringSame ▸ stopped) (estimates.getD r 0) hint
    simp only [ringRegs, Prod.mk.injEq, ringSame] at regs
    obtain ⟨head, taken, busy, stop, hintSame⟩ := regs
    obtain ⟨rings, rfl, _⟩ := same
    exact ⟨head, taken, busy, stop, hintSame, code, out, sched⟩
  case runs =>
    intro estimates hint fw ring a r sp next inTime whole found g e b
    show Host.Outcome.next { s with dev := cmdEntryTake estimates hint d } = _
    rw [cmdEntryTake_next fw ring next, takeHead_runs inTime whole found, now_stallRings]
    rfl
  case served =>
    obtain ⟨mem, zero, least⟩ := nextRing_some next
    obtain ⟨low, offers, fits⟩ := mem_ableRings.mp mem
    exact ⟨low, offers, fits, fun o f => zero (mem_ableRings.mpr ⟨by decide, o, f⟩),
      fun other k lowK o f => least other k (mem_ableRings.mpr ⟨lowK, o, f⟩)⟩
  case none =>
    have none_ : r ∉ ableRings d := nextRing_none next ▸ List.not_mem_nil
    by_contra fits
    exact none_ (mem_ableRings.mpr ⟨low, offers, Bool.eq_false_iff.mpr fits⟩)
  case released =>
    intro w rest taken sp found passes
    show Host.Outcome.next { s with dev := unitReleased d } = _
    simp only [unitReleased, taken, found, runWaiting]
    rw [show ({ d with rk := { d.rk with waiting := rest } } : Device).now = d.now from rfl, passes]
  case mctp =>
    intro entry closed awake fw
    refine ⟨mctpVendor entry d, rfl, ?_⟩
    rw [mctpVendor_runs closed awake fw]
    refine ⟨fun outside => ?_, fun nop whole block handle rescue => runMctp_nop nop rescue whole block handle⟩
    rw [runMctp_outside outside]
    exact ⟨rfl, rfl, rfl, rfl, rfl⟩
end Sys2Proof.Proofs

/-!
PROOF. The step, the reset values, and the command interface (11): what a final does to its ring is said once for an entry with nothing open before it and once for
one behind an open entry; refusals and RANROK_NOP are both such finals.
-/
namespace Sys2Proof.Proofs

open Sys2Proof Sys2Proof.Machine Sys2Proof.Laws

/-! ### A step of the queue, and the module after reset (11 R317, R319) -/

/-- Settles O1: a step is `exec` of the front command by definition. -/
theorem stepRunsTheFrontCommand : Obligations.StepRunsTheFrontCommand := fun _ _ => ⟨rfl, rfl⟩

/-- Settles O4: the module after reset lists nothing, so that each register reads as its record's own reset value. -/
theorem resetLeavesTheStatedValues : Obligations.ResetLeavesTheStatedValues :=
  ⟨rfl, rfl, rfl, rfl, fun _ => ⟨rfl, rfl, rfl, rfl, rfl, rfl, rfl, rfl⟩, rfl, rfl, rfl, rfl, rfl, rfl, fun _ => ⟨rfl, rfl, rfl⟩, rfl, rfl, rfl, rfl⟩

/-! ### A ring's records in posting order (11 R336, R348) -/

/-- A ring once the records that are due have been written. -/
def flushed (g : Ring) : Ring :=
  (takeFinals (takeAcks g.order).1).2.foldl (fun g x => g.conclude x.2) { g with order := (takeFinals (takeAcks g.order).1).1 }

theorem ring_flushRing (r : Nat) (d : Device) : (d.flushRing r).rk.ring r = flushed (d.rk.ring r) := read_put_same ..

theorem takeAcks_keeps_finals (l : List Taken) : (takeAcks l).1.map (·.final) = l.map (·.final) := by
  induction l with
  | nil => rfl
  | cons x l ih =>
    rw [takeAcks]
    split
    · exact congrArg (x.final :: ·) ih
    · split
      · rfl
      · exact congrArg (x.final :: ·) ih

/-- An entry whose final is open holds back every final behind it. -/
theorem takeFinals_of_open {l : List Taken} {xs : List (Option CRec)} (finals : l.map (·.final) = none :: xs) : takeFinals l = (l, []) := by
  cases l with
  | nil => cases finals
  | cons y l =>
    have undecided : y.final = none := (List.cons.inj finals).1
    simp only [takeFinals, undecided]

/-- The final of an entry with this tag. -/
def finalOf (r status detail : Nat) (frame : Option Nat) (eff tag : Nat) : CRec := ⟨tag, status, r, false, detail, frame, eff⟩

/-- A ring with the final of its entry `seq` decided, before the records that are due are written. -/
def decided (now seq : Nat) (final : Nat → CRec) (g : Ring) : Ring :=
  (g.answered now seq).updTaken seq (fun x => { x with ackSlot := x.ackSlot && x.ack.isSome, final := some (final x.tag) })

theorem ring_decide {status : Nat} (notBusy : status ≠ stBusy) (r seq tag detail : Nat) (frame : Option Nat) (eff : Nat) (d : Device) :
    (d.decide (.ring r seq) tag status detail frame eff).rk.ring r =
      flushed (decided d.now seq (finalOf r status detail frame eff) (d.rk.ring r)) := by
  rw [Device.decide, if_neg notBusy]
  exact (ring_flushRing ..).trans (congrArg flushed (read_put_same ..))

section Decided
variable (now seq : Nat) (final : Nat → CRec) (g : Ring)

theorem decided_posted : (decided now seq final g).done = g.done ∧ (decided now seq final g).results = g.results := by
  unfold decided Ring.answered
  split <;> exact ⟨rfl, rfl⟩

theorem finals_decided :
    (decided now seq final g).order.map (·.final) = g.order.map (fun y => if y.seq = seq then some (final y.tag) else y.final) := by
  unfold decided Ring.answered
  split
  · simp only [Ring.updTaken, List.map_map]
    refine List.map_congr_left fun y _ => ?_
    by_cases same : y.seq = seq <;> simp [same]
  · simp only [Ring.updTaken, List.map_map]
    refine List.map_congr_left fun y _ => ?_
    by_cases same : y.seq = seq <;> simp [same]

/-- With one entry open, and no posting stamp or ACCEPTED record of it, deciding it changes that entry alone. -/
theorem decided_alone {x : Taken} (alone : g.order = [x]) (same : x.seq = seq) (stamp : x.stamp = none) (ack : x.ack = none) :
    decided now seq final g = { g with order := [{ x with ackSlot := false, final := some (final x.tag) }] } := by
  simp [decided, Ring.answered, Ring.updTaken, alone, same, stamp, ack]

end Decided

/-- Behind an open entry a decided final waits: the account of finals stands, and the order holds what it held. -/
theorem flushed_of_open {g : Ring} {xs : List (Option CRec)} (finals : g.order.map (·.final) = none :: xs) :
    (flushed g).done = g.done ∧ (flushed g).results = g.results ∧ (flushed g).order.map (·.final) = g.order.map (·.final) := by
  have acks := takeAcks_keeps_finals g.order
  have rest : takeFinals (takeAcks g.order).1 = ((takeAcks g.order).1, []) := takeFinals_of_open (acks.trans finals)
  rw [flushed, rest]
  exact ⟨rfl, rfl, acks⟩

/-- With no other entry open a decided final goes into its result slot at once. -/
theorem flushed_of_alone {g : Ring} {x : Taken} {f : CRec} (alone : g.order = [x]) (noAck : x.ackSlot = false) (final : x.final = some f) :
    flushed g = { g with order := [] }.conclude f := by
  simp [flushed, alone, takeAcks, noAck, takeFinals, final]

/-- What a ring yields with its next entry: no answer given, no posting stamp kept. -/
def freshTaken (g : Ring) (e : Bytes) (d : Device) : Taken :=
  ⟨g.taken, rdLE e 4 4, natBit (rdLE e 2 2) 2, natBit (rdLE e 2 2) 1, d.rk.cq.valid && d.link.bme, none, none, none⟩

/-- A ring that has yielded the entry `x`. -/
def yielded (g : Ring) (x : Taken) : Ring := { g with order := g.order ++ [x], taken := g.taken + 1 }

theorem ring_takeEntry (r : Nat) (e : Bytes) (d : Device) :
    (d.takeEntry r e none).rk.ring r = yielded (d.rk.ring r) (freshTaken (d.rk.ring r) e d) := read_put_same ..

section Entry
variable (r : Nat) (e : Bytes) (d : Device) {status : Nat} (notBusy : status ≠ stBusy) (tag detail : Nat) (frame : Option Nat) (eff : Nat)
include notBusy

/-- An entry decided at its answer, with no earlier one of its ring open: its final stands in its result slot. -/
theorem ring_decide_alone (none_ : (d.rk.ring r).order = []) :
    ((d.takeEntry r e none).decide (.ring r (d.rk.ring r).taken) tag status detail frame eff).rk.ring r =
      { d.rk.ring r with order := [], taken := (d.rk.ring r).taken + 1 }.conclude (finalOf r status detail frame eff (rdLE e 4 4)) := by
  have order : (yielded (d.rk.ring r) (freshTaken (d.rk.ring r) e d)).order = [freshTaken (d.rk.ring r) e d] := congrArg (· ++ _) none_
  rw [ring_decide notBusy, ring_takeEntry, decided_alone _ (d.rk.ring r).taken _ _ order rfl rfl rfl]
  exact flushed_of_alone rfl rfl rfl

/-- An entry decided at its answer waits in posting order behind an open one at the head of its ring. -/
theorem ring_decide_behind {x : Taken} {rest : List Taken} (order : (d.rk.ring r).order = x :: rest) (undecided : x.final = none)
    (other : x.seq ≠ (d.rk.ring r).taken) :
    let g := (d.takeEntry r e none).decide (.ring r (d.rk.ring r).taken) tag status detail frame eff |>.rk.ring r
    g.done = (d.rk.ring r).done ∧ g.results = (d.rk.ring r).results ∧
      g.order.map (·.final) = ((d.rk.ring r).order ++ [freshTaken (d.rk.ring r) e d]).map
        (fun y => if y.seq = (d.rk.ring r).taken then some (finalOf r status detail frame eff y.tag) else y.final) := by
  intro g
  have finals := finals_decided (d.takeEntry r e none).now (d.rk.ring r).taken (finalOf r status detail frame eff) ((d.takeEntry r e none).rk.ring r)
  obtain ⟨done, results⟩ := decided_posted (d.takeEntry r e none).now (d.rk.ring r).taken (finalOf r status detail frame eff)
    ((d.takeEntry r e none).rk.ring r)
  rw [ring_takeEntry] at finals done results
  have head := finals
  rw [show (yielded (d.rk.ring r) (freshTaken (d.rk.ring r) e d)).order = x :: (rest ++ [_]) from congrArg (· ++ _) order, List.map_cons, if_neg other,
    undecided] at head
  obtain ⟨flushDone, flushResults, flushOrder⟩ := flushed_of_open head
  have ring : g = flushed _ := (ring_decide notBusy ..).trans (by rw [ring_takeEntry])
  rw [ring]
  exact ⟨flushDone.trans done, flushResults.trans results, flushOrder.trans finals⟩

end Entry

/-- The refusal of a taken entry is decided at its answer (11 R321 to R323, R329). -/
theorem runRow_of_refused {sp : CmdSpec} {t : Nat} {ring : Fin 4} {entry : Bytes} {s : State} {status detail : Nat}
    (known : (takenAt t ring entry s).implements sp.op = true)
    (refused : let c := ctxAt sp t ring entry s
      let d := takenAt t ring entry s
      entryCheck sp (some ring.val) c = some (status, detail) ∨
        (entryCheck sp (some ring.val) c = none ∧ blockCheck sp d false c = some (status, detail)) ∨
        (entryCheck sp (some ring.val) c = none ∧ blockCheck sp d false c = none ∧ sp.check c (aheadOf d) = some (status, detail))) :
    runRow sp ring entry (s.dev.at_ t) =
      (takenAt t ring entry s).decideCtx (ctxAt sp t ring entry s) status detail none (ctxAt sp t ring entry s).now := by
  change runTaken sp ring (ctxAt sp t ring entry s) (takenAt t ring entry s) = _
  rw [runTaken, if_pos known, CmdSpec.run]
  rcases refused with entryBad | ⟨entryOk, blockBad⟩ | ⟨entryOk, blockOk, chapterBad⟩
  · simp only [entryBad]
  · simp only [entryOk, Option.isNone_some, blockBad]
  · simp only [entryOk, Option.isNone_some, blockOk, chapterBad]

/-- Settles O43: whichever check refuses, the entry is decided at its answer, and its ring tells whether the final waits. -/
theorem refusedCommandsChangeNothing : Obligations.RefusedCommandsChangeNothing := by
  intro i sp t ring entry s row d c known open_ status detail refused notBusy
  refine ⟨_, exec_of_ringRow row s, ?_⟩
  rw [runRow_of_refused known refused]
  refine ⟨decide_accounts _ _ _ _ _ _ _ _ notBusy, fun none_ => ?_, fun some_ => ?_⟩
  · have ring := ring_decide_alone ring (entry64 entry) (s.dev.at_ t) notBusy c.tag detail none c.now none_
    exact ⟨(congrArg (Tab.find _ ·.results) ring).trans (find_put_same ..), congrArg (·.order) ring⟩
  · obtain ⟨x, rest, order⟩ := List.exists_cons_of_ne_nil some_
    have head := open_ x (order ▸ List.mem_cons_self)
    obtain ⟨-, results, finals⟩ := ring_decide_behind ring (entry64 entry) (s.dev.at_ t) notBusy c.tag detail none c.now order head.2 head.1
    refine ⟨results, finals.trans ?_⟩
    rw [List.map_append]
    congr 1
    · exact List.map_congr_left fun y mem => if_neg (open_ y mem).1
    · simp [freshTaken, finalOf]
      rfl

/-! ### The interface's own commands (11 R351, R352) -/

theorem implements_nop (d : Device) : d.implements 2 = true := by
  unfold Device.implements
  split <;> decide

/-- A NOP whose fields are all 0 passes its checks on every ring (11 R352). -/
theorem entryCheck_nop {c : Ctx} (ring : Option Nat) (few : c.flags < 8) (noBlock : natBit c.flags 0 = false) (zero : rdLE c.entry 11 1 = 0) (now : c.effect = 0)
    (ns : c.effectNs = 0) (value : c.effectValue = 0) : entryCheck ranrokNop ring c = none := by
  simp [entryCheck, firstRefusal, few, noBlock, zero, now, ns, value, ranrokNop, Sel.accepts]

theorem blockCheck_nop {c : Ctx} (d : Device) (params : rdLE c.params 0 40 = 0) : blockCheck ranrokNop d false c = none := by
  simp [blockCheck, ranrokNop, zerosIn, params]

theorem handleZero_of_zero {c : Ctx} (handle : c.handle = 0) : handleZero c = none := by simp [handleZero, badParam, handle]

/-- A NOP that passes its checks is decided OK at its answer. -/
theorem exec_nop_of_passes {t : Nat} {ring : Fin 4} {entry : Bytes} {s : State} (ok : passes ranrokNop t ring entry s = true) :
    let c := ctxAt ranrokNop t ring entry s
    exec (.ranrokNop t ring entry) s = .next { s with dev := (takenAt t ring entry s).decideCtx c stOk 0 none c.now } := by
  intro c
  rw [exec_of_ringRow rfl, runRow_of_passes _ _ _ _ _ ok rfl]
  rfl

/-- Settles O44: neither command can fail, and a NOP's final is decided as any other at its answer. -/
theorem interfaceCommandsTakeEffect : Obligations.InterfaceCommandsTakeEffect := by
  intro t ring entry s
  refine ⟨commandDoes_of_ok rfl fun _ _ => rfl, commandDoes_of_ok rfl fun _ _ => rfl, ?_⟩
  intro c g few noBlock zero now ns value handle params
  have ok : passes ranrokNop t ring entry s = true := by
    simp only [passes, Bool.and_eq_true, Option.isNone_iff_eq_none]
    exact ⟨⟨⟨implements_nop _, entryCheck_nop _ few noBlock zero now ns value⟩, blockCheck_nop _ params⟩, handleZero_of_zero handle⟩
  refine ⟨ok, _, exec_nop_of_passes ok, fun none_ => ?_, fun x rest order undecided other => ?_⟩
  · have ring := ring_decide_alone ring (entry64 entry) (s.dev.at_ t) (status := stOk) (by decide) c.tag 0 none c.now none_
    exact ⟨(congrArg (Tab.find _ ·.results) ring).trans (find_put_same ..), congrArg (·.done) ring, congrArg (·.order) ring⟩
  · obtain ⟨done, results, finals⟩ := ring_decide_behind ring (entry64 entry) (s.dev.at_ t) (status := stOk) (by decide) c.tag 0 none c.now order undecided other
    refine ⟨done, results, ?_⟩
    have length := congrArg List.length finals
    rw [List.length_map, List.length_map, List.length_append] at length
    exact length

/-! ### The registers of the rings (11 R318, R319, R326, R338) -/

/-- Every entry of a run of posted entries gets the moment of its posting. -/
theorem find_stampAll (now start n : Nat) (m : Tab Nat) {i : Nat} (posted : i < n) : Tab.find ((start + i) % 2 ^ 32) (stampAll now start n m) = some now := by
  induction n with
  | zero => exact absurd posted (Nat.not_lt_zero i)
  | succ n ih =>
    rw [stampAll, List.range_succ, List.foldl_append]
    change Tab.find _ (Tab.put ((start + n) % 2 ^ 32) now (stampAll now start n m)) = some now
    by_cases same : (start + i) % 2 ^ 32 = (start + n) % 2 ^ 32
    · rw [same, find_put_same]
    · rw [find_put_other same]
      exact ih (by rcases Nat.lt_or_eq_of_le (Nat.le_of_lt_succ posted) with less | rfl
                   · exact less
                   · exact absurd rfl same)

section Doorbells
variable (d : Device) (r : Nat)

theorem ringDoorbell_taken {tail : Nat} (onward : diff32 (d.rk.ring r).tail (d.rk.ring r).head ≤ diff32 tail (d.rk.ring r).head)
    (within : diff32 tail (d.rk.ring r).head ≤ (d.rk.ring r).size) :
    ringDoorbell r tail d = d.setRing r { d.rk.ring r with
      tail := tail, stamps := stampAll d.now (d.rk.ring r).tail (diff32 tail (d.rk.ring r).tail) (d.rk.ring r).stamps } := by
  simp only [ringDoorbell, Nat.not_lt.mpr within, Nat.not_lt.mpr onward, decide_false, Bool.or_self, Bool.false_eq_true, if_false]

theorem ringDoorbell_bad {tail : Nat}
    (bad : diff32 tail (d.rk.ring r).head < diff32 (d.rk.ring r).tail (d.rk.ring r).head ∨ (d.rk.ring r).size < diff32 tail (d.rk.ring r).head) :
    ringDoorbell r tail d = d.ringError r 1 := by
  simp only [ringDoorbell, Bool.or_eq_true, decide_eq_true_eq, bad.symm, if_true]

theorem ring_setRing (g : Ring) : (d.setRing r g).rk.ring r = g := read_put_same ..

theorem ringCfgWrite_sets {v : Nat} (least : 8 ≤ natBits v 4 4) (most : natBits v 4 4 ≤ 12)
    (fits : natBits v 4 4 = (d.rk.ring r).log2 ∨ (d.rk.ring r).head = (d.rk.ring r).tail) :
    ringCfgWrite r v d = d.setRing r { d.rk.ring r with enable := natBit v 0, log2 := natBits v 4 4 } := by
  simp only [ringCfgWrite, Nat.not_lt.mpr least, Nat.not_lt.mpr most, decide_false, Bool.or_self, Bool.false_eq_true, if_false]
  by_cases same : natBits v 4 4 = (d.rk.ring r).log2
  · simp only [same, if_true]
  · simp only [same, if_false, fits.resolve_left same, if_true]

theorem ringCfgWrite_occupied {v : Nat} (least : 8 ≤ natBits v 4 4) (most : natBits v 4 4 ≤ 12) (other : natBits v 4 4 ≠ (d.rk.ring r).log2)
    (occupied : (d.rk.ring r).head ≠ (d.rk.ring r).tail) : ringCfgWrite r v d = d.ringError r 3 := by
  simp only [ringCfgWrite, Nat.not_lt.mpr least, Nat.not_lt.mpr most, decide_false, Bool.or_self, Bool.false_eq_true, if_false, other, occupied]

theorem ringCfgWrite_range {v : Nat} (range : natBits v 4 4 < 8 ∨ 12 < natBits v 4 4) :
    ringCfgWrite r v d = (d.setRing r { d.rk.ring r with enable := natBit v 0 }).ringError r 2 := by
  simp only [ringCfgWrite, Bool.or_eq_true, decide_eq_true_eq, range, if_true]

/-- Ring `r` with CQ_WAIT as it is after the completion ring has moved on (11 R339). -/
def waitCleared (g : Ring) : Ring := { g with cqWait := g.cqWait && d.cqShort r }

theorem ring_clearCqWait : d.clearCqWait.rk.ring r = waitCleared d r (d.rk.ring r) := read_mapVals (f := waitCleared d) d.rk.rings

/-- Whether the head entry of a ring can reserve its slots does not turn on CQ_WAIT of any ring. -/
theorem cqShort_clearCqWait : d.clearCqWait.cqShort r = d.cqShort r := by
  simp only [Device.cqShort, Device.cqActive, RanrokState.cqFree, RanrokState.cqHeld, Device.headEntry, ring_clearCqWait, waitCleared]
  rfl

theorem cqWait_clearCqWait (waits : (d.clearCqWait.rk.ring r).cqWait = true) : (d.rk.ring r).cqWait = true ∧ d.clearCqWait.cqShort r = true := by
  rw [ring_clearCqWait] at waits
  rw [cqShort_clearCqWait]
  exact Bool.and_eq_true_iff.mp waits

theorem cqReadWrite_taken {v : Nat} (within : diff32 v d.rk.cq.consumed ≤ diff32 d.rk.cq.written d.rk.cq.consumed) :
    cqReadWrite v d = ({ d with rk := { d.rk with cq := { d.rk.cq with consumed := v } } } : Device).clearCqWait := if_neg (Nat.not_lt.mpr within)

theorem cqReadWrite_beyond {v : Nat} (beyond : diff32 d.rk.cq.written d.rk.cq.consumed < diff32 v d.rk.cq.consumed) : cqReadWrite v d = d.cqError 1 :=
  if_pos beyond

theorem cqConfigWrite_free (free : d.rk.cqHeld = 0) (cfg : Bool) (v : Nat) : cqConfigWrite cfg v d =
    if cfg then ({ d with rk := { d.rk with cq := d.rk.cq.configure v } } : Device).clearCqWait
    else { d with rk := { d.rk with cq := { d.rk.cq with base := v / 64 * 64 } } } := by
  simp only [cqConfigWrite, free, bne_self_eq_false, Bool.false_eq_true, if_false]

theorem cqConfigWrite_held (held : d.rk.cqHeld ≠ 0) (cfg : Bool) (v : Nat) : cqConfigWrite cfg v d = d.cqError 2 := by
  simp only [cqConfigWrite, bne_iff_ne, held, ne_eq, not_false_eq_true, if_true]

end Doorbells

/-- Settles O45: each write is one branch of its register's function. -/
theorem ringRegistersFollowTheirRules : Obligations.RingRegistersFollowTheirRules := by
  intro t ring s d g q
  refine ⟨?taken, ?beyond, ?config, rfl, ?read, ?cq⟩
  case taken =>
    intro tail onward within
    refine ⟨ringDoorbell ring tail.toNat d, rfl, ?_⟩
    rw [ringDoorbell_taken d ring onward within, ring_setRing]
    exact ⟨rfl, fun i posted => find_stampAll _ _ _ _ posted⟩
  case beyond =>
    intro tail bad
    rw [← Device.ringError, ← ringDoorbell_bad d ring bad]
    rfl
  case config =>
    intro v l on
    refine ⟨fun least most fits => ?_, fun least most other occupied => ?_, fun range => ⟨_, rfl, ?_⟩⟩
    · rw [← ringCfgWrite_sets d ring least most fits]
      rfl
    · rw [← Device.ringError, ← ringCfgWrite_occupied d ring least most other occupied]
      rfl
    · rw [ringCfgWrite_range d ring range]
      have twice : ((d.setRing ring { g with enable := on }).ringError ring 2).rk.ring ring =
          { (d.setRing ring { g with enable := on }).rk.ring ring with error := true, errorCode := 2 } := ring_setRing _ ring _
      rw [twice, ring_setRing]
      exact ⟨rfl, rfl, rfl⟩
  case read =>
    intro v
    refine ⟨fun within => ⟨_, rfl, ?_⟩, fun beyond => ⟨_, rfl, ?_⟩⟩
    · rw [cqReadWrite_taken d within]
      exact ⟨rfl, fun r => cqWait_clearCqWait { d with rk := { d.rk with cq := { q with consumed := v.toNat } } } r⟩
    · rw [cqReadWrite_beyond d beyond]
      exact ⟨rfl, rfl⟩
  case cq =>
    intro v
    refine ⟨fun free => ⟨⟨_, rfl, ?_⟩, ⟨_, rfl, ?_⟩⟩, fun held cfg => ⟨_, rfl, ?_⟩⟩
    · rw [cqConfigWrite_free d free]
      rfl
    · rw [cqConfigWrite_free d free]
      simp only [if_true, Device.clearCqWait, CompRing.configure, Bool.and_eq_true, Bool.not_eq_true']
      rfl
    · rw [cqConfigWrite_held d held]
      exact ⟨rfl, rfl⟩

end Sys2Proof.Proofs

/-!
PROOF. Changes at frame boundaries (11 R330, R333, R334; 05 R152; 03 R85): staging them, and a module that refutes the clause of StagedChangesLandAtTheirCommitPoint
on the whole commit point.
-/
namespace Sys2Proof.Proofs

open Sys2Proof Sys2Proof.Machine Sys2Proof.Laws

/-! ### Changes to a live channel are staged (11 R330, R333, R334) -/

/-- A change written to the staged copy is added at its end; its ACCEPTED record is the interface's. -/
theorem stage_accounts {c : Ctx} {r seq : Nat} (origin : c.origin = .ring r seq) (op ch least : Nat) (flat : Option Nat) (d : Device) :
    let at_ := c.frameOfEffect (d.chan ch) least (d.rk.lastStaged ch)
    AccountsOnly { d with rk := { d.rk with staged := d.rk.staged ++ [⟨op, c, ch, at_.1, at_.2.1, at_.2.2, flat⟩] } } (d.stage op c ch least flat) := by
  intro at_
  rw [Device.stage, origin]
  exact accept_accounts ..

/-- A command that passes its checks runs on the module with its entry taken. -/
theorem runRow_of_checked {sp : CmdSpec} {t : Nat} {ring : Fin 4} {entry : Bytes} {s : State} (ok : passes sp t ring entry s = true) :
    runRow sp ring entry (s.dev.at_ t) = sp.runChecked (ctxAt sp t ring entry s) (takenAt t ring entry s) := by
  simp only [passes, Bool.and_eq_true, Option.isNone_iff_eq_none] at ok
  obtain ⟨⟨⟨known, whole⟩, block⟩, check⟩ := ok
  change runTaken sp ring (ctxAt sp t ring entry s) (takenAt t ring entry s) = _
  simp only [runTaken, known, if_true, CmdSpec.run, whole, Option.isNone_some, block, check]

theorem runChecked_staged {sp : CmdSpec} {c : Ctx} {d : Device} {k : Nat} (boundary : sp.when_ = .commit) (live : sp.chan c d = some k)
    (near : c.beyond (d.chan k) c.now = false) (noFlatten : sp.flat c d = false) :
    sp.runChecked c d = d.stage sp.op c k ((d.chan k).firstOpen c.now) none := by
  simp only [CmdSpec.runChecked, boundary, live, near, noFlatten, Bool.false_eq_true, if_false]

theorem commandStages_of_runs {i : Instr} {sp : CmdSpec} {t : Nat} {ring : Fin 4} {entry : Bytes} {s : State}
    (runs : exec i s = .next { s with dev := runRow sp ring entry (s.dev.at_ t) }) : CommandStages i sp t ring entry s := by
  intro ok boundary k live near noFlatten _
  refine ⟨_, runs, ?_⟩
  rw [runRow_of_checked ok, runChecked_staged boundary live near noFlatten]
  exact stage_accounts rfl ..

/-- Settles O21: every ring row runs its command, and a command of frame boundaries is staged where its channel is live. -/
theorem liveChannelChangesAreStaged : Obligations.LiveChannelChangesAreStaged := fun _ _ _ s =>
  ⟨commandStages_of_runs rfl, commandStages_of_runs rfl, commandStages_of_runs rfl, commandStages_of_runs rfl,
    fun _ _ row => commandStages_of_runs (exec_of_ringRow row s)⟩

/-! ### A host frame that begins at the commit point of its own frame (03 R85) -/

/-- An IDR request of rendition 0, staged for frame 0 of channel 0. -/
def stagedIdr : Staged :=
  { op := 0x0109, ctx := ⟨.ring 2 0, wrLE 2 0x0109 ++ wrLE 62 0, [], 0⟩, channel := 0, frame := 0, status := stOk, detail := 0, flat := none }

/-- The descriptor of frame 0, without a trailer: its lines may be read once frame 0 is committed. -/
def firstDesc : HostDesc :=
  { frame := 0, luma := 0x10000, chroma := 0, pitchY := 0x1000, pitchC := 0, format := 1, crc := false, bad := false, crcAddr := 0, index := 0, came := 0,
    begun := false, checked := none }

/-- A host frame ring that holds that descriptor. -/
def firstFrameRing : HostRing :=
  { addr := 0x1000, tailAddr := 0x2000, entries := 64, crcRequired := false, noTrailer := true, enabled := true, head := 1, lineHeld := true,
    queue := [firstDesc] }

/-- Channel 0 is LIVE on that ring at 50 frames a second; the tick of frame 0 lies at one second, and the module is 300 µs short of it. -/
def firstCommit : Device :=
  { Device.reset with
    time := { TimeState.reset with beam := second - 300 * usec }
    link := { Device.reset.link with up := true }
    rk := { RanrokState.reset with staged := [stagedIdr] }
    code := { CodingState.reset with
      channels := [(0, { Channel.reset with
        recd := { ChannelRec.none with width := 64, height := 64, rateNum := 50, rateDen := 1, align := second }, state := .live })] }
    ingest := { IngestState.reset with
      binds := [(0, { Binding.reset with recd := some ⟨1, false, false, 0, 0, 1, 120000, 0, 0⟩, host := some firstFrameRing })] } }

/-- Which descriptors of channel 0's ring have begun. -/
def ringBegun (d : Device) : Option (List Bool) := (d.bnd 0).host.map (fun h => h.queue.map (·.begun))

/-- Frame 0 is committed first, so that its descriptor begins at this commit point. -/
theorem firstCommit_begins : ringBegun (commitPoint 0 (firstCommit.at_ 0)).finishStops = some [true] := by decide

/-- The statement's order has the host ring worked on while frame 0 is still open, and the descriptor waits. -/
theorem firstCommit_waits : let d := firstCommit.at_ 0
    let e : Device := { d with rk := { d.rk with staged := [] } }
    ringBegun ((((((e.landStaged 0 stagedIdr).landPlanes 0).sealCommit 0).hostDeadline 0 0).passCommit 0 0)).finishStops = some [false] := by decide

/-- Refutes O22: its clause on the whole commit point works on the host frame ring before the frame is committed. COMMIT_POINT commits the frame first, so a
descriptor without a trailer whose frame this is begins here (03 R85), and in the statement's state it has not begun. -/
theorem not_stagedChangesLandAtTheirCommitPoint : ¬ Obligations.StagedChangesLandAtTheirCommitPoint := by
  unfold Obligations.StagedChangesLandAtTheirCommitPoint
  intro lands
  obtain ⟨-, other, -⟩ := lands 0 0 ⟨firstCommit, []⟩ stagedIdr (by decide) (by decide) rfl rfl (by decide)
  obtain ⟨-, ran⟩ := other (by decide) (by decide) rfl rfl rfl (by decide)
  have ring := congrArg (fun s => ringBegun s.dev) (Host.Outcome.next.inj ran)
  exact absurd (firstCommit_begins.symm.trans (ring.trans firstCommit_waits)) (by decide)

end Sys2Proof.Proofs

/-!
PROOF. The DRAM address map (12 R356 to R358) and the check values (13 R390, R410, R412). A place tells the burst of a channel and the channel; a step of a check
unit's register loses nothing, so no later byte can hide a changed one.
-/
namespace Sys2Proof.Proofs

open Sys2Proof Sys2Proof.Machine Sys2Proof.Laws

/-! ### The address map (12 R356 to R358) -/

/-- A burst in its grain: with a grain of 64 × `h` bytes, the burst of a device address is its channel's burst, told apart by the channel. -/
theorem channelBurst_eq (h a : Nat) : (a / (8 * (64 * h)) * (64 * h) + a % (64 * h)) / 64 = a / (8 * (64 * h)) * h + a / 64 % h := by
  rw [Nat.mul_left_comm, Nat.mul_add_div (by decide), Nat.mod_mul_right_div_self]

theorem burst_eq_channelBurst {h : Nat} (a : Nat) : a / 64 = (a / (8 * (64 * h)) * 8 + a / (64 * h) % 8) * h + a / 64 % h := by
  have grain : a / (8 * (64 * h)) * 8 + a / (64 * h) % 8 = a / 64 / h := by
    rw [Nat.mul_comm 8, ← Nat.div_div_eq_div_mul a (64 * h) 8, Nat.div_div_eq_div_mul a 64 h, Nat.div_add_mod']
  rw [grain, Nat.div_add_mod']

/-- The burst of its channel that a device address lies in (12 R357), with grains of `h` bursts. -/
def channelBurst (h a : Nat) : Nat := a / (8 * (64 * h)) * h + a / 64 % h

/-- A channel of a group holds 31 × 2^20 bursts. -/
theorem channelBurst_lt {h m a : Nat} (whole : m * h = 31 * 2 ^ 20) (within : a < groupBytes) : channelBurst h a < 31 * 2 ^ 20 := by
  have positive : 0 < h := Nat.pos_of_ne_zero fun zero => by simp [zero] at whole
  have few : a / (8 * (64 * h)) < m := by
    rw [Nat.div_lt_iff_lt_mul (by omega)]
    calc a < groupBytes := within
      _ = 512 * (m * h) := by rw [whole]; rfl
      _ = m * (8 * (64 * h)) := by ring
  calc channelBurst h a < a / (8 * (64 * h)) * h + h := Nat.add_lt_add_left (Nat.mod_lt _ positive) _
    _ = (a / (8 * (64 * h)) + 1) * h := by ring
    _ ≤ m * h := Nat.mul_le_mul_right h few
    _ = 31 * 2 ^ 20 := whole

/-- A channel of its group and a burst of that channel tell the burst of the device address. -/
theorem burst_eq_iff {h : Nat} (positive : 0 < h) (a b : Nat) :
    a / 64 = b / 64 ↔ a / (64 * h) % 8 = b / (64 * h) % 8 ∧ channelBurst h a = channelBurst h b := by
  have row (x : Nat) : channelBurst h x / h = x / (8 * (64 * h)) := by
    rw [channelBurst, Nat.mul_comm, Nat.mul_add_div positive, Nat.div_eq_of_lt (Nat.mod_lt _ positive), Nat.add_zero]
  have place (x : Nat) : channelBurst h x % h = x / 64 % h := by
    rw [channelBurst, Nat.mul_comm, Nat.mul_add_mod, Nat.mod_mod]
  have grain (x : Nat) : x / (64 * h) = x / 64 / h := (Nat.div_div_eq_div_mul x 64 h).symm
  have turn (x : Nat) : x / (8 * (64 * h)) = x / 64 / h / 8 := by rw [Nat.mul_comm 8, ← Nat.div_div_eq_div_mul, grain]
  constructor
  · intro same
    exact ⟨by rw [grain, grain, same], by rw [channelBurst, channelBurst, turn, turn, same]⟩
  · rintro ⟨channel, burst⟩
    rw [burst_eq_channelBurst a (h := h), burst_eq_channelBurst b (h := h), channel, ← row a, ← row b, ← place a, ← place b, burst]

section Place
variable {g k a : Nat} (grain : 6 ≤ k)
include grain

theorem two_pow_grain : 2 ^ k = 64 * 2 ^ (k - 6) := by
  rw [show 64 = 2 ^ 6 from rfl, ← Nat.pow_add, Nat.add_sub_cancel' grain]

theorem dramPlace_eq : dramPlace g k a = let b := channelBurst (2 ^ (k - 6)) a
    ⟨8 * g + a / (64 * 2 ^ (k - 6)) % 8, b / 31, b % 31, (b / 31 % 16).xor (b / 31 / 16 % 16), b / 31 / 16⟩ := by
  simp only [dramPlace, two_pow_grain grain, channelBurst_eq, channelBurst]

end Place

/-- The exclusive or with one row's number sends pages of other bank groups to other bank groups (12 R357). -/
theorem xor_mod_four_inj {x y z : Nat} (same : (x.xor z) % 4 = (y.xor z) % 4) : x % 4 = y % 4 := by
  have split (u : Nat) : (u.xor z) % 4 = u % 4 ^^^ z % 4 := Nat.xor_mod_two_pow (n := 2)
  rw [split, split] at same
  exact Nat.xor_left_inj.mp same

/-- Settles O47: a place tells its channel and that channel's burst, and these tell the burst of the device address. -/
theorem theAddressMapIsOneToOne : Obligations.TheAddressMapIsOneToOne := by
  intro g k a b least most withinA withinB
  have grain : 6 ≤ k := by omega
  have whole : 31 * 2 ^ (26 - k) * 2 ^ (k - 6) = 31 * 2 ^ 20 := by
    rw [Nat.mul_assoc, ← Nat.pow_add, show 26 - k + (k - 6) = 20 by omega]
  have few := channelBurst_lt whole withinA
  have positive : 0 < 2 ^ (k - 6) := Nat.two_pow_pos _
  rw [dramPlace_eq grain, dramPlace_eq grain]
  refine ⟨⟨?_, ?_, ?_, ?_, ?bank, ?_⟩, ?one, ?pages⟩
  case bank => exact Nat.xor_lt_two_pow (n := 4) (Nat.mod_lt _ (by decide)) (Nat.mod_lt _ (by decide))
  case one =>
    rw [burst_eq_iff positive, DramPlace.mk.injEq]
    constructor
    · rintro ⟨channel, page, slot, -, -⟩
      exact ⟨Nat.add_left_cancel channel, by rw [← Nat.div_add_mod (channelBurst _ a) 31, page, slot, Nat.div_add_mod]⟩
    · rintro ⟨channel, burst⟩
      rw [channel, burst]
      exact ⟨rfl, rfl, rfl, rfl, rfl⟩
  case pages =>
    intro next row same
    dsimp only at next row same
    rw [row] at same
    have pages := xor_mod_four_inj same
    omega
  all_goals
    dsimp only
    omega

/-! ### The registers of the check units (13 R410) -/

theorem crcBit_eq (poly r : Nat) : crcBit poly r = r / 2 ^^^ (if r % 2 = 1 then poly else 0) := by
  unfold crcBit
  split
  · rfl
  · exact (Nat.xor_zero _).symm

/-- An even number is shifted through a step, whatever the register. -/
theorem crcBit_xor_double (poly r w : Nat) : crcBit poly (r ^^^ 2 * w) = crcBit poly r ^^^ w := by
  have low : (r ^^^ 2 * w) % 2 = 1 ↔ r % 2 = 1 := by
    rw [Nat.xor_mod_two_eq_one, Nat.mul_mod_right]
    simp
  have half : (r ^^^ 2 * w) / 2 = r / 2 ^^^ w := by rw [Nat.xor_div_two, Nat.mul_div_cancel_left w (by decide)]
  simp only [crcBit_eq, low, half]
  exact Nat.xor_right_comm ..

section Bits
variable {n poly : Nat} (top : 2 ^ n ≤ poly) (fits : poly < 2 ^ (n + 1))
include fits

theorem crcBit_lt {r : Nat} (small : r < 2 ^ (n + 1)) : crcBit poly r < 2 ^ (n + 1) := by
  rw [crcBit_eq]
  refine Nat.xor_lt_two_pow (by omega) ?_
  split <;> omega

include top

/-- The lowest bit of a register shows after a step in the highest, which the polynomial sets. -/
theorem testBit_crcBit {r : Nat} (small : r < 2 ^ (n + 1)) : (crcBit poly r).testBit n = decide (r % 2 = 1) := by
  have half : (r / 2).testBit n = false := Nat.testBit_lt_two_pow (by omega)
  rw [crcBit_eq, Nat.testBit_xor, half, Bool.false_xor]
  split
  · next odd => simp [odd, Nat.testBit_of_two_pow_le_and_two_pow_add_one_gt top fits]
  · next even => simp [even]

theorem crcBit_inj {r s : Nat} (smallR : r < 2 ^ (n + 1)) (smallS : s < 2 ^ (n + 1)) (same : crcBit poly r = crcBit poly s) : r = s := by
  have low : r % 2 = 1 ↔ s % 2 = 1 := by
    have bit := congrArg (·.testBit n) same
    simpa only [testBit_crcBit top fits smallR, testBit_crcBit top fits smallS, decide_eq_decide] using bit
  have half : r / 2 = s / 2 := by
    simp only [crcBit_eq, low] at same
    exact Nat.xor_left_inj.mp same
  omega

end Bits

/-! ### A byte through the register (13 R410) -/

theorem crcByte_eq (poly r : Nat) (b : Byte) : crcByte poly r b = (crcBit poly)^[8] (r ^^^ b.toNat) := by
  simp only [Function.iterate_succ_apply, Function.iterate_zero_apply]
  rfl

theorem crcBits_xor (poly r w k : Nat) : (crcBit poly)^[k] (r ^^^ 2 ^ k * w) = (crcBit poly)^[k] r ^^^ w := by
  induction k generalizing r with
  | zero => rw [Nat.pow_zero, Nat.one_mul]; rfl
  | succ k ih => rw [Function.iterate_succ_apply, Nat.pow_succ', Nat.mul_assoc, crcBit_xor_double, ih, Function.iterate_succ_apply]

theorem xor_byte_split (v : Nat) : v % 256 ^^^ 256 * (v / 256) = v := by
  refine Nat.eq_of_testBit_eq fun i => ?_
  rw [Nat.testBit_xor, show 256 = 2 ^ 8 from rfl, Nat.testBit_mod_two_pow, Nat.testBit_two_pow_mul, Nat.testBit_div_two_pow]
  rcases Nat.lt_or_ge i 8 with low | high
  · simp [low, Nat.not_le.mpr low]
  · simp [Nat.not_lt.mpr high, high]

section Bytes
variable {n poly : Nat} (top : 2 ^ n ≤ poly) (fits : poly < 2 ^ (n + 1)) (wide : 8 ≤ n)

include fits in
theorem crcBits_lt (k : Nat) {r : Nat} (small : r < 2 ^ (n + 1)) : (crcBit poly)^[k] r < 2 ^ (n + 1) := by
  induction k generalizing r with
  | zero => exact small
  | succ k ih => exact ih (crcBit_lt fits small)

include top fits in
theorem crcBits_inj (k : Nat) {r s : Nat} (smallR : r < 2 ^ (n + 1)) (smallS : s < 2 ^ (n + 1)) (same : (crcBit poly)^[k] r = (crcBit poly)^[k] s) : r = s := by
  induction k generalizing r s with
  | zero => exact same
  | succ k ih => exact crcBit_inj top fits smallR smallS (ih (crcBit_lt fits smallR) (crcBit_lt fits smallS) same)

include wide in
theorem xor_byte_lt {r : Nat} (small : r < 2 ^ (n + 1)) (b : Byte) : r ^^^ b.toNat < 2 ^ (n + 1) :=
  Nat.xor_lt_two_pow small (b.isLt.trans_le (Nat.pow_le_pow_right (by decide) (by omega)))

include fits wide in
theorem foldl_crcByte_lt (b : Bytes) {r : Nat} (small : r < 2 ^ (n + 1)) : b.foldl (crcByte poly) r < 2 ^ (n + 1) := by
  induction b generalizing r with
  | nil => exact small
  | cons x b ih => exact ih (crcBits_lt fits 8 (xor_byte_lt wide small x))

include top fits wide in
theorem foldl_crcByte_inj (b : Bytes) {r s : Nat} (smallR : r < 2 ^ (n + 1)) (smallS : s < 2 ^ (n + 1))
    (same : b.foldl (crcByte poly) r = b.foldl (crcByte poly) s) : r = s := by
  induction b generalizing r s with
  | nil => exact same
  | cons x b ih =>
    have shifted := ih (crcBits_lt fits 8 (xor_byte_lt wide smallR x)) (crcBits_lt fits 8 (xor_byte_lt wide smallS x)) same
    exact Nat.xor_left_inj.mp (crcBits_inj top fits 8 (xor_byte_lt wide smallR x) (xor_byte_lt wide smallS x) shifted)

include top fits wide in
theorem crcByte_inj {r : Nat} (small : r < 2 ^ (n + 1)) {x y : Byte} (same : crcByte poly r x = crcByte poly r y) : x = y :=
  BitVec.eq_of_toNat_eq (Nat.xor_right_inj.mp (crcBits_inj top fits 8 (xor_byte_lt wide small x) (xor_byte_lt wide small y) same))

end Bytes

/-- A number's bytes enter a register as the number itself would. -/
theorem foldl_crcByte_wrLE (poly m r v : Nat) (fits : v < 256 ^ m) :
    (wrLE m v).foldl (crcByte poly) r = (wrLE m 0).foldl (crcByte poly) (r ^^^ v) := by
  induction m generalizing r v with
  | zero => rw [show v = 0 by omega, Nat.xor_zero]
  | succ m ih =>
    have low : crcByte poly r (BitVec.ofNat 8 v) ^^^ v / 256 = crcByte poly (r ^^^ v) (BitVec.ofNat 8 0) := by
      rw [crcByte_eq, crcByte_eq, ← crcBits_xor, BitVec.toNat_ofNat, BitVec.toNat_ofNat, Nat.xor_assoc]
      simp [xor_byte_split]
    have rest : v / 256 < 256 ^ m := Nat.div_lt_of_lt_mul (by rwa [← Nat.pow_succ'])
    simp only [wrLE, List.foldl_cons, Nat.zero_div]
    rw [ih _ _ rest, low]

/-! ### The three polynomials (13 Table 13.8) -/

/-- The width of a check value, less one. -/
def crcTop (k : Nat) : Nat := if k < 2 then 31 else 63

section Polynomials
variable {k : Nat} (named : k < 3)

theorem crcOnes_eq (k : Nat) : crcOnes k + 1 = 2 ^ (crcTop k + 1) := by
  unfold crcOnes crcTop
  split <;> rfl

theorem crcTop_wide (k : Nat) : 8 ≤ crcTop k := by
  unfold crcTop
  split <;> decide

theorem crcOnes_lt (k : Nat) : crcOnes k < 2 ^ (crcTop k + 1) := by
  have ones := crcOnes_eq k
  omega

include named

theorem crcPoly_top : 2 ^ crcTop k ≤ crcPoly k := by
  interval_cases k <;> decide

theorem crcPoly_fits : crcPoly k < 2 ^ (crcTop k + 1) := by
  interval_cases k <;> decide

theorem crcRun_lt (b : Bytes) : crcRun k (crcOnes k) b < 2 ^ (crcTop k + 1) := foldl_crcByte_lt (crcPoly_fits named) (crcTop_wide k) b (crcOnes_lt k)

theorem crcValue_le (b : Bytes) : crcValue k (crcRun k (crcOnes k) b) ≤ crcOnes k := by
  have small := Nat.xor_lt_two_pow (crcRun_lt named b) (crcOnes_lt k)
  have ones := crcOnes_eq k
  change crcRun k (crcOnes k) b ^^^ crcOnes k ≤ crcOnes k
  omega

/-- A string with one byte changed leaves another register. -/
theorem crcRun_ne_of_byte (a b : Bytes) {x y : Byte} (other : x ≠ y) :
    crcRun k (crcOnes k) (a ++ x :: b) ≠ crcRun k (crcOnes k) (a ++ y :: b) := by
  intro same
  have small := crcRun_lt named a
  have step (z : Byte) : crcByte (crcPoly k) (crcRun k (crcOnes k) a) z < 2 ^ (crcTop k + 1) :=
    crcBits_lt (crcPoly_fits named) 8 (xor_byte_lt (crcTop_wide k) small z)
  rw [crcRun, crcRun, List.foldl_append, List.foldl_append] at same
  have byte := foldl_crcByte_inj (crcPoly_top named) (crcPoly_fits named) (crcTop_wide k) b (step x) (step y) same
  exact other (crcByte_inj (crcPoly_top named) (crcPoly_fits named) (crcTop_wide k) small byte)

/-- A string followed by its own value leaves the register that zeros leave. -/
theorem crcRun_own_value (a : Bytes) {m : Nat} (width : 256 ^ m = 2 ^ (crcTop k + 1)) :
    crcRun k (crcOnes k) (a ++ wrLE m (crcValue k (crcRun k (crcOnes k) a))) = crcRun k (crcOnes k) (wrLE m 0) := by
  have small : crcValue k (crcRun k (crcOnes k) a) < 256 ^ m := by
    have value := crcValue_le named a
    have ones := crcOnes_eq k
    omega
  have cancel : crcRun k (crcOnes k) a ^^^ crcValue k (crcRun k (crcOnes k) a) = crcOnes k := Nat.xor_xor_cancel_left ..
  rw [crcRun, List.foldl_append]
  change (wrLE m _).foldl (crcByte (crcPoly k)) (crcRun k (crcOnes k) a) = _
  rw [foldl_crcByte_wrLE _ _ _ _ small, cancel]
  rfl

end Polynomials

/-! ### Records as stored (13 R390) -/

/-- A number's bytes read back as its low-order bytes, wherever they stand. -/
theorem rdLE_wrLE (a c : Bytes) (n v : Nat) : rdLE (a ++ wrLE n v ++ c) a.length n = v % 256 ^ n := by
  induction n generalizing a v with
  | zero => rw [Nat.pow_zero, Nat.mod_one]; rfl
  | succ n ih =>
    have rest := ih (a ++ [BitVec.ofNat 8 v]) (v / 256)
    rw [List.append_assoc a, List.singleton_append, List.length_append, List.length_singleton] at rest
    have first : ((a ++ wrLE (n + 1) v ++ c).getD a.length 0) = BitVec.ofNat 8 v := by simp [wrLE]
    rw [rdLE, first, wrLE, rest, BitVec.toNat_ofNat, Nat.pow_succ' (m := 256), Nat.mod_mul]

theorem roundUp_mod {m : Nat} (a : Nat) : roundUp a m % m = 0 := Nat.mul_mod_left ..

theorem le_roundUp {m : Nat} (positive : 0 < m) (a : Nat) : a ≤ roundUp a m := le_ceilDiv_mul positive

/-- Bytes 0 to 35 of a record's header. -/
def recordHead (r : JRec) : Bytes :=
  fields [(1, r.kind), (1, r.flags), (2, r.source), (4, r.payload.length), (8, r.seq)] ++ timeWordBytes r.time ++ wrLE 4 0

theorem recordHead_length (r : JRec) : (recordHead r).length = 36 := by simp [recordHead, fields, timeWordBytes]

/-- A record before it is padded. -/
def recordBody (r : JRec) : Bytes := recordHead r ++ wrLE 4 (crc32c (recordHead r)) ++ r.payload ++ wrLE 4 (crc32c r.payload)

theorem recordBody_length (r : JRec) : (recordBody r).length = 44 + r.payload.length := by
  simp only [recordBody, List.length_append, recordHead_length, wrLE_length]
  omega

theorem stored_eq (r : JRec) : r.stored = recordBody r ++ List.replicate (roundUp (recordBody r).length 8 - (recordBody r).length) 0 := rfl

theorem stored_length (r : JRec) : r.stored.length = r.size := by
  have fits := le_roundUp (m := 8) (by decide) (44 + r.payload.length)
  rw [stored_eq, List.length_append, List.length_replicate, recordBody_length, JRec.size]
  omega

theorem crc32c_lt (b : Bytes) : crc32c b < 256 ^ 4 := Nat.lt_of_le_of_lt (crcValue_le (k := 0) (by decide) b) (by decide)

theorem stored_head_check (r : JRec) : rdLE r.stored 36 4 = crc32c (r.stored.take 36) := by
  obtain ⟨rest, body⟩ : ∃ rest, r.stored = recordHead r ++ wrLE 4 (crc32c (recordHead r)) ++ rest :=
    ⟨_, by rw [stored_eq, recordBody, List.append_assoc _ r.payload, List.append_assoc _ (r.payload ++ _)]⟩
  have read := rdLE_wrLE (recordHead r) rest 4 (crc32c (recordHead r))
  rw [recordHead_length, ← body, Nat.mod_eq_of_lt (crc32c_lt _)] at read
  rw [read, body, List.append_assoc, List.take_left' (recordHead_length r)]

/-- Settles O50: a step of the register loses nothing, and a number's bytes enter it as the number would. -/
theorem checkValuesCatchEveryChangedByte : Obligations.CheckValuesCatchEveryChangedByte := by
  refine ⟨fun k a b named => ⟨List.foldl_append, crcValue_le named a, fun x y other same => ?_, crcRun_own_value named a ?_⟩, fun r =>
    ⟨stored_length r, roundUp_mod _, stored_head_check r⟩⟩
  · exact crcRun_ne_of_byte named a b other (Nat.xor_left_inj.mp same)
  · interval_cases k <;> rfl

end Sys2Proof.Proofs

/-!
PROOF. Events, tallies and word queues: what one occurrence does to the event block, and what reads of the event area do (SPEC 15).
-/
namespace Sys2Proof.Proofs

open Sys2Proof Sys2Proof.Machine Sys2Proof.Laws

/-! ### Tallies and carry bits (15 R439) -/

/-- A tally and its carry bit. -/
def counts (e : EventState) (k : Nat) : Nat × Bool := (Tab.read e.tally k 0, Tab.read e.carry k false)

theorem counts_tallyInc_below {k : Nat} {e : EventState} (below : Tab.read e.tally k 0 < max64) :
    counts (tallyInc k e) k = (Tab.read e.tally k 0 + 1, Tab.read e.carry k false) := by
  rw [tallyInc, if_pos below]
  exact congrArg (·, _) (read_put_same ..)

theorem counts_tallyInc_full {k : Nat} {e : EventState} (full : Tab.read e.tally k 0 = max64) : counts (tallyInc k e) k = (max64, true) := by
  rw [tallyInc, if_neg (by omega)]
  exact Prod.ext full (read_put_same ..)

theorem counts_tallyInc_other {k n : Nat} (other : k ≠ n) (e : EventState) : counts (tallyInc n e) k = counts e k := by
  unfold tallyInc
  split
  · exact congrArg (·, _) (read_put_other other ..)
  · exact congrArg (_, ·) (read_put_other other ..)

@[simp] theorem tallyInc_src (k : Nat) (e : EventState) : (tallyInc k e).src = e.src := by
  unfold tallyInc
  split <;> rfl

@[simp] theorem tallyInc_log (k : Nat) (e : EventState) : (tallyInc k e).log = e.log := by
  unfold tallyInc
  split <;> rfl

/-- A tally below its largest value counts each increment. -/
theorem tally_repeat {k : Nat} (n : Nat) {e : EventState} (room : Tab.read e.tally k 0 + n ≤ max64) :
    Tab.read (Nat.repeat (tallyInc k) n e).tally k 0 = Tab.read e.tally k 0 + n := by
  induction n with
  | zero => rfl
  | succ n ih =>
    have before := ih (by omega)
    have below : Tab.read (Nat.repeat (tallyInc k) n e).tally k 0 < max64 := by omega
    exact (congrArg Prod.fst (counts_tallyInc_below below)).trans (congrArg (· + 1) before)

theorem tallySticks_iff {k : Nat} {e : EventState} : tallySticks k e = true ↔ Tab.read e.tally k 0 = max64 ∧ Tab.read e.carry k false = false := by
  simp [tallySticks]

/-! ### The event log and the queues leave the tallies alone (15 R436, R437, R445) -/

section Occur
variable {quarter : Nat → Bool} {now n detail : Nat} {p : EvPort} {r : EvRec}

theorem counts_logHeld (k : Nat) : counts (logHeld p).events k = counts p.events k := by
  unfold logHeld
  split
  · rfl
  · split <;> rfl

theorem counts_logRecord {k : Nat} (other : k ≠ dtIndex 7 ∨ p.events.log.enable = false) :
    counts (logRecord quarter r p).events k = counts p.events k := by
  unfold logRecord
  split
  · rfl
  · next on =>
    have notDt : k ≠ dtIndex 7 := other.resolve_right fun off => on (by rw [off]; rfl)
    split
    · rfl
    · rw [← counts_logHeld (p := p)]
      extract_lets q
      split
      · unfold logDrop
        split
        · rfl
        · exact counts_tallyInc_other notDt q.events
      · rfl

/-- What an occurrence counts: its own tally, and DT7 where a record is dropped. -/
theorem counts_occur {k : Nat} (own : 512 ≤ n ∨ k ≠ dtIndex 7 ∨ p.events.log.enable = false) :
    counts (occur quarter now n detail p).1.events k = counts (tallyInc n p.events) k := by
  unfold occur
  split
  · rfl
  · next source =>
    have other := own.resolve_left source
    extract_lets _ e s s' r p1
    split
    · refine counts_logRecord (p := p1) ?_
      rwa [show p1.events.log = p.events.log from tallyInc_log ..]
    · rfl

theorem wq_logHeld : (logHeld p).wq = p.wq := by
  unfold logHeld
  split
  · rfl
  · split <;> rfl

@[simp] theorem wq_logRecord : (logRecord quarter r p).wq = p.wq := by
  unfold logRecord
  split
  · rfl
  · split
    · rfl
    · rw [← wq_logHeld (p := p)]
      extract_lets q
      split
      · unfold logDrop
        split <;> rfl
      · rfl

/-- No queue takes the event mirror, and each queue is listed once (Table 15.10). -/
def Unmirrored (x : WqState) : Prop := Sorted x.queues ∧ ∀ e ∈ x.queues, e.2.producer ≠ 1

theorem unmirrored_of_none {x : WqState} (none_ : x.queues = []) : Unmirrored x := by
  rw [Unmirrored, none_]
  exact ⟨.nil, fun _ mem => nomatch mem⟩

theorem wqItem_of_unmirrored {mine : WordQueue → Bool} {ws : List (BitVec 64)} {free : Nat} {x : WqState} (unmirrored : Unmirrored x) :
    wqItem 1 mine ws free x = x := by
  refine congrArg WqState.mk ?_
  rw [Tab.mapVals]
  refine (List.map_congr_left fun e mem => ?_).trans (List.map_id _)
  have other : (e.2.producer == 1) = false := beq_false_of_ne (unmirrored.2 e mem)
  simp [other]

theorem wqDrops_self {x : WqState} (sorted : Sorted x.queues) : wqDrops now x x = [] := by
  rw [wqDrops, List.filterMap_eq_nil_iff]
  rintro ⟨q, w⟩ mem
  have read : Tab.read x.queues q WordQueue.reset = w := by rw [Tab.read, find_of_mem sorted mem]; rfl
  simp [read]

theorem wqMark_nil (x : WqState) : wqMark now [] x = x :=
  congrArg WqState.mk (List.map_id _)

/-- What an occurrence raises besides E031 for its own tally: what its record's way raises, where there is a log ring, and E450, where a queue takes the
event mirror. -/
def Follows (p : EvPort) (e : Nat × Nat) : Prop :=
  (p.events.log.enable = true ∧ (e.1 = 436 ∨ e = (20, 0) ∨ e = (31, dtIndex 7))) ∨ (¬Unmirrored p.wq ∧ e.1 = 450)

theorem follows_of_mem_logFollow {e : Nat × Nat} (mem : e ∈ logFollow quarter r p) : Follows p e := by
  unfold logFollow at mem
  split at mem
  · cases mem
  · next on =>
    refine .inl ⟨by simpa using on, ?_⟩
    split at mem
    · split at mem
      · cases mem
      · exact .inl (congrArg Prod.fst (List.mem_singleton.mp mem))
    · extract_lets q at mem
      split at mem
      · rcases List.mem_append.mp mem with dropped | sticks
        · split at dropped
          · exact .inr (.inl (List.mem_singleton.mp dropped))
          · cases dropped
        · split at sticks
          · exact .inr (.inr (List.mem_singleton.mp sticks))
          · cases sticks
      · cases mem

theorem of_mem_wqDrops {old new : WqState} {e : Nat × Nat} (mem : e ∈ wqDrops now old new) : e.1 = 450 := by
  obtain ⟨⟨q, w⟩, -, found⟩ := List.mem_filterMap.mp mem
  revert found
  dsimp only
  generalize (decide ((Tab.read old.queues q WordQueue.reset).dropped < w.dropped) && _) = dropped
  cases dropped with
  | false => exact nofun
  | true => exact fun found => (congrArg Prod.fst (Option.some.inj found)).symm

/-- What an occurrence raises: E031 where its tally sticks now, and what follows from its record and the queues. -/
theorem occur_raises : ∃ rest, (occur quarter now n detail p).2 = (if tallySticks n p.events = true then [(31, n)] else []) ++ rest ∧
    ∀ e ∈ rest, n < 512 ∧ Follows p e := by
  unfold occur
  split
  · exact ⟨[], (List.append_nil _).symm, fun _ mem => nomatch mem⟩
  · next source =>
    extract_lets sticks e s s' r p1 follow p2 _ p3 wq1 drops
    split
    · refine ⟨follow ++ drops, List.append_assoc .., fun x mem => ⟨Nat.not_le.mp source, ?_⟩⟩
      rcases List.mem_append.mp mem with record | drop
      · have from_ := follows_of_mem_logFollow record
        rwa [Follows, show p1.events.log = p.events.log from tallyInc_log ..] at from_
      · have wq : p3.wq = p.wq := wq_logRecord (p := p1)
        refine .inr ⟨fun unmirrored => ?_, of_mem_wqDrops drop⟩
        have none_ : drops = [] := by
          simp only [drops, wq1, wq, wqItem_of_unmirrored unmirrored, wqDrops_self unmirrored.1]
        rw [none_] at drop
        cases drop
    · exact ⟨[], (List.append_nil _).symm, fun _ mem => nomatch mem⟩

/-- With no log ring and no event mirror only a tally that sticks raises anything. -/
theorem occur_raises_of_bare (noLog : p.events.log.enable = false) (unmirrored : Unmirrored p.wq) :
    (occur quarter now n detail p).2 = if tallySticks n p.events = true then [(31, n)] else [] := by
  obtain ⟨rest, raises, follows⟩ := occur_raises (quarter := quarter) (now := now) (n := n) (detail := detail) (p := p)
  have none_ : rest = [] := List.eq_nil_iff_forall_not_mem.mpr fun e mem => by
    rcases (follows e mem).2 with ⟨log, -⟩ | ⟨mirror, -⟩
    · rw [noLog] at log
      cases log
    · exact mirror unmirrored
  rw [raises, none_, List.append_nil]

theorem logRecord_of_off (noLog : p.events.log.enable = false) : logRecord quarter r p = p := by
  rw [logRecord, noLog]
  rfl

theorem occur_keeps_off (noLog : p.events.log.enable = false) : (occur quarter now n detail p).1.events.log.enable = false := by
  unfold occur
  split
  · exact (congrArg EvLog.enable (tallyInc_log ..)).trans noLog
  · extract_lets _ e s s' r p1
    have off : e.log.enable = false := (congrArg EvLog.enable (tallyInc_log ..)).trans noLog
    split
    · exact (congrArg (·.events.log.enable) (logRecord_of_off (p := p1) off)).trans off
    · exact off

/-- An occurrence passes by queues that do not take the event mirror. -/
theorem wq_occur (unmirrored : Unmirrored p.wq) : (occur quarter now n detail p).1.wq = p.wq := by
  unfold occur
  split
  · rfl
  · extract_lets _ e s s' r p1 _ p2 _ p3 wq1 drops
    split
    · have wq : p3.wq = p.wq := wq_logRecord (p := p1)
      simp only [drops, wq1, wq, wqItem_of_unmirrored unmirrored, wqDrops_self unmirrored.1, wqMark_nil]
    · rfl

end Occur

/-! ### Occurrences in order (15 R433) -/

/-- The parts of the module that an occurrence reaches. -/
def portOf (d : Device) : EvPort := ⟨d.events, d.mem, d.msix, d.wq, d.logs, d.free⟩

/-- The module with those parts as an occurrence left them. -/
def withPort (p : EvPort) (d : Device) : Device := { d with events := p.events, mem := p.mem, msix := p.msix, wq := p.wq, logs := p.logs, free := p.free }

@[simp] theorem occurAll_nil (quarter : Nat → Bool) (now fuel : Nat) (p : EvPort) : occurAll quarter now fuel [] p = p := by
  cases fuel <;> rfl

theorem occurAll_cons (quarter : Nat → Bool) (now fuel n detail : Nat) (rest : List (Nat × Nat)) (p : EvPort) :
    occurAll quarter now (fuel + 1) ((n, detail) :: rest) p =
      occurAll quarter now fuel ((occur quarter now n detail p).2 ++ rest) (occur quarter now n detail p).1 := rfl

/-- One event, followed by what it raises. -/
theorem raise_one (n detail : Nat) (d : Device) : let r := occur d.groupUp d.now n detail (portOf d)
    d.raise [(n, detail)] = withPort (occurAll d.groupUp d.now 23 r.2 r.1) d :=
  congrArg (withPort · d) ((occurAll_cons d.groupUp d.now 23 n detail [] (portOf d)).trans (by rw [List.append_nil]))

/-- An occurrence that raises nothing besides is the whole of its happening. -/
theorem raise_of_alone {n detail : Nat} {d : Device} (alone : (occur d.groupUp d.now n detail (portOf d)).2 = []) :
    d.raise [(n, detail)] = withPort (occur d.groupUp d.now n detail (portOf d)).1 d := by
  rw [raise_one, alone, occurAll_nil]

@[simp] theorem wqFlushed_of_none {d : Device} (none_ : d.wq.queues = []) : d.wqFlushed = d := by
  have same : ({ d with wq := { queues := [] } } : Device) = d := by rw [← none_]
  simp only [Device.wqFlushed, none_]
  exact same

/-- A full tally sticks, and its E031 counts where the carry bit was clear. -/
theorem counts_raise_full {n detail : Nat} {d : Device} (source : n < 512) (other : n ≠ 31) (noLog : d.events.log.enable = false)
    (unmirrored : Unmirrored d.wq) (full : Tab.read d.events.tally n 0 = max64) (room : Tab.read d.events.tally 31 0 < max64) :
    let e := d.raise [(n, detail)]
    counts e.events n = (max64, true) ∧ Tab.read e.events.tally 31 0 = Tab.read d.events.tally 31 0 + bit01 (!Tab.read d.events.carry n false) ∧
      e.wq = d.wq := by
  intro e
  have notDt : n ≠ dtIndex 7 := by unfold dtIndex; omega
  have noLog1 := occur_keeps_off (quarter := d.groupUp) (now := d.now) (n := n) (detail := detail) (p := portOf d) noLog
  have wq1 := wq_occur (quarter := d.groupUp) (now := d.now) (n := n) (detail := detail) (p := portOf d) unmirrored
  have raises := occur_raises_of_bare (quarter := d.groupUp) (now := d.now) (n := n) (detail := detail) (p := portOf d) noLog unmirrored
  have unmirrored1 : Unmirrored (occur d.groupUp d.now n detail (portOf d)).1.wq := wq1 ▸ unmirrored
  have own : counts (occur d.groupUp d.now n detail (portOf d)).1.events n = (max64, true) :=
    (counts_occur (.inr (.inl notDt))).trans (counts_tallyInc_full full)
  have still : counts (occur d.groupUp d.now n detail (portOf d)).1.events 31 = counts d.events 31 :=
    (counts_occur (.inr (.inl (by decide)))).trans (counts_tallyInc_other other.symm _)
  cases carry : Tab.read d.events.carry n false with
  | true =>
    have quiet : tallySticks n d.events = false := by simp [tallySticks, carry]
    have alone : e = withPort (occur d.groupUp d.now n detail (portOf d)).1 d :=
      raise_of_alone (raises.trans (if_neg (by rw [show (portOf d).events = d.events from rfl, quiet]; decide)))
    rw [alone]
    exact ⟨own, congrArg Prod.fst still, wq1⟩
  | false =>
    have sticks : tallySticks n d.events = true := tallySticks_iff.mpr ⟨full, carry⟩
    have room1 : Tab.read (occur d.groupUp d.now n detail (portOf d)).1.events.tally 31 0 < max64 := (congrArg Prod.fst still).trans_lt room
    have quiet : tallySticks 31 (occur d.groupUp d.now n detail (portOf d)).1.events ≠ true := fun stuck => by
      have := (tallySticks_iff.mp stuck).1
      omega
    have twice : e = withPort (occur d.groupUp d.now 31 n (occur d.groupUp d.now n detail (portOf d)).1).1 d := by
      rw [show e = d.raise [(n, detail)] from rfl, raise_one, raises, if_pos (by exact sticks),
        occurAll_cons _ _ 22, occur_raises_of_bare noLog1 unmirrored1, if_neg quiet, List.append_nil, occurAll_nil]
    rw [twice]
    refine ⟨?_, ?_, (wq_occur unmirrored1).trans wq1⟩
    · exact (counts_occur (.inr (.inl notDt))).trans ((counts_tallyInc_other other _).trans own)
    · have counted := (counts_occur (quarter := d.groupUp) (now := d.now) (n := 31) (detail := n) (k := 31) (.inr (.inl (by decide)))).trans
        (counts_tallyInc_below room1)
      exact (congrArg Prod.fst counted).trans (congrArg (· + 1) (congrArg Prod.fst still))

/-- Settles O54: an occurrence counts its own tally alone, and raises E031 of it exactly where the tally sticks now. -/
theorem talliesStickAtTheirLargestValue : Obligations.TalliesStickAtTheirLargestValue := by
  refine ⟨?one, ?module⟩
  case one =>
    intro quarter now n detail p r v carry
    have own : n < 512 → n ≠ dtIndex 7 := fun source same => by
      rw [same] at source
      exact absurd source (by decide)
    have counted : counts r.1.events n = counts (tallyInc n p.events) n :=
      counts_occur (n.lt_or_ge 512 |>.symm.imp_right fun source => .inl (own source))
    obtain ⟨rest, raises, follows⟩ := occur_raises (quarter := quarter) (now := now) (n := n) (detail := detail) (p := p)
    have notInRest : (31, n) ∉ rest := fun mem => by
      obtain ⟨source, ⟨-, is436 | is20 | is31⟩ | ⟨-, is450⟩⟩ := follows _ mem
      · simp at is436
      · simp at is20
      · exact own source (congrArg Prod.snd is31)
      · simp at is450
    have raised : (31, n) ∈ r.2 ↔ tallySticks n p.events = true := by
      rw [show r.2 = _ from raises]
      split
      · next sticks => simp [sticks]
      · next quiet => simpa [quiet] using notInRest
    refine ⟨fun below => ?_, fun full => ?_, fun k other notDt => ?_⟩
    · rw [counts_tallyInc_below below] at counted
      refine ⟨congrArg Prod.fst counted, congrArg Prod.snd counted, fun mem => ?_⟩
      have := (tallySticks_iff.mp (raised.mp mem)).1
      omega
    · rw [counts_tallyInc_full full] at counted
      refine ⟨congrArg Prod.fst counted, congrArg Prod.snd counted, raised.trans (tallySticks_iff.trans ?_)⟩
      exact and_iff_right full
    · have same := (counts_occur (quarter := quarter) (now := now) (n := n) (detail := detail) (p := p) (.inr (.inl notDt))).trans (counts_tallyInc_other other p.events)
      exact ⟨congrArg Prod.fst same, congrArg Prod.snd same⟩
  case module =>
    intro t n detail s d real other noLog noQueues full room
    obtain ⟨own, e31, wq⟩ := counts_raise_full (detail := detail.toNat) n.isLt other noLog (unmirrored_of_none noQueues) full room
    refine ⟨eventOccurrence n detail.toNat d, rfl, ?_⟩
    rw [eventOccurrence, real, if_neg Bool.false_ne_true, wqFlushed_of_none (by rw [wq]; exact noQueues)]
    exact ⟨congrArg Prod.fst own, congrArg Prod.snd own, e31⟩

/-! ### Reads that clear or pop (15 R442, R444) -/

theorem wqDrain_words (q free : Nat) (w : WordQueue) :
    ∃ moved, (wqDrain q free w).words = w.words ++ moved.map (·.word) ∧ w.tap = moved ++ (wqDrain q free w).tap ∧
      (wqDrain q free w).popEmpty = w.popEmpty :=
  ⟨w.tap.take (wqDepth q - (w.words.length + wqLag q free)), rfl, (List.take_append_drop ..).symm, rfl⟩

theorem wqPop_head {q : Nat} {d : Device} {x : BitVec 64} {r : List (BitVec 64)} (head : (Tab.read d.wq.queues q WordQueue.reset).words = x :: r)
    (seen : (Tab.read d.wq.queues q WordQueue.reset).seen ≠ 0) : let w := Tab.read d.wq.queues q WordQueue.reset
    wqPop q d = Device.replyData (wrLE 8 x.toNat) { d with
      wq := { queues := Tab.put q (wqDrain q d.free { w with words := r, seen := w.seen - 1 }) d.wq.queues }, free := d.free + 2 } := by
  simp only [wqPop, seen, if_false, head]

theorem wqPop_empty {q : Nat} {d : Device} (unseen : (Tab.read d.wq.queues q WordQueue.reset).seen = 0) : let w := Tab.read d.wq.queues q WordQueue.reset
    wqPop q d = Device.replyData (wrLE 8 0) { d with
      wq := { queues := Tab.put q { wqDrain q d.free w with popEmpty := true } d.wq.queues }, free := d.free + 2 } := by
  simp only [wqPop, unseen, if_true]

/-- Two events in a row, neither of which raises anything besides. -/
theorem raise_of_two {n1 x1 n2 x2 : Nat} {d : Device} (alone : (occur d.groupUp d.now n1 x1 (portOf d)).2 = [])
    (alone2 : (occur d.groupUp d.now n2 x2 (occur d.groupUp d.now n1 x1 (portOf d)).1).2 = []) :
    d.raise [(n1, x1), (n2, x2)] = withPort (occur d.groupUp d.now n2 x2 (occur d.groupUp d.now n1 x1 (portOf d)).1).1 d := by
  have first := occurAll_cons d.groupUp d.now 31 n1 x1 [(n2, x2)] (portOf d)
  have second := occurAll_cons d.groupUp d.now 30 n2 x2 [] (occur d.groupUp d.now n1 x1 (portOf d)).1
  rw [alone, List.nil_append] at first
  rw [alone2, List.append_nil, occurAll_nil] at second
  exact congrArg (withPort · d) (first.trans second)

/-- With no log ring an occurrence counts its own tally and no other. -/
theorem tally_occur_of_off {quarter : Nat → Bool} {now n detail : Nat} {p : EvPort} (noLog : p.events.log.enable = false)
    (below : Tab.read p.events.tally n 0 < max64) (k : Nat) :
    Tab.read (occur quarter now n detail p).1.events.tally k 0 = Tab.read p.events.tally k 0 + (if k = n then 1 else 0) := by
  refine (congrArg Prod.fst (counts_occur (.inr (.inr noLog)))).trans ?_
  split
  · next own =>
    subst own
    exact congrArg Prod.fst (counts_tallyInc_below below)
  · next other => exact congrArg Prod.fst (counts_tallyInc_other other _)

/-- An unsupported access is counted in DT5 and as E437, and touches no queue but the event mirror's. -/
theorem badAccess_counts {off : Nat} {d : Device} (noLog : d.events.log.enable = false) (unmirrored : Unmirrored d.wq)
    (room : ∀ k, Tab.read d.events.tally k 0 < max64) :
    (∀ k, Tab.read (d.badAccess off).events.tally k 0 = Tab.read d.events.tally k 0 + (if k = 437 ∨ k = dtIndex 5 then 1 else 0)) ∧
      (d.badAccess off).wq = d.wq := by
  have quiet {n : Nat} {e : EventState} (below : Tab.read e.tally n 0 < max64) : tallySticks n e ≠ true := fun sticks => by
    have := (tallySticks_iff.mp sticks).1
    omega
  have alone : (occur d.groupUp d.now (dtIndex 5) 0 (portOf d)).2 = [] := (occur_raises_of_bare noLog unmirrored).trans (if_neg (quiet (room _)))
  have noLog1 := occur_keeps_off (quarter := d.groupUp) (now := d.now) (n := dtIndex 5) (detail := 0) (p := portOf d) noLog
  have wq1 := wq_occur (quarter := d.groupUp) (now := d.now) (n := dtIndex 5) (detail := 0) (p := portOf d) unmirrored
  have dt5 := tally_occur_of_off (quarter := d.groupUp) (now := d.now) (n := dtIndex 5) (detail := 0) (p := portOf d) noLog (room _)
  have unmirrored1 : Unmirrored (occur d.groupUp d.now (dtIndex 5) 0 (portOf d)).1.wq := wq1 ▸ unmirrored
  have room1 : Tab.read (occur d.groupUp d.now (dtIndex 5) 0 (portOf d)).1.events.tally 437 0 < max64 := (dt5 437).trans_lt (room 437)
  have e437 := tally_occur_of_off (quarter := d.groupUp) (now := d.now) (n := 437) (detail := off) noLog1 room1
  rw [Device.badAccess, raise_of_two alone ((occur_raises_of_bare noLog1 unmirrored1).trans (if_neg (quiet room1)))]
  refine ⟨fun k => (e437 k).trans ?_, (wq_occur unmirrored1).trans wq1⟩
  rw [dt5 k, Nat.add_assoc]
  refine congrArg (Tab.read d.events.tally k 0 + ·) ?_
  by_cases own : k = dtIndex 5
  · subst own
    rfl
  · simp [own]

/-- Settles O55: an access with a side effect is one branch of its function, and a 32-bit access is an unsupported one. -/
theorem readsClearOrPopExactlyOnce : Obligations.ReadsClearOrPopExactlyOnce := by
  refine ⟨?clear, ?pop, ?narrow⟩
  case clear =>
    intro t k s d v
    refine ⟨tallyClear k d, rfl, rfl, read_put_same .., read_put_same .., fun j other => ⟨read_put_other other .., read_put_other other ..⟩, rfl, rfl, rfl, ?_⟩
    intro a b old new
    have zero : Tab.read (tallyClear k d).events.tally k 0 = 0 := read_put_same ..
    refine ⟨tally_repeat a old, (tally_repeat b (by omega)).trans (by rw [zero, Nat.zero_add])⟩
  case pop =>
    intro t q s d w
    refine ⟨fun x r head seen => ⟨wqPop q d, rfl, ?_⟩, fun unseen => ⟨wqPop q d, rfl, ?_⟩⟩
    · rw [wqPop_head head seen]
      refine ⟨rfl, ?_, fun j other => find_put_other other .., rfl, rfl⟩
      intro y
      rw [show y = _ from read_put_same ..]
      exact wqDrain_words ..
    · rw [wqPop_empty unseen]
      refine ⟨rfl, ?_, fun j other => find_put_other other .., rfl, rfl⟩
      intro y
      rw [show y = _ from read_put_same ..]
      obtain ⟨moved, words, tap, -⟩ := wqDrain_words q d.free w
      exact ⟨moved, words, tap, rfl⟩
  case narrow =>
    intro t off s d _ noLog sorted noMirror room
    obtain ⟨tally, wq⟩ := badAccess_counts (off := off) noLog ⟨sorted, noMirror⟩ room
    refine ⟨(d.badAccess off).replyData (wrLE 8 0), rfl, rfl, tally, fun j => ?_⟩
    rw [show ((d.badAccess off).replyData (wrLE 8 0)).wq = d.wq from wq]

end Sys2Proof.Proofs

/-!
PROOF. The event block in the module: its commands, one occurrence with its record, and what enters and leaves a word queue (SPEC 15).
-/
namespace Sys2Proof.Proofs

open Sys2Proof Sys2Proof.Machine Sys2Proof.Laws

/-! ### What an answer leaves (11 R336) -/

/-- A part of the module that the interface's accounts do not reach stands as it stood. -/
theorem AccountsOnly.same {α : Type} {d e : Device} (accounts : AccountsOnly d e) (part : Device → α)
    (apart : ∀ (d : Device) (rings : Tab Ring) (cq : CompRing) (host : Mem) (msix : MsixState),
      part { d with rk := { d.rk with rings := rings, cq := cq }, mem := { d.mem with host := host }, msix := msix } = part d := by intros; rfl) :
    part e = part d := by
  obtain ⟨rings, cq, host, msix, rfl⟩ := accounts
  exact apart ..

/-! ### Event commands (15 R450, R451) -/

/-- A range of sources takes a change, but for the reserved ones. -/
theorem src_foldl_upd (base count : Nat) (f : EvSrc → EvSrc) (e : EventState) :
    let e' := (List.range count).foldl (fun e i => if evReserved (base + i) then e else e.upd (base + i) f) e
    e'.tally = e.tally ∧ ∀ n, Tab.read e'.src n EvSrc.reset =
      if base ≤ n ∧ n < base + count ∧ evReserved n = false then f (Tab.read e.src n EvSrc.reset) else Tab.read e.src n EvSrc.reset := by
  induction count with
  | zero => exact ⟨rfl, fun n => (if_neg fun ⟨least, less, _⟩ => absurd less (Nat.not_lt.mpr least)).symm⟩
  | succ count ih =>
    obtain ⟨tally, src⟩ := ih
    rw [List.range_succ, List.foldl_append, List.foldl_cons, List.foldl_nil]
    generalize (List.range count).foldl _ e = b at tally src
    cases reserved : evReserved (base + count) with
    | true =>
      refine ⟨tally, fun n => (src n).trans (if_congr ?_ rfl rfl)⟩
      constructor
      · rintro ⟨least, less, real⟩
        exact ⟨least, by omega, real⟩
      · rintro ⟨least, less, real⟩
        refine ⟨least, ?_, real⟩
        rcases Nat.lt_succ_iff_lt_or_eq.mp less with less | rfl
        · exact less
        · exact nomatch reserved.symm.trans real
    | false =>
      refine ⟨tally, fun n => ?_⟩
      by_cases own : n = base + count
      · subst own
        refine (read_put_same ..).trans ?_
        rw [src, if_neg (by omega), if_pos ⟨by omega, by omega, reserved⟩]
      · refine (read_put_other own ..).trans ((src n).trans (if_congr ?_ rfl rfl))
        constructor
        · rintro ⟨least, less, real⟩
          exact ⟨least, by omega, real⟩
        · rintro ⟨least, less, real⟩
          exact ⟨least, by omega, real⟩

theorem events_zeroIndices (off : Nat) (d : Device) : (d.zeroIndices off).events = d.events := rfl

/-- A flush that has met its END has no command to tell. -/
def flushTold (w : WordQueue) : WordQueue := if w.flushing then w else { w with flushCmd := [] }

theorem wq_decide_ok (o : Origin) (tag detail : Nat) (frame : Option Nat) (eff : Nat) (d : Device) :
    (d.decide o tag stOk detail frame eff).wq = d.wq := by
  cases o <;> rfl

theorem find_wqFlushed (q : Nat) (d : Device) : Tab.find q d.wqFlushed.wq.queues = (Tab.find q d.wq.queues).map flushTold := by
  refine (congrArg (Tab.find q ·.queues) (foldl_keeps (part := fun d : Device => d.wq) (fun b a => wq_decide_ok ..) _ _)).trans ?_
  exact find_mapVals (fun _ => flushTold) q d.wq.queues

theorem eventRouteSet_ok (c : Ctx) (d : Device) : (eventRouteSet.apply c d).final.map (·.1) ≠ some stBusy := nofun

theorem eventLogSet_apply (c : Ctx) (d : Device) : ((eventLogSet.apply c d).dev.events) = { d.events with
    log := d.events.log.set (c.p 0 8) (c.p 8 1) (c.p 10 1) (natBit (c.p 9 1) 0) (natBit (c.p 9 1) 1) } := by
  simp only [eventLogSet, Done.ok]
  split <;> rfl

theorem evLog_set_same {off log2 : Nat} (l : EvLog) (vector : Nat) (enable irq : Bool) (sameOff : off = l.offset) (sameLog2 : log2 = l.log2) :
    (l.set off log2 vector enable irq).windex = l.windex := by
  simp [EvLog.set, sameOff, sameLog2]

theorem evLog_set_moved {off log2 : Nat} {l : EvLog} (vector : Nat) (enable irq : Bool) (moved : off ≠ l.offset ∨ log2 ≠ l.log2) :
    (l.set off log2 vector enable irq).windex = 0 ∧ (l.set off log2 vector enable irq).full = false := by
  have other : (decide (off = l.offset) && decide (log2 = l.log2)) = false := by
    rcases moved with h | h <;> simp [h]
  simp only [EvLog.set, other]
  exact ⟨rfl, rfl⟩

/-! ### Word queue commands (15 R446, R451) -/

/-- WQUEUE_SET's new queue, once its flush has been told. -/
theorem wqueueSet_find (c : Ctx) (d : Device) (j : Nat) : Tab.find j (wqueueSet.apply c d).dev.wq.queues =
    (if j = c.handle then some (WordQueue.configure (c.p 0 1) (c.p 2 2) (c.p 4 2) d.now (natBit (c.p 1 1) 0) (Tab.read d.wq.queues c.handle WordQueue.reset))
      else Tab.find j d.wq.queues).map flushTold := by
  refine (find_wqFlushed j _).trans (congrArg (Option.map flushTold) ?_)
  split
  · next own =>
    subst own
    exact find_put_same ..
  · next other => exact find_put_other other ..

/-- What a queue still holds. -/
def queueHolds (w : WordQueue) : List (BitVec 64) × List TapWord × Bool × Bool := (w.words, w.tap, w.enabled, w.flushing)

theorem flushTold_eq (w : WordQueue) : ∃ cmds, flushTold w = { w with flushCmd := cmds } := by
  unfold flushTold
  split
  · exact ⟨w.flushCmd, rfl⟩
  · exact ⟨[], rfl⟩

theorem queueHolds_flushTold (w : WordQueue) : queueHolds (flushTold w) = queueHolds w := by
  obtain ⟨cmds, told⟩ := flushTold_eq w
  rw [told]
  rfl

theorem flush_keeps (cmd : List (Origin × Nat)) (now : Nat) (w : WordQueue) :
    (w.flush cmd now).pushed = w.pushed ∧ (w.flush cmd now).resets = w.resets ∧ (w.flushing = false → (w.flush cmd now).words = []) := by
  unfold WordQueue.flush
  split
  · next flushing => exact ⟨rfl, rfl, fun idle => nomatch flushing.symm.trans idle⟩
  · exact ⟨rfl, rfl, fun _ => rfl⟩

section Configure
variable (p a b now : Nat) (w : WordQueue)

theorem configure_on : let y := flushTold (w.configure p a b now true)
    y.producer = p ∧ y.arg = a ∧ y.arg2 = b ∧ y.enabled = true ∧ y.pushed = w.pushed ∧ y.resets = w.resets ∧
      y.words = w.words ∧ y.tap = w.tap ∧ y.flushing = w.flushing := by
  intro y
  obtain ⟨cmds, told⟩ := flushTold_eq (w.configure p a b now true)
  rw [show y = _ from told]
  exact ⟨rfl, rfl, rfl, rfl, rfl, rfl, rfl, rfl, rfl⟩

theorem configure_off : let y := flushTold (w.configure p a b now false)
    y.producer = p ∧ y.arg = a ∧ y.arg2 = b ∧ y.enabled = false ∧ y.pushed = w.pushed ∧ y.resets = w.resets ∧
      y.flushing = false ∧ y.tap = [] ∧ (w.flushing = false → y.words = []) := by
  intro y
  obtain ⟨cmds, told⟩ := flushTold_eq (w.configure p a b now false)
  obtain ⟨pushed, resets, words⟩ := flush_keeps [] now w
  rw [show y = _ from told]
  exact ⟨rfl, rfl, rfl, rfl, pushed, resets, rfl, rfl, words⟩

end Configure

/-- A flush of a queue with an empty tap: complete at once between items (15 R446). -/
theorem flush_of_noTap {w : WordQueue} (cmd : List (Origin × Nat)) (now : Nat) (idle : w.flushing = false) (noTap : w.tap = []) :
    w.flush cmd now = { w with
      words := [], tap := [], seen := 0, flushing := w.midItem, discarding := w.discarding && !w.midItem, flushCount := w.words.length, flushAt := now
      flushCmd := cmd } := by
  simp [WordQueue.flush, idle, noTap, dropThrough]

theorem wqueueFlush_off {c : Ctx} {d : Device} (off : (Tab.read d.wq.queues c.handle WordQueue.reset).enabled = false) :
    wqueueFlush.apply c d = Done.ok d := by
  simp only [wqueueFlush, off, Bool.not_false, if_true]

/-- What WQUEUE_FLUSH leaves of an enabled queue. -/
def afterFlush (c : Ctx) (d : Device) : WordQueue :=
  let f := (Tab.read d.wq.queues c.handle WordQueue.reset).flush [(c.origin, c.tag)] d.now
  if f.flushing then f else wqDrain c.handle d.free { f with flushCmd := [] }

theorem wqueueFlush_on {c : Ctx} {d : Device} (on : (Tab.read d.wq.queues c.handle WordQueue.reset).enabled = true) :
    (wqueueFlush.apply c d).dev.wq = { queues := Tab.put c.handle (afterFlush c d) d.wq.queues } := by
  simp only [wqueueFlush, on, Bool.not_true, Bool.false_eq_true, if_false, afterFlush]
  split <;> rfl

theorem wqueueFlush_ok (c : Ctx) (d : Device) : (wqueueFlush.apply c d).final.map (·.1) ≠ some stBusy := by
  simp only [wqueueFlush]
  split
  · exact nofun
  · split <;> exact nofun

/-! ### The record of an occurrence (15 R433, R436, R437) -/

section Record
variable {quarter : Nat → Bool} {now n detail : Nat} {p : EvPort}

/-- What every occurrence keeps, whatever raised it: a follow-up is an occurrence of one of a few sources. -/
theorem occurAll_keeps {P : EvPort → Prop} {S : Nat → Prop}
    (one : ∀ n detail p, S n → P p → P (occur quarter now n detail p).1 ∧ ∀ e ∈ (occur quarter now n detail p).2, S e.1) (fuel : Nat) {l : List (Nat × Nat)}
    (sources : ∀ e ∈ l, S e.1) (holds : P p) : P (occurAll quarter now fuel l p) := by
  induction fuel generalizing l p with
  | zero => exact holds
  | succ fuel ih =>
    cases l with
    | nil => exact holds
    | cons e rest =>
      obtain ⟨n, detail⟩ := e
      obtain ⟨kept, raised⟩ := one n detail p (sources _ List.mem_cons_self) holds
      refine ih (fun e mem => ?_) kept
      rcases List.mem_append.mp mem with mem | mem
      · exact raised e mem
      · exact sources e (List.mem_cons_of_mem _ mem)

theorem occurAll_keeps_all {P : EvPort → Prop} (one : ∀ n detail p, P p → P (occur quarter now n detail p).1) (fuel : Nat) (l : List (Nat × Nat)) (holds : P p) :
    P (occurAll quarter now fuel l p) :=
  occurAll_keeps (S := fun _ => True) (fun n detail p _ holds => ⟨one n detail p holds, fun _ _ => trivial⟩) fuel (fun _ _ => trivial) holds

/-- A source's registers at an occurrence that raises PENDING (R433). -/
def srcPosted (detail : Nat) (x : EvSrc) : EvSrc :=
  { x with pending := true, rpt := x.rpt || x.pending, lastDetail := detail % 2 ^ 32, seq := (x.seq + 1) % 2 ^ 32 }

/-- The record of an occurrence. -/
def recordOf (now n detail : Nat) (x : EvSrc) : EvRec := ⟨n, x.lostBefore, (x.seq + 1) % 2 ^ 32, detail, now⟩

/-- What an occurrence of a source with registers `x` has done when its record is due: counted, posted, and journalled. -/
def posted (now n detail : Nat) (x : EvSrc) (p : EvPort) : EvPort :=
  { p with
    events := { tallyInc n p.events with src := Tab.put n (srcPosted detail x) p.events.src }
    logs := p.logs.addEvent (recordOf now n detail x) }

variable (source : n < 512)
include source

/-- An occurrence of a source that is off, or whose route ends at its tally. -/
theorem occur_of_off (off : (Tab.read p.events.src n EvSrc.reset).enable = false ∨ 2 ≤ (Tab.read p.events.src n EvSrc.reset).route) :
    (occur quarter now n detail p).1.events = tallyInc n p.events ∧ (occur quarter now n detail p).1.mem = p.mem ∧
      (occur quarter now n detail p).1.msix = p.msix ∧ (occur quarter now n detail p).2 = if tallySticks n p.events = true then [(31, n)] else [] := by
  have no : ((Tab.read (tallyInc n p.events).src n EvSrc.reset).enable && decide ((Tab.read (tallyInc n p.events).src n EvSrc.reset).route < 2)) = false := by
    rw [tallyInc_src]
    rcases off with h | h
    · rw [h, Bool.false_and]
    · simp [Nat.not_lt.mpr h]
  unfold occur
  rw [if_neg (Nat.not_le.mpr source)]
  extract_lets
  rw [if_neg (by rw [no]; decide)]
  exact ⟨rfl, rfl, rfl, rfl⟩

/-- An occurrence of a source that is on: its record goes its way, and its vector is triggered once until PENDING is cleared. -/
theorem occur_of_on {x : EvSrc} (here : Tab.read p.events.src n EvSrc.reset = x) (on : x.enable = true) (route : x.route < 2) :
    let q := logRecord quarter (recordOf now n detail x) (posted now n detail x p)
    let o := (occur quarter now n detail p).1
    o.events.src = q.events.src ∧ o.events.log = q.events.log ∧ o.mem = q.mem ∧
      o.msix = (if x.route = 0 ∧ x.pending = false then msixTrigger x.vector q.msix else q.msix) := by
  intro q o
  have ran : o = (occur quarter now n detail p).1 := rfl
  unfold occur at ran
  rw [if_neg (Nat.not_le.mpr source)] at ran
  extract_lets sticks e s s' r p1 follow p2 _ p3 wq1 drops at ran
  have registers : s = x := (congrArg (Tab.read · n EvSrc.reset) (tallyInc_src ..)).trans here
  have port : p1 = posted now n detail x p := by
    simp only [p1, s', r, e, registers, tallyInc_src]
    rfl
  have record : p2 = q := by
    simp only [p2, q, port, r, s', registers]
    rfl
  rw [registers, on, decide_eq_true route, Bool.and_self, if_pos rfl] at ran
  rw [ran, ← record]
  refine ⟨rfl, rfl, rfl, if_congr ?_ (by rw [registers]) rfl⟩
  rw [registers, Bool.and_eq_true, decide_eq_true_eq, Bool.not_eq_true']

/-- What an occurrence of a source that is on raises besides, with no queues: what its record's way raises. -/
theorem occur_raises_of_on {x : EvSrc} (here : Tab.read p.events.src n EvSrc.reset = x) (on : x.enable = true) (route : x.route < 2)
    (noQueues : p.wq.queues = []) (below : Tab.read p.events.tally n 0 < max64) :
    (occur quarter now n detail p).2 = logFollow quarter (recordOf now n detail x) (posted now n detail x p) := by
  have quiet : tallySticks n p.events ≠ true := fun sticks => by
    have := (tallySticks_iff.mp sticks).1
    omega
  unfold occur
  rw [if_neg (Nat.not_le.mpr source)]
  extract_lets sticks e s s' r p1 follow p2 _ p3 wq1 drops
  have registers : s = x := (congrArg (Tab.read · n EvSrc.reset) (tallyInc_src ..)).trans here
  have port : p1 = posted now n detail x p := by
    simp only [p1, s', r, e, registers, tallyInc_src]
    rfl
  have raised : follow = logFollow quarter (recordOf now n detail x) (posted now n detail x p) := by
    simp only [follow, port, r, s', registers]
    rfl
  have queues : p3.wq.queues = [] := (congrArg WqState.queues (wq_logRecord (p := p1))).trans noQueues
  have none_ : drops = [] := by
    simp only [drops, wq1, wqItem_of_unmirrored (unmirrored_of_none queues), wqDrops_self (unmirrored_of_none queues).1]
  have silent : sticks = [] := if_neg quiet
  rw [registers, on, decide_eq_true route, Bool.and_self, if_pos rfl, ← raised, silent, none_, List.nil_append, List.append_nil]

end Record

section Ring
variable {quarter : Nat → Bool} {r : EvRec} {p : EvPort} (on : p.events.log.enable = true) (up : quarter (p.events.log.offset / 2 ^ 32) = true)
  (noHeld : p.events.log.held = none)

theorem logHeld_of_none (noHeld : p.events.log.held = none) : logHeld p = p := by
  rw [logHeld, noHeld]

include on up noHeld

theorem logRecord_of_room (room : logFull p = false) : logRecord quarter r p = logWrite r p ∧ logFollow quarter r p = [] := by
  simp only [logRecord, logFollow, on, up, Bool.not_true, Bool.false_eq_true, if_false, logHeld_of_none noHeld, room, Bool.false_and, and_self]

theorem logRecord_of_full (full : logFull p = true) (silent : p.events.log.wrote = false) (below : Tab.read p.events.tally (dtIndex 7) 0 < max64) :
    logRecord quarter r p = logDrop r p ∧ logFollow quarter r p = [] := by
  have quiet : tallySticks (dtIndex 7) p.events ≠ true := fun sticks => by
    have := (tallySticks_iff.mp sticks).1
    omega
  simp only [logRecord, logFollow, on, up, Bool.not_true, Bool.false_eq_true, if_false, logHeld_of_none noHeld, full, if_true, Bool.true_and, silent, quiet,
    List.append_nil, ite_self, and_self]

end Ring

@[simp] theorem evRecBytes_length (r : EvRec) : (evRecBytes r).length = 32 := by simp [evRecBytes, timeWordBytes]

/-- A string stands where it was stored after a store elsewhere. -/
theorem memBytes_memStore_other {m : Mem} {lo n a : Nat} {b : Bytes} (apart : lo + n ≤ a ∨ a + b.length ≤ lo) : memBytes (memStore m a b) lo n = memBytes m lo n := by
  induction n generalizing lo with
  | zero => rfl
  | succ n ih =>
    rw [memBytes, memBytes, memRead_memStore_other (by omega), ih (by omega)]

/-- The slot that the next record takes (15 R436). -/
def logSlot (l : EvLog) : Nat := l.offset + 4096 + 32 * (l.windex % 2 ^ l.log2)

section Write
variable (r : EvRec) (p : EvPort)

/-- A record lies in its slot, and WRITE_INDEX after it; nothing else is written. -/
theorem logWrite_hdm : let l := p.events.log
    let m := (logWrite r p).mem.hdm
    memBytes m (logSlot l) 32 = evRecBytes r ∧ memBytes m l.offset 8 = wrLE 8 (l.windex + 1) ∧
      ∀ a, (a < l.offset ∨ l.offset + 8 ≤ a) → (a < logSlot l ∨ logSlot l + 32 ≤ a) → memRead m a = memRead p.mem.hdm a := by
  intro l m
  have stores : m = memStore (memStore p.mem.hdm (logSlot l) (evRecBytes r)) l.offset (wrLE 8 (l.windex + 1)) := rfl
  have slot : l.offset + 8 ≤ logSlot l := by
    unfold logSlot
    omega
  rw [stores]
  refine ⟨?_, ?_, fun a index record => ?_⟩
  · rw [memBytes_memStore_other (by rw [wrLE_length]; omega), ← evRecBytes_length r, memBytes_memStore]
  · have bytes := memBytes_memStore (memStore p.mem.hdm (logSlot l) (evRecBytes r)) l.offset (wrLE 8 (l.windex + 1))
    rwa [wrLE_length] at bytes
  · rw [memRead_memStore_other (by rwa [wrLE_length]), memRead_memStore_other (by rwa [evRecBytes_length])]

theorem logWrite_src {x : EvSrc} (here : Tab.read p.events.src r.source EvSrc.reset = x) :
    Tab.read (logWrite r p).events.src r.source EvSrc.reset = { x with lostBefore := false } :=
  (read_put_same ..).trans (by rw [here])

theorem logDrop_of_other {x : EvSrc} (notE020 : r.source ≠ 20) (here : Tab.read p.events.src r.source EvSrc.reset = x) :
    (logDrop r p).mem = p.mem ∧ (logDrop r p).events.log = { p.events.log with full := true, wrote := false } ∧
      Tab.read (logDrop r p).events.src r.source EvSrc.reset = { x with lostBefore := true } := by
  rw [logDrop, if_neg notE020]
  refine ⟨rfl, ?_, (read_put_same ..).trans ?_⟩
  · exact congrArg (fun l : EvLog => { l with full := true, wrote := false }) (tallyInc_log ..)
  · rw [tallyInc_src, here]

end Write

/-! ### An occurrence in the module (15 R433) -/

theorem wq_raise_of_none {d : Device} (evs : List (Nat × Nat)) (noQueues : d.wq.queues = []) : (d.raise evs).wq.queues = [] :=
  occurAll_keeps_all (P := fun p => p.wq.queues = []) (p := portOf d)
    (fun _ _ _ none_ => (congrArg WqState.queues (wq_occur (unmirrored_of_none none_))).trans none_) _ evs noQueues

/-- With no queues, what an occurrence raises is E020, E031 or E436. -/
theorem source_of_follows {p : EvPort} {e : Nat × Nat} (noQueues : p.wq.queues = []) (follows : Follows p e) : e.1 = 20 ∨ e.1 = 31 ∨ e.1 = 436 := by
  rcases follows with ⟨-, is436 | rfl | rfl⟩ | ⟨mirror, -⟩
  · exact .inr (.inr is436)
  · exact .inl rfl
  · exact .inr (.inl rfl)
  · exact absurd (unmirrored_of_none noQueues) mirror

section Occurrence
variable {n detail : Nat} {d : Device} (source : n < 512) (noQueues : d.wq.queues = []) (below : Tab.read d.events.tally n 0 < max64)

theorem eventOccurrence_eq (real : evReserved n = false) (noQueues : d.wq.queues = []) : eventOccurrence n detail d = d.raise [(n, detail)] := by
  rw [eventOccurrence, real, if_neg Bool.false_ne_true, wqFlushed_of_none (wq_raise_of_none _ noQueues)]

include source noQueues below

/-- A source that no occurrence raises besides is counted once. -/
theorem tally_raise (notE020 : n ≠ 20) (notE031 : n ≠ 31) (notE436 : n ≠ 436) :
    Tab.read (d.raise [(n, detail)]).events.tally n 0 = Tab.read d.events.tally n 0 + 1 := by
  have notDt : n ≠ dtIndex 7 := by unfold dtIndex; omega
  have quiet : tallySticks n (portOf d).events ≠ true := fun sticks => by
    have := (tallySticks_iff.mp sticks).1
    have : Tab.read (portOf d).events.tally n 0 < max64 := below
    omega
  rw [raise_one]
  refine (occurAll_keeps (P := fun p => p.wq.queues = [] ∧ Tab.read p.events.tally n 0 = Tab.read d.events.tally n 0 + 1) (S := fun k => k = 20 ∨ k = 31 ∨ k = 436)
    (fun k x p named holds => ?_) 23 (fun e mem => ?_) ?_).2
  · obtain ⟨none_, counted⟩ := holds
    have other : n ≠ k := by omega
    refine ⟨⟨(congrArg WqState.queues (wq_occur (unmirrored_of_none none_))).trans none_,
      ((congrArg Prod.fst ((counts_occur (.inr (.inl notDt))).trans (counts_tallyInc_other other _))).trans counted)⟩, fun e mem => ?_⟩
    obtain ⟨rest, raises, follows⟩ := occur_raises (quarter := d.groupUp) (now := d.now) (n := k) (detail := x) (p := p)
    rw [raises] at mem
    rcases List.mem_append.mp mem with sticks | rest
    · split at sticks
      · exact .inr (.inl (congrArg Prod.fst (List.mem_singleton.mp sticks)))
      · cases sticks
    · exact source_of_follows none_ (follows e rest).2
  · obtain ⟨rest, raises, follows⟩ := occur_raises (quarter := d.groupUp) (now := d.now) (n := n) (detail := detail) (p := portOf d)
    rw [raises, if_neg quiet, List.nil_append] at mem
    exact source_of_follows noQueues (follows e mem).2
  · exact ⟨(congrArg WqState.queues (wq_occur (unmirrored_of_none noQueues))).trans noQueues,
      congrArg Prod.fst ((counts_occur (.inr (.inl notDt))).trans (counts_tallyInc_below below))⟩

omit source noQueues in
theorem not_tallySticks : ¬tallySticks n (portOf d).events = true := fun sticks => by
  have := (tallySticks_iff.mp sticks).1
  have : Tab.read (portOf d).events.tally n 0 < max64 := below
  omega

omit noQueues in
/-- A source that is off, or whose route ends at its tally, shows nowhere else. -/
theorem raise_of_off (off : (Tab.read d.events.src n EvSrc.reset).enable = false ∨ 2 ≤ (Tab.read d.events.src n EvSrc.reset).route) :
    (d.raise [(n, detail)]).events.src = d.events.src ∧ (d.raise [(n, detail)]).mem = d.mem ∧ (d.raise [(n, detail)]).msix = d.msix := by
  obtain ⟨events, mem, msix, raises⟩ := occur_of_off (quarter := d.groupUp) (now := d.now) (n := n) (detail := detail) (p := portOf d) source off
  rw [raise_of_alone (raises.trans (if_neg (not_tallySticks below)))]
  exact ⟨(congrArg EventState.src events).trans (tallyInc_src ..), mem, msix⟩

section On
variable {x : EvSrc} (here : Tab.read d.events.src n EvSrc.reset = x) (on : x.enable = true) (route : x.route < 2)
include here on route

/-- A source that is on, where its record raises nothing besides. -/
theorem raise_of_on {q : EvPort} (record : logRecord d.groupUp (recordOf d.now n detail x) (posted d.now n detail x (portOf d)) = q)
    (silent : logFollow d.groupUp (recordOf d.now n detail x) (posted d.now n detail x (portOf d)) = []) : let e := d.raise [(n, detail)]
    e.events.src = q.events.src ∧ e.events.log = q.events.log ∧ e.mem = q.mem ∧
      e.msix = (if x.route = 0 ∧ x.pending = false then msixTrigger x.vector q.msix else q.msix) := by
  have raises := (occur_raises_of_on (quarter := d.groupUp) (now := d.now) (detail := detail) (p := portOf d) source here on route noQueues below).trans silent
  have does := occur_of_on (quarter := d.groupUp) (now := d.now) (detail := detail) (p := portOf d) source here on route
  rw [record] at does
  intro e
  rw [show e = _ from raise_of_alone raises]
  exact does

omit source noQueues below here on route in
theorem posted_log : (posted d.now n detail x (portOf d)).events.log = d.events.log := tallyInc_log ..

omit source noQueues below here on route in
theorem posted_src : Tab.read (posted d.now n detail x (portOf d)).events.src n EvSrc.reset = srcPosted detail x := read_put_same ..

theorem raise_of_logOff (noLog : d.events.log.enable = false) : let e := d.raise [(n, detail)]
    Tab.read e.events.src n EvSrc.reset = srcPosted detail x ∧
      e.msix = (if x.route = 0 ∧ x.pending = false then msixTrigger x.vector d.msix else d.msix) ∧ e.mem = d.mem := by
  have off : (posted d.now n detail x (portOf d)).events.log.enable = false := (congrArg EvLog.enable posted_log).trans noLog
  obtain ⟨src, -, mem, msix⟩ := raise_of_on source noQueues below here on route (logRecord_of_off off) (by rw [logFollow, off]; rfl)
  exact ⟨(congrArg (Tab.read · n EvSrc.reset) src).trans posted_src, msix, mem⟩

variable (logOn : d.events.log.enable = true) (up : d.groupUp (d.events.log.offset / 2 ^ 32) = true) (noHeld : d.events.log.held = none)
include logOn up noHeld

theorem raise_of_room (room : ringFull d.events.log.windex (readIndex d.mem d.events.log.offset) (2 ^ d.events.log.log2) = false) :
    let e := d.raise [(n, detail)]
    let l := d.events.log
    e.mem = (logWrite (recordOf d.now n detail x) (posted d.now n detail x (portOf d))).mem ∧ e.events.log.windex = (l.windex + 1) % 2 ^ 64 ∧
      (Tab.read e.events.src n EvSrc.reset).lostBefore = false := by
  have log := posted_log (n := n) (detail := detail) (x := x) (d := d)
  obtain ⟨record, silent⟩ := logRecord_of_room (quarter := d.groupUp) (r := recordOf d.now n detail x) (p := posted d.now n detail x (portOf d))
    (by rw [log, logOn]) (by rw [log, up]) (by rw [log, noHeld]) (by rw [logFull, log]; exact room)
  obtain ⟨src, ring, mem, -⟩ := raise_of_on source noQueues below here on route record silent
  refine ⟨mem, (congrArg EvLog.windex ring).trans (congrArg (fun l : EvLog => (l.windex + 1) % 2 ^ 64) log), ?_⟩
  have written := logWrite_src (recordOf d.now n detail x) (posted d.now n detail x (portOf d)) posted_src
  exact (congrArg (fun t => (Tab.read t n EvSrc.reset).lostBefore) src).trans (congrArg EvSrc.lostBefore written)

theorem raise_of_full (notE020 : n ≠ 20) (roomDt7 : Tab.read d.events.tally (dtIndex 7) 0 < max64)
    (full : ringFull d.events.log.windex (readIndex d.mem d.events.log.offset) (2 ^ d.events.log.log2) = true) (told : d.events.log.wrote = false) :
    let e := d.raise [(n, detail)]
    e.mem = d.mem ∧ e.events.log.windex = d.events.log.windex ∧ e.events.log.full = true ∧
      Tab.read e.events.src n EvSrc.reset = { srcPosted detail x with lostBefore := true } := by
  have log := posted_log (n := n) (detail := detail) (x := x) (d := d)
  have notDt : dtIndex 7 ≠ n := by unfold dtIndex; omega
  have dt7 : Tab.read (posted d.now n detail x (portOf d)).events.tally (dtIndex 7) 0 < max64 :=
    (congrArg Prod.fst (counts_tallyInc_other notDt d.events)).trans_lt roomDt7
  obtain ⟨record, silent⟩ := logRecord_of_full (quarter := d.groupUp) (r := recordOf d.now n detail x) (p := posted d.now n detail x (portOf d))
    (by rw [log, logOn]) (by rw [log, up]) (by rw [log, noHeld]) (by rw [logFull, log]; exact full) (by rw [log, told]) dt7
  obtain ⟨src, ring, mem, -⟩ := raise_of_on source noQueues below here on route record silent
  obtain ⟨memKept, logKept, lost⟩ := logDrop_of_other (recordOf d.now n detail x) (posted d.now n detail x (portOf d)) notE020 posted_src
  refine ⟨mem.trans memKept, ?_, ?_, ?_⟩
  · rw [ring, logKept, log]
  · rw [ring, logKept]
  · exact (congrArg (Tab.read · n EvSrc.reset) src).trans lost

end On

end Occurrence

/-! ### Queues through events (15 R445) -/

/-- A queue marked with its E450 differs in that moment alone. -/
theorem find_wqMark {q : Nat} {w : WordQueue} {x : WqState} (now : Nat) (evs : List (Nat × Nat)) (found : Tab.find q x.queues = some w) :
    ∃ told, Tab.find q (wqMark now evs x).queues = some { w with lastE450 := told } := by
  refine ⟨if evs.any (fun e => e.2 % 65536 == q) then some now else w.lastE450,
    (find_mapVals (fun q (w : WordQueue) => if evs.any (fun e => e.2 % 65536 == q) then { w with lastE450 := some now } else w) q x.queues).trans ?_⟩
  rw [found, Option.map_some]
  split <;> rfl

/-- A queue that an item is not for stands as it stood. -/
theorem find_wqItem_other {q producer free : Nat} {mine : WordQueue → Bool} {ws : List (BitVec 64)} {w : WordQueue} {x : WqState}
    (found : Tab.find q x.queues = some w) (other : w.producer ≠ producer) : Tab.find q (wqItem producer mine ws free x).queues = some w := by
  refine (find_mapVals (fun q (w : WordQueue) => if w.enabled && w.producer == producer && mine w then wqFeed q (free + 2 * q) (itemWords ws) w else w) q x.queues).trans ?_
  simp [found, other]

/-- An event passes by a queue that does not take the event mirror, but for the moment of its own E450. -/
theorem find_wq_raise {q : Nat} {w : WordQueue} {evs : List (Nat × Nat)} {d : Device} (found : Tab.find q d.wq.queues = some w) (other : w.producer ≠ 1) :
    ∃ told, Tab.find q (d.raise evs).wq.queues = some { w with lastE450 := told } := by
  refine occurAll_keeps_all (P := fun p => ∃ told, Tab.find q p.wq.queues = some { w with lastE450 := told }) (p := portOf d) (fun n detail p holds => ?_) _ evs
    ⟨w.lastE450, found⟩
  obtain ⟨told, here⟩ := holds
  unfold occur
  split
  · exact ⟨told, here⟩
  · extract_lets _ e s s' r p1 _ p2 _ p3 wq1 drops
    split
    · have before : Tab.find q p3.wq.queues = some { w with lastE450 := told } :=
        (congrArg (fun x => Tab.find q (WqState.queues x)) (wq_logRecord (p := p1))).trans here
      exact find_wqMark (w := { w with lastE450 := told }) d.now drops (find_wqItem_other before other)
    · exact ⟨told, here⟩

theorem find_raise_wqFlushed {q : Nat} {w : WordQueue} {evs : List (Nat × Nat)} {d : Device} (found : Tab.find q d.wq.queues = some w) (other : w.producer ≠ 1) :
    ∃ told, Tab.find q (d.raise evs).wqFlushed.wq.queues = some (flushTold { w with lastE450 := told }) := by
  obtain ⟨told, kept⟩ := find_wq_raise (evs := evs) found other
  exact ⟨told, (find_wqFlushed ..).trans (by rw [kept, Option.map_some])⟩

/-! ### Words into a queue (15 R445) -/

/-- The words of a push, the last one with END where it ends its item. -/
def pushedWords (last : Bool) (ws : List (BitVec 64)) : List TapWord := if last then itemWords ws else ws.map (fun x => ⟨x, false⟩)

theorem itemWords_word (ws : List (BitVec 64)) : (itemWords ws).map (·.word) = ws := by
  induction ws with
  | nil => rfl
  | cons a r ih =>
    cases r with
    | nil => rfl
    | cons b r => exact congrArg (a :: ·) ih

/-- Of a push only the last word can be an END. -/
inductive OneItem (last : Bool) : List TapWord → Prop where
  | nil : OneItem last []
  | last (x : TapWord) : x.last = last → OneItem last [x]
  | cons (x y : TapWord) (r : List TapWord) : x.last = false → OneItem last (y :: r) → OneItem last (x :: y :: r)

theorem oneItem_itemWords (ws : List (BitVec 64)) : OneItem true (itemWords ws) := by
  induction ws with
  | nil => exact .nil
  | cons a r ih =>
    cases r with
    | nil => exact .last _ rfl
    | cons b r =>
      cases r with
      | nil => exact .cons _ _ _ rfl ih
      | cons c r => exact .cons _ _ _ rfl ih

theorem oneItem_open (ws : List (BitVec 64)) : OneItem false (ws.map (fun x => ⟨x, false⟩)) := by
  induction ws with
  | nil => exact .nil
  | cons a r ih =>
    cases r with
    | nil => exact .last _ rfl
    | cons b r => exact .cons _ _ _ rfl ih

theorem oneItem_pushedWords (last : Bool) (ws : List (BitVec 64)) : OneItem last (pushedWords last ws) := by
  cases last with
  | true => exact oneItem_itemWords ws
  | false => exact oneItem_open ws

theorem pushedWords_word (last : Bool) (ws : List (BitVec 64)) : (pushedWords last ws).map (·.word) = ws := by
  cases last with
  | true => exact itemWords_word ws
  | false => exact (List.map_map ..).trans (List.map_id ws)

section Take
variable {w : WordQueue} (keeps : w.discarding = false) (idle : w.flushing = false)
include keeps idle

theorem wqTake_takes (x : TapWord) (takes : w.dropItem = false) (room : w.midItem = true ∨ tapFull w = false) :
    wqTake x w = { w with tap := w.tap ++ [x], midItem := !x.last } := by
  have no : (!w.midItem && tapFull w) = false := by
    rcases room with h | h <;> simp [h]
  rw [wqTake, keeps, if_neg Bool.false_ne_true, idle, if_neg Bool.false_ne_true, takes, if_neg Bool.false_ne_true, no, if_neg Bool.false_ne_true]

theorem wqTake_drops (x : TapWord) (drops : w.dropItem = true) : wqTake x w = { w with dropItem := !x.last, midItem := !x.last } := by
  rw [wqTake, keeps, if_neg Bool.false_ne_true, idle, if_neg Bool.false_ne_true, drops, if_pos rfl]

theorem wqTake_full (x : TapWord) (takes : w.dropItem = false) (between : w.midItem = false) (full : tapFull w = true) :
    wqTake x w = { w with dropItem := !x.last, midItem := !x.last, dropped := satAdd max64 w.dropped 1 } := by
  rw [wqTake, keeps, if_neg Bool.false_ne_true, idle, if_neg Bool.false_ne_true, takes, if_neg Bool.false_ne_true, between, full]
  rfl

end Take

/-- An item for which the tap has room enters it whole. -/
theorem foldl_wqTake_takes {last : Bool} {xs : List TapWord} (item : OneItem last xs) {w : WordQueue} (keeps : w.discarding = false) (idle : w.flushing = false)
    (takes : w.dropItem = false) (room : w.midItem = true ∨ tapFull w = false) :
    ∃ mid, xs.foldl (fun w x => wqTake x w) w = { w with tap := w.tap ++ xs, midItem := mid } ∧ (xs ≠ [] → mid = !last) := by
  induction item generalizing w with
  | nil => exact ⟨w.midItem, by rw [List.append_nil]; rfl, fun some_ => absurd rfl some_⟩
  | last x ends => exact ⟨!last, by rw [List.foldl_cons, List.foldl_nil, wqTake_takes keeps idle x takes room, ends], fun _ => rfl⟩
  | cons x y r open_ item ih =>
    rw [List.foldl_cons, wqTake_takes keeps idle x takes room, open_]
    obtain ⟨mid, entered, ends⟩ := ih (w := { w with tap := w.tap ++ [x], midItem := true }) keeps idle takes (.inl rfl)
    refine ⟨mid, entered.trans ?_, fun _ => ends (List.cons_ne_nil y r)⟩
    rw [List.append_assoc, List.singleton_append]

/-- The rest of a dropped item is dropped with it. -/
theorem foldl_wqTake_drops {last : Bool} {xs : List TapWord} (item : OneItem last xs) {w : WordQueue} (keeps : w.discarding = false) (idle : w.flushing = false)
    (drops : w.dropItem = true) : ∃ drop mid, xs.foldl (fun w x => wqTake x w) w = { w with dropItem := drop, midItem := mid } := by
  induction item generalizing w with
  | nil => exact ⟨w.dropItem, w.midItem, rfl⟩
  | last x ends => exact ⟨_, _, wqTake_drops keeps idle x drops⟩
  | cons x y r open_ item ih =>
    rw [List.foldl_cons, wqTake_drops keeps idle x drops, open_]
    exact ih (w := { w with dropItem := true, midItem := true }) keeps idle rfl

/-- An item that finds the tap full is dropped whole, and counted once. -/
theorem foldl_wqTake_full {last : Bool} {xs : List TapWord} (item : OneItem last xs) (some_ : xs ≠ []) {w : WordQueue} (keeps : w.discarding = false)
    (idle : w.flushing = false) (takes : w.dropItem = false) (between : w.midItem = false) (full : tapFull w = true) :
    ∃ drop mid, xs.foldl (fun w x => wqTake x w) w = { w with dropItem := drop, midItem := mid, dropped := satAdd max64 w.dropped 1 } := by
  cases item with
  | nil => exact absurd rfl some_
  | last x ends => exact ⟨_, _, wqTake_full keeps idle x takes between full⟩
  | cons x y r open_ item =>
    rw [List.foldl_cons, wqTake_full keeps idle x takes between full, open_]
    exact foldl_wqTake_drops item (w := { w with dropItem := true, midItem := true, dropped := satAdd max64 w.dropped 1 }) keeps idle rfl

theorem wqLag_le (q free : Nat) : wqLag q free ≤ 3 := by
  unfold wqLag
  split
  · exact Nat.zero_le 3
  · exact Nat.le_of_lt_succ (Config.free 2 free).isLt

/-- Words for which the queue has room pass into it. -/
theorem wqDrain_of_room {q free : Nat} {w : WordQueue} (room : w.words.length + w.tap.length + 3 ≤ wqDepth q) :
    (wqDrain q free w).words = w.words ++ w.tap.map (·.word) ∧ (wqDrain q free w).tap = [] := by
  have lag := wqLag_le q free
  have all : w.tap.length ≤ wqDepth q - (w.words.length + wqLag q free) := by omega
  exact ⟨congrArg (fun l : List TapWord => w.words ++ l.map (fun x => x.word)) (List.take_of_length_le all), List.drop_of_length_le all⟩

/-- A full queue takes none. -/
theorem wqDrain_of_full {q free : Nat} {w : WordQueue} (full : wqDepth q ≤ w.words.length) :
    (wqDrain q free w).words = w.words ∧ (wqDrain q free w).tap = w.tap := by
  have none_ : wqDepth q - (w.words.length + wqLag q free) = 0 := by omega
  simp only [wqDrain, none_, List.take_zero, List.map_nil, List.append_nil, List.drop_zero, and_self]

/-- A push into an enabled queue that does not take the event mirror. -/
theorem find_wqPush {q : Nat} {ws : List (BitVec 64)} {last : Bool} {w v : WordQueue} {d : Device} (found : Tab.find q d.wq.queues = some w)
    (on : w.enabled = true) (fed : wqDrain q d.free ((pushedWords last ws).foldl (fun w x => wqTake x w) w) = v) (other : v.producer ≠ 1) :
    ∃ told, Tab.find q (wqPush q ws last d).wq.queues = some (flushTold { v with lastE450 := told }) := by
  have read : Tab.read d.wq.queues q WordQueue.reset = w := by rw [Tab.read, found]; rfl
  have feed : wqFeed q d.free (pushedWords last ws) w = v := by rw [wqFeed, on, if_pos rfl, fed]
  unfold wqPush
  extract_lets w0 xs wq1 drops
  have own : w0 = w := read
  rw [own, on, Bool.true_or, if_pos rfl]
  have put : Tab.find q wq1.queues = some v := (find_put_same ..).trans (by rw [own]; exact congrArg some feed)
  obtain ⟨told, here⟩ := find_wqMark d.now drops put
  exact find_raise_wqFlushed (w := { v with lastE450 := told }) here other

/-! ### Event and queue commands in the module -/

section Commands
variable {t : Nat} {ring : Fin 4} {entry : Bytes} {s : State}

theorem eventRouteSet_effect (ok : passes eventRouteSet t ring entry s = true) : let c := ctxAt eventRouteSet t ring entry s
    let d := takenAt t ring entry s
    ∃ d', exec (.eventRouteSet t ring entry) s = .next { s with dev := d' } ∧ d'.events.tally = d.events.tally ∧
      ∀ n, let x := Tab.read d.events.src n EvSrc.reset
        Tab.read d'.events.src n EvSrc.reset =
          if c.handle ≤ n ∧ n < c.handle + c.p 0 2 ∧ evReserved n = false then { x with enable := natBit (c.p 2 1) 0, route := c.p 3 1, vector := c.p 4 1 } else x := by
  intro c d
  obtain ⟨d', ran, accounts⟩ := answers_of_passes (i := .eventRouteSet t ring entry) rfl eventRouteSet_ok ok rfl
  have events := AccountsOnly.same accounts (·.events)
  obtain ⟨tally, src⟩ := src_foldl_upd c.handle (c.p 0 2) (fun s => { s with enable := natBit (c.p 2 1) 0, route := c.p 3 1, vector := c.p 4 1 }) d.events
  refine ⟨d', ran, ?_, fun n => ?_⟩
  · exact (congrArg EventState.tally events).trans tally
  · exact (congrArg (fun e : EventState => Tab.read e.src n EvSrc.reset) events).trans (src n)

theorem eventLogSet_ok (c : Ctx) (d : Device) : (eventLogSet.apply c d).final.map (·.1) ≠ some stBusy := nofun

theorem evLog_set_fields (l : EvLog) (off log2 vector : Nat) (enable irq : Bool) : let m := l.set off log2 vector enable irq
    m.offset = off ∧ m.log2 = log2 ∧ m.enable = enable ∧ m.irq = irq ∧ m.vector = vector ∧ m.held = l.held ∧
      (off = l.offset → log2 = l.log2 → m.windex = l.windex) ∧ (off ≠ l.offset ∨ log2 ≠ l.log2 → m.windex = 0 ∧ m.full = false) :=
  ⟨rfl, rfl, rfl, rfl, rfl, rfl, evLog_set_same l vector enable irq, evLog_set_moved vector enable irq⟩

theorem eventLogSet_effect (ok : passes eventLogSet t ring entry s = true) : let c := ctxAt eventLogSet t ring entry s
    let d := takenAt t ring entry s
    ∃ d', exec (.eventLogSet t ring entry) s = .next { s with dev := d' } ∧ d'.events.src = d.events.src ∧
      d'.events.log = d.events.log.set (c.p 0 8) (c.p 8 1) (c.p 10 1) (natBit (c.p 9 1) 0) (natBit (c.p 9 1) 1) := by
  intro c d
  obtain ⟨d', ran, accounts⟩ := answers_of_passes (i := .eventLogSet t ring entry) rfl eventLogSet_ok ok rfl
  have events := (AccountsOnly.same accounts (·.events)).trans (eventLogSet_apply c d)
  exact ⟨d', ran, by rw [events], by rw [events]⟩

theorem wqueueSet_ok (c : Ctx) (d : Device) : (wqueueSet.apply c d).final.map (·.1) ≠ some stBusy := nofun

theorem wqueueSet_effect (ok : passes wqueueSet t ring entry s = true) : let c := ctxAt wqueueSet t ring entry s
    let d := takenAt t ring entry s
    let w := Tab.read d.wq.queues c.handle WordQueue.reset
    ∃ d' y, exec (.wqueueSet t ring entry) s = .next { s with dev := d' } ∧ Tab.find c.handle d'.wq.queues = some y ∧
      y.producer = c.p 0 1 ∧ y.arg = c.p 2 2 ∧ y.arg2 = c.p 4 2 ∧ y.enabled = natBit (c.p 1 1) 0 ∧ y.pushed = w.pushed ∧ y.resets = w.resets ∧
      (natBit (c.p 1 1) 0 = true → y.words = w.words ∧ y.tap = w.tap ∧ y.flushing = w.flushing) ∧
      (natBit (c.p 1 1) 0 = false → y.flushing = false ∧ y.tap = [] ∧ (w.flushing = false → y.words = [])) ∧
      ∀ j, j ≠ c.handle → (Tab.find j d'.wq.queues).map queueHolds = (Tab.find j d.wq.queues).map queueHolds := by
  intro c d w
  obtain ⟨d', ran, accounts⟩ := answers_of_passes (i := .wqueueSet t ring entry) rfl wqueueSet_ok ok rfl
  have queues (j : Nat) := (congrArg (fun x : WqState => Tab.find j x.queues) (AccountsOnly.same accounts (·.wq))).trans (wqueueSet_find c d j)
  have own := queues c.handle
  rw [if_pos rfl] at own
  refine ⟨d', _, ran, own, ?_⟩
  have others (j : Nat) (other : j ≠ c.handle) : (Tab.find j d'.wq.queues).map queueHolds = (Tab.find j d.wq.queues).map queueHolds := by
    rw [queues, if_neg other, Option.map_map]
    exact congrArg (Option.map · _) (funext queueHolds_flushTold)
  cases enable : natBit (c.p 1 1) 0 with
  | true =>
    obtain ⟨producer, arg, arg2, on, pushed, resets, words, tap, flushing⟩ := configure_on (c.p 0 1) (c.p 2 2) (c.p 4 2) d.now w
    exact ⟨producer, arg, arg2, on, pushed, resets, fun _ => ⟨words, tap, flushing⟩, nofun, others⟩
  | false =>
    obtain ⟨producer, arg, arg2, off, pushed, resets, flushing, tap, words⟩ := configure_off (c.p 0 1) (c.p 2 2) (c.p 4 2) d.now w
    exact ⟨producer, arg, arg2, off, pushed, resets, nofun, fun _ => ⟨flushing, tap, words⟩, others⟩

theorem wqDrain_of_noTap (q free : Nat) {w : WordQueue} (noTap : w.tap = []) : (wqDrain q free w).words = w.words := by
  simp [wqDrain, noTap]

theorem wqueueFlush_effect (ok : passes wqueueFlush t ring entry s = true) : let c := ctxAt wqueueFlush t ring entry s
    let d := takenAt t ring entry s
    let w := Tab.read d.wq.queues c.handle WordQueue.reset
    ∃ d', exec (.wqueueFlush t ring entry) s = .next { s with dev := d' } ∧
      (w.enabled = false → d'.wq = d.wq) ∧
      (w.enabled = true → w.flushing = false → w.tap = [] →
        ∃ y, Tab.find c.handle d'.wq.queues = some y ∧ y.words = [] ∧ y.flushing = w.midItem ∧ y.flushCount = w.words.length ∧
          (w.midItem = true → y.flushCmd = [(c.origin, c.tag)] ∧ y.flushAt = d.now) ∧ (w.midItem = false → y.flushCmd = [])) ∧
      ∀ j, j ≠ c.handle → Tab.find j d'.wq.queues = Tab.find j d.wq.queues := by
  intro c d w
  obtain ⟨d', ran, accounts⟩ := answers_of_passes (i := .wqueueFlush t ring entry) rfl wqueueFlush_ok ok rfl
  have wq := AccountsOnly.same accounts (·.wq)
  refine ⟨d', ran, fun off => ?_, fun on idle noTap => ?_, fun j other => ?_⟩
  · rw [wq, wqueueFlush_off off]
    rfl
  · rw [wq, wqueueFlush_on on]
    refine ⟨_, find_put_same .., ?_⟩
    rw [afterFlush, flush_of_noTap _ _ idle noTap]
    cases mid : w.midItem with
    | true => exact ⟨rfl, rfl, rfl, fun _ => ⟨rfl, rfl⟩, nofun⟩
    | false => exact ⟨wqDrain_of_noTap _ _ rfl, rfl, rfl, nofun, fun _ => rfl⟩
  · rw [wq]
    cases on : w.enabled with
    | true =>
      rw [wqueueFlush_on on]
      exact find_put_other other ..
    | false =>
      rw [wqueueFlush_off on]
      rfl

end Commands

/-! ### Event and queue happenings in the module -/

theorem clear_one (x : EvSrc) : x.clear 1 = { x with pending := false } := by
  have bits : natBit 1 0 = true ∧ natBit 1 1 = false := by decide
  simp [EvSrc.clear, bits]

/-- A summary write clears PENDING of the sources it names (15 R434). -/
theorem eventClear_summary (i v : Nat) {e : EventState} {n : Nat} {x : EvSrc} (found : Tab.find n e.src = some x) :
    Tab.find n (eventClear true i v e).src = some (if n / 64 = i % 8 ∧ natBit v (n % 64) = true then { x with pending := false } else x) := by
  refine (find_mapVals (fun n (s : EvSrc) => if n / 64 = i % 8 && natBit v (n % 64) then s.clear 1 else s) n e.src).trans ?_
  rw [found, Option.map_some, clear_one]
  exact congrArg some (if_congr (by rw [Bool.and_eq_true, decide_eq_true_eq]) rfl rfl)

/-- The held record takes the next slot (15 R437). -/
theorem eventLogHeld_writes {d : Device} {r : EvRec} (held : d.events.log.held = some r) (on : d.events.log.enable = true)
    (up : d.groupUp (d.events.log.offset / 2 ^ 32) = true)
    (room : ringFull d.events.log.windex (readIndex d.mem d.events.log.offset) (2 ^ d.events.log.log2) = false) : let e := eventLogHeld d
    e.events.log.held = none ∧ e.events.log.windex = (d.events.log.windex + 1) % 2 ^ 64 ∧
      memBytes e.mem.hdm (logSlot d.events.log) 32 = evRecBytes r ∧ e.events.tally = d.events.tally := by
  intro e
  let p : EvPort := ⟨{ d.events with log := { d.events.log with held := none } }, d.mem, d.msix, d.wq, d.logs, d.free⟩
  have writes : logHeld ⟨d.events, d.mem, d.msix, d.wq, d.logs, d.free⟩ = logWrite r p := by
    have fits : logFull ⟨d.events, d.mem, d.msix, d.wq, d.logs, d.free⟩ = false := room
    simp only [logHeld, held, fits, Bool.false_eq_true, if_false, p]
  have does : e = { d with events := (logWrite r p).events, mem := (logWrite r p).mem, msix := (logWrite r p).msix } := by
    simp only [e, eventLogHeld, on, up, Bool.and_self, if_true, writes]
  rw [does]
  exact ⟨rfl, rfl, (logWrite_hdm r p).1, rfl⟩

section Push
variable {q : Nat} {w : WordQueue} {ws : List (BitVec 64)} {d : Device} (last : Bool) (found : Tab.find q d.wq.queues = some w) (on : w.enabled = true)
  (other : w.producer ≠ 1) (keeps : w.discarding = false) (idle : w.flushing = false) (takes : w.dropItem = false)
include found on other keeps idle takes

/-- An item for which there is room lies in the queue (15 R445). -/
theorem wqPush_of_room (noTap : w.tap = []) (room : w.words.length + ws.length + 3 ≤ wqDepth q) :
    ∃ y, Tab.find q (wqPush q ws last d).wq.queues = some y ∧ y.words = w.words ++ ws ∧ y.tap = [] ∧ y.dropped = w.dropped ∧ (ws ≠ [] → y.midItem = !last) := by
  have open_ : w.midItem = true ∨ tapFull w = false := .inr (by rw [tapFull, noTap]; rfl)
  obtain ⟨mid, entered, ends⟩ := foldl_wqTake_takes (oneItem_pushedWords last ws) keeps idle takes open_
  have words : (pushedWords last ws).map (·.word) = ws := pushedWords_word last ws
  have length : (pushedWords last ws).length = ws.length := by rw [← List.length_map (·.word), words]
  rw [noTap, List.nil_append] at entered
  have drained := wqDrain_of_room (q := q) (free := d.free) (w := { w with tap := pushedWords last ws, midItem := mid }) (by rw [length]; exact room)
  obtain ⟨told, here⟩ := find_wqPush (last := last) (ws := ws) found on (congrArg (wqDrain q d.free) entered) other
  obtain ⟨cmds, same⟩ := flushTold_eq { wqDrain q d.free { w with tap := pushedWords last ws, midItem := mid } with lastE450 := told }
  rw [same] at here
  refine ⟨_, here, drained.1.trans (congrArg (w.words ++ ·) words), drained.2, rfl, fun some_ => ends ?_⟩
  exact fun none_ => some_ (List.length_eq_zero_iff.mp (by rw [← length, none_]; rfl))

/-- An item at a full tap is dropped whole (15 R445). -/
theorem wqPush_of_full (between : w.midItem = false) (full : 8 ≤ (w.tap.filter (·.last)).length) (noRoom : wqDepth q ≤ w.words.length) (some_ : ws ≠ []) :
    ∃ y, Tab.find q (wqPush q ws last d).wq.queues = some y ∧ y.words = w.words ∧ y.tap = w.tap ∧ y.dropped = satAdd max64 w.dropped 1 := by
  have words : (pushedWords last ws).map (·.word) = ws := pushedWords_word last ws
  have item : pushedWords last ws ≠ [] := fun none_ => some_ (by rw [← words, none_]; rfl)
  obtain ⟨drop, mid, dropped⟩ := foldl_wqTake_full (oneItem_pushedWords last ws) item keeps idle takes between (decide_eq_true full)
  have drained := wqDrain_of_full (q := q) (free := d.free) (w := { w with dropItem := drop, midItem := mid, dropped := satAdd max64 w.dropped 1 }) noRoom
  obtain ⟨told, here⟩ := find_wqPush (last := last) (ws := ws) found on (congrArg (wqDrain q d.free) dropped) other
  obtain ⟨cmds, same⟩ := flushTold_eq
    { wqDrain q d.free { w with dropItem := drop, midItem := mid, dropped := satAdd max64 w.dropped 1 } with lastE450 := told }
  rw [same] at here
  exact ⟨_, here, drained.1, drained.2, rfl⟩

end Push

/-- Finals that are OK leave the queues alone. -/
theorem wq_foldl_decide (detail : Nat) (l : List (Origin × Nat)) (d : Device) :
    (l.foldl (fun d o => d.decide o.1 o.2 stOk detail none d.now) d).wq = d.wq :=
  foldl_keeps (part := fun d : Device => d.wq) (fun _ _ => wq_decide_ok ..) l d

theorem wqForce_queue {q : Nat} {w : WordQueue} {d : Device} (found : Tab.find q d.wq.queues = some w) (other : w.producer ≠ 1)
    (flushing : w.flushing = true) (late : w.flushAt + msec ≤ d.now) :
    ∃ told, Tab.find q (wqForce q d).wq.queues = some { w with flushing := false, discarding := true, flushCmd := [], lastE450 := told } := by
  have read : Tab.read d.wq.queues q WordQueue.reset = w := by rw [Tab.read, found]; rfl
  unfold wqForce
  extract_lets w0 n d1 d2
  have own : w0 = w := read
  have due : d.due (w.flushAt + msec) = true := decide_eq_true late
  rw [own, flushing, Bool.true_and, if_pos due]
  refine find_wq_raise (w := { w with flushing := false, discarding := true, flushCmd := [] }) ?_ other
  refine (congrArg (fun x : WqState => Tab.find q x.queues) (wq_foldl_decide ..)).trans ?_
  exact (find_put_same ..).trans (by rw [own])

theorem wqMismatch_queue {q : Nat} {w : WordQueue} {d : Device} (found : Tab.find q d.wq.queues = some w) (other : w.producer ≠ 1) :
    ∃ told, Tab.find q (wqMismatch q d).wq.queues = some { w with
      words := [], seen := 0, resetSeen := true, resets := satAdd 0xFFFF w.resets 1, flushing := false, discarding := !(dropThrough w.tap).1, flushCmd := []
      tap := (dropThrough w.tap).2.2, lastE450 := told } := by
  have read : Tab.read d.wq.queues q WordQueue.reset = w := by rw [Tab.read, found]; rfl
  unfold wqMismatch
  extract_lets w0 y w' d1 d2
  have own : w0 = w := read
  have new : w' = { w with words := [], seen := 0, resetSeen := true, resets := satAdd 0xFFFF w.resets 1, flushing := false,
                           discarding := !(dropThrough w.tap).1, flushCmd := [], tap := (dropThrough w.tap).2.2 } := by
    simp only [w', y, own]
  have kept : Tab.find q d2.wq.queues = some w' := (congrArg (fun x : WqState => Tab.find q x.queues) (wq_foldl_decide ..)).trans (find_put_same ..)
  rw [new] at kept
  exact find_wq_raise kept other

theorem eventOccurrence_effect (t : Nat) (s : State) (n : Fin 512) (detail : BitVec 64) : let d := s.dev.at_ t
    let x := Tab.read d.events.src n EvSrc.reset
    let l := d.events.log
    evReserved n = false → d.wq.queues = [] → Tab.read d.events.tally n 0 < max64 →
      ∃ d', exec (.eventOccurrence t n detail) s = .next { s with dev := d' } ∧
        (n.val ≠ 20 → n.val ≠ 31 → n.val ≠ 436 → Tab.read d'.events.tally n 0 = Tab.read d.events.tally n 0 + 1) ∧
        (x.enable = false ∨ 2 ≤ x.route → d'.events.src = d.events.src ∧ d'.mem = d.mem ∧ d'.msix = d.msix) ∧
        (x.enable = true → x.route < 2 → l.enable = false →
          Tab.read d'.events.src n EvSrc.reset =
            { x with pending := true, rpt := x.rpt || x.pending, lastDetail := detail.toNat % 2 ^ 32, seq := (x.seq + 1) % 2 ^ 32 } ∧
          d'.msix = (if x.route = 0 ∧ x.pending = false then msixTrigger x.vector d.msix else d.msix) ∧ d'.mem = d.mem) ∧
        (x.enable = true → x.route < 2 → l.enable = true → d.groupUp (l.offset / 2 ^ 32) = true → l.held = none →
          ringFull l.windex (readIndex d.mem l.offset) (2 ^ l.log2) = false →
          memBytes d'.mem.hdm (l.offset + 4096 + 32 * (l.windex % 2 ^ l.log2)) 32 = evRecBytes ⟨n, x.lostBefore, (x.seq + 1) % 2 ^ 32, detail.toNat, d.now⟩ ∧
          memBytes d'.mem.hdm l.offset 8 = wrLE 8 (l.windex + 1) ∧ d'.events.log.windex = (l.windex + 1) % 2 ^ 64 ∧
          (Tab.read d'.events.src n EvSrc.reset).lostBefore = false ∧
          (∀ a, (a < l.offset ∨ l.offset + 8 ≤ a) → (a < l.offset + 4096 + 32 * (l.windex % 2 ^ l.log2) ∨ l.offset + 4096 + 32 * (l.windex % 2 ^ l.log2) + 32 ≤ a) →
            memRead d'.mem.hdm a = memRead d.mem.hdm a)) ∧
        (x.enable = true → x.route < 2 → l.enable = true → d.groupUp (l.offset / 2 ^ 32) = true → l.held = none → n.val ≠ 20 → Tab.read d.events.tally (dtIndex 7) 0 < max64 →
          ringFull l.windex (readIndex d.mem l.offset) (2 ^ l.log2) = true → l.wrote = false →
          d'.mem = d.mem ∧ d'.events.log.windex = l.windex ∧ d'.events.log.full = true ∧ (Tab.read d'.events.src n EvSrc.reset).lostBefore = true ∧
          (Tab.read d'.events.src n EvSrc.reset).seq = (x.seq + 1) % 2 ^ 32) := by
  intro d x l real noQueues below
  refine ⟨d.raise [(n.val, detail.toNat)], ?_, tally_raise n.isLt noQueues below, raise_of_off n.isLt below, fun on route noLog => ?_,
    fun on route logOn up noHeld room => ?_, fun on route logOn up noHeld notE020 dt7 full told => ?_⟩
  · exact congrArg (fun d' => Host.Outcome.next { s with dev := d' }) (eventOccurrence_eq real noQueues)
  · exact raise_of_logOff n.isLt noQueues below rfl on route noLog
  · obtain ⟨mem, windex, lost⟩ := raise_of_room (detail := detail.toNat) n.isLt noQueues below rfl on route logOn up noHeld room
    obtain ⟨record, index, rest⟩ := logWrite_hdm (recordOf d.now n detail.toNat x) (posted d.now n detail.toNat x (portOf d))
    rw [posted_log] at record index rest
    rw [mem]
    exact ⟨record, index, windex, lost, rest⟩
  · obtain ⟨mem, windex, ringFull, src⟩ := raise_of_full (detail := detail.toNat) n.isLt noQueues below rfl on route logOn up noHeld notE020 dt7 full told
    exact ⟨mem, windex, ringFull, congrArg EvSrc.lostBefore src, congrArg EvSrc.seq src⟩

/-- Settles O56: each command and happening of the event block by the lemma on its own effect. -/
theorem eventBlockTakesEffect : Obligations.EventBlockTakesEffect := by
  refine ⟨fun t ring entry s => ⟨eventRouteSet_effect, fun ok => ?_, wqueueSet_effect, wqueueFlush_effect⟩,
    fun t s => ⟨eventOccurrence_effect t s, fun _ _ => rfl, fun i v => ⟨_, rfl, rfl, fun n x => eventClear_summary i v.toNat⟩, fun r held on up room => ?_,
      fun q ws last w found on other keeps idle takes => ⟨fun noTap room => ?_, fun between full noRoom some_ => ?_⟩,
      fun q w found other flushing late => ?_, fun q w found other => ?_⟩⟩
  · obtain ⟨d', ran, src, log⟩ := eventLogSet_effect ok
    refine ⟨d', ran, src, ?_⟩
    rw [log]
    exact evLog_set_fields ..
  · exact ⟨_, rfl, eventLogHeld_writes held on up room⟩
  · obtain ⟨y, here, facts⟩ := wqPush_of_room last found on other keeps idle takes noTap room
    exact ⟨_, y, rfl, here, facts⟩
  · obtain ⟨y, here, facts⟩ := wqPush_of_full last found on other keeps idle takes between full noRoom some_
    exact ⟨_, y, rfl, here, facts⟩
  · obtain ⟨told, here⟩ := wqForce_queue found other flushing late
    exact ⟨_, _, rfl, here, rfl, rfl, rfl, rfl⟩
  · obtain ⟨told, here⟩ := wqMismatch_queue found other
    refine ⟨_, _, rfl, here, rfl, rfl, rfl, rfl, rfl, fun noTap => ?_⟩
    rw [noTap]
    rfl

end Sys2Proof.Proofs

/-!
PROOF. The memory commands and happenings: a new grain, freezes, retirement, and the ends of a group's commands (SPEC 12).
-/
namespace Sys2Proof.Proofs

open Sys2Proof Sys2Proof.Machine Sys2Proof.Laws

/-! ### A new grain and the event log of another quarter (12 R358, R360; 15 R436) -/

/-- MEM_GRAIN_SET of group 1, with a grain of 16 KiB. -/
def grainEntry : Bytes := wrLE 2 0x0805 ++ wrLE 6 0 ++ wrLE 2 1 ++ wrLE 14 0 ++ wrLE 1 14 ++ wrLE 39 0

/-- Groups 0 and 1 are in service; E327 has its record for each occurrence, and the event log ring lies at the start of quarter 0. -/
def loggedDevice : Device :=
  { Device.reset with
    dram := { DramState.reset with groups := [(0, { Group.reset with service := 0 }), (1, { Group.reset with service := 0 })] }
    events := { EventState.reset with
      src := [(327, { EvSrc.reset with route := 1 })]
      log := { EventState.reset.log with log2 := 8, enable := true } } }

/-- A group's window quarter is dropped, and its copies of the module store lie in `copies`. -/
def dropQuarter (g : Nat) (copies : Copies) (d : Device) : Device :=
  { d with
    mem := { d.mem with
      hdm := memDrop d.mem.hdm (g * 2 ^ 32) ((g + 1) * 2 ^ 32)
      poison := d.mem.poison.filter (fun b => !(g * 2 ^ 26 ≤ b && b < (g + 1) * 2 ^ 26)) }
    dram := { d.dram with mgmt := copies } }

/-- A group that holds no slate and no staging, but a copy of management's store: E327 is all that a new grain raises. -/
theorem regrain_tells {g : Nat} {d : Device} (up : d.groupUp g = true) (noSlates : d.dram.slates = []) (stored : d.dram.mgmt.b = g)
    (apart : d.journal.staging ≠ g) : ∃ copies detail, (d.regrain g).mem = ((dropQuarter g copies d).raise [(327, detail)]).mem := by
  unfold Device.regrain
  extract_lets _ d1 d2
  have up1 : d1.groupUp g = true := up
  have moved : d1.moveStore true g = (dropQuarter g (d1.dram.mgmt.moved g (fun keep => d1.thirdGroup keep (fun _ => true))).1 d).raise
      [(327, det2 (Config.itemKind 1).toNat (bit01 (d1.dram.mgmt.moved g (fun keep => d1.thirdGroup keep (fun _ => true))).2))] := by
    have none_ : d1.dram.slates = [] := noSlates
    have here : d1.dram.mgmt.b = g := stored
    simp only [Device.moveStore, none_, List.map_nil, List.foldl_nil, here, bne_self_eq_false, Bool.and_false, Bool.false_eq_true, if_false, if_true]
    rw [← none_]
    rfl
  have staged : d2.journal.staging ≠ g := by
    rw [show d2 = (d1.moveStore true g).moveAssets g from rfl, moved]
    exact apart
  rw [if_pos up1, if_neg staged]
  have mem : d2.mem = (d1.moveStore true g).mem := rfl
  exact ⟨_, _, mem.trans (congrArg (fun d : Device => d.mem) moved)⟩

/-- Group 1 with its new grain, before its contents are given up. -/
def newGrain : Device :=
  let d := takenAt 0 2 grainEntry ⟨loggedDevice, []⟩
  d.setGroup 1 { d.dram.group 1 with grainLog2 := 14 }

theorem memGrainSet_apply {c : Ctx} {d : Device} (other : (d.dram.group c.handle).grainLog2 ≠ c.p 0 1) :
    (memGrainSet.apply c d).dev = (d.setGroup c.handle { d.dram.group c.handle with grainLog2 := c.p 0 1 }).regrain c.handle := by
  simp only [memGrainSet, if_neg other]
  rfl

theorem grain_applies : (memGrainSet.apply (ctxAt memGrainSet 0 2 grainEntry ⟨loggedDevice, []⟩) (takenAt 0 2 grainEntry ⟨loggedDevice, []⟩)).dev =
    newGrain.regrain 1 := by
  have handle : (ctxAt memGrainSet 0 2 grainEntry ⟨loggedDevice, []⟩).handle = 1 := by decide
  have grain : (ctxAt memGrainSet 0 2 grainEntry ⟨loggedDevice, []⟩).p 0 1 = 14 := by decide
  rw [memGrainSet_apply (by decide), handle, grain]
  rfl

/-- WRITE_INDEX of the event log ring is 1 after the command. -/
theorem grain_writes_quarter_zero : memBytes (newGrain.regrain 1).mem.hdm 0 8 = wrLE 8 1 := by
  obtain ⟨copies, detail, tells⟩ := regrain_tells (g := 1) (d := newGrain) (by decide) rfl rfl (by decide)
  obtain ⟨mem, -⟩ := raise_of_room (n := 327) (detail := detail) (d := dropQuarter 1 copies newGrain) (by decide) rfl
    (show Tab.read newGrain.events.tally 327 0 < max64 by decide) (x := { EvSrc.reset with route := 1 }) rfl rfl (by decide) rfl
    (show newGrain.groupUp (newGrain.events.log.offset / 2 ^ 32) = true by decide) rfl
    (show ringFull newGrain.events.log.windex (readIndex (dropQuarter 1 ⟨0, 0⟩ newGrain).mem newGrain.events.log.offset) (2 ^ newGrain.events.log.log2) = false
      by decide)
  obtain ⟨-, index, -⟩ := logWrite_hdm (recordOf 0 327 detail { EvSrc.reset with route := 1 })
    (posted 0 327 detail { EvSrc.reset with route := 1 } (portOf (dropQuarter 1 copies newGrain)))
  rw [tells, mem]
  exact index

theorem memGrainSet_ok (c : Ctx) (d : Device) : (memGrainSet.apply c d).final.map (·.1) ≠ some stBusy := by
  simp only [memGrainSet]
  split <;> exact nofun

/-- Refutes O48: its clause on MEM_GRAIN_SET says that no byte of another quarter changes. The copies of the module store that the group held are made again,
E327 tells of it, and its record and WRITE_INDEX go to the event log ring, here in quarter 0. -/
theorem not_memoryCommandsTakeEffect : ¬ Obligations.MemoryCommandsTakeEffect := by
  unfold Obligations.MemoryCommandsTakeEffect
  intro effects
  obtain ⟨-, -, -, -, grain, -⟩ := effects 0 2 grainEntry ⟨loggedDevice, []⟩
  have passes_ : passes memGrainSet 0 2 grainEntry ⟨loggedDevice, []⟩ = true := by decide
  obtain ⟨d', ran, -, -, others⟩ := grain passes_
  obtain ⟨e, answered, accounts⟩ := answers_of_passes (i := .memGrainSet 0 2 grainEntry) rfl memGrainSet_ok passes_ rfl
  obtain rfl : d' = e := congrArg State.dev (Host.Outcome.next.inj (ran.symm.trans answered))
  have hdm := AccountsOnly.same accounts (·.mem.hdm)
  rw [grain_applies] at hdm
  have written := grain_writes_quarter_zero
  rw [← hdm] at written
  have kept := others 0 (by decide)
  exact absurd ((List.cons.inj written).1.symm.trans kept) (by decide)

/-! ### What a final leaves (11 R336) -/

section Decide
variable {α : Type} (part : Device → α)
  (apart : ∀ (d : Device) (rk : RanrokState) (mem : MemState) (msix : MsixState) (events : EventState) (logs : LogState) (wq : WqState) (free : Nat),
    part { d with rk := rk, mem := mem, msix := msix, events := events, logs := logs, wq := wq, free := free } = part d)
include apart

/-- A part of the module that neither the interface nor an event reaches stands through a final, BUSY or not. -/
theorem decide_keeps (o : Origin) (tag status detail : Nat) (frame : Option Nat) (eff : Nat) (d : Device) :
    part (d.decide o tag status detail frame eff) = part d := by
  unfold Device.decide
  cases o with
  | mctp => exact apart d ..
  | ring r seq =>
    dsimp only
    split <;> exact apart d ..

theorem decideCtx_keeps (x : Ctx) (status detail : Nat) (frame : Option Nat) (eff : Nat) (d : Device) :
    part (d.decideCtx x status detail frame eff) = part d := decide_keeps part apart ..

theorem decideWork_keeps (op status detail : Nat) (d : Device) : part (d.decideWork op status detail) = part d := by
  unfold Device.decideWork
  split
  · rfl
  · exact (decideCtx_keeps part apart ..).trans (apart d ..)

theorem sessionClosed_keeps (d : Device) : part d.sessionClosed = part d :=
  foldl_keeps (part := part) (fun d _ => decideWork_keeps part apart _ _ _ d) _ d

end Decide

/-! ### What becomes of a retired group's contents leaves the groups (12 R374, Table 12.5) -/

section Floor
variable {α : Type} (part : Device → α) (apart : ∀ (d : Device) (code : CodingState), part { d with code := code } = part d)
include apart

theorem setPic_keeps (n f : Nat) (p : Picture) (d : Device) : part (d.setPic n f p) = part d := by
  unfold Device.setPic
  split
  · rfl
  · exact apart d _

theorem floorRow_keeps (n f k : Nat) (d : Device) : part (d.floorRow n f k) = part d := by
  unfold Device.floorRow
  split
  · rfl
  · split
    · rfl
    · exact setPic_keeps part apart ..

theorem poisonRow_keeps (n f k : Nat) (d : Device) : part (d.poisonRow n f k) = part d := by
  have floored := floorRow_keeps part apart n f k d
  unfold Device.poisonRow
  extract_lets d1
  split
  · exact floored
  · exact (setPic_keeps part apart ..).trans floored

theorem floorReaders_keeps (g : Nat) (d : Device) : part (d.floorReaders g) = part d :=
  foldl_keeps (part := part) (fun d n => by
    unfold Device.floorOpen
    split
    · rfl
    · exact foldl_keeps (part := part) (fun d (r : Nat × Nat) => poisonRow_keeps part apart n r.1 r.2 d) _ d) _ d

end Floor

@[simp] theorem floorReaders_dram (g : Nat) (d : Device) : (d.floorReaders g).dram = d.dram :=
  floorReaders_keeps (fun d => d.dram) (fun _ _ => rfl) g d

@[simp] theorem floorReaders_now (g : Nat) (d : Device) : (d.floorReaders g).now = d.now :=
  floorReaders_keeps (fun d => d.now) (fun _ _ => rfl) g d

theorem rebuildPlanes_dram (c : Nat) (d : Device) : (d.rebuildPlanes c).dram = d.dram := by
  unfold Device.rebuildPlanes
  extract_lets
  split <;> rfl

theorem loseSet_dram (c : Nat) (d : Device) : (d.loseSet c).dram = d.dram := by
  unfold Device.loseSet
  extract_lets next bare mine d1 up d2
  have told : d1.dram = d.dram :=
    foldl_keeps (part := fun d : Device => d.dram) (step := fun (d : Device) (e : Nat × Rendition) => d.asRun c 10 0 next e.1) (fun _ _ => rfl) _ d
  exact (rebuildPlanes_dram ..).trans told

theorem moveShadow_dram (drain : Bool) (n extents : Nat) (d : Device) : ∃ shadows, (d.moveShadow drain n extents).dram = { d.dram with shadows := shadows } := by
  unfold Device.moveShadow
  extract_lets _ without d0 g d1
  have lies : ∃ shadows, d1.dram = { d.dram with shadows := shadows } := by
    cases chosen : g with
    | none => exact ⟨_, by simp only [d1, chosen]; rfl⟩
    | some k => exact ⟨_, by simp only [d1, chosen]; rfl⟩
  split
  · exact lies
  · split <;> exact lies

theorem moveSlate_dram (tell : Bool) (g n : Nat) (d : Device) : ∃ slates, (d.moveSlate tell g n).dram = { d.dram with slates := slates } := by
  unfold Device.moveSlate
  split
  · split
    · exact ⟨_, rfl⟩
    · exact ⟨_, rfl⟩
  · exact ⟨_, rfl⟩

theorem stagingLost_dram (d : Device) : d.stagingLost.dram = d.dram := by
  have ended (d : Device) : d.sessionEnded.dram = d.dram := by
    unfold Device.sessionEnded
    extract_lets
    split
    · exact sessionClosed_keeps (fun d => d.dram) (fun _ _ _ _ _ _ _ _ => rfl) _
    · rfl
  unfold Device.stagingLost
  extract_lets j lost srcs count packets j1 j1'
  split
  · rfl
  · split
    · exact sessionClosed_keeps (fun d => d.dram) (fun _ _ _ _ _ _ _ _ => rfl) _
    · exact ended _

/-- What places of sets, shadows and copies in the module store have no part in: the groups and the controllers. -/
def cells (d : Device) : Tab Group × Tab DramChannel := (d.dram.groups, d.dram.chans)

theorem moveHome_cells (c old from_ : Nat) (drain : Bool) (d : Device) : cells (d.moveHome c old from_ drain) = cells d := by
  unfold Device.moveHome
  split
  · rfl
  · split <;> rfl

theorem moveShadow_cells (drain : Bool) (n extents : Nat) (d : Device) : cells (d.moveShadow drain n extents) = cells d := by
  obtain ⟨shadows, lies⟩ := moveShadow_dram drain n extents d
  rw [cells, lies]
  rfl

theorem moveStore_dram (tell : Bool) (g : Nat) (d : Device) :
    cells (d.moveStore tell g) = cells d ∧ (d.moveStore tell g).dram.places = d.dram.places := by
  have slates := foldl_keeps (part := fun d : Device => (cells d, d.dram.places)) (step := fun d n => d.moveSlate tell g n) (fun d n => by
    obtain ⟨slates, lies⟩ := moveSlate_dram tell g n d
    simp only [cells, lies]) (d.dram.slates.map (·.1)) d
  obtain ⟨groups, places⟩ := Prod.mk.inj slates
  unfold Device.moveStore
  extract_lets d1 m
  split
  · exact ⟨groups, places⟩
  · exact ⟨groups, places⟩

/-! ### Groups and controllers -/

section Cells
variable (cause g c : Nat) (x : Group) (y : DramChannel) (d : Device)

theorem noteUnit_dram (u old new : Nat) : (d.noteUnit u old new cause).dram = d.dram := by
  unfold Device.noteUnit
  split <;> rfl

theorem noteUnit_code (u old new : Nat) : (d.noteUnit u old new cause).code = d.code := by
  unfold Device.noteUnit
  split <;> rfl

theorem setGroupFor_dram : (d.setGroupFor cause g x).dram = { d.dram with groups := Tab.put g x d.dram.groups } := noteUnit_dram ..

theorem setGroup_dram : (d.setGroup g x).dram = { d.dram with groups := Tab.put g x d.dram.groups } := setGroupFor_dram ..

theorem setGroup_code : (d.setGroup g x).code = d.code := noteUnit_code ..

theorem setGroup_rk : (d.setGroup g x).rk = d.rk := by
  unfold Device.setGroup Device.setGroupFor Device.noteUnit
  split <;> rfl

theorem setGroup_same_service (same : x.service = (d.dram.group g).service) :
    d.setGroup g x = { d with dram := { d.dram with groups := Tab.put g x d.dram.groups } } := by
  unfold Device.setGroup Device.setGroupFor Device.noteUnit
  rw [if_pos same.symm]

@[simp] theorem group_put_same {e : DramState} : { e with groups := Tab.put g x e.groups }.group g = x := read_put_same ..

@[simp] theorem chan_put_same {e : DramState} : { e with chans := Tab.put c y e.chans }.chan c = y := read_put_same ..

end Cells

/-- The group's place in the map: each of its channels is its own (12 R356). -/
theorem dramPlace_channel (g k a : Nat) : (dramPlace g k a).channel / 8 = g := by
  have inGroup : a / 2 ^ k % 8 < 8 := Nat.mod_lt _ (by decide)
  change (8 * g + a / 2 ^ k % 8) / 8 = g
  omega

/-! ### Freezes and errors (12 R365, R372, R373) -/

/-- A controller as its freeze leaves it. -/
def frozenAs (now : Nat) (i : FreezeInfo) (x : DramChannel) : DramChannel :=
  { x with
    cause := i.cause, rule := i.rule, bank := i.bank, page := i.page, slot := i.slot, requester := i.requester, requesterId := i.requesterId
    syndrome := i.syndrome, address := i.address, freezeTime := now, history := i.history.take 64 }

/-- A freeze of a running controller: it records its error, and its group is to be retired. -/
theorem freezeChannel_dram {c : Nat} {i : FreezeInfo} {d : Device} (inUse : (d.dram.group (c / 8)).service < 2) (runs : (d.dram.chan c).cause = 0) :
    (d.freezeChannel c i).dram.chan c = frozenAs d.now i (d.dram.chan c) ∧
      (d.freezeChannel c i).dram.group (c / 8) =
        { d.dram.group (c / 8) with retire := some ((d.dram.group (c / 8)).retire.getD (c, i.cause)) } := by
  have running : ¬((d.dram.chan c).cause != 0) = true := by rw [runs]; decide
  unfold Device.freezeChannel
  extract_lets g x
  rw [if_neg (Nat.not_le.mpr inUse), if_neg running, floorReaders_dram, raise_dram, setGroup_dram]
  exact ⟨read_put_same .., read_put_same ..⟩

section Read
variable {g a requester id syndrome : Nat} {history : List Nat} {d : Device} (inside : a < groupBytes) (inUse : (d.dram.group g).service < 2)
  (runs : (d.dram.chan (dramPlace g (d.dram.group g).grainLog2 a).channel).cause = 0)
include inside inUse runs

/-- What an uncorrectable read records of itself. -/
def readError (cause requester id syndrome a : Nat) (history : List Nat) (p : DramPlace) : FreezeInfo :=
  ⟨cause, 0, p.bank, p.row, p.slot, requester, id, syndrome, a, history⟩

/-- The module with the read counted. -/
def readCounted (g : Nat) (d : Device) : Device :=
  let gr := d.dram.group g
  d.setGroup g { gr with uncorrectable := satAdd max64 gr.uncorrectable 1, poisonReads := satAdd max64 gr.poisonReads 1 }

omit inside inUse runs in
theorem readCounted_eq : readCounted g d = { d with dram := { d.dram with groups := Tab.put g { d.dram.group g with
    uncorrectable := satAdd max64 (d.dram.group g).uncorrectable 1, poisonReads := satAdd max64 (d.dram.group g).poisonReads 1 } d.dram.groups } } :=
  setGroup_same_service _ _ _ rfl

/-- A read outside the window freezes its controller with cause 1. -/
theorem uncorrectableRead_outside (outside : 2 ^ 32 ≤ a) : let p := dramPlace g (d.dram.group g).grainLog2 a
    uncorrectableRead g a requester id syndrome history d = (readCounted g d).freezeChannel p.channel (readError 1 requester id syndrome a history p) := by
  intro p
  have running : ¬((d.dram.chan p.channel).cause != 0) = true := by rw [runs]; decide
  have far : inQuarter a = false := decide_eq_false (Nat.not_lt.mpr outside)
  unfold uncorrectableRead
  extract_lets gr p' info d1 x errs d2
  rw [if_neg (Nat.not_le.mpr inside), if_neg (Nat.not_le.mpr inUse), if_neg running, far, if_neg Bool.false_ne_true]
  rfl

/-- The window read's burst is poisoned, and its moment is kept for a second. -/
def windowRead (g a c : Nat) (d : Device) : Device :=
  let x := d.dram.chan c
  { d.setDram c { x with windowErrs := d.now :: lastSecond d.now x.windowErrs } with mem := d.mem.poisonBurst ((g * 2 ^ 32 + a) / 64) }

/-- A read in the window poisons its burst; only the seventeenth within a second freezes, with cause 4. -/
theorem uncorrectableRead_window (window : a < 2 ^ 32) : let p := dramPlace g (d.dram.group g).grainLog2 a
    uncorrectableRead g a requester id syndrome history d =
      if 16 ≤ (lastSecond d.now (d.dram.chan p.channel).windowErrs).length then
        (windowRead g a p.channel (readCounted g d)).freezeChannel p.channel (readError 4 requester id syndrome a history p)
      else windowRead g a p.channel (readCounted g d) := by
  intro p
  have running : ¬((d.dram.chan p.channel).cause != 0) = true := by rw [runs]; decide
  have near : inQuarter a = true := decide_eq_true window
  unfold uncorrectableRead
  extract_lets gr p' info d1 x errs _ d2
  have counted : d1 = readCounted g d := rfl
  have same : errs = d.now :: lastSecond d.now (d.dram.chan p.channel).windowErrs := by
    simp only [errs, x, counted, readCounted_eq]
    rfl
  rw [if_neg (Nat.not_le.mpr inside), if_neg (Nat.not_le.mpr inUse), if_neg running, near, if_pos rfl, same, List.length_cons]
  have moment : d1.now = d.now := by
    rw [counted, readCounted_eq]
    rfl
  have two : d2 = windowRead g a p.channel (readCounted g d) := by
    simp only [d2, windowRead, counted]
    rw [← counted, moment]
  rw [two]
  exact if_congr Nat.lt_succ_iff rfl rfl

end Read

/-! ### A channel's working set leaves a group (12 R374 to R376) -/

theorem leastBy_mem {f : Nat → Nat} {l : List Nat} {k : Nat} (least : leastBy f l = some k) : k ∈ l := by
  induction l generalizing k with
  | nil => cases least
  | cons x r ih =>
    rw [leastBy_cons] at least
    cases rest : leastBy f r with
    | none =>
      rw [rest] at least
      exact Option.some.inj least ▸ List.mem_cons_self
    | some y =>
      rw [rest, Option.elim_some] at least
      split at least
      · exact Option.some.inj least ▸ List.mem_cons_of_mem _ (ih rest)
      · exact Option.some.inj least ▸ List.mem_cons_self

/-- A set is placed in a group in service only. -/
theorem newHome_in_service {c : Nat} {p : Placement} {d : Device} {k : Nat} (chosen : d.newHome c p = some k) : k ∈ d.groupsIn := by
  have free {k : Nat} (chosen : d.freeHome c p.extents = some k) : k ∈ d.groupsIn := by
    unfold Device.freeHome at chosen
    extract_lets l fits sh at chosen
    split at chosen
    · next best => exact Option.some.inj chosen ▸ (List.mem_filter.mp (leastBy_mem best)).1
    · exact (List.mem_filter.mp (leastBy_mem chosen)).1
  unfold Device.newHome at chosen
  split at chosen
  · split at chosen
    · next fits =>
      rw [Bool.and_eq_true] at fits
      exact Option.some.inj chosen ▸ List.contains_iff_mem.mp fits.1
    · exact free chosen
  · exact free chosen

/-- No working set of a channel is homed in group `g`. -/
def SetClear (g c : Nat) (d : Device) : Prop := ∀ p, Tab.find c d.dram.places = some p → p.bare = false → p.home ≠ g

section Move
variable {g c old from_ : Nat} {drain : Bool} {d : Device}

theorem moveHome_other {k : Nat} (other : k ≠ c) : Tab.find k (d.moveHome c old from_ drain).dram.places = Tab.find k d.dram.places := by
  unfold Device.moveHome
  split
  · rfl
  · split
    · exact find_put_other other ..
    · exact find_put_other other ..

theorem moveHome_sorted (sorted : Sorted d.dram.places) : Sorted (d.moveHome c old from_ drain).dram.places := by
  unfold Device.moveHome
  split
  · exact sorted
  · split
    · exact sorted_put sorted
    · exact sorted_put sorted

/-- A channel that leaves a group is homed in another, or nowhere. -/
theorem moveHome_clear (gone : g ∉ d.groupsIn) : SetClear g c (d.moveHome c old from_ drain) := by
  intro p found homed
  unfold Device.moveHome at found
  split at found
  · next none_ => exact nomatch none_.symm.trans found
  · split at found
    · next k chosen =>
      obtain rfl := Option.some.inj ((find_put_same ..).symm.trans found)
      exact fun same => gone (same ▸ newHome_in_service chosen)
    · obtain rfl := Option.some.inj ((find_put_same ..).symm.trans found)
      exact nomatch homed

theorem groupsIn_of_cells {e : Device} (same : cells e = cells d) : e.groupsIn = d.groupsIn := by
  have groups : e.dram.groups = d.dram.groups := congrArg Prod.fst same
  simp only [Device.groupsIn, DramState.group, groups]

/-- After its channels have left it, a group that is out of service holds no working set. -/
theorem moveHomes_clear (l : List (Nat × Bool)) (gone : g ∉ d.groupsIn) (rest : ∀ c, SetClear g c d ∨ ∃ b, (c, b) ∈ l) (sorted : Sorted d.dram.places) :
    let e := l.foldl (fun d x => d.moveHome x.1 old from_ drain) d
    (∀ c, SetClear g c e) ∧ cells e = cells d ∧ Sorted e.dram.places := by
  induction l generalizing d with
  | nil => exact ⟨fun c => (rest c).resolve_right (fun ⟨_, mem⟩ => nomatch mem), rfl, sorted⟩
  | cons x l ih =>
    have same := moveHome_cells x.1 old from_ drain d
    have rest1 (c : Nat) : SetClear g c (d.moveHome x.1 old from_ drain) ∨ ∃ b, (c, b) ∈ l := by
      by_cases own : c = x.1
      · exact .inl (own ▸ moveHome_clear gone)
      · rcases rest c with clear | ⟨b, mem⟩
        · exact .inl fun p found => clear p ((moveHome_other own).symm.trans found)
        · exact .inr ⟨b, (List.mem_cons.mp mem).resolve_left fun same => own (congrArg Prod.fst same)⟩
    obtain ⟨clear, kept, rises⟩ := ih (groupsIn_of_cells same ▸ gone) rest1 (moveHome_sorted sorted)
    exact ⟨clear, kept.trans same, rises⟩

end Move

/-- A channel homed in a group is among its sets. -/
theorem mem_setsIn {g c : Nat} {p : Placement} {d : Device} (found : Tab.find c d.dram.places = some p) (homed : p.bare = false) (here : p.home = g) :
    (c, true) ∈ (d.setsIn g).filter (·.2) := by
  refine List.mem_filter.mpr ⟨List.mem_filterMap.mpr ⟨(c, p), mem_of_find found, ?_⟩, rfl⟩
  simp [homed, here]

/-! ### Plans computed again (12 R371) -/

/-- The places after a new layout: each homed set lies where the layout has it, and the rest runs bare. -/
theorem replan_clear {g : Nat} {d : Device} (clear : ∀ c, SetClear g c d) (sorted : Sorted d.dram.places) (c : Nat) : SetClear g c d.replan := by
  have homes : ∀ e ∈ d.dram.layout.homes, e.2.1 ≠ g := by
    intro e mem
    obtain ⟨⟨k, p⟩, place, rfl⟩ := List.mem_map.mp mem
    obtain ⟨place, homed⟩ := List.mem_filter.mp place
    exact clear k p (find_of_mem sorted place) (Bool.not_eq_true' _ ▸ homed)
  have folded {f : Nat × Nat × Nat → Placement} (put : ∀ e, (f e).home = e.2.1) (l : List (Nat × Nat × Nat)) (other : ∀ e ∈ l, e.2.1 ≠ g)
      (t : Tab Placement) (old : ∀ p, Tab.find c t = some p → p.bare = false → p.home ≠ g) :
      ∀ p, Tab.find c (l.foldl (fun t e => Tab.put e.1 (f e) t) t) = some p → p.bare = false → p.home ≠ g := by
    induction l generalizing t with
    | nil => exact old
    | cons e l ih =>
      refine ih (fun e mem => other e (List.mem_cons_of_mem _ mem)) _ fun p found homed => ?_
      by_cases own : c = e.1
      · subst own
        obtain rfl := Option.some.inj ((find_put_same ..).symm.trans found)
        exact put e ▸ other e List.mem_cons_self
      · exact old p ((find_put_other own ..).symm.trans found) homed
  refine folded (fun e => ?_) _ homes _ fun p found homed => ?_
  · split <;> rfl
  · have bare := (List.mem_filter.mp (mem_of_find found)).2
    exact nomatch homed.symm.trans bare

theorem moveShadow_places (drain : Bool) (n extents : Nat) (d : Device) :
    (cells (d.moveShadow drain n extents), (d.moveShadow drain n extents).dram.places) = (cells d, d.dram.places) := by
  obtain ⟨shadows, lies⟩ := moveShadow_dram drain n extents d
  simp only [cells, lies]

theorem replan_groups (d : Device) : d.replan.dram.groups = d.dram.groups := rfl

/-! ### Retirement (12 R374) -/

theorem groupOut_dram (g frozen cause : Nat) (d : Device) : (d.groupOut g frozen cause).dram = { d.dram with
    groups := Tab.put g { d.dram.group g with
      service := 2, retrained := false, tested := false, ready := false, retirements := satAdd max64 (d.dram.group g).retirements 1, lastRetire := d.now
      drainBy := none, retire := none, testFails := 0 } d.dram.groups } :=
  setGroupFor_dram ..

theorem groupOut_code (g frozen cause : Nat) (d : Device) : (d.groupOut g frozen cause).code = d.code := noteUnit_code ..

/-- A group out of service is not in service. -/
theorem not_mem_groupsIn {g : Nat} {d : Device} (out : (d.dram.group g).service = 2) : g ∉ d.groupsIn := fun mem => by
  have serves := (List.mem_filter.mp mem).2
  rw [out] at serves
  exact absurd serves (by decide)

section Drained
variable {g : Nat} {d e : Device}

theorem drained_clear {c : Nat} (clear : SetClear g c e) (places : d.dram.places = e.dram.places) : SetClear g c { d with dram := d.dram.drained g } := by
  intro p found homed
  have drained := (find_mapVals (fun _ (p : Placement) => p.drained g) c d.dram.places).symm.trans found
  rw [places] at drained
  obtain ⟨q, held, rfl⟩ := Option.map_eq_some_iff.mp drained
  exact clear q held homed

theorem drained_sorted (sorted : Sorted e.dram.places) (places : d.dram.places = e.dram.places) : Sorted (d.dram.drained g).places := by
  have keys : (d.dram.drained g).places.map (·.1) = e.dram.places.map (·.1) := by
    rw [← places]
    exact List.map_map ..
  unfold Sorted
  rw [keys]
  exact sorted

end Drained

theorem retireGroup_effect {g frozen cause : Nat} {d : Device} : let e := d.retireGroup g frozen cause
    e.dram.group g = (d.groupOut g frozen cause).dram.group g ∧ (Sorted d.dram.places → ∀ c, SetClear g c e) := by
  intro e
  have ran : e = d.retireGroup g frozen cause := rfl
  unfold Device.retireGroup at ran
  extract_lets sets d1 d2 d3 d4 d5 d6 at ran
  have dram1 : d1.dram = (d.groupOut g frozen cause).dram := by
    simp only [d1, groupOut_dram, floorReaders_dram, floorReaders_now]
  have cells2 : cells d2 = cells d1 := foldl_keeps (part := cells) (fun d (x : Nat × Bool) => moveHome_cells x.1 g 0 false d) _ d1
  have dram3 : d3.dram = d2.dram := foldl_keeps (part := fun d : Device => d.dram) (fun d (x : Nat × Bool) => loseSet_dram x.1 d) sets d2
  have dram4 : cells d4 = cells d3 ∧ d4.dram.places = d3.dram.places := by
    have kept := foldl_keeps (part := fun d : Device => (cells d, d.dram.places)) (step := fun d (x : Nat × Nat) => d.moveShadow false x.1 x.2)
      (fun d x => moveShadow_places false x.1 x.2 d) (d3.shadowsIn g) d3
    exact Prod.mk.inj kept
  have dram5 := moveStore_dram true g d4
  have dram6 : d6.dram = d5.dram := by
    simp only [d6]
    split
    · exact stagingLost_dram d5
    · rfl
  have cells3 : cells d3 = cells d2 := congrArg (fun x : DramState => (x.groups, x.chans)) dram3
  have cells5 : cells d5 = cells d1 := dram5.1.trans (dram4.1.trans (cells3.trans cells2))
  have groups : d6.dram.groups = d1.dram.groups := by
    rw [dram6]
    exact congrArg Prod.fst cells5
  have places : d6.dram.places = d2.dram.places := by rw [dram6, dram5.2, dram4.2, dram3]
  clear_value d6
  rw [ran]
  refine ⟨?_, fun sorted => ?_⟩
  · change Tab.read d6.dram.groups g Group.reset = Tab.read _ g Group.reset
    rw [groups, dram1]
  · have sorted1 : Sorted d1.dram.places := by
      rw [dram1, groupOut_dram]
      exact sorted
    have out : (d1.dram.group g).service = 2 := by
      rw [dram1, groupOut_dram, group_put_same]
    have leaves (c : Nat) : SetClear g c d1 ∨ ∃ b, (c, b) ∈ sets.filter (·.2) := by
      by_cases here : ∃ b, (c, b) ∈ sets.filter (·.2)
      · exact .inr here
      · refine .inl fun p found homed same => here ⟨true, ?_⟩
        rw [dram1, groupOut_dram] at found
        exact mem_setsIn found homed same
    obtain ⟨clear, -, rises⟩ := moveHomes_clear (old := g) (from_ := 0) (drain := false) (sets.filter (·.2)) (not_mem_groupsIn out) leaves sorted1
    exact replan_clear (fun c => drained_clear (clear c) places) (drained_sorted rises places)

/-! ### Corrections, drains, and the ends of a group's commands (12 R365, R378 to R380) -/

section Ends
variable {g : Nat} {d : Device}

theorem dramCorrection_effect {a : Nat} (inside : a < groupBytes) (inUse : (d.dram.group g).service < 2) :
    let c := (dramPlace g (d.dram.group g).grainLog2 a).channel
    let e := dramCorrection g a d
    (e.dram.group g).corrected = satAdd max64 (d.dram.group g).corrected 1 ∧ (e.dram.chan c).corrected = satAdd max64 (d.dram.chan c).corrected 1 ∧
      e.code = d.code := by
  intro c e
  have serves : ¬(2 ≤ (d.dram.group g).service || groupBytes ≤ a) = true := by simp [inside, inUse]
  have ran : e = dramCorrection g a d := rfl
  unfold dramCorrection at ran
  extract_lets gr c' x recent ovr at ran
  rw [if_neg serves] at ran
  rw [ran]
  refine ⟨?_, congrArg DramChannel.corrected (read_put_same ..), setGroup_code ..⟩
  change (Tab.read (d.setGroup g _).dram.groups g Group.reset).corrected = _
  rw [setGroup_dram]
  exact congrArg Group.corrected (read_put_same ..)

/-- A drain that is over puts its group out of service (12 R378). -/
theorem groupDrainDone_effect (drains : (d.dram.group g).service = 1) (ended : d.setsIn g = [] ∨ ∃ b, (d.dram.group g).drainBy = some b ∧ b ≤ d.now) :
    let e := groupDrainDone g d
    (e.dram.group g).service = 2 ∧ (e.dram.group g).drainBy = none ∧ e.code = d.code := by
  intro e
  have ran : e = groupDrainDone g d := rfl
  unfold groupDrainDone at ran
  extract_lets x ovr d1 at ran
  have ends : ¬(x.service != 1 || !ovr && !(d.setsIn g).isEmpty) = true := by
    have known : x.service = 1 := drains
    rcases ended with none_ | ⟨b, by_, late⟩
    · simp [known, none_]
    · have done : ovr = true := by simp only [ovr, x, by_, decide_eq_true late]
      simp [known, done]
  rw [if_neg ends] at ran
  have out : e.dram.group g = (d.groupOut g 255 0).dram.group g := by
    rw [ran]
    rfl
  rw [out, groupOut_dram, group_put_same]
  refine ⟨rfl, rfl, ?_⟩
  rw [ran]
  exact groupOut_code g 255 0 d

theorem endGroupWork_dram (op detail : Nat) (d : Device) : (d.endGroupWork op g detail).dram = d.dram := by
  unfold Device.endGroupWork
  split
  · rfl
  · exact decideCtx_keeps (fun d => d.dram) (fun _ _ _ _ _ _ _ _ => rfl) ..

/-- The command that waits for its group leaves the works. -/
theorem endGroupWork_works {op detail : Nat} {w : Work} (mem : w ∈ d.rk.works) (opcode : w.op = op) (handle : w.ctx.handle = g) :
    (d.endGroupWork op g detail).rk.works.length + 1 = d.rk.works.length := by
  obtain ⟨v, rest, taken, length⟩ := exists_takeWork (ok := fun w => w.op == op && w.ctx.handle == g) mem (by simp [opcode, handle])
  unfold Device.endGroupWork
  rw [taken]
  dsimp only
  rw [decideCtx_works]
  exact length

section Works
variable {w : Work} (mem : w ∈ d.rk.works) (handle : w.ctx.handle = g)
include mem handle

theorem working_any {op : Nat} (opcode : w.op = op) : ¬(!d.rk.works.any (fun w => w.op == op && w.ctx.handle == g)) = true := by
  have here : d.rk.works.any (fun w => w.op == op && w.ctx.handle == g) = true := List.any_eq_true.mpr ⟨w, mem, by simp [opcode, handle]⟩
  rw [here]
  decide

theorem groupRetrainDone_effect (opcode : w.op = 0x0802) (mask : Nat) (trained : List (Bytes × Bytes)) : let e := groupRetrainDone g mask trained d
    (e.dram.group g).service = 2 ∧ (e.dram.group g).retrained = ((d.dram.group g).retrained || mask == 0) ∧ e.rk.works.length + 1 = d.rk.works.length := by
  intro e
  have ran : e = groupRetrainDone g mask trained d := rfl
  unfold groupRetrainDone at ran
  extract_lets x d1 at ran
  rw [if_neg (working_any mem handle opcode)] at ran
  have kept : d1.rk = d.rk := by
    refine foldl_keeps (part := fun d : Device => d.rk) (fun d j => ?_) _ d
    dsimp only
    split <;> rfl
  refine ⟨?_, ?_, ?_⟩
  · rw [ran, endGroupWork_dram, raise_dram, setGroup_dram, group_put_same]
  · rw [ran, endGroupWork_dram, raise_dram, setGroup_dram, group_put_same]
  · rw [ran, endGroupWork_works (w := w) (by rw [raise_rk, setGroup_rk, kept]; exact mem) opcode handle, raise_rk, setGroup_rk, kept]

theorem groupTestDone_effect (opcode : w.op = 0x0803) (failing : Nat) : let e := groupTestDone g failing d
    (e.dram.group g).service = 2 ∧
      (e.dram.group g).ready = ((d.dram.group g).ready || ((d.dram.group g).retrained && decide (failing + (d.dram.group g).testFails = 0))) ∧
      e.rk.works.length + 1 = d.rk.works.length := by
  intro e
  have ran : e = groupTestDone g failing d := rfl
  unfold groupTestDone at ran
  extract_lets x n at ran
  rw [if_neg (working_any mem handle opcode)] at ran
  have passing : (n == 0) = decide (failing + x.testFails = 0) := by
    have whole : n = Nat.min (failing + x.testFails) (2 ^ 32 - 1) := rfl
    rw [Bool.eq_iff_iff, beq_iff_eq, decide_eq_true_eq, whole]
    change min (failing + x.testFails) (2 ^ 32 - 1) = 0 ↔ _
    omega
  refine ⟨?_, ?_, ?_⟩
  · rw [ran, endGroupWork_dram, raise_dram, setGroup_dram, group_put_same]
  · rw [ran, endGroupWork_dram, raise_dram, setGroup_dram, group_put_same]
    exact congrArg (fun b => x.ready || (x.retrained && b)) passing
  · rw [ran, endGroupWork_works (w := w) (by rw [raise_rk, setGroup_rk]; exact mem) opcode handle, raise_rk, setGroup_rk]

end Works

theorem unbare_cells (c : Nat) (d : Device) : cells (d.unbare c) = cells d := by
  unfold Device.unbare
  split
  · rfl
  · split
    · rfl
    · split
      · rfl
      · unfold cells
        dsimp only
        rw [rebuildPlanes_dram]
        rfl

theorem groupRestoreDone_service (returning : (d.dram.group g).service = 4) : ((groupRestoreDone g d).dram.group g).service = 0 := by
  have placed (d : Device) : d.placeBare.dram.groups = d.dram.groups :=
    congrArg Prod.fst (foldl_keeps (part := cells) (step := fun d c => d.unbare c) (fun d c => unbare_cells c d) (d.dram.places.map (fun e : Nat × Placement => e.1)) d)
  have back : ¬((d.dram.group g).service != 4) = true := by rw [returning]; decide
  unfold groupRestoreDone
  rw [if_neg back, endGroupWork_dram, DramState.group, placed, raise_dram, setGroup_dram]
  exact congrArg Group.service (read_put_same ..)

end Ends

/-! ### Memory happenings -/

theorem uncorrectableRead_effect {g a requester id syndrome : Nat} {history : List Nat} {d : Device} (inside : a < groupBytes)
    (inUse : (d.dram.group g).service < 2) : let p := dramPlace g (d.dram.group g).grainLog2 a
    let e := uncorrectableRead g a requester id syndrome history d
    (d.dram.chan p.channel).cause = 0 →
      (e.dram.group g).uncorrectable = satAdd max64 (d.dram.group g).uncorrectable 1 ∧ (e.dram.group g).service = (d.dram.group g).service ∧
      (2 ^ 32 ≤ a → (e.dram.chan p.channel).cause = 1 ∧ (e.dram.chan p.channel).address = a ∧ (e.dram.chan p.channel).freezeTime = d.now ∧
        (e.dram.chan p.channel).slot = p.slot ∧ (e.dram.chan p.channel).bank = p.bank ∧ (e.dram.group g).retire.isSome = true) ∧
      (a < 2 ^ 32 → (lastSecond d.now (d.dram.chan p.channel).windowErrs).length < 16 →
        (g * 2 ^ 32 + a) / 64 ∈ e.mem.poison ∧ (e.dram.chan p.channel).cause = 0 ∧ (e.dram.group g).retire = (d.dram.group g).retire) ∧
      (a < 2 ^ 32 → 16 ≤ (lastSecond d.now (d.dram.chan p.channel).windowErrs).length → (e.dram.chan p.channel).cause = 4) := by
  intro p e runs
  have place : p.channel / 8 = g := dramPlace_channel ..
  have counted : (readCounted g d).dram.group g = { d.dram.group g with
      uncorrectable := satAdd max64 (d.dram.group g).uncorrectable 1, poisonReads := satAdd max64 (d.dram.group g).poisonReads 1 } := by
    rw [readCounted_eq]
    exact group_put_same ..
  have chans : (readCounted g d).dram.chans = d.dram.chans := by rw [readCounted_eq]
  have now_ : (readCounted g d).now = d.now := by rw [readCounted_eq]; rfl
  have chan : (readCounted g d).dram.chan p.channel = d.dram.chan p.channel := congrArg (Tab.read · p.channel DramChannel.reset) chans
  by_cases window : a < 2 ^ 32
  · have does : e = _ := uncorrectableRead_window inside inUse runs window
    have readGroup : (windowRead g a p.channel (readCounted g d)).dram.group g = (readCounted g d).dram.group g := rfl
    have readChan : ((windowRead g a p.channel (readCounted g d)).dram.chan p.channel).cause = 0 :=
      (congrArg DramChannel.cause (read_put_same ..)).trans ((congrArg DramChannel.cause chan).trans runs)
    split at does
    · next many =>
      obtain ⟨frozen, retired⟩ := freezeChannel_dram (c := p.channel) (i := readError 4 requester id syndrome a history p)
        (d := windowRead g a p.channel (readCounted g d)) (by rw [place, readGroup, counted]; exact inUse) readChan
      rw [place, readGroup, counted] at retired
      rw [does, frozen, retired]
      exact ⟨rfl, rfl, fun outside => absurd window (Nat.not_lt.mpr outside), fun _ few => absurd few (Nat.not_lt.mpr many), fun _ _ => rfl⟩
    · next few =>
      rw [does, readGroup, counted]
      exact ⟨rfl, rfl, fun outside => absurd window (Nat.not_lt.mpr outside), fun _ _ => ⟨List.mem_cons_self, readChan, rfl⟩, fun _ many => absurd many few⟩
  · have outside := Nat.not_lt.mp window
    have does : e = _ := uncorrectableRead_outside inside inUse runs outside
    obtain ⟨frozen, retired⟩ := freezeChannel_dram (c := p.channel) (i := readError 1 requester id syndrome a history p) (d := readCounted g d)
      (by rw [place, counted]; exact inUse) (by rw [chan]; exact runs)
    rw [place, counted] at retired
    rw [does, frozen, retired, now_]
    exact ⟨rfl, rfl, fun _ => ⟨rfl, rfl, rfl, rfl, rfl, rfl⟩, fun near => absurd near window, fun near => absurd near window⟩

/-- Settles O49: each happening by the lemma on its own effect. -/
theorem memoryHappeningsTakeEffect : Obligations.MemoryHappeningsTakeEffect := by
  intro t s d
  refine ⟨fun g a requester id syndrome history inside inUse => ?_,
    fun c rule bank page slot requester id a history inUse runs => ⟨_, rfl, ?_⟩, fun g a inside inUse => ⟨_, rfl, dramCorrection_effect inside inUse⟩,
    fun bursts still => ⟨_, rfl, ?_⟩, fun c b placed => ⟨_, rfl, ?_⟩, fun c b inUse runs => ⟨_, rfl, ?_⟩,
    fun g frozen cause due inUse => ⟨_, rfl, ?_⟩, fun g drains ended => ⟨_, rfl, groupDrainDone_effect drains ended⟩,
    fun g mask trained w mem opcode handle => ⟨_, rfl, groupRetrainDone_effect mem handle opcode mask trained⟩,
    fun g failing w mem opcode handle => ⟨_, rfl, groupTestDone_effect mem handle opcode failing⟩, fun g returning => ⟨_, rfl, groupRestoreDone_service returning⟩⟩
  case refine_1 =>
    intro p runs
    exact ⟨_, rfl, uncorrectableRead_effect inside inUse runs⟩
  case refine_2 =>
    obtain ⟨frozen, retired⟩ := freezeChannel_dram (i := ⟨if rule.val = 0 then 3 else 2, rule, bank, page, slot, requester, id, 0, a, history⟩) inUse runs
    rw [commandError, frozen, retired]
    exact ⟨rfl, rfl, rfl, rfl⟩
  case refine_3 =>
    have goes : ¬(d.modes.throttleIo != 0) = true := by rw [still]; decide
    rw [if_neg goes]
    exact ⟨rfl, rfl, rfl⟩
  case refine_4 =>
    refine ⟨?_, rfl, rfl⟩
    have chan : (refreshDue c b placed d).dram.chan c = _ := read_put_same ..
    rw [chan]
    exact read_put_same ..
  case refine_5 =>
    have serves : ¬(2 ≤ (d.dram.group (c.val / 8)).service || (d.dram.chan c).cause != 0) = true := by simp [inUse, runs]
    rw [if_neg serves]
    exact ⟨congrArg DramChannel.training (read_put_same ..), rfl, rfl⟩
  case refine_6 =>
    obtain ⟨group, clear⟩ := retireGroup_effect (g := g.val) (frozen := frozen) (cause := cause) (d := d)
    have retires : groupRetirement g d = d.retireGroup g frozen cause := by
      rw [groupRetirement, due]
      exact if_neg (Nat.not_le.mpr inUse)
    rw [groupOut_dram, group_put_same] at group
    rw [retires, group]
    exact ⟨rfl, rfl, rfl, rfl, rfl, rfl, fun sorted c p found homed => clear sorted c p found homed⟩

end Sys2Proof.Proofs

/-!
PROOF. Journal and check commands (SPEC 13).
-/
namespace Sys2Proof.Proofs

open Sys2Proof Sys2Proof.Machine Sys2Proof.Laws

/-! ### What the NAND's own work leaves of the journal (13 R391 to R395) -/

/-- The journal but for what lies where in the NAND. -/
def NandOnly (j j' : JournalState) : Prop :=
  ∃ nand filling relocations nextAddress, j' = { j with nand := nand, filling := filling, relocations := relocations, nextAddress := nextAddress }

section Nand
variable {j k l : JournalState}

theorem NandOnly.refl (j : JournalState) : NandOnly j j := ⟨_, _, _, _, rfl⟩

theorem NandOnly.trans (first : NandOnly j k) (second : NandOnly k l) : NandOnly j l := by
  obtain ⟨_, _, _, _, rfl⟩ := first
  obtain ⟨_, _, _, _, rfl⟩ := second
  exact ⟨_, _, _, _, rfl⟩

/-- A part of the journal that says nothing of the NAND's contents. -/
theorem NandOnly.same {α : Type} (part : JournalState → α) (only : NandOnly j k)
    (apart : ∀ (j : JournalState) nand filling relocations nextAddress,
      part { j with nand := nand, filling := filling, relocations := relocations, nextAddress := nextAddress } = part j := by intros; rfl) : part k = part j := by
  obtain ⟨_, _, _, _, rfl⟩ := only
  exact apart ..

theorem NandOnly.foldl {α : Type} {step : JournalState → α → JournalState} (one : ∀ j a, NandOnly j (step j a)) (xs : List α) (j : JournalState) :
    NandOnly j (xs.foldl step j) := by
  induction xs generalizing j with
  | nil => exact .refl j
  | cons x xs ih => exact (one j x).trans (ih _)

variable (j)

theorem nandOnly_setBlock (n : Nat) (b : NandBlock) : NandOnly j (j.setBlock n b) := ⟨_, _, _, _, rfl⟩

theorem nandOnly_eraseBlock (n : Nat) : NandOnly j (j.eraseBlock n) := ⟨_, _, _, _, rfl⟩

theorem nandOnly_moveData (n : Nat) : NandOnly j (j.moveData n) := by
  unfold JournalState.moveData
  split
  · exact .refl j
  · exact ⟨_, _, _, _, rfl⟩

theorem nandOnly_level : NandOnly j j.level := by
  unfold JournalState.level
  split
  · split
    · exact (nandOnly_moveData j _).trans (nandOnly_eraseBlock _ _)
    · exact .refl j
  · exact .refl j

theorem nandOnly_relocate (n : Nat) : NandOnly j (j.relocate n) := by
  unfold JournalState.relocate
  split
  · exact .refl j
  · have levelled := ((nandOnly_moveData j n).trans (nandOnly_eraseBlock _ n)).trans (nandOnly_level _)
    exact levelled.trans ⟨_, _, _, _, rfl⟩

theorem nandOnly_reclaim : NandOnly j j.reclaim :=
  .foldl (fun j n => (nandOnly_eraseBlock j n).trans (nandOnly_level _)) _ j

theorem nandOnly_fill (b : Nat) (bytes : Bytes) (fuel i left : Nat) : NandOnly j (j.fill b bytes fuel i left) := by
  induction fuel generalizing i left j with
  | zero => exact .refl j
  | succ fuel ih =>
    unfold JournalState.fill
    split
    · exact .refl j
    · split
      · exact .refl j
      · exact NandOnly.trans ⟨_, _, _, _, rfl⟩ (ih ..)

theorem nandOnly_program (b size : Nat) : NandOnly j (j.program b size) := nandOnly_fill ..

theorem nandOnly_retireBlock (n : Nat) : NandOnly j (j.retireBlock n) := by
  unfold JournalState.retireBlock
  extract_lets j1
  have moved : NandOnly j j1 := by
    simp only [j1]
    split
    · exact .refl j
    · exact nandOnly_moveData j n
  exact moved.trans ⟨_, _, _, _, rfl⟩

theorem nandOnly_readBatches (bs : List Nat) : NandOnly j (j.readBatches bs) :=
  NandOnly.trans ⟨_, _, _, _, rfl⟩ (.foldl (fun j n => nandOnly_relocate j n) _ _)

theorem nandOnly_scrubBlock (n now : Nat) (rewrite may : Bool) : NandOnly j (j.scrubBlock n now rewrite may) := by
  unfold JournalState.scrubBlock
  extract_lets x j1
  split
  · exact .refl j
  · split
    · exact (nandOnly_setBlock ..).trans (nandOnly_relocate ..)
    · exact nandOnly_setBlock ..

end Nand

/-! ### What is released (13 R387) -/

/-- The records of a source that stay held. -/
def JournalKeeps (src : Nat) (all : Bool) (j : JournalState) (r : JRec) : Bool :=
  !r.ofService src || j.holds r || !(all || r.time + (j.svc src).retainS * second <
    ((j.recs.filter (fun r => r.ofService src && r.committed)).map (·.time)).foldl Nat.max 0)

theorem release_only (src : Nat) (all : Bool) (j : JournalState) : NandOnly { j with recs := j.recs.filter (JournalKeeps src all j) } (j.release src all) :=
  nandOnly_reclaim _

theorem mem_release {src : Nat} {all : Bool} {j : JournalState} {r : JRec} : r ∈ (j.release src all).recs ↔ r ∈ j.recs ∧ JournalKeeps src all j r = true := by
  rw [(release_only src all j).same (·.recs)]
  exact List.mem_filter

theorem journalKeeps_of_held {src : Nat} {all : Bool} {j : JournalState} {r : JRec} (held : j.holds r = true) : JournalKeeps src all j r = true := by
  simp [JournalKeeps, held]

theorem foldl_max_le {l : List Nat} {b top : Nat} (least : b ≤ top) (all : ∀ x ∈ l, x ≤ top) : l.foldl Nat.max b ≤ top := by
  induction l generalizing b with
  | nil => exact least
  | cons x l ih =>
    obtain ⟨first, rest⟩ := List.forall_mem_cons.mp all
    exact ih (Nat.max_le.mpr ⟨least, first⟩) rest

/-- A record within the retention of its source's newest committed one stays. -/
theorem journalKeeps_of_recent {src : Nat} {j : JournalState} {r : JRec}
    (recent : ∀ x ∈ j.recs, x.ofService src = true → x.committed = true → x.time ≤ r.time + (j.svc src).retainS * second) :
    JournalKeeps src false j r = true := by
  have newest : ((j.recs.filter (fun r => r.ofService src && r.committed)).map (·.time)).foldl Nat.max 0 ≤ r.time + (j.svc src).retainS * second := by
    refine foldl_max_le (Nat.zero_le _) fun t mem => ?_
    obtain ⟨x, held, rfl⟩ := List.mem_map.mp mem
    obtain ⟨here, which⟩ := List.mem_filter.mp held
    rw [Bool.and_eq_true] at which
    exact recent x here which.1 which.2
  simp [JournalKeeps, Nat.not_lt.mpr newest]

/-! ### Batches and the end of a session (13 R391, R397) -/

theorem endBatch_of_none {now : Nat} {j : JournalState} (none_ : j.batchAt = none) : j.endBatch now = j := by
  rw [JournalState.endBatch, none_]

/-- The journal whose batch ends with its COMMIT record, before the codewords are programmed. -/
def batchEnded (now : Nat) (j : JournalState) : JournalState := { j.store now (j.commitRec now) with batch := j.batch + 1, batchAt := none }

theorem endBatch_of_some {now b : Nat} {j : JournalState} (some_ : j.batchAt = some b) : NandOnly (batchEnded now j) (j.endBatch now) := by
  rw [JournalState.endBatch, some_]
  obtain ⟨nand, filling, relocations, nextAddress, programs⟩ :=
    nandOnly_program (j.store now (j.commitRec now)) j.batch (Tab.read (j.store now (j.commitRec now)).batches j.batch 0)
  dsimp only
  rw [programs]
  exact ⟨_, _, _, _, rfl⟩

/-- The end of a batch keeps every record and every batch in the cache. -/
theorem endBatch_keeps (now : Nat) (j : JournalState) : let k := j.endBatch now
    k.batchAt = none ∧ j.recs <+: k.recs ∧ k.session = j.session ∧ k.closing = j.closing ∧ k.testing = j.testing ∧ (j.batches ≠ [] → k.batches ≠ []) ∧
      k.services = j.services := by
  intro k
  cases at_ : j.batchAt with
  | none =>
    rw [show k = j from endBatch_of_none at_]
    exact ⟨at_, List.prefix_rfl, rfl, rfl, rfl, id, rfl⟩
  | some b =>
    obtain ⟨_, _, _, _, does⟩ := endBatch_of_some (now := now) at_
    rw [show k = _ from does]
    exact ⟨rfl, List.prefix_append .., rfl, rfl, rfl, fun _ => put_ne_nil _ _ _, rfl⟩

/-- Deciding a command at work leaves the journal. -/
theorem sessionClosed_journal (d : Device) : d.sessionClosed.journal = d.journal := sessionClosed_keeps (fun d => d.journal) (fun _ _ _ _ _ _ _ _ => rfl) d

theorem sessionEnded_of_empty {d : Device} (closing : d.journal.session = 2) (empty : d.journal.batches = []) :
    d.sessionEnded.journal = { d.journal with session := 0, cacheMib := 0, staging := 255, closing := 0 } := by
  unfold Device.sessionEnded
  extract_lets j
  have ends : (j.session = 2 && j.batches.isEmpty) = true := by simp [j, closing, empty]
  rw [if_pos ends, sessionClosed_journal, raise_journal]

theorem sessionEnded_of_not {d : Device} (goes : d.journal.session ≠ 2 ∨ d.journal.batches ≠ []) : d.sessionEnded = d := by
  unfold Device.sessionEnded
  extract_lets j
  have stays : ¬(j.session = 2 && j.batches.isEmpty) = true := by
    rcases goes with h | h <;> simp [j, h]
  rw [if_neg stays]

/-- The module as a close begins: its last batch has ended. -/
def beginClose (cause : Nat) (d : Device) : Device := { d with journal := { d.journal.endBatch d.now with session := 2, closing := cause } }

theorem closeSession_of_open {d : Device} (cause : Nat) (open_ : d.journal.session = 1) : d.closeSession cause = (beginClose cause d).sessionEnded := by
  rw [Device.closeSession, if_pos open_]
  rfl

/-- With an empty cache a session closes at once. -/
theorem closeSession_of_empty {d : Device} (cause : Nat) (open_ : d.journal.session = 1) (empty : d.journal.batches = []) (idle : d.journal.batchAt = none) :
    (d.closeSession cause).journal.session = 0 ∧ (d.closeSession cause).journal.cacheMib = 0 := by
  have none_ : (beginClose cause d).journal.batches = [] := by
    rw [beginClose, endBatch_of_none idle]
    exact empty
  rw [closeSession_of_open cause open_, sessionEnded_of_empty rfl none_]
  exact ⟨rfl, rfl⟩

/-- With records in the cache it is closing until they are programmed. -/
theorem closeSession_of_batches {d : Device} (cause : Nat) (open_ : d.journal.session = 1) (holds : d.journal.batches ≠ []) :
    d.closeSession cause = beginClose cause d := by
  obtain ⟨-, -, -, -, -, batches, -⟩ := endBatch_keeps d.now d.journal
  rw [closeSession_of_open cause open_, sessionEnded_of_not (.inr (batches holds))]

section Commands
variable {t : Nat} {ring : Fin 4} {entry : Bytes} {s : State}

/-! ### Sessions (13 R397, R399, R400) -/

theorem journalSessionClose_effect (ok : passes journalSessionClose t ring entry s = true) : let d := takenAt t ring entry s
    ∃ d', exec (.journalSessionClose t ring entry) s = .next { s with dev := d' } ∧
      (d.journal.session = 0 → d'.journal = d.journal) ∧
      (d.journal.session = 1 → d.journal.batches = [] → d.journal.batchAt = none → d'.journal.session = 0 ∧ d'.journal.cacheMib = 0) ∧
      (d.journal.session = 1 → (∃ x ∈ d.journal.batches, True) → d'.journal.session = 2 ∧ d'.journal.closing = 0 ∧ d'.journal.batchAt = none ∧
        ∀ r ∈ d.journal.recs, r ∈ d'.journal.recs) := by
  intro d
  have notBusy (c : Ctx) (d : Device) : (journalSessionClose.apply c d).final.map (·.1) ≠ some stBusy := by
    simp only [journalSessionClose]
    split <;> exact nofun
  obtain ⟨d', ran, accounts⟩ := answers_of_passes (i := .journalSessionClose t ring entry) rfl notBusy ok rfl
  have journal := AccountsOnly.same accounts (·.journal)
  let c := ctxAt journalSessionClose t ring entry s
  have closes (open_ : d.journal.session = 1) : d'.journal = ((d.beginWork 0x0902 c 0 none).closeSession 0).journal := by
    rw [journal]
    simp only [journalSessionClose]
    rw [if_neg (show ¬d.journal.session = 0 by omega)]
    rfl
  refine ⟨d', ran, fun closed => ?_, fun open_ empty idle => ?_, fun open_ holds => ?_⟩
  · rw [journal]
    simp only [journalSessionClose]
    rw [if_pos (show d.journal.session = 0 from closed)]
    rfl
  · rw [closes open_]
    exact closeSession_of_empty (d := d.beginWork 0x0902 c 0 none) 0 open_ empty idle
  · have some_ : d.journal.batches ≠ [] := fun none_ => by
      obtain ⟨x, mem, -⟩ := holds
      rw [none_] at mem
      cases mem
    obtain ⟨batchAt, recs, -⟩ := endBatch_keeps (d.beginWork 0x0902 c 0 none).now d.journal
    rw [closes open_, closeSession_of_batches (d := d.beginWork 0x0902 c 0 none) 0 open_ some_]
    exact ⟨rfl, rfl, batchAt, fun r mem => recs.subset mem⟩

theorem energyTest_apply (c : Ctx) (d : Device) : (energyTest.apply c d).dev =
    let d1 := d.beginTest.beginWork 0x0909 c 0 none
    if d1.journal.limit < d1.journal.cacheBytes then { d1 with journal := d1.journal.endBatch d.now } else d1 := rfl

theorem energyTest_effect (ok : passes energyTest t ring entry s = true) : let c := ctxAt energyTest t ring entry s
    let d := takenAt t ring entry s
    ∃ d', exec (.energyTest t ring entry) s = .next { s with dev := d' } ∧ d'.rk.works = d.rk.works ++ [⟨0x0909, c, 0, none⟩] ∧
      d'.journal.testing = true ∧ d'.journal.session = d.journal.session ∧ ∀ r ∈ d.journal.recs, r ∈ d'.journal.recs := by
  intro c d
  obtain ⟨d', ran, accounts⟩ := answers_of_passes (i := .energyTest t ring entry) rfl (fun _ _ => nofun) ok rfl
  have works := AccountsOnly.same accounts (·.rk.works)
  have journal := AccountsOnly.same accounts (·.journal)
  rw [energyTest_apply] at works journal
  refine ⟨d', ran, ?_⟩
  rw [works, journal]
  dsimp only
  split
  · obtain ⟨-, recs, session, -, testing, -⟩ := endBatch_keeps d.now (d.beginTest.beginWork 0x0909 c 0 none).journal
    exact ⟨rfl, testing, session, fun r mem => recs.subset mem⟩
  · exact ⟨rfl, rfl, rfl, fun r mem => mem⟩

/-! ### Services and marks (13 R384 to R388) -/

theorem journalServiceSet_effect (ok : passes journalServiceSet t ring entry s = true)
    (atOnce : journalServiceSet.atOnce (ctxAt journalServiceSet t ring entry s) (takenAt t ring entry s) = true) :
    let c := ctxAt journalServiceSet t ring entry s
    let d := takenAt t ring entry s
    ∃ d', exec (.journalServiceSet t ring entry) s = .next { s with dev := d' } ∧ (d'.journal.svc c.handle).cls = c.p 0 1 ∧
      (d'.journal.svc c.handle).retainS = c.p 4 4 ∧ (d'.journal.svc c.handle).seq = (d.journal.svc c.handle).seq ∧
      (∀ n, n ≠ c.handle → d'.journal.svc n = d.journal.svc n) ∧
      (∀ r ∈ d.journal.recs, (r.ofService c.handle = false ∨ d.journal.holds r = true ∨
        (∀ x ∈ d.journal.recs, x.ofService c.handle = true → x.committed = true → x.time ≤ r.time + c.p 4 4 * second)) → r ∈ d'.journal.recs) ∧
      (∀ r ∈ d'.journal.recs, r ∈ d.journal.recs) := by
  intro c d
  obtain ⟨d', ran, accounts⟩ := answers_of_passes (i := .journalServiceSet t ring entry) rfl (fun _ _ => nofun) ok atOnce
  let j := d.journal.setSvc c.handle { d.jsvc c.handle with cls := c.p 0 1, retainS := c.p 4 4 }
  have journal : d'.journal = j.release c.handle false := AccountsOnly.same accounts (·.journal)
  have own : j.svc c.handle = { d.jsvc c.handle with cls := c.p 0 1, retainS := c.p 4 4 } := read_put_same ..
  have svc (n : Nat) : d'.journal.svc n = j.svc n := by
    rw [journal]
    exact (release_only c.handle false j).same (fun j => j.svc n)
  refine ⟨d', ran, ?_, ?_, ?_, fun n other => (svc n).trans (read_put_other other ..), fun r mem why => ?_, fun r mem => ?_⟩
  · rw [svc, own]
  · rw [svc, own]
  · rw [svc, own]
    rfl
  · rw [journal]
    refine mem_release.mpr ⟨mem, ?_⟩
    rcases why with other | held | recent
    · simp [JournalKeeps, other]
    · exact journalKeeps_of_held held
    · refine journalKeeps_of_recent fun x mem of_ committed => ?_
      rw [own]
      exact recent x mem of_ committed
  · rw [journal] at mem
    exact (mem_release.mp mem).1

/-- A mark or a replay lets go of records that nothing else holds: marks, replays and services stand. -/
theorem letGo_keeps (n : Nat) (d : Device) : let e := d.letGo n
    e.journal.marks = d.journal.marks ∧ e.journal.replays = d.journal.replays ∧ e.journal.services = d.journal.services ∧
      e.sched = d.sched ∧ ∀ r ∈ d.journal.recs, d.journal.holds r = true → r ∈ e.journal.recs := by
  intro e
  have only := release_only n (!d.journalOn n) d.journal
  exact ⟨only.same (·.marks), only.same (·.replays), only.same (·.services), rfl, fun r mem held => mem_release.mpr ⟨mem, journalKeeps_of_held held⟩⟩

theorem journalMarkPin_effect (ok : passes journalMarkPin t ring entry s = true) : let c := ctxAt journalMarkPin t ring entry s
    let d := takenAt t ring entry s
    ∃ d', exec (.journalMarkPin t ring entry) s = .next { s with dev := d' } ∧
      Tab.find c.handle d'.journal.marks = some ⟨c.p 0 2, c.timeAt 8, c.timeAt 24⟩ ∧
      (∀ k, k ≠ c.handle → Tab.find k d'.journal.marks = Tab.find k d.journal.marks) ∧
      (∀ r ∈ d.journal.recs, r.source = c.p 0 2 → c.timeAt 8 ≤ r.time → r.time < c.timeAt 24 → r ∈ d'.journal.recs) := by
  intro c d
  obtain ⟨d', ran, accounts⟩ := answers_of_passes (i := .journalMarkPin t ring entry) rfl (fun _ _ => nofun) ok rfl
  let e : Device := { d with journal := { d.journal with marks := Tab.put c.handle ⟨c.p 0 2, c.timeAt 8, c.timeAt 24⟩ d.journal.marks } }
  have journal : d'.journal = (match Tab.find c.handle d.journal.marks with | some m => e.letGo m.source | none => e).journal :=
    AccountsOnly.same accounts (·.journal)
  have pinned (r : JRec) (source : r.source = c.p 0 2) (from_ : c.timeAt 8 ≤ r.time) (to_ : r.time < c.timeAt 24) : e.journal.holds r = true := by
    have mark : e.journal.marks.any (fun m => m.2.holds r) = true :=
      List.any_eq_true.mpr ⟨(c.handle, ⟨c.p 0 2, c.timeAt 8, c.timeAt 24⟩), mem_of_find (find_put_same ..), by simp [Mark.holds, source, from_, to_]⟩
    rw [JournalState.holds, mark, Bool.true_or]
  have keeps : d'.journal.marks = e.journal.marks ∧ ∀ r ∈ d.journal.recs, e.journal.holds r = true → r ∈ d'.journal.recs := by
    rw [journal]
    split
    · next m _ =>
      obtain ⟨marks, -, -, -, recs⟩ := letGo_keeps m.source e
      exact ⟨marks, recs⟩
    · exact ⟨rfl, fun r mem _ => mem⟩
  obtain ⟨marks, recs⟩ := keeps
  refine ⟨d', ran, ?_, fun k other => ?_, fun r mem source from_ to_ => recs r mem (pinned r source from_ to_)⟩
  · rw [marks]
    exact find_put_same ..
  · rw [marks]
    exact find_put_other other ..

theorem journalMarkRelease_effect (ok : passes journalMarkRelease t ring entry s = true) : let c := ctxAt journalMarkRelease t ring entry s
    let d := takenAt t ring entry s
    ∃ d', exec (.journalMarkRelease t ring entry) s = .next { s with dev := d' } ∧ Tab.find c.handle d'.journal.marks = none ∧
      (∀ k, k ≠ c.handle → Tab.find k d'.journal.marks = Tab.find k d.journal.marks) ∧ d'.journal.services = d.journal.services := by
  intro c d
  have notBusy (c : Ctx) (d : Device) : (journalMarkRelease.apply c d).final.map (·.1) ≠ some stBusy := by
    simp only [journalMarkRelease]
    split <;> exact nofun
  obtain ⟨d', ran, accounts⟩ := answers_of_passes (i := .journalMarkRelease t ring entry) rfl notBusy ok rfl
  have journal := AccountsOnly.same accounts (·.journal)
  simp only [journalMarkRelease] at journal
  refine ⟨d', ran, ?_⟩
  rw [journal]
  split
  · next none_ => exact ⟨none_, fun _ _ => rfl, rfl⟩
  · next m _ =>
    obtain ⟨marks, -, services, -⟩ := letGo_keeps m.source { d with journal := { d.journal with marks := Tab.del c.handle d.journal.marks } }
    refine ⟨(congrArg (Tab.find c.handle) marks).trans (find_del_same ..), fun k other => (congrArg (Tab.find k) marks).trans (find_del_other other ..), services⟩

/-! ### Replays (13 R406 to R408) -/

theorem replayStart_least (c : Ctx) (now : Nat) : now + 100 * msec ≤ replayStart c now := by
  unfold replayStart
  split
  · exact Nat.le_refl _
  · next far => exact Nat.not_lt.mp far

theorem replayStart_asked {c : Ctx} {now : Nat} (far : now + 100 * msec ≤ c.effectTime) (timed : c.effect = 2) : replayStart c now = c.effectTime := by
  rw [replayStart, replayAsked, if_pos timed, if_neg (Nat.not_lt.mpr far)]

theorem journalReplayStart_effect (ok : passes journalReplayStart t ring entry s = true) : let c := ctxAt journalReplayStart t ring entry s
    let d := takenAt t ring entry s
    ∃ d', exec (.journalReplayStart t ring entry) s = .next { s with dev := d' } ∧ Tab.find c.handle d'.journal.replays = some (parseReplay c d) ∧
      d'.journal.recs = d.journal.recs := by
  intro c d
  have notBusy (c : Ctx) (d : Device) : (journalReplayStart.apply c d).final.map (·.1) ≠ some stBusy := by
    simp only [journalReplayStart]
    split <;> exact nofun
  obtain ⟨d', ran, accounts⟩ := answers_of_passes (i := .journalReplayStart t ring entry) rfl notBusy ok rfl
  have journal := AccountsOnly.same accounts (·.journal)
  refine ⟨d', ran, ?_, ?_⟩
  · rw [journal]
    exact find_put_same ..
  · rw [journal]
    rfl

theorem endReplay_of_some {slot code : Nat} {d : Device} {r : Replay} (found : Tab.find slot d.journal.replays = some r) : let e := d.endReplay slot code
    e.journal.replays = Tab.del slot d.journal.replays ∧ e.journal.marks = d.journal.marks ∧ e.sched = d.sched := by
  intro e
  obtain ⟨marks, replays, -, sched, -⟩ := letGo_keeps r.source { d with journal := { d.journal with replays := Tab.del slot d.journal.replays } }
  rw [show e = d.endReplay slot code from rfl, Device.endReplay, found]
  exact ⟨replays, marks, sched⟩

/-- Copies that launch at or after the end of a replay are gone. -/
theorem withhold_due {target from_ p : Nat} {d : Device} {x : PortSched} (found : Tab.find p (d.withhold target from_).sched.ports = some x) {k : Copy}
    (mem : k ∈ x.due) : k.kind = 3 ∨ k.service ≠ target ∨ k.base < from_ := by
  have ports := (find_mapVals (fun _ (x : PortSched) => x.withhold target from_) p d.sched.ports).symm.trans found
  obtain ⟨y, -, rfl⟩ := Option.map_eq_some_iff.mp ports
  have keeps := (List.mem_filter.mp mem).2
  simpa [Bool.or_eq_true, or_assoc] using keeps

theorem journalReplayStop_effect {r : Replay} (found : Tab.find (ctxAt journalReplayStop t ring entry s).handle (takenAt t ring entry s).journal.replays = some r)
    (ok : passes journalReplayStop t ring entry s = true) : let c := ctxAt journalReplayStop t ring entry s
    let d := takenAt t ring entry s
    ∃ d', exec (.journalReplayStop t ring entry) s = .next { s with dev := d' } ∧
      (c.effect = 2 → d.now < c.effectTime → Tab.find c.handle d'.journal.replays = some { r with stopAt := some c.effectTime }) ∧
      (c.effect = 0 → Tab.find c.handle d'.journal.replays = none) ∧
      (∀ p x, Tab.find p d'.sched.ports = some x → ∀ k ∈ x.due, k.kind = 3 ∨ k.service ≠ r.target ∨
        k.base < (if c.effect = 2 then Nat.max d.now c.effectTime else d.now)) := by
  intro c d
  have notBusy (c : Ctx) (d : Device) : (journalReplayStop.apply c d).final.map (·.1) ≠ some stBusy := by
    simp only [journalReplayStop]
    split <;> exact nofun
  obtain ⟨d', ran, accounts⟩ := answers_of_passes (i := .journalReplayStop t ring entry) rfl notBusy ok rfl
  let at_ := Nat.max d.now (if c.effect = 2 then c.effectTime else d.now)
  let e : Device := ({ d with journal := { d.journal with replays := Tab.put c.handle { r with stopAt := some at_ } d.journal.replays } } : Device).withhold r.target at_
  have here : Tab.find c.handle e.journal.replays = some { r with stopAt := some at_ } := find_put_same ..
  have does : (journalReplayStop.apply c d).dev = if at_ = d.now then e.endReplay c.handle 1 else e := by
    have known : Tab.find c.handle d.journal.replays = some r := found
    simp only [journalReplayStop, known]
    rfl
  have replays := (AccountsOnly.same accounts (·.journal.replays)).trans (congrArg (fun d : Device => d.journal.replays) does)
  have sched : d'.sched = e.sched := by
    rw [AccountsOnly.same accounts (·.sched), does]
    split
    · exact (endReplay_of_some here).2.2
    · rfl
  refine ⟨d', ran, fun timed later => ?_, fun now_ => ?_, fun p x port k mem => ?_⟩
  · have moment : at_ = c.effectTime := by
      simp only [at_, timed, if_true]
      exact Nat.max_eq_right (Nat.le_of_lt later)
    rw [replays, if_neg (by omega), here, moment]
  · have moment : at_ = d.now := by
      simp only [at_, now_]
      exact Nat.max_self _
    rw [replays, if_pos moment, (endReplay_of_some here).1]
    exact find_del_same ..
  · rw [sched] at port
    have least : at_ = if c.effect = 2 then Nat.max d.now c.effectTime else d.now := by
      simp only [at_]
      split
      · rfl
      · exact Nat.max_self _
    exact least ▸ withhold_due port mem

/-! ### Check contexts (13 R411, R412) -/

theorem checkContextGet_effect (ok : passes checkContextGet t ring entry s = true) : let c := ctxAt checkContextGet t ring entry s
    let d := takenAt t ring entry s
    (d.checks.ctx c.handle).owner = 0 →
      ((d.checks.ctx c.handle).state = 1 → ∃ d', exec (.checkContextGet t ring entry) s = .next { s with dev := d' } ∧
        d'.rk.works = d.rk.works ++ [⟨0x090C, c, 0, none⟩] ∧ d'.checks = d.checks ∧ d'.mem.hdm = d.mem.hdm) ∧
      ((d.checks.ctx c.handle).state ≠ 1 → ∃ d', exec (.checkContextGet t ring entry) s = .next { s with dev := d' } ∧
        AccountsOnly (d.writeAt (c.p 0 8) (checkRecord c.handle d)) d') := by
  intro c d host
  have notBusy (c : Ctx) (d : Device) : (checkContextGet.apply c d).final.map (·.1) ≠ some stBusy := by
    simp only [checkContextGet]
    split <;> exact nofun
  obtain ⟨d', ran, accounts⟩ := answers_of_passes (i := .checkContextGet t ring entry) rfl notBusy ok rfl
  have measured : d.measureCheck c.handle = d := by
    rw [Device.measureCheck]
    exact if_pos host
  have does : (checkContextGet.apply c d) = if (d.checks.ctx c.handle).state = 1 then Done.goesOn (d.beginWork 0x090C c 0 none) else
      writeRecord (checkRecord c.handle d) c d := by
    simp only [checkContextGet, measured]
  change AccountsOnly (checkContextGet.apply c d).dev d' at accounts
  refine ⟨fun runs => ⟨d', ran, ?_⟩, fun over_ => ⟨d', ran, ?_⟩⟩
  · rw [does, if_pos runs] at accounts
    exact ⟨AccountsOnly.same accounts (·.rk.works), AccountsOnly.same accounts (·.checks), AccountsOnly.same accounts (·.mem.hdm)⟩
  · rwa [does, if_neg over_] at accounts

end Commands

/-- Settles O51: each command by the lemma on its own effect. -/
theorem journalCommandsTakeEffect : Obligations.JournalCommandsTakeEffect := by
  intro t ring entry s
  refine ⟨fun ok => ?_, journalSessionClose_effect, journalServiceSet_effect, commandStages_of_runs rfl, journalMarkPin_effect,
    fun _ => journalMarkRelease_effect, fun ok => ?_, fun r found ok => ?_, fun ok => ?_, energyTest_effect, commandDoes_of_ok rfl fun _ _ => rfl,
    commandDoes_of_ok rfl fun c d => ?_, checkContextGet_effect⟩
  case refine_1 =>
    obtain ⟨d', ran, accounts⟩ := answers_of_passes (i := .journalSessionOpen t ring entry) rfl (fun _ _ => nofun) ok rfl
    exact ⟨d', ran, AccountsOnly.same accounts (·.journal), AccountsOnly.same accounts (·.rk.works)⟩
  case refine_2 =>
    obtain ⟨d', ran, replay, recs⟩ := journalReplayStart_effect ok
    exact ⟨d', _, ran, replay, rfl, rfl, rfl, rfl, rfl, replayStart_least .., replayStart_asked, rfl, recs⟩
  case refine_3 =>
    obtain ⟨d', ran, dated, ended, withheld⟩ := journalReplayStop_effect found ok
    exact ⟨d', ran, dated, fun now_ _ => ended now_, withheld⟩
  case refine_4 =>
    obtain ⟨d', ran, accounts⟩ := answers_of_passes (i := .journalExport t ring entry) rfl (fun _ _ => nofun) ok rfl
    exact ⟨d', ran, AccountsOnly.same accounts (·.rk.works), AccountsOnly.same accounts (·.journal), AccountsOnly.same accounts (·.mem.hdm)⟩
  case refine_5 =>
    simp only [checkContextSet]
    split <;> rfl

end Sys2Proof.Proofs

/-!
PROOF. What happens in the journal and the check units (SPEC 13).
-/
namespace Sys2Proof.Proofs

open Sys2Proof Sys2Proof.Machine Sys2Proof.Laws

/-! ### Packets and gaps (13 R384, R402) -/

section Packet
variable {now src launch : Nat} {first audio : Bool} {payload : Bytes} {j : JournalState}

theorem svc_setSvc_same (n : Nat) (x : JService) (j : JournalState) : (j.setSvc n x).svc n = x := read_put_same ..

/-- A gap is written, or nothing is. -/
theorem writeGap_eq (now src : Nat) (j : JournalState) :
    j.writeGap now src = (j, []) ∨ j.writeGap now src =
      ((j.store now (gapRec now src ((j.svc src).seq - 1) (j.svc src).pendingLost (j.svc src).pendingCause)).setSvc src
        { j.svc src with pendingLost := 0, pendingCause := 2 }, [(342, det2 src (j.svc src).pendingCause)]) := by
  unfold JournalState.writeGap
  extract_lets x r
  split
  · exact .inl rfl
  · exact .inr rfl

theorem writeGap_keeps (now src : Nat) (j : JournalState) : let k := (j.writeGap now src).1
    j.recs <+: k.recs ∧ (k.svc src).seq = (j.svc src).seq := by
  intro k
  rcases writeGap_eq now src j with none_ | writes
  · rw [show k = j from congrArg Prod.fst none_]
    exact ⟨List.prefix_rfl, rfl⟩
  · rw [show k = _ from congrArg Prod.fst writes]
    exact ⟨List.prefix_append .., (congrArg JService.seq (svc_setSvc_same ..)).trans rfl⟩

theorem writeGap_of_none (none_ : (j.svc src).pendingLost = 0) : j.writeGap now src = (j, []) := by
  simp only [JournalState.writeGap, none_, decide_true, Bool.true_or, if_true]

/-- The gap of a source is written where the cache has room for its 64 bytes. -/
theorem writeGap_of_room (lost : (j.svc src).pendingLost ≠ 0) (open_ : j.session = 1) (room : j.roomFor 64 = true) : j.writeGap now src =
    ((j.store now (gapRec now src ((j.svc src).seq - 1) (j.svc src).pendingLost (j.svc src).pendingCause)).setSvc src
      { j.svc src with pendingLost := 0, pendingCause := 2 }, [(342, det2 src (j.svc src).pendingCause)]) := by
  have size : (gapRec now src ((j.svc src).seq - 1) (j.svc src).pendingLost (j.svc src).pendingCause).size = 64 := by
    simp only [JRec.size, gapRec, gapPayload, fields, List.length_append, wrLE_length, List.length_nil]
    decide
  unfold JournalState.writeGap
  extract_lets x r
  have fits : ¬(decide (x.pendingLost = 0) || j.session != 1 || !j.roomFor r.size) = true := by
    rw [show r.size = 64 from size, room, open_, decide_eq_false lost]
    decide
  rw [if_neg fits]

/-- A packet offered: its SEQ is taken, and no record held is changed. -/
theorem offerPacket_keeps : let k := (j.offerPacket now src launch first audio payload).1
    (k.svc src).seq = (j.svc src).seq + 1 ∧ j.recs <+: k.recs := by
  intro k
  obtain ⟨recs, seq⟩ := writeGap_keeps now src j
  have ran : k = (j.offerPacket now src launch first audio payload).1 := rfl
  unfold JournalState.offerPacket at ran
  extract_lets x next g r s1 at ran
  split at ran
  · rw [ran]
    exact ⟨congrArg JService.seq (svc_setSvc_same ..), List.prefix_rfl⟩
  · split at ran
    · rw [ran]
      exact ⟨(congrArg JService.seq (svc_setSvc_same ..)).trans (congrArg (· + 1) seq), recs.trans (List.prefix_append ..)⟩
    · rw [ran]
      exact ⟨(congrArg JService.seq (svc_setSvc_same ..)).trans (congrArg (· + 1) seq), recs⟩

theorem offerPacket_of_closed (closed : j.session ≠ 1) : let k := (j.offerPacket now src launch first audio payload).1
    k.recs = j.recs ∧ (k.svc src).notJournalled = satAdd max64 (j.svc src).notJournalled 1 := by
  intro k
  have shut : (j.session != 1) = true := by simp [closed]
  have ran : k = (j.offerPacket now src launch first audio payload).1 := rfl
  unfold JournalState.offerPacket at ran
  rw [if_pos shut] at ran
  rw [ran]
  exact ⟨rfl, congrArg JService.notJournalled (svc_setSvc_same ..)⟩

section Open
variable (open_ : j.session = 1) (noGap : (j.svc src).pendingLost = 0)
include open_ noGap

theorem offerPacket_of_room (room : j.roomFor (roundUp (44 + payload.length) 8) = true) :
    (j.offerPacket now src launch first audio payload).1.recs =
      j.recs ++ [{ packetRec src (j.svc src).seq launch first audio payload with batch := j.batch }] := by
  have runs : ¬(j.session != 1) = true := by rw [open_]; decide
  unfold JournalState.offerPacket
  extract_lets x next g r s1
  have gap : g = (j, []) := writeGap_of_none noGap
  have fits : (decide (s1.pendingLost = 0) && g.1.roomFor r.size) = true := by
    simp only [s1, gap, noGap, decide_true, Bool.true_and]
    exact room
  rw [if_neg runs, if_pos fits, gap]
  rfl

theorem offerPacket_of_full (full : j.roomFor (roundUp (44 + payload.length) 8) = false) : let k := (j.offerPacket now src launch first audio payload).1
    k.recs = j.recs ∧ (k.svc src).pendingLost = 1 ∧ (k.svc src).lost = satAdd max64 (j.svc src).lost 1 := by
  intro k
  have runs : ¬(j.session != 1) = true := by rw [open_]; decide
  have ran : k = (j.offerPacket now src launch first audio payload).1 := rfl
  unfold JournalState.offerPacket at ran
  extract_lets x next g r s1 at ran
  have gap : g = (j, []) := writeGap_of_none noGap
  have refused : ¬(decide (s1.pendingLost = 0) && g.1.roomFor r.size) = true := by
    have no : g.1.roomFor r.size = false := by
      rw [gap]
      exact full
    rw [no, Bool.and_false]
    decide
  have same : s1 = j.svc src := by simp only [s1, gap]
  rw [if_neg runs, if_neg refused, same, gap] at ran
  rw [ran]
  exact ⟨rfl, (congrArg JService.pendingLost (svc_setSvc_same ..)).trans (congrArg (· + 1) noGap), congrArg JService.lost (svc_setSvc_same ..)⟩

end Open

end Packet

/-! ### Batches (13 R391, R397) -/

theorem retain_keeps (j : JournalState) : let k := j.retain
    (∀ r ∈ k.recs, r ∈ j.recs) ∧ (∀ r ∈ j.recs, j.holds r = true → r ∈ k.recs) ∧ k.wear = j.wear ∧ k.wornOut = j.wornOut ∧ k.session = j.session := by
  have one (j : JournalState) (n : Nat) : let k := j.release n false
      (∀ r ∈ k.recs, r ∈ j.recs) ∧ (∀ r ∈ j.recs, j.holds r = true → r ∈ k.recs) ∧ k.wear = j.wear ∧ k.wornOut = j.wornOut ∧ k.session = j.session ∧
        k.holds = j.holds := by
    have only := release_only n false j
    exact ⟨fun r mem => (mem_release.mp mem).1, fun r mem held => mem_release.mpr ⟨mem, journalKeeps_of_held held⟩, only.same (·.wear), only.same (·.wornOut),
      only.same (·.session), only.same JournalState.holds⟩
  have all (l : List Nat) (j : JournalState) : let k := l.foldl (fun j n => j.release n false) j
      (∀ r ∈ k.recs, r ∈ j.recs) ∧ (∀ r ∈ j.recs, j.holds r = true → r ∈ k.recs) ∧ k.wear = j.wear ∧ k.wornOut = j.wornOut ∧ k.session = j.session := by
    induction l generalizing j with
    | nil => exact ⟨fun _ mem => mem, fun _ mem _ => mem, rfl, rfl, rfl⟩
    | cons n l ih =>
      obtain ⟨sub, held, wear, worn, session, holds⟩ := one j n
      obtain ⟨sub', held', wear', worn', session'⟩ := ih (j.release n false)
      exact ⟨fun r mem => sub r (sub' r mem), fun r mem hold => held' r (held r mem hold) (by rw [holds]; exact hold), wear'.trans wear, worn'.trans worn,
        session'.trans session⟩
  have only := nandOnly_reclaim j
  obtain ⟨sub, held, wear, worn, session⟩ := all (((j.recs.filter (fun r => r.kind == 1 || r.kind == 4)).map (·.source)).eraseDups) j.reclaim
  have recs := only.same (·.recs)
  exact ⟨fun r mem => recs ▸ sub r mem, fun r mem hold => held r (recs ▸ mem) (by rw [only.same JournalState.holds]; exact hold), wear.trans (only.same (·.wear)),
    worn.trans (only.same (·.wornOut)), session.trans (only.same (·.session))⟩

/-! ### The end of a batch and of a session, whole (13 R391, R397) -/

/-- What the end of a batch changes: COMMIT records come last, the batch is counted, and the NAND takes it. -/
theorem endBatch_eq (now : Nat) (j : JournalState) : ∃ commits batches batch nand filling relocations nextAddress,
    (∀ r ∈ commits, r.kind = 5) ∧ j.endBatch now = { j with
      recs := j.recs ++ commits, batches := batches, batch := batch, batchAt := none, nand := nand, filling := filling, relocations := relocations
      nextAddress := nextAddress } := by
  cases at_ : j.batchAt with
  | none =>
    refine ⟨[], j.batches, j.batch, j.nand, j.filling, j.relocations, j.nextAddress, nofun, ?_⟩
    rw [endBatch_of_none at_, List.append_nil, ← at_]
  | some b =>
    obtain ⟨_, _, _, _, does⟩ := endBatch_of_some (now := now) at_
    exact ⟨_, _, _, _, _, _, _, fun r mem => List.mem_singleton.mp mem ▸ rfl, does⟩

/-- The journal as a session leaves it. -/
def closedJournal (j : JournalState) : JournalState := { j with session := 0, cacheMib := 0, staging := 255, closing := 0 }

theorem sessionEnded_journal (d : Device) : d.sessionEnded.journal = d.journal ∨ (d.journal.session = 2 ∧ d.sessionEnded.journal = closedJournal d.journal) := by
  by_cases ends : d.journal.session = 2 ∧ d.journal.batches = []
  · exact .inr ⟨ends.1, sessionEnded_of_empty ends.1 ends.2⟩
  · refine .inl (congrArg (fun d : Device => d.journal) (sessionEnded_of_not ?_))
    exact (not_and_or.mp ends).imp id id

/-- A part of the journal that the end of a session does not reach. -/
theorem sessionEnded_part {α : Type} (part : JournalState → α) (apart : ∀ j, part (closedJournal j) = part j) (d : Device) :
    part d.sessionEnded.journal = part d.journal := by
  rcases sessionEnded_journal d with same | ⟨-, closed⟩
  · rw [same]
  · rw [closed, apart]

/-- A close ends a session that is open, and loses no record; what the test and the wear have shown stands. -/
theorem closeSession_keeps (cause : Nat) (d : Device) : let j := (d.closeSession cause).journal
    (∃ commits, (∀ r ∈ commits, r.kind = 5) ∧ j.recs = d.journal.recs ++ commits) ∧ j.wear = d.journal.wear ∧ j.wornOut = d.journal.wornOut ∧
      j.energyMj = d.journal.energyMj ∧ j.capUf = d.journal.capUf ∧ j.lastTest = d.journal.lastTest ∧ (d.journal.session = 1 → j.session ≠ 1) := by
  intro j
  by_cases open_ : d.journal.session = 1
  · obtain ⟨commits, _, _, _, _, _, _, kinds, ends⟩ := endBatch_eq d.now d.journal
    have part {α : Type} (part : JournalState → α) (apart : ∀ j, part (closedJournal j) = part j) : part j = part (beginClose cause d).journal :=
      (congrArg (fun d : Device => part d.journal) (closeSession_of_open cause open_)).trans (sessionEnded_part part apart _)
    have begun : (beginClose cause d).journal = { d.journal.endBatch d.now with session := 2, closing := cause } := rfl
    rw [ends] at begun
    refine ⟨⟨commits, kinds, ?_⟩, ?_, ?_, ?_, ?_, ?_, fun _ => ?_⟩
    · rw [part (·.recs) fun _ => rfl, begun]
    · rw [part (·.wear) fun _ => rfl, begun]
    · rw [part (·.wornOut) fun _ => rfl, begun]
    · rw [part (·.energyMj) fun _ => rfl, begun]
    · rw [part (·.capUf) fun _ => rfl, begun]
    · rw [part (·.lastTest) fun _ => rfl, begun]
    · rw [show j = _ from congrArg (fun d : Device => d.journal) (closeSession_of_open cause open_)]
      rcases sessionEnded_journal (beginClose cause d) with same | ⟨-, closed⟩
      · rw [same, begun]
        exact nofun
      · rw [closed]
        exact nofun
  · rw [show j = (d.closeSession cause).journal from rfl, Device.closeSession, if_neg open_]
    exact ⟨⟨[], nofun, (List.append_nil _).symm⟩, rfl, rfl, rfl, rfl, rfl, fun one => absurd one open_⟩

theorem batchCommit_effect {b : Nat} {d : Device} (begun : d.journal.batchAt = some b)
    (due : b + 50 * msec ≤ d.now ∨ 32 * mib ≤ Tab.read d.journal.batches d.journal.batch 0) : let e := batchCommit d
    ∃ r, e.journal.recs = d.journal.recs ++ [r] ∧ r.kind = 5 ∧ r.batch = d.journal.batch ∧
      e.journal.batch = d.journal.batch + 1 ∧ e.journal.batchAt = none ∧ e.journal.services = d.journal.services := by
  intro e
  have ends : d.journal.batchDue d.now = true := by
    simpa [JournalState.batchDue, begun] using due
  obtain ⟨_, _, _, _, does⟩ := endBatch_of_some (now := d.now) begun
  have journal : e.journal = d.journal.endBatch d.now := by
    rw [show e = batchCommit d from rfl, batchCommit, if_pos ends]
  rw [journal, does]
  exact ⟨_, rfl, rfl, rfl, rfl, rfl, rfl⟩

/-- A record of a programmed batch is committed. -/
def commitIn (b : Nat) (r : JRec) : JRec := if r.batch = b && !r.committed then { r with committed := true } else r

theorem commitIn_eq (b : Nat) (r : JRec) : commitIn b r = { r with committed := r.committed || r.batch == b } := by
  unfold commitIn
  obtain ⟨kind, flags, source, seq, time, payload, lost, cause, committed, batch, bad⟩ := r
  cases committed with
  | true => simp
  | false => by_cases own : batch = b <;> simp [own]

/-- The journal with a batch programmed, before retention is applied. -/
def programmedJournal (b wear : Nat) (j : JournalState) : JournalState :=
  { j with
    recs := j.recs.map (commitIn b), bytesWritten := satAdd max64 j.bytesWritten (Tab.read j.batches b 0), batches := Tab.del b j.batches
    wear := Nat.min j.wear wear, wornOut := j.wornOut || wear = 0 }

theorem batchProgrammed_eq {b wear : Nat} {d : Device} (runs : d.journal.stopped = 0) (past : b < d.journal.batch)
    (waits : (Tab.find b d.journal.batches).isSome = true) : ∃ evs, batchProgrammed b wear d =
      (let e := { d with journal := (programmedJournal b wear d.journal).retain }.raise evs
       if (d.journal.wornOut || decide (wear = 0)) = true then e.closeSession 1 else e).sessionEnded := by
  have goes : ¬(d.journal.stopped != 0 || d.journal.batch ≤ b || (Tab.find b d.journal.batches).isNone) = true := by
    have found : (Tab.find b d.journal.batches).isNone = false := by
      rw [Option.isNone_eq_false_iff]
      exact waits
    simp [runs, Nat.not_le.mpr past, found]
  unfold batchProgrammed
  extract_lets j j1 d1
  rw [if_neg goes]
  exact ⟨_, rfl⟩

theorem batchProgrammed_effect {b wear : Nat} {d : Device} (runs : d.journal.stopped = 0) (past : b < d.journal.batch)
    (waits : (Tab.find b d.journal.batches).isSome = true) : let e := batchProgrammed b wear d
    (∀ r ∈ e.journal.recs, r.batch = b → r.kind = 1 → r.committed = true) ∧
      (∀ r ∈ d.journal.recs, d.journal.holds r = true → { r with committed := r.committed || r.batch == b } ∈ e.journal.recs) ∧
      e.journal.wear = Nat.min d.journal.wear wear ∧
      (1 ≤ wear → d.journal.wornOut = false → d.journal.session = 1 → e.journal.session = 1) ∧
      (wear = 0 → d.journal.session = 1 → e.journal.session ≠ 1 ∧ e.journal.wornOut = true) := by
  intro e
  obtain ⟨evs, does⟩ := batchProgrammed_eq (wear := wear) runs past waits
  have retained := retain_keeps (programmedJournal b wear d.journal)
  let f : Device := { d with journal := (programmedJournal b wear d.journal).retain }.raise evs
  have journal : f.journal = (programmedJournal b wear d.journal).retain := rfl
  obtain ⟨sub, held, wear_, worn, session⟩ := retained
  rw [← journal] at sub held wear_ worn session
  have does : e = (if (d.journal.wornOut || decide (wear = 0)) = true then f.closeSession 1 else f).sessionEnded := does
  clear_value f
  have committed : ∀ r ∈ f.journal.recs, r.batch = b → r.committed = true := fun r mem own => by
    obtain ⟨x, -, rfl⟩ := List.mem_map.mp (sub r mem)
    rw [commitIn_eq] at own ⊢
    have own : x.batch = b := own
    simp [own]
  have keeps : ∀ r ∈ d.journal.recs, d.journal.holds r = true → { r with committed := r.committed || r.batch == b } ∈ f.journal.recs := fun r mem hold => by
    rw [← commitIn_eq]
    refine held _ (List.mem_map_of_mem mem) ?_
    rw [commitIn_eq]
    exact hold
  have ended (g : Device) (same : e = g.sessionEnded) : e.journal.recs = g.journal.recs ∧ e.journal.wear = g.journal.wear ∧
      e.journal.wornOut = g.journal.wornOut ∧ (g.journal.session ≠ 2 → e.journal.session = g.journal.session) ∧
      (g.journal.session ≠ 1 → e.journal.session ≠ 1) := by
    rw [same]
    refine ⟨sessionEnded_part (·.recs) (fun _ => rfl) g, sessionEnded_part (·.wear) (fun _ => rfl) g, sessionEnded_part (·.wornOut) (fun _ => rfl) g, fun goes => ?_,
      fun not1 => ?_⟩
    · rw [sessionEnded_of_not (.inl goes)]
    · rcases sessionEnded_journal g with same | ⟨-, closed⟩
      · rw [same]
        exact not1
      · rw [closed]
        exact nofun
  split at does
  · next worn_ =>
    obtain ⟨⟨commits, kinds, recs⟩, wear1, worn1, -, -, -, stops⟩ := closeSession_keeps 1 f
    obtain ⟨recs2, wear2, worn2, -, not1⟩ := ended _ does
    rw [recs] at recs2
    refine ⟨fun r mem own packet => ?_, fun r mem hold => ?_, wear2.trans (wear1.trans wear_), fun least new => ?_, fun zero open_ => ⟨?_, ?_⟩⟩
    · rw [recs2] at mem
      rcases List.mem_append.mp mem with mem | mem
      · exact committed r mem own
      · exact absurd ((kinds r mem).symm.trans packet) (by decide)
    · rw [recs2]
      exact List.mem_append_left _ (keeps r mem hold)
    · rw [new, Bool.false_or, decide_eq_true_eq] at worn_
      omega
    · exact not1 (stops (session.trans open_))
    · rw [worn2, worn1, worn]
      exact worn_
  · next sound =>
    obtain ⟨recs2, wear2, -, stays, -⟩ := ended _ does
    refine ⟨fun r mem own packet => committed r (recs2 ▸ mem) own, fun r mem hold => recs2 ▸ keeps r mem hold, wear2.trans wear_, fun _ _ open_ => ?_, fun zero => ?_⟩
    · have one : f.journal.session = 1 := session.trans open_
      rw [stays (by omega), one]
    · simp [zero] at sound

/-! ### New blocks (13 R394) -/

/-- The number after a run of consecutive ones from `k`. -/
def runEnd (k : Nat) (l : Tab NandBlock) : Nat := l.foldl (fun k e => if e.1 = k then k + 1 else k) k

theorem runEnd_of_none {k : Nat} {l : Tab NandBlock} (none_ : ∀ e ∈ l, e.1 ≠ k) : runEnd k l = k := by
  induction l with
  | nil => rfl
  | cons e l ih =>
    obtain ⟨first, rest⟩ := List.forall_mem_cons.mp none_
    rw [runEnd, List.foldl_cons, if_neg first]
    exact ih rest

/-- Each number before the end of the run is listed, and the end is not. -/
theorem runEnd_spec {k : Nat} {l : Tab NandBlock} (sorted : Sorted l) (least : ∀ e ∈ l, k ≤ e.1) :
    (∀ e ∈ l, e.1 ≠ runEnd k l) ∧ ∀ m, k ≤ m → m < runEnd k l → ∃ x, (m, x) ∈ l := by
  induction l generalizing k with
  | nil => exact ⟨nofun, fun m low high => absurd high (Nat.not_lt.mpr low)⟩
  | cons e l ih =>
    obtain ⟨n, x⟩ := e
    obtain ⟨above, sortedL⟩ := sorted_cons.mp sorted
    have first : k ≤ n := least _ List.mem_cons_self
    by_cases own : n = k
    · subst own
      have step : runEnd n ((n, x) :: l) = runEnd (n + 1) l := by rw [runEnd, List.foldl_cons, if_pos rfl]; rfl
      obtain ⟨misses, covers⟩ := ih (k := n + 1) sortedL above
      rw [step]
      refine ⟨List.forall_mem_cons.mpr ⟨fun ends => ?_, misses⟩, fun m low high => ?_⟩
      · have grows : ∀ (l : Tab NandBlock) (k : Nat), k ≤ runEnd k l := fun l => by
          induction l with
          | nil => exact fun k => Nat.le_refl k
          | cons e l ih =>
            intro k
            rw [runEnd, List.foldl_cons]
            split
            · exact Nat.le_trans (Nat.le_succ k) (ih (k + 1))
            · exact ih k
        have := grows l (n + 1)
        dsimp only at ends
        omega
      · rcases Nat.eq_or_lt_of_le low with rfl | low
        · exact ⟨x, List.mem_cons_self⟩
        · obtain ⟨y, mem⟩ := covers m low high
          exact ⟨y, List.mem_cons_of_mem _ mem⟩
    · have misses : ∀ e ∈ (n, x) :: l, e.1 ≠ k := List.forall_mem_cons.mpr ⟨own, fun e mem => by
        have := above e mem
        omega⟩
      rw [runEnd_of_none misses]
      exact ⟨misses, fun m low high => absurd high (Nat.not_lt.mpr low)⟩

/-- The better of a block and the best so far: fewer erases. -/
def fewerErases (o : Option (Nat × Nat)) (e : Nat × NandBlock) : Option (Nat × Nat) := match o with
  | none => some (e.1, e.2.erases)
  | some a => if e.2.erases < a.2 then some (e.1, e.2.erases) else o

theorem fewestErases_spec {l : Tab NandBlock} {o : Option (Nat × Nat)} {a : Nat × Nat} (best : l.foldl fewerErases o = some a) :
    (o = some a ∨ ∃ x, (a.1, x) ∈ l ∧ a.2 = x.erases) ∧ (∀ b, o = some b → a.2 ≤ b.2) ∧ ∀ e ∈ l, a.2 ≤ e.2.erases := by
  induction l generalizing o with
  | nil => exact ⟨.inl best, fun b some_ => by rw [Option.some.inj (best.symm.trans some_)], nofun⟩
  | cons e l ih =>
    obtain ⟨from_, low, all⟩ := ih best
    have here : a.2 ≤ e.2.erases ∧ ∀ b, o = some b → a.2 ≤ b.2 := by
      cases o with
      | none => exact ⟨low _ rfl, nofun⟩
      | some b =>
        by_cases fewer : e.2.erases < b.2
        · have less := low (e.1, e.2.erases) (if_pos fewer)
          exact ⟨less, fun c same => Option.some.inj same ▸ Nat.le_trans less (Nat.le_of_lt fewer)⟩
        · have less := low b (if_neg fewer)
          exact ⟨Nat.le_trans less (Nat.not_lt.mp fewer), fun c same => Option.some.inj same ▸ less⟩
    refine ⟨?_, here.2, List.forall_mem_cons.mpr ⟨here.1, all⟩⟩
    rcases from_ with chosen | ⟨x, mem, erases⟩
    · have own : fewerErases o e = some (e.1, e.2.erases) ∨ fewerErases o e = o := by
        cases o with
        | none => exact .inl rfl
        | some b =>
          by_cases fewer : e.2.erases < b.2
          · exact .inl (if_pos fewer)
          · exact .inr (if_neg fewer)
      rcases own with own | own
      · obtain rfl := Option.some.inj (chosen.symm.trans own)
        exact .inr ⟨e.2, List.mem_cons_self, rfl⟩
      · exact .inl (own.symm.trans chosen)
    · exact .inr ⟨x, List.mem_cons_of_mem _ mem, erases⟩

section New
variable {j : JournalState} {n : Nat}

theorem newBlock_eq (j : JournalState) : j.newBlock = if runEnd 0 j.nand < nandBlocks then some (runEnd 0 j.nand) else
    ((j.nand.filter (fun e => e.2.free)).foldl fewerErases none).map (·.1) := rfl

theorem block_of_mem {x : NandBlock} (sorted : Sorted j.nand) (mem : (n, x) ∈ j.nand) : j.block n = x := by
  rw [JournalState.block, Tab.read, find_of_mem sorted mem]
  rfl

/-- A block that was never programmed. -/
theorem block_unused (sorted : Sorted j.nand) : j.block (runEnd 0 j.nand) = NandBlock.fresh := by
  have misses := (runEnd_spec sorted (fun e _ => Nat.zero_le e.1)).1
  have none_ : Tab.find (runEnd 0 j.nand) j.nand = none := by
    cases found : Tab.find (runEnd 0 j.nand) j.nand with
    | none => rfl
    | some x => exact absurd rfl (misses _ (mem_of_find found))
  rw [JournalState.block, Tab.read, none_]
  rfl

/-- A new block is free, and no free block has fewer erases. -/
theorem newBlock_fewest (sorted : Sorted j.nand) (new : j.newBlock = some n) :
    (j.block n).free = true ∧ ∀ m, m < nandBlocks → (j.block m).free = true → (j.block n).erases ≤ (j.block m).erases := by
  rw [newBlock_eq] at new
  split at new
  · obtain rfl := Option.some.inj new
    rw [block_unused sorted]
    exact ⟨rfl, fun m _ _ => Nat.zero_le _⟩
  · next all =>
    obtain ⟨a, best, rfl⟩ := Option.map_eq_some_iff.mp new
    obtain ⟨from_, -, least⟩ := fewestErases_spec best
    obtain ⟨x, mem, erases⟩ := from_.resolve_left nofun
    obtain ⟨mem, free⟩ := List.mem_filter.mp mem
    rw [block_of_mem sorted mem]
    refine ⟨free, fun m inRange free => ?_⟩
    obtain ⟨y, here⟩ := (runEnd_spec sorted (fun e _ => Nat.zero_le e.1)).2 m (Nat.zero_le m) (Nat.lt_of_lt_of_le inRange (Nat.not_lt.mp all))
    rw [block_of_mem sorted here] at free ⊢
    exact erases ▸ least (m, y) (List.mem_filter.mpr ⟨here, free⟩)

theorem empty_of_free {b : NandBlock} (free : b.free = true) : b.batches = [] := by
  rw [NandBlock.free, Bool.and_eq_true, List.isEmpty_iff] at free
  exact free.1

theorem find_block (holds : (j.block n).batches ≠ []) : Tab.find n j.nand = some (j.block n) := by
  cases found : Tab.find n j.nand with
  | some x => rw [JournalState.block, Tab.read, found]; rfl
  | none =>
    rw [JournalState.block, Tab.read, found] at holds
    exact absurd rfl holds

/-- The choice of a new block does not change with a block that holds data before and after. -/
theorem newBlock_setBlock {y : NandBlock} (sorted : Sorted j.nand) (holds : (j.block n).batches ≠ []) (still : y.batches ≠ []) :
    (j.setBlock n y).newBlock = j.newBlock := by
  obtain ⟨before, after, nand, puts⟩ := exists_put_eq sorted (find_block holds)
  have notFree {b : NandBlock} (holds : b.batches ≠ []) : b.free = false := by
    cases free : b.free with
    | false => rfl
    | true => exact absurd (empty_of_free free) holds
  have set : (j.setBlock n y).nand = before ++ (n, y) :: after := puts y
  have ends : runEnd 0 (j.setBlock n y).nand = runEnd 0 j.nand := by
    rw [set, nand, runEnd, runEnd, List.foldl_append, List.foldl_append, List.foldl_cons, List.foldl_cons]
  have frees : (j.setBlock n y).nand.filter (fun e => e.2.free) = j.nand.filter (fun e => e.2.free) := by
    rw [set, nand, List.filter_append, List.filter_append, List.filter_cons_of_neg, List.filter_cons_of_neg]
    · rw [notFree holds]; decide
    · rw [notFree still]; decide
  rw [newBlock_eq, newBlock_eq, ends, frees]

theorem block_setBlock_same (n : Nat) (b : NandBlock) (j : JournalState) : (j.setBlock n b).block n = b := read_put_same ..

theorem block_setBlock_other {m : Nat} (other : m ≠ n) (b : NandBlock) (j : JournalState) : (j.setBlock n b).block m = j.block m := read_put_other other ..

end New

/-! ### Failed blocks and scrubs (13 R393, R395) -/

theorem retireBlock_bad (n : Nat) (j : JournalState) : ((j.retireBlock n).block n).bad = true := by
  unfold JournalState.retireBlock
  exact congrArg NandBlock.bad (block_setBlock_same ..)

/-- What a failed block was to hold is in a new one. -/
theorem retireBlock_moves {n m : Nat} {j : JournalState} (sorted : Sorted j.nand) (holds : (j.block n).batches ≠ []) (new : j.newBlock = some m) :
    ((j.retireBlock n).block m).batches = (j.block n).batches ∧ ((j.retireBlock n).block m).data = (j.block n).data := by
  have other : m ≠ n := fun same => holds (same ▸ empty_of_free (newBlock_fewest sorted new).1)
  have some_ : ¬(j.block n).batches.isEmpty = true := fun empty => holds (List.isEmpty_iff.mp empty)
  have moved : (j.moveData n).block m = { j.block m with batches := (j.block n).batches, used := (j.block n).used, data := (j.block n).data, reads := 0 } := by
    rw [JournalState.moveData, new]
    exact (block_setBlock_other other ..).trans (block_setBlock_same ..)
  have retired : (j.retireBlock n).block m = (j.moveData n).block m := by
    rw [JournalState.retireBlock, if_neg some_]
    exact block_setBlock_other other ..
  rw [retired, moved]
  exact ⟨rfl, rfl⟩

theorem nandProgramFail_effect (fc block : Nat) (d : Device) : let e := nandProgramFail fc block d
    e.journal.grownBad = satAdd max64 d.journal.grownBad 1 ∧
      e.journal.spareLow = (d.journal.spareLow || ((if blockNumber fc block < nandBlocks then d.journal.retireBlock (blockNumber fc block) else d.journal).spareShort)) ∧
      e.journal.recs = d.journal.recs ∧ e.journal.batches = d.journal.batches ∧
      (blockNumber fc block < nandBlocks → (e.journal.block (blockNumber fc block)).bad = true) ∧
      (blockNumber fc block < nandBlocks → Sorted d.journal.nand → (d.journal.block (blockNumber fc block)).batches ≠ [] →
        ∀ m, d.journal.newBlock = some m → (e.journal.block m).batches = (d.journal.block (blockNumber fc block)).batches ∧
          (e.journal.block m).data = (d.journal.block (blockNumber fc block)).data) := by
  intro e
  let n := blockNumber fc block
  let k := if n < nandBlocks then d.journal.retireBlock n else d.journal
  have only : NandOnly d.journal k := by
    simp only [k]
    split
    · exact nandOnly_retireBlock ..
    · exact .refl _
  have blocks (m : Nat) : e.journal.block m = k.block m := rfl
  refine ⟨rfl, rfl, only.same (·.recs), only.same (·.batches), fun inRange => ?_, fun inRange sorted holds m new => ?_⟩
  · rw [blocks, show k = d.journal.retireBlock n from if_pos inRange]
    exact retireBlock_bad ..
  · rw [blocks, show k = d.journal.retireBlock n from if_pos inRange]
    exact retireBlock_moves sorted holds new

theorem relocate_counts {n : Nat} {j : JournalState} (holds : (j.block n).batches ≠ []) (new : j.newBlock.isSome = true) :
    (j.relocate n).relocations = satAdd max64 j.relocations 1 := by
  have goes : ¬((j.block n).batches.isEmpty || j.newBlock.isNone) = true := by
    rw [List.isEmpty_eq_false_iff.mpr holds, Option.isNone_eq_false_iff.mpr new]
    decide
  rw [JournalState.relocate, if_neg goes]

/-- A scrub that finds a block to be rewritten relocates it. -/
theorem scrubBlock_relocates {n now : Nat} {may : Bool} {j : JournalState} (inRange : n < nandBlocks) (sorted : Sorted j.nand)
    (holds : (j.block n).batches ≠ []) (new : j.newBlock.isSome = true) : (j.scrubBlock n now true may).relocations = satAdd max64 j.relocations 1 := by
  have goes : ¬(nandBlocks ≤ n || (j.block n).batches.isEmpty) = true := by
    rw [List.isEmpty_eq_false_iff.mpr holds, decide_eq_false (Nat.not_le.mpr inRange)]
    decide
  unfold JournalState.scrubBlock
  extract_lets x j1
  rw [if_neg goes, Bool.true_or, if_pos rfl]
  have read : j1.block n = { x with reads := x.reads + 1, lastRead := now } := block_setBlock_same ..
  have same : j1.newBlock = j.newBlock := newBlock_setBlock (y := { x with reads := x.reads + 1, lastRead := now }) sorted holds holds
  exact relocate_counts (j := j1) (by rw [read]; exact holds) (same ▸ new)

/-- A record as a scrub leaves it. -/
theorem journalScrub_effect (fc block stage soft : Nat) (half : Bool) (bad : List (Nat × Nat × Bool × Bytes)) (d : Device) :
    let e := journalScrub fc block stage soft half bad d
    e.journal.scrubbed = satAdd max64 d.journal.scrubbed 1 ∧ e.journal.softDecodes = satAdd max64 d.journal.softDecodes soft ∧
      e.journal.recs.map (fun r => (r.kind, r.source, r.seq, r.time)) = d.journal.recs.map (fun r => (r.kind, r.source, r.seq, r.time)) ∧
      ((half = true ∨ 2 ≤ stage) → d.modes.throttleIo = 0 → blockNumber fc block < nandBlocks → Sorted d.journal.nand →
        (d.journal.block (blockNumber fc block)).batches ≠ [] → d.journal.newBlock.isSome = true →
        e.journal.relocations = satAdd max64 d.journal.relocations 1) ∧
      (∀ r ∈ d.journal.recs, (∀ x ∈ bad, x.1 ≠ r.source ∨ x.2.1 ≠ r.seq) → r ∈ e.journal.recs) := by
  intro e
  refine ⟨rfl, rfl, ?_, fun asks cool inRange sorted holds new => ?_, fun r mem sound => ?_⟩
  · refine (List.map_map ..).trans (List.map_congr_left fun r _ => ?_)
    simp only [Function.comp_apply]
    split
    · split
      · unfold JRec.decay
        split <;> rfl
      · rfl
    · rfl
  · have rewrites : (d.modes.throttleIo == 0 && (half || decide (2 ≤ stage))) = true := by
      rcases asks with h | h <;> simp [cool, h]
    have counts := scrubBlock_relocates (now := d.now) (may := d.modes.throttleIo == 0) inRange sorted holds new
    rw [← rewrites] at counts
    exact counts
  · refine List.mem_map.mpr ⟨r, mem, ?_⟩
    have none_ : bad.find? (fun x => x.1 == r.source && x.2.1 == r.seq) = none := List.find?_eq_none.mpr fun x here same => by
      rw [Bool.and_eq_true, beq_iff_eq, beq_iff_eq] at same
      exact (sound x here).elim (absurd same.1) (absurd same.2)
    simp only [none_, Option.map_none, ite_self]

/-! ### The cache that usable energy covers (13 R398, R399) -/

theorem foldl_max_spec (l : List Nat) (b : Nat) : (l.foldl Nat.max b = b ∨ l.foldl Nat.max b ∈ l) ∧ b ≤ l.foldl Nat.max b ∧ ∀ x ∈ l, x ≤ l.foldl Nat.max b := by
  induction l generalizing b with
  | nil => exact ⟨.inl rfl, Nat.le_refl b, nofun⟩
  | cons x l ih =>
    obtain ⟨from_, low, all⟩ := ih (Nat.max b x)
    have left : b ≤ Nat.max b x := Nat.le_max_left b x
    have right : x ≤ Nat.max b x := Nat.le_max_right b x
    refine ⟨?_, Nat.le_trans left low, List.forall_mem_cons.mpr ⟨Nat.le_trans right low, all⟩⟩
    rcases from_ with same | mem
    · rcases Nat.le_total b x with less | more
      · exact .inr (by rw [List.foldl_cons, same, show Nat.max b x = x from Nat.max_eq_right less]; exact List.mem_cons_self)
      · exact .inl (by rw [List.foldl_cons, same]; exact Nat.max_eq_left more)
    · exact .inr (List.mem_cons_of_mem _ mem)

/-- A size that may be granted. -/
def CacheFits (u wanted c : Nat) : Prop := c % 32 = 0 ∧ c ≤ 512 ∧ c ≤ wanted ∧ 3 * flushEnergy c ≤ 2 * u

/-- The grant is 0 or fits, and no size that fits is larger. -/
theorem grantFor_spec (u wanted : Nat) : (grantFor u wanted = 0 ∨ CacheFits u wanted (grantFor u wanted)) ∧ ∀ c, CacheFits u wanted c → c ≤ grantFor u wanted := by
  have mem (c : Nat) : c ∈ ((List.range 17).map (32 * ·)).filter (fun c => c ≤ wanted && 3 * flushEnergy c ≤ 2 * u) ↔ CacheFits u wanted c := by
    rw [List.mem_filter, List.mem_map, Bool.and_eq_true, decide_eq_true_eq, decide_eq_true_eq]
    constructor
    · rintro ⟨⟨k, range, rfl⟩, asked, covers⟩
      rw [List.mem_range] at range
      exact ⟨by omega, by omega, asked, covers⟩
    · rintro ⟨whole, most, asked, covers⟩
      exact ⟨⟨c / 32, List.mem_range.mpr (by omega), by omega⟩, asked, covers⟩
  obtain ⟨from_, -, all⟩ := foldl_max_spec (((List.range 17).map (32 * ·)).filter (fun c => c ≤ wanted && 3 * flushEnergy c ≤ 2 * u)) 0
  exact ⟨from_.imp_right (mem _).mp, fun c fits => all c ((mem c).mpr fits)⟩

theorem grantFor_sizes (u wanted : Nat) : grantFor u wanted % 32 = 0 ∧ grantFor u wanted ≤ wanted := by
  rcases (grantFor_spec u wanted).1 with zero | ⟨whole, -, asked, -⟩
  · rw [zero]
    exact ⟨rfl, Nat.zero_le wanted⟩
  · exact ⟨whole, asked⟩

/-- Below 1.752 J no session can run. -/
theorem grantFor_of_little {u : Nat} (wanted : Nat) (little : u < 1752) : grantFor u wanted < 64 := by
  rcases (grantFor_spec u wanted).1 with zero | ⟨-, -, -, covers⟩
  · omega
  · unfold flushEnergy at covers
    omega

/-- From 1.752 J on the grant is the largest that the energy covers. -/
theorem grantFor_of_enough {u wanted : Nat} (enough : 1752 ≤ u) (asked : 64 ≤ wanted) : let g := grantFor u wanted
    64 ≤ g ∧ 3 * flushEnergy g ≤ 2 * u ∧ (wanted < g + 32 ∨ 512 < g + 32 ∨ 2 * u < 3 * flushEnergy (g + 32)) := by
  intro g
  obtain ⟨from_, most⟩ := grantFor_spec u wanted
  have least : 64 ≤ g := most 64 ⟨rfl, by decide, asked, by unfold flushEnergy; omega⟩
  obtain ⟨whole, -, -, covers⟩ := from_.resolve_left (show ¬g = 0 by omega)
  refine ⟨least, covers, ?_⟩
  by_contra more
  rw [not_or, not_or, Nat.not_lt, Nat.not_lt, Nat.not_lt] at more
  obtain ⟨fits, small, cheap⟩ := more
  have whole : g % 32 = 0 := whole
  have larger := most (g + 32) ⟨by omega, small, fits, cheap⟩
  exact absurd larger (Nat.not_le.mpr (Nat.lt_add_of_pos_right (by decide)))

/-! ### The end of an energy test (13 R398 to R400) -/

/-- What a new measurement leaves open of the journal. -/
theorem regrant_keeps (d : Device) : let j := d.regrant.journal
    j.energyMj = d.journal.energyMj ∧ j.capUf = d.journal.capUf ∧ j.lastTest = d.journal.lastTest := by
  intro j
  have ran : j = d.regrant.journal := rfl
  unfold Device.regrant at ran
  extract_lets j' c at ran
  split at ran
  · rw [ran]
    exact ⟨rfl, rfl, rfl⟩
  · split at ran
    · obtain ⟨-, -, -, energy, cap, test, -⟩ := closeSession_keeps 2 ({ d with journal := { j' with cacheMib := 0 } }.raise [(338, 0)])
      rw [ran]
      exact ⟨energy, cap, test⟩
    · split at ran <;> rw [ran] <;> exact ⟨rfl, rfl, rfl⟩

section Regrant
variable {d : Device} (open_ : d.journal.session = 1)
include open_

theorem regrant_of_little (little : grantFor d.journal.energyMj d.journal.wanted < 64) : d.regrant.journal.session ≠ 1 := by
  have runs : ¬(d.journal.session != 1) = true := by rw [open_]; decide
  unfold Device.regrant
  extract_lets j c
  rw [if_neg runs, if_pos (show c < 64 from little)]
  obtain ⟨-, -, -, -, -, -, stops⟩ := closeSession_keeps 2 ({ d with journal := { j with cacheMib := 0 } }.raise [(338, 0)])
  exact stops open_

theorem regrant_of_enough (enough : 64 ≤ grantFor d.journal.energyMj d.journal.wanted) :
    d.regrant.journal.session = 1 ∧ d.regrant.journal.cacheMib = grantFor d.journal.energyMj d.journal.wanted := by
  have runs : ¬(d.journal.session != 1) = true := by rw [open_]; decide
  unfold Device.regrant
  extract_lets j c
  rw [if_neg runs, if_neg (show ¬c < 64 from Nat.not_lt.mpr enough)]
  split
  · next same => exact ⟨open_, same.symm⟩
  · exact ⟨open_, rfl⟩

end Regrant

section Test
variable {u cap : Nat} {d : Device} (tests : d.journal.testing = true) (full : d.phys.bankFull = true) (low : d.journal.cacheBytes ≤ d.journal.limit)

/-- The module with a measurement taken. -/
def measured (u cap : Nat) (more : Bool) (d : Device) : Device :=
  { d with journal := { d.journal with energyMj := u, capUf := cap, lastTest := d.now, testing := more } }.raise [(339, u)]

include tests full low

theorem energyTestDone_eq : ∃ more, energyTestDone u cap d = match takeWork (fun w => w.op == 0x0901 || w.op == 0x0909) d.rk.works with
    | none => (measured u cap more d).regrant
    | some (w, r) =>
      let e := { measured u cap more d with rk := { d.rk with works := r } }
      if w.op = 0x0901 then (e.openSession w.ctx).1.decideCtx w.ctx (e.openSession w.ctx).2.1 (e.openSession w.ctx).2.2 none d.now
      else e.regrant.decideCtx w.ctx stOk u none d.now := by
  have goes : ¬(!d.journal.testing || !d.phys.bankFull || d.journal.limit < d.journal.cacheBytes) = true := by
    simp [tests, full, Nat.not_lt.mpr low]
  unfold energyTestDone
  extract_lets work more d1
  rw [if_neg goes]
  exact ⟨more, rfl⟩

omit tests full low in
theorem decideCtx_journal (x : Ctx) (status detail : Nat) (frame : Option Nat) (eff : Nat) (d : Device) :
    (d.decideCtx x status detail frame eff).journal = d.journal := decideCtx_keeps (fun d => d.journal) (fun _ _ _ _ _ _ _ _ => rfl) ..

omit tests full low in
theorem openSession_keeps (c : Ctx) (d : Device) : let j := (d.openSession c).1.journal
    j.energyMj = d.journal.energyMj ∧ j.capUf = d.journal.capUf ∧ j.lastTest = d.journal.lastTest := by
  intro j
  have ran : j = (d.openSession c).1.journal := rfl
  unfold Device.openSession at ran
  split at ran
  · rw [ran]
    exact ⟨rfl, rfl, rfl⟩
  · dsimp only at ran
    split at ran
    · rw [ran]
      exact ⟨rfl, rfl, rfl⟩
    · split at ran <;> rw [ran] <;> exact ⟨rfl, rfl, rfl⟩

omit tests full low in
/-- A session opens with its grant, or stays closed. -/
theorem openSession_of_ready {c : Ctx} {d : Device} (ready : d.openCheck = none) : let g := grantFor d.journal.energyMj (cacheAsked c)
    (64 ≤ g → d.stagingGroup.isSome = true → (d.openSession c).1.journal.session = 1 ∧ (d.openSession c).1.journal.cacheMib = g) ∧
      (g < 64 → (d.openSession c).1.journal.session = d.journal.session) := by
  intro g
  unfold Device.openSession
  rw [ready]
  dsimp only
  refine ⟨fun enough staged => ?_, fun little => ?_⟩
  · obtain ⟨st, chosen⟩ := Option.isSome_iff_exists.mp staged
    rw [chosen]
    dsimp only
    rw [if_neg (Nat.not_lt.mpr enough)]
    exact ⟨rfl, rfl⟩
  · split
    · rfl
    · rw [if_pos little]

omit tests full low in
/-- A session that may open is closed. -/
theorem session_of_ready {d : Device} (ready : d.openCheck = none) : d.journal.session = 0 := by
  by_contra open_
  have busy : (d.journal.session != 0) = true := bne_iff_ne.mpr open_
  unfold Device.openCheck at ready
  rw [busy] at ready
  cases live : d.sessionMode <;> simp [live, firstOf, badState, orElse] at ready

theorem energyTestDone_effect : let e := energyTestDone u cap d
    e.journal.energyMj = u ∧ e.journal.capUf = cap ∧ e.journal.lastTest = d.now ∧
      (∀ w r, takeWork (fun w => w.op == 0x0901 || w.op == 0x0909) d.rk.works = some (w, r) → w.op = 0x0901 → d.openCheck = none →
        let g := grantFor u (cacheAsked w.ctx)
        (g % 32 = 0 ∧ g ≤ cacheAsked w.ctx) ∧
        (1752 ≤ u → 64 ≤ cacheAsked w.ctx → d.stagingGroup.isSome = true → 64 ≤ g ∧ 3 * flushEnergy g ≤ 2 * u ∧
          (cacheAsked w.ctx < g + 32 ∨ 512 < g + 32 ∨ 2 * u < 3 * flushEnergy (g + 32)) ∧ e.journal.session = 1 ∧ e.journal.cacheMib = g) ∧
        (u < 1752 → e.journal.session = 0)) ∧
      (d.rk.works = [] → d.journal.session = 1 → u < 1752 → e.journal.session ≠ 1) ∧
      (d.rk.works = [] → d.journal.session = 1 → 64 ≤ grantFor u d.journal.wanted → e.journal.session = 1 ∧ e.journal.cacheMib = grantFor u d.journal.wanted) := by
  intro e
  obtain ⟨more, does⟩ := energyTestDone_eq (u := u) (cap := cap) tests full low
  have does : e = _ := does
  refine (?_ : _ ∧ _ ∧ _).elim fun energy h => ⟨energy, h.1, h.2, fun w r taken opens ready => ?_, fun none_ open_ little => ?_, fun none_ open_ enough => ?_⟩
  · split at does
    · obtain ⟨energy, cap_, test⟩ := regrant_keeps (measured u cap more d)
      rw [does]
      exact ⟨energy, cap_, test⟩
    · next w r _ =>
      dsimp only at does
      split at does
      · obtain ⟨energy, cap_, test⟩ := openSession_keeps w.ctx { measured u cap more d with rk := { d.rk with works := r } }
        rw [does, decideCtx_journal]
        exact ⟨energy, cap_, test⟩
      · obtain ⟨energy, cap_, test⟩ := regrant_keeps { measured u cap more d with rk := { d.rk with works := r } }
        rw [does, decideCtx_journal]
        exact ⟨energy, cap_, test⟩
  · rw [taken] at does
    dsimp only at does
    rw [if_pos opens] at does
    have journal : e.journal = _ := (congrArg (fun d : Device => d.journal) does).trans (decideCtx_journal ..)
    obtain ⟨enough, little⟩ := openSession_of_ready (c := w.ctx) (d := { measured u cap more d with rk := { d.rk with works := r } }) ready
    refine ⟨grantFor_sizes .., fun energy asked staged => ?_, fun poor => ?_⟩
    · obtain ⟨least, covers, most⟩ := grantFor_of_enough energy asked
      obtain ⟨session, cache⟩ := enough least staged
      exact ⟨least, covers, most, journal ▸ session, journal ▸ cache⟩
    · rw [journal, little (grantFor_of_little _ poor)]
      exact session_of_ready ready
  · rw [none_] at does
    rw [does]
    exact regrant_of_little (d := measured u cap more d) open_ (grantFor_of_little _ little)
  · rw [none_] at does
    rw [does]
    exact regrant_of_enough (d := measured u cap more d) open_ enough

end Test

/-! ### Replays that end (13 R408) -/

/-- A replay's stop has come. -/
def replayStops (r : Replay) (now : Nat) : Bool := match r.stopAt with
  | some s => Nat.ble s now
  | none => false

theorem replayEnd_eq {slot : Nat} {r : Replay} {d : Device} (found : Tab.find slot d.journal.replays = some r) : replayEnd slot d =
    if replayStops r d.now then d.endReplay slot 1
    else if Nat.ble (r.to_ + r.shift) d.now then d.endReplay slot 0
    else if Nat.ble r.to_ d.now && Nat.ble r.start d.now && (d.journal.toReplay r).isEmpty then d.endReplay slot 2
    else d := by
  rw [replayEnd, found]
  rfl

theorem replayEnd_effect {slot : Nat} {r : Replay} {d : Device} (found : Tab.find slot d.journal.replays = some r)
    (ended : (∃ x, r.stopAt = some x ∧ x ≤ d.now) ∨ r.to_ + r.shift ≤ d.now ∨ (r.to_ ≤ d.now ∧ r.start ≤ d.now ∧ d.journal.toReplay r = [])) :
    let e := replayEnd slot d
    e.journal.replays = Tab.del slot d.journal.replays ∧ e.journal.marks = d.journal.marks := by
  intro e
  have ends : ∃ code, e = d.endReplay slot code := by
    have ran : e = _ := replayEnd_eq found
    split at ran
    · exact ⟨1, ran⟩
    · next goes =>
      split at ran
      · exact ⟨0, ran⟩
      · next before =>
        refine ⟨2, ran.trans (if_pos ?_)⟩
        rcases ended with ⟨x, stop, late⟩ | late | ⟨late, began, none_⟩
        · rw [replayStops, stop] at goes
          exact absurd (Nat.ble_eq.mpr late) goes
        · exact absurd (Nat.ble_eq.mpr late) before
        · rw [none_, Nat.ble_eq.mpr late, Nat.ble_eq.mpr began]
          rfl
  obtain ⟨code, ends⟩ := ends
  obtain ⟨replays, marks, -⟩ := endReplay_of_some (code := code) found
  rw [ends]
  exact ⟨replays, marks⟩

/-! ### Exports (13 R409) -/

theorem fitEntries_fits (room : Nat) (all : List JRec) : fitEntries room all <+: all ∧ ((fitEntries room all).flatMap exportEntry).length ≤ room := by
  induction all generalizing room with
  | nil => exact ⟨List.prefix_rfl, Nat.zero_le room⟩
  | cons r rest ih =>
    rw [fitEntries]
    split
    · next fits =>
      obtain ⟨first, within_⟩ := ih (room - (exportEntry r).length)
      refine ⟨(List.prefix_cons_inj r).mpr first, ?_⟩
      rw [List.flatMap_cons, List.length_append]
      omega
    · exact ⟨List.nil_prefix, Nat.zero_le room⟩

/-- What is exported stays within its area, and holds the first of the records asked for. -/
theorem exportArea_fits (all : List JRec) (room : Nat) : (64 ≤ room → (exportArea all room).2.length ≤ room) ∧ (exportArea all room).1 <+: all := by
  obtain ⟨first, within_⟩ := fitEntries_fits (room - 64) all
  refine ⟨fun header => ?_, first⟩
  unfold exportArea
  simp only [List.length_append, fields, wrLE_length, List.length_nil]
  omega

section Off
variable {d : Device} (noLog : d.events.log.enable = false)
include noLog

/-- With the event log off an event leaves the memories as they stand. -/
theorem raise_of_noLog (evs : List (Nat × Nat)) : (d.raise evs).events.log.enable = false ∧ (d.raise evs).mem = d.mem := by
  refine occurAll_keeps_all (P := fun p => p.events.log.enable = false ∧ p.mem = d.mem) (p := portOf d) (fun n detail p holds => ?_) _ evs ⟨noLog, rfl⟩
  obtain ⟨off, mem⟩ := holds
  refine ⟨occur_keeps_off off, ?_⟩
  unfold occur
  split
  · exact mem
  · extract_lets _ e s s' r p1
    have off1 : p1.events.log.enable = false := (congrArg EvLog.enable (tallyInc_log ..)).trans off
    split
    · exact (congrArg EvPort.mem (logRecord_of_off (p := p1) off1)).trans mem
    · exact mem

theorem mismatches_of_noLog (l : List JRec) : let e := l.foldl (fun d r => d.mismatch r.source r.seq (r.bad == 2)) d
    e.events.log.enable = false ∧ e.mem = d.mem := by
  induction l generalizing d with
  | nil => exact ⟨noLog, rfl⟩
  | cons r l ih =>
    have one : (d.mismatch r.source r.seq (r.bad == 2)).events.log.enable = false ∧ (d.mismatch r.source r.seq (r.bad == 2)).mem = d.mem := by
      unfold Device.mismatch
      exact raise_of_noLog (d := { d with journal := _ }) noLog _
    obtain ⟨off, mem⟩ := ih one.1
    exact ⟨off, mem.trans one.2⟩

end Off

/-- A final that is not BUSY leaves the window. -/
theorem decideCtx_hdm {status : Nat} (notBusy : status ≠ stBusy) (x : Ctx) (detail : Nat) (frame : Option Nat) (eff : Nat) (d : Device) :
    (d.decideCtx x status detail frame eff).mem.hdm = d.mem.hdm := by
  unfold Device.decideCtx
  cases x.origin with
  | mctp => rfl
  | ring r seq => exact AccountsOnly.same (decide_accounts r seq x.tag status detail frame eff d notBusy) (·.mem.hdm)

/-- What a mismatch leaves: all but the journal's accounts and what an event reaches. -/
theorem mismatches_keep {α : Type} (part : Device → α)
    (apart : ∀ (d : Device) (journal : JournalState) (evs : List (Nat × Nat)), journal.recs = d.journal.recs → part ({ d with journal := journal }.raise evs) = part d)
    (l : List JRec) (d : Device) : part (l.foldl (fun d r => d.mismatch r.source r.seq (r.bad == 2)) d) = part d :=
  foldl_keeps (part := part) (step := fun d (r : JRec) => d.mismatch r.source r.seq (r.bad == 2)) (fun d _ => apart d _ _ rfl) l d

section Export
variable {w : Work} {rest : List Work} {d : Device} (taken : takeWork (fun w => w.op == 0x0908) d.rk.works = some (w, rest))
  (up : d.rangeUp (w.ctx.b 40 8) (w.ctx.b 48 8) = true)

/-- The records that are handed over, with the mismatches counted. -/
def handedOver (c : Ctx) (rest : List Work) (d : Device) : Device :=
  (((exportArea (d.exported c) (c.b 48 8)).1.filter (fun r => r.bad != 0)).foldl (fun d r => d.mismatch r.source r.seq (r.bad == 2))
    { d with rk := { d.rk with works := rest } })

include taken up in
theorem journalExportDone_eq : ∃ journal, NandOnly (handedOver w.ctx rest d).journal journal ∧
    journalExportDone d = ((({ handedOver w.ctx rest d with journal := journal }.writeAt (w.ctx.b 40 8) (exportArea (d.exported w.ctx) (w.ctx.b 48 8)).2).raise
      [(348, (exportArea (d.exported w.ctx) (w.ctx.b 48 8)).1.length)]).decideCtx w.ctx stOk
        (Nat.min (exportArea (d.exported w.ctx) (w.ctx.b 48 8)).1.length (2 ^ 32 - 1)) none d.now) := by
  have lies : ¬(!({ d with rk := { d.rk with works := rest } } : Device).rangeUp (w.ctx.b 40 8) (w.ctx.b 48 8)) = true := by
    rw [show ({ d with rk := { d.rk with works := rest } } : Device).rangeUp (w.ctx.b 40 8) (w.ctx.b 48 8) = true from up]
    decide
  unfold journalExportDone
  rw [taken]
  dsimp only
  rw [if_neg lies]
  refine ⟨_, ?_, rfl⟩
  split
  · exact nandOnly_readBatches ..
  · exact .refl _

include taken up in
theorem journalExportDone_effect : let a := exportArea (d.exported w.ctx) (w.ctx.b 48 8)
    let e := journalExportDone d
    e.rk.works = rest ∧ (d.events.log.enable = false → e.mem.hdm = (d.writeAt (w.ctx.b 40 8) a.2).mem.hdm) ∧ e.journal.recs = d.journal.recs := by
  intro a e
  obtain ⟨journal, only, does⟩ := journalExportDone_eq taken up
  have does : e = _ := does
  have works : (handedOver w.ctx rest d).rk = { d.rk with works := rest } := mismatches_keep (fun d => d.rk) (fun _ _ _ _ => rfl) _ _
  have recs : (handedOver w.ctx rest d).journal.recs = d.journal.recs := mismatches_keep (fun d => d.journal.recs) (fun _ _ _ same => same) _ _
  have place : (handedOver w.ctx rest d).rescue = d.rescue ∧ ∀ off n, (handedOver w.ctx rest d).rangeUp off n = d.rangeUp off n :=
    ⟨mismatches_keep (fun d => d.rescue) (fun _ _ _ _ => rfl) _ _, fun off n => mismatches_keep (fun d => d.rangeUp off n) (fun _ _ _ _ => rfl) _ _⟩
  have quiet (noLog : d.events.log.enable = false) : (handedOver w.ctx rest d).events.log.enable = false ∧ (handedOver w.ctx rest d).mem = d.mem :=
    mismatches_of_noLog (d := { d with rk := { d.rk with works := rest } }) noLog _
  obtain ⟨rescue, range⟩ := place
  generalize handedOver w.ctx rest d = h at *
  rw [does]
  refine ⟨?_, fun noLog => ?_, ?_⟩
  · rw [decideCtx_works, raise_rk]
    exact congrArg RanrokState.works works
  · obtain ⟨off, mem⟩ := quiet noLog
    rw [decideCtx_hdm (by decide)]
    refine (congrArg MemState.hdm (raise_of_noLog (d := { h with journal := journal }.writeAt (w.ctx.b 40 8) a.2) off _).2).trans ?_
    have written : ({ h with journal := journal }.writeAt (w.ctx.b 40 8) a.2).mem = h.mem.write h.rescue (h.rangeUp (w.ctx.b 40 8) a.2.length) (w.ctx.b 40 8) a.2 := rfl
    rw [written, rescue, range, mem]
    rfl
  · rw [decideCtx_journal]
    exact (only.same (·.recs)).trans recs

end Export

/-! ### Check runs (13 R412) -/

theorem lateRecord_works (b : Bytes) (c : Ctx) (d : Device) : (d.lateRecord b c).rk.works = d.rk.works := by
  unfold Device.lateRecord
  split
  · rw [decideCtx_works, raise_rk]
  · rw [decideCtx_works]
    rfl

theorem lateRecord_checks (b : Bytes) (c : Ctx) (d : Device) : (d.lateRecord b c).checks = d.checks := by
  unfold Device.lateRecord
  split
  · exact decideCtx_keeps (fun d => d.checks) (fun _ _ _ _ _ _ _ _ => rfl) ..
  · exact decideCtx_keeps (fun d => d.checks) (fun _ _ _ _ _ _ _ _ => rfl) ..

/-- What a run leaves in its register: what its bytes give, where they can be read. -/
def checkRunValue (k : Nat) (d : Device) : Nat :=
  let x := d.checks.ctx k
  if !d.poisoned x.offset x.length then crcRun x.poly x.running (d.readAt x.offset x.length) else d.freeVal (if x.poly < 2 then 32 else 64)

theorem checkRunDone_effect {k : Nat} {d : Device} (host : 56 ≤ k) (runs : (d.checks.ctx k).state = 1) (powered : d.phys.shed < 3) :
    let x := d.checks.ctx k
    let e := checkRunDone k d
    (∀ w ∈ e.rk.works, w.op ≠ 0x090C ∨ w.ctx.handle ≠ k) ∧
      e.checks = { d.checks with ctxs := Tab.put k { x with
        running := checkRunValue k d, bytes := x.bytes + x.length
        state := if (decide (x.mode = 2) && crcValue x.poly (checkRunValue k d) != x.expect) = true then 3 else 2 } d.checks.ctxs } := by
  intro x e
  have goes : ¬(x.state != 1 || k < 56 || 3 ≤ d.phys.shed) = true := by
    have one : x.state = 1 := runs
    simp [one, Nat.not_lt.mpr host, Nat.not_le.mpr powered]
  have ran : e = checkRunDone k d := rfl
  unfold checkRunDone at ran
  extract_lets up run d0 bad d1 mine _ d2 y d3 at ran
  rw [if_neg goes] at ran
  have works : e.rk.works = d2.rk.works := by
    rw [ran]
    exact foldl_keeps (part := fun d : Device => d.rk.works) (step := fun d (w : Work) => d.lateRecord (checkRecord k d) w.ctx) (fun d w => lateRecord_works ..) mine d3
  have checks : e.checks = d1.checks := by
    rw [ran]
    exact foldl_keeps (part := fun d : Device => d.checks) (step := fun d (w : Work) => d.lateRecord (checkRecord k d) w.ctx) (fun d w => lateRecord_checks ..) mine d3
  refine ⟨fun w mem => ?_, ?_⟩
  · rw [works] at mem
    have kept := (List.mem_filter.mp mem).2
    rw [Bool.not_eq_true', Bool.and_eq_false_iff] at kept
    simpa using kept
  · have before : d0.checks = d.checks := by
      simp only [d0]
      split <;> rfl
    rw [checks, show d1.checks = { d0.checks with ctxs := Tab.put k { x with running := run, bytes := x.bytes + x.length, state := if bad = true then 3 else 2 } d0.checks.ctxs }
      from rfl, before]
    rfl

/-- Settles O52: each happening by the lemma on its own effect. -/
theorem journalHappeningsTakeEffect : Obligations.JournalHappeningsTakeEffect := by
  intro t s d
  refine ⟨fun src launch first audio payload => ?packet, fun n x first own open_ room => ?gap, fun b begun due => ?batch,
    fun b wear runs past waits => ⟨_, rfl, batchProgrammed_effect runs past waits⟩, fun fc block _ => ⟨_, rfl, nandProgramFail_effect ..⟩,
    fun fc block stage soft half bad => ⟨_, rfl, journalScrub_effect ..⟩, fun open_ idle due => ?periodic,
    fun u cap tests full low => ⟨_, rfl, energyTestDone_effect tests full low⟩, fun slot r found sorted ended => ?replay,
    fun w rest taken up _ => ?hand, fun k host runs powered => ?check, fun j n sorted new => newBlock_fewest sorted new⟩
  case packet =>
    intro e
    obtain ⟨seq, recs⟩ := offerPacket_keeps (now := d.now) (src := src) (launch := launch) (first := first) (audio := audio) (payload := payload) (j := d.journal)
    exact ⟨seq, recs, offerPacket_of_closed, fun open_ noGap room => ⟨_, offerPacket_of_room open_ noGap room, rfl, rfl, rfl, rfl, rfl, rfl⟩, offerPacket_of_full⟩
  case gap =>
    have lost : (d.journal.svc n).pendingLost ≠ 0 := by
      have which := List.find?_some first
      rw [own]
      exact bne_iff_ne.mp which
    have does : (gapRecordWrite d).journal = (d.journal.writeGap d.now n).1 := by
      rw [gapRecordWrite, first]
      rfl
    rw [writeGap_of_room lost open_ room, own] at does
    refine ⟨_, _, rfl, congrArg JournalState.recs does, rfl, rfl, rfl, rfl, ?_, ?_⟩
    · exact (congrArg (fun j : JournalState => (j.svc n).pendingLost) does).trans (congrArg JService.pendingLost (svc_setSvc_same ..))
    · exact (congrArg (fun j : JournalState => (j.svc n).seq) does).trans ((congrArg JService.seq (svc_setSvc_same ..)).trans rfl)
  case batch =>
    obtain ⟨r, facts⟩ := batchCommit_effect begun due
    exact ⟨_, r, rfl, facts⟩
  case periodic =>
    have begins : (d.journal.session = 1 && !d.journal.testing && d.journal.lastTest + 86400 * second ≤ d.now) = true := by
      simp [open_, idle, due]
    refine ⟨_, rfl, ?_⟩
    change (periodicEnergyTest d).journal.testing = true ∧ (periodicEnergyTest d).journal.session = 1 ∧ ∀ r ∈ d.journal.recs, r ∈ (periodicEnergyTest d).journal.recs
    unfold periodicEnergyTest
    extract_lets j d1
    rw [if_pos begins]
    split
    · obtain ⟨-, recs, session, -, testing, -⟩ := endBatch_keeps d.now d1.journal
      exact ⟨testing, session.trans open_, fun r mem => recs.subset mem⟩
    · exact ⟨rfl, open_, fun r mem => mem⟩
  case replay =>
    obtain ⟨replays, marks⟩ := replayEnd_effect found ended
    refine ⟨_, rfl, ?_, fun k other => ?_, marks⟩
    · exact (congrArg (Tab.find slot.val) replays).trans (find_del_same ..)
    · exact (congrArg (Tab.find k) replays).trans (find_del_other other ..)
  case check =>
    intro x
    obtain ⟨works, checks⟩ := checkRunDone_effect host runs powered
    have own : (checkRunDone k d).checks.ctx k = _ := (congrArg (CheckState.ctx · k) checks).trans (read_put_same ..)
    refine ⟨_, rfl, works, ?_, fun sound => ?_, ?_, fun j other => ?_⟩
    · exact congrArg CheckCtx.bytes own
    · refine (congrArg CheckCtx.running own).trans ?_
      have reads : (!d.poisoned (d.checks.ctx k).offset (d.checks.ctx k).length) = true := by
        rw [show d.poisoned (d.checks.ctx k).offset (d.checks.ctx k).length = false from sound]
        rfl
      exact if_pos reads
    · have running : ((checkRunDone k d).checks.ctx k).running = checkRunValue k d := congrArg CheckCtx.running own
      change ((checkRunDone k d).checks.ctx k).state = if x.mode = 2 ∧ crcValue x.poly ((checkRunDone k d).checks.ctx k).running ≠ x.expect then 3 else 2
      rw [running]
      refine (congrArg CheckCtx.state own).trans (if_congr ?_ rfl rfl)
      rw [Bool.and_eq_true, decide_eq_true_eq, bne_iff_ne]
    · exact (congrArg (CheckState.ctx · j) checks).trans (read_put_other other ..)
  case hand =>
    intro a
    obtain ⟨fits, first⟩ := exportArea_fits (d.exported w.ctx) (w.ctx.b 48 8)
    exact ⟨fits, first, _, rfl, journalExportDone_effect taken up⟩

end Sys2Proof.Proofs

/-!
PROOF. Chapter 14: an audio port changes alone, a channel at a time; a source takes its pairs; clocks, crossings, slips and missing packets (O53).
-/
namespace Sys2Proof.Proofs

open Sys2Proof Sys2Proof.Machine Sys2Proof.Laws

/-! ### One audio port at a time (14 R421, R431) -/

section Port
variable {n : Nat} {x : APort} {d : Device}

theorem aport_setAport_same (n : Nat) (x : APort) (d : Device) : (d.setAport n x).aport n = x := read_put_same ..

theorem aport_setAport_other {k : Nat} (other : k ≠ n) : (d.setAport n x).aport k = d.aport k := read_put_other other ..

/-- Deciding a port's commands leaves the audio ports and sources. -/
theorem portDone_audio (n : Nat) (d : Device) : (d.portDone n).audio = d.audio := by
  unfold Device.portDone
  split
  · exact foldl_keeps (part := fun d : Device => d.audio) (step := fun d (w : Work) => d.decideCtx w.ctx stOk 0 none d.now)
      (fun d w => decideCtx_keeps (fun d => d.audio) (fun _ _ _ _ _ _ _ _ => rfl) ..) _ _
  · rfl

/-- Of the audio state, only port `n` is another: `x`. -/
def OnlyPort (n : Nat) (x : APort) (d e : Device) : Prop := e.aport n = x ∧ (∀ k, k ≠ n → e.aport k = d.aport k) ∧ e.audio.sources = d.audio.sources

theorem onlyPort_setAport : OnlyPort n x d (d.setAport n x) := ⟨aport_setAport_same .., fun _ other => aport_setAport_other other, rfl⟩

/-- What happens beside the audio ports and sources changes nothing of them. -/
theorem OnlyPort.audio {e f : Device} (only : OnlyPort n x d e) (same : f.audio = e.audio) : OnlyPort n x d f := by
  obtain ⟨port, others, sources⟩ := only
  have aport (k : Nat) : f.aport k = e.aport k := congrArg (AudioState.port · k) same
  exact ⟨(aport n).trans port, fun k other => (aport k).trans (others k other), (congrArg AudioState.sources same).trans sources⟩

theorem OnlyPort.portDone {e : Device} (only : OnlyPort n x d e) : OnlyPort n x d (e.portDone n) := only.audio (portDone_audio n e)

/-- The event that was owed after a re-lock may have been told. -/
theorem OnlyPort.portTell {e : Device} (only : OnlyPort n x d e) : ∃ owed, OnlyPort n { x with retell := owed } d (e.portTell n) := by
  unfold Device.portTell
  extract_lets y
  obtain ⟨port, others, sources⟩ := only
  split
  · refine ⟨false, ?_, fun k other => (aport_setAport_other other).trans (others k other), sources⟩
    have here : y = x := port
    exact (aport_setAport_same n { y with retell := false } e).trans (by rw [here])
  · exact ⟨x.retell, port, others, sources⟩

/-- After a switch the port is as it settles, but for the event that it may have owed. -/
theorem portMoved_only (n : Nat) (x : APort) (d : Device) : ∃ owed, OnlyPort n { x.settle d.now with retell := owed } d (d.portMoved n x) := by
  obtain ⟨owed, only⟩ := (onlyPort_setAport (n := n) (x := x.settle d.now) (d := d)).portTell
  exact ⟨owed, only.portDone⟩

/-- A port that settles switches no channel. -/
theorem settle_keeps (now : Nat) (x : APort) : let y := x.settle now
    y.leftOn = x.leftOn ∧ y.rightOn = x.rightOn ∧ y.zcTimeouts = x.zcTimeouts := by
  intro y
  have ran : y = x.settle now := rfl
  unfold APort.settle at ran
  split at ran
  · rw [ran]
    exact ⟨rfl, rfl, rfl⟩
  · split at ran <;> rw [ran] <;> exact ⟨rfl, rfl, rfl⟩

/-- Without a record that its stop is for, a port settles in its state alone. -/
theorem settle_of_none (now : Nat) {x : APort} (none_ : x.next = none) : ∃ state, x.settle now = { x with state := state } := by
  unfold APort.settle
  split
  · exact ⟨x.state, rfl⟩
  · rw [none_]
    exact ⟨_, rfl⟩

theorem settle_of_waiting (now : Nat) {x : APort} (waits : x.quiet = false) : x.settle now = x := by
  have goes : (!x.quiet || x.unlocked) = true := by rw [waits]; rfl
  rw [APort.settle, if_pos goes]

/-- A channel's switch takes what it waited for, and leaves the other channel. -/
theorem switch_of_waiting {right : Bool} {w : ZcWait} (waits : x.waiting right = some w) : let y := x.switch right
    (if right = true then y.rightOn = w.on ∧ y.leftOn = x.leftOn else y.leftOn = w.on ∧ y.rightOn = x.rightOn) ∧ y.zcTimeouts = x.zcTimeouts := by
  cases right with
  | true =>
    have here : x.waitR = some w := waits
    simp [APort.switch, here]
  | false =>
    have here : x.waitL = some w := waits
    simp [APort.switch, here]

end Port

/-! ### AUDIO_PORT_SET (14 R431) -/

section Set_
variable {x : APort} {r : APortRec} {now : Nat}

/-- The switch that a channel with its clock waits for under a record. -/
def followsRecord (r : APortRec) (now : Nat) (on : Bool) : Option ZcWait := if on = r.sounds then none else some ⟨r.sounds, now + r.zcMs * 1000 * usec⟩

theorem zcSwitch_eq (on want : Bool) (due : Nat) : zcSwitch on want due = if on = want then none else some ⟨want, due⟩ := by
  unfold zcSwitch
  exact if_congr beq_iff_eq rfl rfl

/-- A record that needs no stop is in force at once, and the channels follow it. -/
theorem applyLocked_of_goes (goes : x.recd.enable = false ∨ x.recd.stops r = false) : let y := x.applyLocked now r
    y.recd = r ∧ y.waitL = followsRecord r now x.leftOn ∧ y.waitR = followsRecord r now x.rightOn ∧ y.leftOn = x.leftOn ∧ y.rightOn = x.rightOn := by
  intro y
  have runs : ¬(x.recd.enable && (x.leftOn || x.rightOn || !x.quiet) && x.recd.stops r) = true := by
    rcases goes with h | h <;> simp [h]
  have ran : y = x.applyLocked now r := rfl
  unfold APort.applyLocked at ran
  extract_lets z at ran
  rw [if_neg runs] at ran
  obtain ⟨state, settles⟩ := settle_of_none now (x := z.request now r.sounds) rfl
  rw [settles] at ran
  rw [ran]
  exact ⟨rfl, zcSwitch_eq .., zcSwitch_eq .., rfl, rfl⟩

/-- A record that needs a stop waits for it: both channels are to fall silent. -/
theorem applyLocked_of_stops (enable : x.recd.enable = true) (stops : x.recd.stops r = true) (left : x.leftOn = true) (right : x.rightOn = true) :
    x.applyLocked now r = { x with
      next := some r, waitL := some ⟨false, now + x.recd.zcMs * 1000 * usec⟩, waitR := some ⟨false, now + x.recd.zcMs * 1000 * usec⟩ } := by
  have waits : (x.recd.enable && (x.leftOn || x.rightOn || !x.quiet) && x.recd.stops r) = true := by simp [enable, stops, left]
  have asked : APort.request now false { x with next := some r } = { x with
      next := some r, waitL := some ⟨false, now + x.recd.zcMs * 1000 * usec⟩, waitR := some ⟨false, now + x.recd.zcMs * 1000 * usec⟩ } := by
    simp only [APort.request, left, right]
    rfl
  unfold APort.applyLocked
  rw [if_pos waits, asked]
  exact settle_of_waiting now rfl

/-- A port with a channel that is not as its record asks has not reached the state requested. -/
theorem not_settled {y : APort} (r : APortRec) (recd : y.recd = r) (apart : y.leftOn ≠ r.sounds ∨ y.rightOn ≠ r.sounds) : y.settled = false := by
  unfold APort.settled
  rw [recd]
  rcases apart with h | h <;> simp [h]

end Set_

section Command
variable {c : Ctx} {d : Device}

/-- A record decides the command, or begins its work. -/
theorem audioPortSet_runs (c : Ctx) (d : Device) : (audioPortSet.apply c d = Done.ok (d.setAport c.handle ((d.aport c.handle).applyUnlocked (parseAPort c)))) ∨
    ∃ y, audioPortSet.apply c d = Done.ok (((d.setAport c.handle y).portTell c.handle).portDone c.handle) ∨
      audioPortSet.apply c d = Done.goesOn ((d.setAport c.handle y).beginWork 0x0A01 c 0 none) := by
  have ran : audioPortSet.apply c d = audioPortSet.apply c d := rfl
  conv at ran => rhs; simp only [audioPortSet]
  generalize (if (d.aport c.handle).unlocked = true then _ else _ : APort).applyLocked d.now (parseAPort c) = y at ran
  split at ran
  · exact .inl ran
  · split at ran
    · exact .inr ⟨y, .inl ran⟩
    · exact .inr ⟨y, .inr ran⟩

theorem audioPortSet_ok (c : Ctx) (d : Device) : (audioPortSet.apply c d).final.map (·.1) ≠ some stBusy := by
  obtain ran | ⟨y, ran | ran⟩ := audioPortSet_runs c d <;> rw [ran] <;> exact nofun

/-- A record on a port that re-locks is applied at once. -/
theorem audioPortSet_unlocked (unlocked : (d.aport c.handle).unlocked = true)
    (keeps : (parseAPort c).master = (d.aport c.handle).recd.master ∨ (parseAPort c).master = false) :
    (audioPortSet.apply c d).dev = d.setAport c.handle ((d.aport c.handle).applyUnlocked (parseAPort c)) := by
  have atOnce : ((d.aport c.handle).unlocked && !((d.aport c.handle).recd.master != (parseAPort c).master && (parseAPort c).master)) = true := by
    rcases keeps with h | h <;> simp [unlocked, h]
  simp only [audioPortSet, atOnce, if_true]
  rfl

/-- A record on a port with its clock. -/
theorem audioPortSet_locked (locked : (d.aport c.handle).unlocked = false) : (audioPortSet.apply c d).dev =
    let e := d.setAport c.handle ((d.aport c.handle).applyLocked d.now (parseAPort c))
    if ((d.aport c.handle).applyLocked d.now (parseAPort c)).settled then (e.portTell c.handle).portDone c.handle else e.beginWork 0x0A01 c 0 none := by
  simp only [audioPortSet, locked, Bool.false_and, Bool.false_eq_true, if_false, aport_setAport_same]
  split <;> rfl

/-- Whatever the record asks of a port, no other port and no source changes. -/
theorem audioPortSet_others (c : Ctx) (d : Device) : (∀ k, k ≠ c.handle → ((audioPortSet.apply c d).dev).aport k = d.aport k) ∧
    (audioPortSet.apply c d).dev.audio.sources = d.audio.sources := by
  have port (x : APort) : OnlyPort c.handle x d (d.setAport c.handle x) := onlyPort_setAport
  obtain ran | ⟨y, ran | ran⟩ := audioPortSet_runs c d <;> rw [ran]
  · obtain ⟨-, others, sources⟩ := port ((d.aport c.handle).applyUnlocked (parseAPort c))
    exact ⟨others, sources⟩
  · obtain ⟨owed, only⟩ := (port y).portTell
    obtain ⟨-, others, sources⟩ := only.portDone
    exact ⟨others, sources⟩
  · obtain ⟨-, others, sources⟩ := port y
    exact ⟨others, sources⟩

end Command

theorem audioPortSet_effect {t : Nat} {ring : Fin 4} {entry : Bytes} {s : State} (ok : passes audioPortSet t ring entry s = true) :
    let c := ctxAt audioPortSet t ring entry s
    let d := takenAt t ring entry s
    let x := d.aport c.handle
    let r := parseAPort c
    ∃ d', exec (.audioPortSet t ring entry) s = .next { s with dev := d' } ∧ (∀ k, k ≠ c.handle → d'.aport k = d.aport k) ∧
      d'.audio.sources = d.audio.sources ∧
      (x.unlocked = true → (r.master = x.recd.master ∨ r.master = false) → (d'.aport c.handle).recd = r ∧ (d'.aport c.handle).leftOn = false ∧
        (d'.aport c.handle).rightOn = false ∧ (d'.aport c.handle).waitL = none ∧ (d'.aport c.handle).waitR = none ∧ d'.rk.works = d.rk.works) ∧
      (x.unlocked = false → (x.recd.enable = false ∨ x.recd.stops r = false) → (d'.aport c.handle).recd = r ∧
        (d'.aport c.handle).waitL = followsRecord r d.now x.leftOn ∧ (d'.aport c.handle).waitR = followsRecord r d.now x.rightOn ∧
        (d'.aport c.handle).leftOn = x.leftOn ∧ (d'.aport c.handle).rightOn = x.rightOn ∧
        ((x.leftOn ≠ r.sounds ∨ x.rightOn ≠ r.sounds) → d'.rk.works = d.rk.works ++ [⟨0x0A01, c, 0, none⟩])) ∧
      (x.unlocked = false → x.recd.enable = true → x.recd.stops r = true → x.leftOn = true → x.rightOn = true →
        d'.aport c.handle = { x with next := some r, waitL := some ⟨false, d.now + x.recd.zcMs * 1000 * usec⟩, waitR := some ⟨false, d.now + x.recd.zcMs * 1000 * usec⟩ } ∧
        d'.rk.works = d.rk.works ++ [⟨0x0A01, c, 0, none⟩]) := by
  intro c d x r
  obtain ⟨d', ran, accounts⟩ := answers_of_passes (i := .audioPortSet t ring entry) rfl audioPortSet_ok ok rfl
  have aport (k : Nat) : d'.aport k = (audioPortSet.apply c d).dev.aport k := AccountsOnly.same accounts (·.aport k)
  have works : d'.rk.works = (audioPortSet.apply c d).dev.rk.works := AccountsOnly.same accounts (·.rk.works)
  have sources : d'.audio.sources = (audioPortSet.apply c d).dev.audio.sources := AccountsOnly.same accounts (·.audio.sources)
  obtain ⟨others, kept⟩ := audioPortSet_others c d
  refine ⟨d', ran, fun k other => (aport k).trans (others k other), sources.trans kept, fun unlocked keeps => ?_, fun locked goes => ?_,
    fun locked enable stops left right => ?_⟩
  · have own : d'.aport c.handle = x.applyUnlocked r := by
      rw [aport, audioPortSet_unlocked unlocked keeps]
      exact aport_setAport_same ..
    rw [own]
    refine ⟨rfl, rfl, rfl, rfl, rfl, ?_⟩
    rw [works, audioPortSet_unlocked unlocked keeps]
    rfl
  · obtain ⟨recd, waitL, waitR, leftOn, rightOn⟩ := applyLocked_of_goes (now := d.now) goes
    have does := audioPortSet_locked (c := c) (d := d) locked
    have own : ∃ owed, d'.aport c.handle = { x.applyLocked d.now r with retell := owed } := by
      rw [aport, does]
      dsimp only
      split
      · obtain ⟨owed, only⟩ := (onlyPort_setAport (n := c.handle) (x := x.applyLocked d.now r) (d := d)).portTell
        exact ⟨owed, only.portDone.1⟩
      · exact ⟨_, aport_setAport_same ..⟩
    obtain ⟨owed, own⟩ := own
    rw [own]
    refine ⟨recd, waitL, waitR, leftOn, rightOn, fun apart => ?_⟩
    have waits : (x.applyLocked d.now r).settled = false := not_settled r recd (by rw [leftOn, rightOn]; exact apart)
    rw [works, does]
    dsimp only
    rw [if_neg (by rw [waits]; decide)]
    rfl
  · have waiting := applyLocked_of_stops (now := d.now) enable stops left right
    have does := audioPortSet_locked (c := c) (d := d) locked
    have waits : (x.applyLocked d.now r).settled = false := by rw [waiting]; rfl
    rw [aport, works, does]
    dsimp only
    rw [if_neg (by rw [waits]; decide)]
    exact ⟨(aport_setAport_same ..).trans waiting, rfl⟩

/-! ### AUDIO_SOURCE_SET and AUDIO_ENCODER_SET (14 R421, R425, R428) -/

section Checks
variable {sp : CmdSpec} {t : Nat} {ring : Fin 4} {entry : Bytes} {s : State}

/-- A command that passes its checks passes its chapter's. -/
theorem check_of_passes (ok : passes sp t ring entry s = true) : sp.check (ctxAt sp t ring entry s) (aheadOf (takenAt t ring entry s)) = none := by
  simp only [passes, Bool.and_eq_true, Option.isNone_iff_eq_none] at ok
  exact ok.2

theorem passed_of_firstOf {a : Refused} {r : List Refused} (passed : firstOf (a :: r) = none) : a = none ∧ firstOf r = none := by
  cases a with
  | none => exact ⟨rfl, passed⟩
  | some x => exact nomatch passed

theorem false_of_badParam {b : Bool} (passed : badParam b = none) : b = false := by
  cases b with
  | false => rfl
  | true => exact nomatch passed

end Checks

section Source
variable {n i : Nat} {ps : List Pair} {rate : Nat} {d : Device}

/-- A pair as its input gives it now. -/
def freshPair (d : Device) (p : Pair) : Pair := { p with lost := d.pairLost p }

/-- What pair `i` of a source becomes, and the change of it that waits (R421). -/
def pairTurn (old ps : List Pair) (d : Device) (i : Nat) : Pair × Option PairWait :=
  let p := ps.getD i ⟨0, 0, 0, false⟩
  match old[i]? with
  | none => (freshPair d p, none)
  | some o =>
    if (o.kind == p.kind && o.first == p.first && o.input == p.input) = true then (o, none)
    else if d.pairSilent o = true then (freshPair d p, none) else (o, some ⟨i, freshPair d p, d.pairDue p, false, false⟩)

/-- The source that a change of its pairs leaves. -/
theorem exists_changeSource (n : Nat) (ps : List Pair) (rate : Nat) (d : Device) : ∃ y, y.rateHz = rate ∧
    y.pairs = (List.range ps.length).map (fun i => (pairTurn (Tab.read d.audio.sources n ASource.reset).pairs ps d i).1) ∧
    y.waits = (List.range ps.length).filterMap (fun i => (pairTurn (Tab.read d.audio.sources n ASource.reset).pairs ps d i).2) ∧
    (d.changeSource n ps rate).audio = { d.audio with sources := Tab.put n y (d.withSource n ps rate).audio.sources } := by
  refine ⟨{ Tab.read (d.withSource n ps rate).audio.sources n ASource.reset with
    pairs := (List.range ps.length).map (fun i => (pairTurn (Tab.read d.audio.sources n ASource.reset).pairs ps d i).1)
    waits := (List.range ps.length).filterMap (fun i => (pairTurn (Tab.read d.audio.sources n ASource.reset).pairs ps d i).2) }, ?_, rfl, rfl, ?_⟩
  · exact congrArg ASource.rateHz (read_put_same ..)
  · have ran : d.changeSource n ps rate = d.changeSource n ps rate := rfl
    conv at ran => rhs; unfold Device.changeSource
    rw [ran]
    simp only [List.map_map, List.filterMap_map]
    rfl

theorem getElem?_map_range {α : Type} (f : Nat → α) {i m : Nat} (low : i < m) : ((List.range m).map f)[i]? = some (f i) := by
  rw [List.getElem?_map, List.getElem?_range low]
  rfl

end Source

theorem parsePairs_length {c : Ctx} (few : c.p 0 1 ≤ 4) : (parsePairs c).length = c.p 0 1 := by
  rw [parsePairs, List.length_map, List.length_range]
  exact Nat.min_eq_right few

theorem parsePairs_getD {c : Ctx} {i : Nat} (few : c.p 0 1 ≤ 4) (low : i < c.p 0 1) : (parsePairs c).getD i ⟨0, 0, 0, false⟩ = parsePair c i := by
  have here : (parsePairs c)[i]? = some (parsePair c i) := getElem?_map_range _ (Nat.lt_min.mpr ⟨by omega, low⟩)
  rw [List.getD_eq_getElem?_getD, here]
  rfl

theorem audioSourceSet_ok (c : Ctx) (d : Device) : (audioSourceSet.apply c d).final.map (·.1) ≠ some stBusy := by
  simp only [audioSourceSet]
  split <;> exact nofun

theorem pairs_of_audioSourceSet {c : Ctx} {d : Device} (passed : audioSourceSet.check c d = none) (some_ : c.p 0 1 ≠ 0) : c.p 0 1 ≤ 4 := by
  have checks := passed
  simp only [audioSourceSet, if_neg some_] at checks
  have bad := false_of_badParam (passed_of_firstOf checks).1
  simp only [Bool.or_eq_false_iff, decide_eq_false_iff_not] at bad
  omega

theorem audioSourceSet_effect {t : Nat} {ring : Fin 4} {entry : Bytes} {s : State} (ok : passes audioSourceSet t ring entry s = true)
    (atOnce : audioSourceSet.atOnce (ctxAt audioSourceSet t ring entry s) (takenAt t ring entry s) = true) :
    let c := ctxAt audioSourceSet t ring entry s
    let d := takenAt t ring entry s
    let old := Tab.read d.audio.sources c.handle ASource.reset
    ∃ d', exec (.audioSourceSet t ring entry) s = .next { s with dev := d' } ∧ d'.audio.ports = d.audio.ports ∧
      (∀ k, k ≠ c.handle → Tab.find k d'.audio.sources = Tab.find k d.audio.sources) ∧
      (c.p 0 1 = 0 → Tab.find c.handle d'.audio.sources = none) ∧
      (c.p 0 1 ≠ 0 → ∃ y, Tab.find c.handle d'.audio.sources = some y ∧ y.rateHz = c.p 4 4 ∧ y.pairs.length = c.p 0 1 ∧
        ∀ i < c.p 0 1, let p := parsePair c i
          (old.pairs[i]? = none → y.pairs[i]? = some (freshPair d p)) ∧
          ∀ o, old.pairs[i]? = some o →
            (o.kind = p.kind ∧ o.first = p.first ∧ o.input = p.input → y.pairs[i]? = some o) ∧
            (¬(o.kind = p.kind ∧ o.first = p.first ∧ o.input = p.input) → d.pairSilent o = true → y.pairs[i]? = some (freshPair d p)) ∧
            (¬(o.kind = p.kind ∧ o.first = p.first ∧ o.input = p.input) → d.pairSilent o = false → y.pairs[i]? = some o ∧
              ∃ w ∈ y.waits, w.pair = i ∧ w.into = freshPair d p ∧ w.due = d.pairDue p ∧ w.leftDone = false ∧ w.rightDone = false)) := by
  intro c d old
  obtain ⟨d', ran, accounts⟩ := answers_of_passes (i := .audioSourceSet t ring entry) rfl audioSourceSet_ok ok atOnce
  have audio : d'.audio = (audioSourceSet.apply c d).dev.audio := AccountsOnly.same accounts (·.audio)
  by_cases gone : c.p 0 1 = 0
  · have after : d'.audio = { d.audio with sources := Tab.del c.handle d.audio.sources } := by
      rw [audio]
      simp only [audioSourceSet, if_pos gone]
      rfl
    exact ⟨d', ran, by rw [after], fun k other => by rw [after]; exact find_del_other other .., fun _ => by rw [after]; exact find_del_same .., fun some_ => absurd gone some_⟩
  · have few := pairs_of_audioSourceSet (check_of_passes ok) gone
    have length : (parsePairs c).length = c.p 0 1 := parsePairs_length few
    obtain ⟨y, rate, pairs, waits, changed⟩ := exists_changeSource c.handle (parsePairs c) (c.p 4 4) d
    have after : d'.audio = { d.audio with sources := Tab.put c.handle y (d.withSource c.handle (parsePairs c) (c.p 4 4)).audio.sources } := by
      rw [audio, ← changed]
      simp only [audioSourceSet, if_neg gone]
      rfl
    refine ⟨d', ran, by rw [after], fun k other => ?_, fun none_ => absurd none_ gone, fun _ => ⟨y, ?_, rate, ?_, fun i low => ?_⟩⟩
    · rw [after]
      exact (find_put_other other ..).trans (find_put_other other ..)
    · rw [after]
      exact find_put_same ..
    · rw [pairs, List.length_map, List.length_range, length]
    · have here : y.pairs[i]? = some (pairTurn old.pairs (parsePairs c) d i).1 := by
        rw [pairs]
        exact getElem?_map_range _ (by omega)
      rw [here]
      have turn : pairTurn old.pairs (parsePairs c) d i = match old.pairs[i]? with
          | none => (freshPair d (parsePair c i), none)
          | some o =>
            if (o.kind == (parsePair c i).kind && o.first == (parsePair c i).first && o.input == (parsePair c i).input) = true then (o, none)
            else if d.pairSilent o = true then (freshPair d (parsePair c i), none)
            else (o, some ⟨i, freshPair d (parsePair c i), d.pairDue (parsePair c i), false, false⟩) := by
        rw [pairTurn, parsePairs_getD few low]
      refine ⟨fun none_ => by rw [turn, none_], fun o some_ => ?_⟩
      rw [some_] at turn
      simp only [Bool.and_eq_true, beq_iff_eq, and_assoc] at turn
      refine ⟨fun same => by rw [turn, if_pos same], fun other silent => by rw [turn, if_neg other, if_pos silent], fun other sounds => ?_⟩
      rw [if_neg other, if_neg (by rw [sounds]; decide)] at turn
      have waiting : (⟨i, freshPair d (parsePair c i), d.pairDue (parsePair c i), false, false⟩ : PairWait) ∈ y.waits := by
        rw [waits, List.mem_filterMap]
        exact ⟨i, List.mem_range.mpr (by omega), congrArg Prod.snd turn⟩
      exact ⟨by rw [turn], _, waiting, rfl, rfl, rfl, rfl, rfl⟩

theorem audioEncoderSet_ok (c : Ctx) (d : Device) : (audioEncoderSet.apply c d).final.map (·.1) ≠ some stBusy := by
  simp only [audioEncoderSet]
  split <;> exact nofun

theorem audioEncoderSet_apply {c : Ctx} {d : Device} {x : ASource} (found : Tab.find c.handle d.audio.sources = some x) : (audioEncoderSet.apply c d).dev =
    d.setSource c.handle { x with gainCb := gainOf c, pcmBits := if c.p 2 1 = 0 then 24 else c.p 2 1, aacBw := c.p 4 4 } := by
  simp only [audioEncoderSet, found]
  rfl

theorem audioEncoderSet_effect {t : Nat} {ring : Fin 4} {entry : Bytes} {s : State} {x : ASource}
    (found : Tab.find (ctxAt audioEncoderSet t ring entry s).handle (takenAt t ring entry s).audio.sources = some x)
    (ok : passes audioEncoderSet t ring entry s = true)
    (atOnce : audioEncoderSet.atOnce (ctxAt audioEncoderSet t ring entry s) (takenAt t ring entry s) = true) :
    let c := ctxAt audioEncoderSet t ring entry s
    let d := takenAt t ring entry s
    ∃ d', exec (.audioEncoderSet t ring entry) s = .next { s with dev := d' } ∧
      Tab.find c.handle d'.audio.sources = some { x with gainCb := gainOf c, pcmBits := if c.p 2 1 = 0 then 24 else c.p 2 1, aacBw := c.p 4 4 } ∧
      -600 ≤ gainOf c ∧ gainOf c ≤ 200 ∧ ∀ k, k ≠ c.handle → Tab.find k d'.audio.sources = Tab.find k d.audio.sources := by
  intro c d
  obtain ⟨d', ran, accounts⟩ := answers_of_passes (i := .audioEncoderSet t ring entry) rfl audioEncoderSet_ok ok atOnce
  have sources : d'.audio.sources =
      Tab.put c.handle { x with gainCb := gainOf c, pcmBits := if c.p 2 1 = 0 then 24 else c.p 2 1, aacBw := c.p 4 4 } d.audio.sources := by
    rw [AccountsOnly.same accounts (·.audio.sources), audioEncoderSet_apply found]
    rfl
  have bad := false_of_badParam (passed_of_firstOf (check_of_passes ok)).1
  simp only [Bool.or_eq_false_iff, decide_eq_false_iff_not, not_lt] at bad
  obtain ⟨⟨⟨⟨-, least⟩, most⟩, -⟩, -⟩ := bad
  exact ⟨d', ran, by rw [sources]; exact find_put_same .., least, most, fun k other => by rw [sources]; exact find_put_other other ..⟩

theorem audioStatusGet_does (t : Nat) (ring : Fin 4) (entry : Bytes) (s : State) :
    CommandDoes (.audioStatusGet t ring entry) audioStatusGet t ring entry s (fun c d =>
      d.writeAt (c.p 0 8) (match Tab.find (c.handle - 0x100) d.audio.sources with
        | some x => if c.handle < 8 then apRecord c.handle d else sourceRecord (c.handle - 0x100) x d
        | none => apRecord c.handle d)) := by
  refine commandDoes_of_ok rfl fun c d => ?_
  cases found : Tab.find (c.handle - 0x100) d.audio.sources <;> simp only [audioStatusGet, writeRecord, found]

/-! ### Clock losses, crossings, slips and missing packets (14 R419 to R424) -/

section Clock
variable {n : Nat} {d : Device}

/-- What a port takes when its clock goes, where it is enabled, a slave and no stop waits (R419). -/
theorem lose_of_slave {x : APort} (master : x.recd.master = false) (enable : x.recd.enable = true) (none_ : x.next = none) :
    x.lose.state = 3 ∧ x.lose.recd = x.recd := by
  simp [APort.lose, none_, enable, master]

theorem clockLoss_effect {change : Bool} (master : (d.aport n).recd.master = false) (enable : (d.aport n).recd.enable = true)
    (locked : (d.aport n).state ≠ 3) (none_ : (d.aport n).next = none) : let e := clockLoss n change d
    e.aport n = (d.aport n).lose ∧ (∀ k, k ≠ n → e.aport k = d.aport k) ∧ ((d.aport n).recd.output = true → e.audio.sources = d.audio.sources) := by
  intro e
  have runs : ¬((d.aport n).recd.master || !(d.aport n).recd.enable || (d.aport n).state == 3) = true := by simp [master, enable, locked]
  have slave : ¬((d.aport n).lose.recd.master && (d.aport n).lose.recd.enable) = true := by
    rw [(lose_of_slave master enable none_).2]
    simp [master]
  have ran : e = clockLoss n change d := rfl
  unfold clockLoss at ran
  extract_lets x y0 y d1 at ran
  have same : y = y0 := if_neg slave
  rw [if_neg runs] at ran
  have only : OnlyPort n y0 d d1 := by rw [← same]; exact onlyPort_setAport
  obtain ⟨port, others, sources⟩ := only
  have aport (k : Nat) : e.aport k = d1.aport k := by
    rw [ran]
    refine (congrArg (AudioState.port · k) (portDone_audio ..)).trans ?_
    split <;> rfl
  refine ⟨(aport n).trans port, fun k other => (aport k).trans (others k other), fun output => ?_⟩
  have same : e.audio = d1.audio := by
    rw [ran, portDone_audio, if_pos output]
  rw [same]
  exact sources

theorem rateMeasured_effect {hz : Nat} (lost : (d.aport n).state = 3) : let e := rateMeasured n hz d
    (e.aport n).measured = hz ∧
    ((∃ r, rateNear hz = some r ∧ ((d.aport n).recd.rateHz = 0 ∨ (d.aport n).recd.rateHz = r)) → (e.aport n).state = 4 ∧ (e.aport n).stable = 0) ∧
    ((∀ r, rateNear hz = some r → (d.aport n).recd.rateHz ≠ 0 ∧ (d.aport n).recd.rateHz ≠ r) → e.aport n = { d.aport n with measured := hz }) := by
  intro e
  have runs : ¬((d.aport n).state != 3) = true := by simp [lost]
  have ran : e = rateMeasured n hz d := rfl
  unfold rateMeasured at ran
  extract_lets x y at ran
  rw [if_neg runs] at ran
  have refused : ((d.setAport n y).raise [portEvent n 7 y]).aport n = y := aport_setAport_same ..
  have accepted : (d.setAport n { y with state := 4, stable := 0 }).aport n = { y with state := 4, stable := 0 } := aport_setAport_same ..
  cases near : rateNear hz with
  | none =>
    simp only [near] at ran
    rw [ran, refused]
    exact ⟨rfl, nofun, fun _ => rfl⟩
  | some r =>
    simp only [near] at ran
    by_cases takes : x.recd.rateHz = 0 ∨ x.recd.rateHz = r
    · rw [if_pos (by simpa using takes)] at ran
      rw [ran, accepted]
      exact ⟨rfl, fun _ => ⟨rfl, rfl⟩, fun refuses => absurd takes (not_or.mpr (refuses r rfl))⟩
    · rw [if_neg (by simpa using takes)] at ran
      rw [ran, refused]
      exact ⟨rfl, fun ⟨r', same, fits⟩ => absurd (Option.some.inj same ▸ fits) takes, fun _ => rfl⟩

theorem relock_effect (relocks : (d.aport n).state = 4) (enable : (d.aport n).recd.enable = true) : let e := relock n d
    e.aport n = ({ d.aport n with stable := 64, state := 2 } : APort).request d.now (d.aport n).recd.sounds ∧ ∀ k, k ≠ n → e.aport k = d.aport k := by
  intro e
  have runs : ¬((d.aport n).state != 4) = true := by simp [relocks]
  have ran : e = relock n d := rfl
  unfold relock at ran
  extract_lets x d1 at ran
  rw [if_neg runs] at ran
  have aport (k : Nat) : e.aport k = d1.aport k := by
    rw [ran]
    refine (congrArg (AudioState.port · k) (portDone_audio ..)).trans ?_
    split <;> rfl
  refine ⟨(aport n).trans ((aport_setAport_same ..).trans ?_), fun k other => (aport k).trans (aport_setAport_other other)⟩
  simp only [x, enable, if_true]

end Clock

section Crossing
variable {n pair : Nat} {right : Bool} {w : ZcWait} {d : Device}

/-- A channel of port `n` has switched: `e` is after it. -/
def ChannelSwitched (n : Nat) (right on : Bool) (d e : Device) : Prop :=
  if right = true then (e.aport n).rightOn = on ∧ (e.aport n).leftOn = (d.aport n).leftOn
  else (e.aport n).leftOn = on ∧ (e.aport n).rightOn = (d.aport n).rightOn

theorem portMoved_switched {x : APort} (waits : x.waiting right = some w) (left : x.leftOn = (d.aport n).leftOn) (right_ : x.rightOn = (d.aport n).rightOn)
    (e : Device) : let f := e.portMoved n (x.switch right)
    ChannelSwitched n right w.on d f ∧ (f.aport n).zcTimeouts = x.zcTimeouts ∧ ∀ k, k ≠ n → f.aport k = e.aport k := by
  intro f
  obtain ⟨owed, port, others, -⟩ := portMoved_only n (x.switch right) e
  obtain ⟨leftOn, rightOn, timeouts⟩ := settle_keeps e.now (x.switch right)
  obtain ⟨channels, count⟩ := switch_of_waiting waits
  refine ⟨?_, ?_, others⟩
  · unfold ChannelSwitched
    rw [show f.aport n = _ from port]
    dsimp only
    rw [leftOn, rightOn, ← left, ← right_]
    exact channels
  · rw [show f.aport n = _ from port]
    exact timeouts.trans count

theorem zeroCrossing_effect (low : n < 8) (waits : (d.aport n).waiting right = some w) : let e := zeroCrossing false n pair right d
    ChannelSwitched n right w.on d e ∧ (e.aport n).zcTimeouts = (d.aport n).zcTimeouts ∧ ∀ k, k ≠ n → e.aport k = d.aport k := by
  intro e
  have ran : e = d.portMoved n ((d.aport n).switch right) := if_pos low
  rw [ran]
  exact portMoved_switched waits rfl rfl d

theorem countTimeout_port (n : Nat) (d : Device) : (d.countTimeout n).aport n = { d.aport n with zcTimeouts := satAdd max64 (d.aport n).zcTimeouts 1 } :=
  aport_setAport_same ..

theorem zcTimeout_effect (low : n < 8) (waits : (d.aport n).waiting right = some w) (due : w.due ≤ d.now) : let e := zcTimeout false n pair right d
    ChannelSwitched n right w.on d e ∧ (e.aport n).zcTimeouts = satAdd max64 (d.aport n).zcTimeouts 1 ∧ ∀ k, k ≠ n → e.aport k = d.aport k := by
  intro e
  have ran : e = (d.countTimeout n).portMoved n (((d.countTimeout n).aport n).switch right) := by
    have runs : e = zcTimeout false n pair right d := rfl
    simp only [zcTimeout, Bool.false_eq_true, if_false, if_pos low, waits, if_neg (Nat.not_lt.mpr due)] at runs
    exact runs
  rw [ran, countTimeout_port]
  have same : APort.waiting right { d.aport n with zcTimeouts := satAdd max64 (d.aport n).zcTimeouts 1 } = some w := by rw [← waits]; rfl
  obtain ⟨channels, count, others⟩ := portMoved_switched same rfl rfl (d.countTimeout n)
  exact ⟨channels, count, fun k other => (others k other).trans (aport_setAport_other other)⟩

/-- The last channel of a source's one waiting pair switches: the pair is taken. -/
theorem switch_of_last {x : ASource} {w : PairWait} (one : x.waits = [w]) (mine : w.pair = pair) (low : pair < x.pairs.length)
    (last : (if right = true then w.leftDone else w.rightDone) = true) : let y := x.switch pair right
    y.waits = [] ∧ y.pairs[pair]? = some w.into ∧ ∀ i, i ≠ pair → y.pairs[i]? = x.pairs[i]? := by
  intro y
  have done : (w.leftDone || !right) = true ∧ (w.rightDone || right) = true := by cases right <;> simp_all
  obtain ⟨left, right_⟩ := done
  have ran : y = x.switch pair right := rfl
  simp only [ASource.switch, one, List.map_cons, List.map_nil, if_pos mine, left, right_] at ran
  rw [ran]
  refine ⟨rfl, ?_, fun i other => ?_⟩
  · refine (getElem?_map_range _ low).trans ?_
    simp [mine]
  · by_cases short : i < x.pairs.length
    · refine (getElem?_map_range _ short).trans ?_
      have apart : (w.pair == i) = false := by simp [mine, Ne.symm other]
      simp [apart, List.getD_eq_getElem?_getD, List.getElem?_eq_getElem short]
    · rw [List.getElem?_eq_none (Nat.not_lt.mp short), List.getElem?_eq_none]
      simpa using Nat.not_lt.mp short

end Crossing

section Slips
variable {n : Nat} {d : Device}

theorem fifoSlip_insert (slave : (d.aport n).slave = true) : let e := fifoSlip n false d
    e.aport n = { d.aport n with inserted := satAdd max64 (d.aport n).inserted 1, lastE5 := (e.aport n).lastE5 } ∧ ∀ k, k ≠ n → e.aport k = d.aport k := by
  intro e
  have runs : ¬(!(d.aport n).slave) = true := by simp [slave]
  have ran : e = fifoSlip n false d := rfl
  unfold fifoSlip at ran
  extract_lets x tell tell' at ran
  rw [if_neg runs, if_neg (by decide)] at ran
  have port : e.aport n = _ := (congrArg (Device.aport n) ran).trans (aport_setAport_same n _ d)
  refine ⟨?_, fun k other => (congrArg (Device.aport k) ran).trans (aport_setAport_other other)⟩
  rw [port]

theorem fifoSlip_drop (slave : (d.aport n).slave = true) : let e := fifoSlip n true d
    e.aport n = { d.aport n with dropped := satAdd max64 (d.aport n).dropped 1, lastE6 := (e.aport n).lastE6 } ∧ ∀ k, k ≠ n → e.aport k = d.aport k := by
  intro e
  have runs : ¬(!(d.aport n).slave) = true := by simp [slave]
  have ran : e = fifoSlip n true d := rfl
  unfold fifoSlip at ran
  extract_lets x tell tell' at ran
  rw [if_neg runs, if_pos rfl] at ran
  have port : e.aport n = _ := (congrArg (Device.aport n) ran).trans (aport_setAport_same n _ d)
  refine ⟨?_, fun k other => (congrArg (Device.aport k) ran).trans (aport_setAport_other other)⟩
  rw [port]

theorem packetMissing_effect {x : Flow} {c : Nat} (found : d.flow? n = some x) (capture : x.capture = some c) (enable : x.recd.enable = true)
    (audio : x.recd.isAudio = true) (due : c + x.recd.packetUs * usec ≤ d.now) : let e := packetMissing n d
    (e.flow? n).map (fun y => y.capture) = some (some (c + x.recd.packetUs * usec)) ∧ (∀ k, k ≠ n → e.flow? k = d.flow? k) ∧
    e.audio.sources = d.audio.sources ∧ ∀ k p, Tab.find k d.audio.ports = some p → d.sendsFlow n p = true →
      (Tab.find k e.audio.ports).map (fun y => y.zeroFrames) = some (satAdd max64 p.zeroFrames (x.recd.packetUs * x.recd.rateHz / 1000000)) := by
  intro e
  have runs : ¬(!x.recd.enable || !x.recd.isAudio || decide (d.now < c + x.recd.packetUs * usec)) = true := by simp [enable, audio, due]
  have ran : e = packetMissing n d := rfl
  simp only [packetMissing, found, capture] at ran
  rw [if_neg runs] at ran
  have flow (k : Nat) : e.flow? k = (d.setFlow n { x with capture := some (c + x.recd.packetUs * usec) }).flow? k := (congrArg (Device.flow? k) ran).trans rfl
  refine ⟨?_, fun k other => ?_, by rw [ran]; rfl, fun k p here sends => ?_⟩
  · rw [flow]
    exact congrArg (Option.map _) (find_put_same ..)
  · rw [flow]
    exact find_put_other other ..
  · have ports := congrArg (fun e : Device => Tab.find k e.audio.ports) ran
    rw [ports]
    simp only [raise_audio, find_mapVals]
    rw [show Tab.find k (d.setFlow n { x with capture := some (c + x.recd.packetUs * usec) }).audio.ports = some p from here]
    have sends' : (d.setFlow n { x with capture := some (c + x.recd.packetUs * usec) }).sendsFlow n p = true := sends
    simp only [Option.map_some, sends', if_true]

end Slips

/-- Settles O53: each audio command and happening of its own, a port at a time; a switch changes one channel. -/
theorem audioTakesEffect : Obligations.AudioTakesEffect := by
  unfold Obligations.AudioTakesEffect
  refine ⟨fun t ring entry s => ⟨audioPortSet_effect, audioSourceSet_effect, commandStages_of_runs rfl, fun x => audioEncoderSet_effect,
    commandStages_of_runs rfl, audioStatusGet_does t ring entry s⟩, fun t s => ⟨?_, ?_, ?_, ?_, ?_, ?_, ?_, ?_⟩⟩
  · intro n change x master enable locked none_
    obtain ⟨port, others, sources⟩ := clockLoss_effect (change := change) master enable locked none_
    obtain ⟨state, recd⟩ := lose_of_slave master enable none_
    refine ⟨_, rfl, ?_⟩
    rw [port]
    exact ⟨state, rfl, rfl, rfl, rfl, rfl, recd, others, sources⟩
  · intro n hz x lost
    exact ⟨_, rfl, rateMeasured_effect lost⟩
  · intro n x relocks enable
    obtain ⟨port, others⟩ := relock_effect relocks enable
    refine ⟨_, rfl, ?_⟩
    rw [port]
    exact ⟨rfl, zcSwitch_eq .., zcSwitch_eq .., others⟩
  · exact fun n pair right w low waits => ⟨_, rfl, zeroCrossing_effect low waits⟩
  · exact fun n pair right w low waits due => ⟨_, rfl, zcTimeout_effect low waits due⟩
  · intro n pair right x w found one mine low last
    have switched := switch_of_last one mine low last
    have ran : zeroCrossing true n pair right (s.dev.at_ t) = (s.dev.at_ t).setSource n (x.switch pair right) := by
      simp only [zeroCrossing, if_true, found]
    refine ⟨_, _, rfl, ?_, switched⟩
    rw [ran]
    exact find_put_same ..
  · exact fun n slave => ⟨⟨_, rfl, fifoSlip_insert slave⟩, ⟨_, rfl, fifoSlip_drop slave⟩⟩
  · exact fun n x c found capture enable audio due => ⟨_, rfl, packetMissing_effect found capture enable audio due⟩

end Sys2Proof.Proofs

/-!
PROOF. Chapter 16: what entering a mode leaves of the mode records; mode changes, drains, scheduled starts, islands and quiet windows (O57).
-/
namespace Sys2Proof.Proofs

open Sys2Proof Sys2Proof.Machine Sys2Proof.Laws

/-! ### What a mode's change leaves of the mode records (16 R452 to R458) -/

section Keeps
variable {d : Device}

theorem sessionEnded_modes (d : Device) : d.sessionEnded.modes = d.modes := by
  unfold Device.sessionEnded
  extract_lets j
  split
  · exact sessionClosed_keeps (fun d => d.modes) (fun _ _ _ _ _ _ _ _ => rfl) _
  · rfl

theorem closeSession_modes (cause : Nat) (d : Device) : (d.closeSession cause).modes = d.modes := by
  unfold Device.closeSession
  split
  · exact sessionEnded_modes _
  · rfl

theorem linkLoss_modes (code : Nat) (d : Device) : (d.linkLoss code).modes = d.modes := by
  unfold Device.linkLoss
  split <;> rfl

/-- Arriving in a mode changes the mode, and no other mode record. -/
theorem arrive_modes (new : Nat) (d : Device) : (d.arrive new).modes = { d.modes with mode := new } := by
  unfold Device.arrive
  extract_lets d1 d0 _ d0' _ _ _ off _ _ d2
  have first : d1.modes = d.modes := by
    show (if _ then d else d.closeSession 4 : Device).modes = _
    split
    · rfl
    · exact closeSession_modes ..
  have second : d2.modes = d1.modes := by
    show (if _ then _ else if _ then _ else if _ then _ else d1 : Device).modes = _
    split
    · exact linkLoss_modes 6 _
    · split
      · exact linkLoss_modes 6 _
      · split <;> rfl
  show { d2.modes with mode := new } = _
  rw [second, first]

theorem enterMode_mode (new : Nat) (d : Device) : (d.enterMode new).modes.mode = new ∧ (d.enterMode new).modes.transition = none := by
  unfold Device.enterMode
  extract_lets d1
  rw [arrive_modes]
  exact ⟨rfl, rfl⟩

theorem leaveMode_schedule {old new : Nat} (none_ : d.modes.schedule = none) : (d.leaveMode old new).modes.schedule = none := by
  unfold Device.leaveMode
  split
  · exact none_
  · split
    · exact none_
    · split
      · unfold Device.fullBoot
        split <;> rfl
      · exact none_

theorem enterMode_schedule {new : Nat} (none_ : d.modes.schedule = none) : (d.enterMode new).modes.schedule = none := by
  unfold Device.enterMode
  extract_lets d1
  rw [arrive_modes]
  exact leaveMode_schedule none_

theorem startAll_modes (m tag from_ : Nat) (cs : List Nat) (d : Device) : (d.startAll m tag from_ cs).modes = d.modes := by
  unfold Device.startAll
  refine foldl_keeps (part := fun d : Device => d.modes) (fun (d : Device) (c : Nat) => ?_) cs d
  split
  · split <;> rfl
  · rfl

theorem tellEnd_modes (e : LateEnd) (d : Device) : (d.tellEnd e).modes = d.modes := by
  unfold Device.tellEnd
  extract_lets d1
  split
  · rfl
  · exact decideCtx_keeps (fun d => d.modes) (fun _ _ _ _ _ _ _ _ => rfl) ..

/-- The end of a transition may be told later; mode, transition and schedule stand. -/
theorem endTransition_modes (e : LateEnd) (d : Device) : ∃ late, (d.endTransition e).modes = { d.modes with late := late } := by
  unfold Device.endTransition
  split
  · exact ⟨d.modes.late, tellEnd_modes ..⟩
  · exact ⟨_, rfl⟩

theorem beginRest_mode (d : Device) : d.beginRest.modes.mode = d.modes.mode := by
  unfold Device.beginRest
  split
  · rfl
  · split <;> rfl

theorem beginRest_of_none (none_ : d.modes.schedule = none) : d.beginRest = d := by
  unfold Device.beginRest
  rw [none_]

end Keeps

/-! ### The ends of transitions and drains (16 R455, R458) -/

section Ends
variable {d : Device} {x : Transition}

theorem startDrain_modes (d : Device) : d.startDrain.modes = { d.modes with mode := mDrain } := by
  unfold Device.startDrain
  extract_lets tag live d1
  have kept : d1.modes = d.modes := foldl_keeps (part := fun d : Device => d.modes)
    (step := fun (d : Device) (c : Nat) => d.stopChannel c ((d.chan c).firstOpen d.now) tag) (fun _ _ => rfl) live d
  show { d1.modes with mode := mDrain } = _
  rw [kept]

theorem modeTransitionDone_effect (waits : d.modes.transition = some x) (ready : d.transitionReady x = true) : let e := modeTransitionDone d
    e.modes.mode = x.target ∧ (x.target ≠ mDrain → d.modes.schedule = none → e.modes.transition = none) := by
  intro e
  have ran : e = modeTransitionDone d := rfl
  simp only [modeTransitionDone, waits, ready, Bool.not_true, Bool.false_eq_true, if_false] at ran
  by_cases drains : x.target = mDrain
  · rw [if_pos drains] at ran
    refine ⟨?_, fun other => absurd drains other⟩
    rw [ran, drains]
    split
    · assumption
    · rw [startDrain_modes]
  · rw [if_neg drains] at ran
    generalize started : (if x.startMask = 0 then _ else _ : Device) = d2 at ran
    have kept : d2.modes = (d.enterMode x.target).modes := by
      rw [← started]
      split
      · rfl
      · exact startAll_modes ..
    obtain ⟨mode, transition⟩ := enterMode_mode x.target d
    generalize LateEnd.mk .. = last at ran
    obtain ⟨late, ended⟩ := endTransition_modes last d2
    rw [ran]
    refine ⟨?_, fun _ none_ => ?_⟩
    · rw [beginRest_mode, ended, kept]
      exact mode
    · have none' : (d2.endTransition last).modes.schedule = none := by
        rw [ended, kept]
        exact enterMode_schedule none_
      rw [beginRest_of_none none', ended, kept]
      exact transition

theorem drainDone_effect (waits : d.modes.transition = some x) (drains : x.target = mDrain) (mode : d.modes.mode = mDrain)
    (over_ : d.drained x.nextMode = true) : let e := drainDone d
    (x.nextMode = mArmed → e.modes.mode = mArmed ∧ e.modes.transition = none) ∧
    (x.nextMode ≠ mArmed → e = { d with modes := { d.modes with transition := some { x with target := x.nextMode, nextMode := 0 } } }) := by
  intro e
  have ends : (x.target = mDrain && d.modes.mode = mDrain && d.drained x.nextMode) = true := by simp [drains, mode, over_]
  have ran : e = drainDone d := rfl
  simp only [drainDone, waits] at ran
  rw [if_pos ends] at ran
  refine ⟨fun armed => ?_, fun other => ?_⟩
  · rw [if_pos armed] at ran
    obtain ⟨late, ended⟩ := endTransition_modes ⟨x.ctx, mDrain, mArmed, x.status, x.detail, x.effect⟩ (d.enterMode mArmed)
    rw [ran, ended]
    exact enterMode_mode mArmed d
  · rw [if_neg other] at ran
    exact ran

end Ends

/-! ### Scheduled starts (16 R461, R462) -/

section Scheduled
variable {d : Device} {x : Schedule}

/-- The schedule after its wake timer has fired. -/
def awoken (x : Schedule) : Schedule := { x with woken := true, owed := false }

/-- The module whose wake timer has fired, before it moves on. -/
def wokenUp (x : Schedule) (d : Device) : Device := { d with modes := { d.modes with schedule := some (awoken x) } }.raise (if x.woken then [] else [(2, 0)])

theorem scheduledWake_eq (waits : d.modes.schedule = some x) (due : x.wakeAt ≤ d.now) : scheduledWake d =
    match (awoken x).toward (wokenUp x d) with
    | none => wokenUp x d
    | some t => { wokenUp x d with
        modes := { (wokenUp x d).modes with transition := some t }
        phys := { (wokenUp x d).phys with wake := (wokenUp x d).phys.wake || (t.target = mArmed && d.modes.mode != mMaintain) } } := by
  have fires : ¬(!d.due x.wakeAt) = true := by simp [Device.due, due]
  simp only [scheduledWake, waits]
  rw [if_neg fires]
  rfl

theorem toward_of_resting (free : d.unitHeld uMode = false) (rests : d.modes.mode = mKeep ∨ d.modes.mode = mTimekeep) :
    (awoken x).toward (wokenUp x d) = some ⟨none, mArmed, d.now, 0, 0, stOk, 0⟩ := by
  have goes : ¬(wokenUp x d).unitHeld uMode = true := by
    rw [show (wokenUp x d).unitHeld uMode = d.unitHeld uMode from rfl, free]
    decide
  have mode : ((wokenUp x d).modes.mode = mKeep || (wokenUp x d).modes.mode = mTimekeep || (wokenUp x d).modes.mode = mMaintain) = true := by
    rw [show (wokenUp x d).modes.mode = d.modes.mode from rfl]
    rcases rests with h | h <;> rw [h] <;> decide
  rw [Schedule.toward, if_neg goes, if_pos mode]
  rfl

theorem toward_of_armed (free : d.unitHeld uMode = false) (armed : d.modes.mode = mArmed) (aux : d.modes.auxPresent = true)
    (near : x.start ≤ d.now + startLead + wakeGuard) : (awoken x).toward (wokenUp x d) = some ⟨none, x.mode, d.now + startLead, 0, 0, stOk, 0⟩ := by
  have goes : ¬(wokenUp x d).unitHeld uMode = true := by
    rw [show (wokenUp x d).unitHeld uMode = d.unitHeld uMode from rfl, free]
    decide
  have mode : (wokenUp x d).modes.mode = mArmed := armed
  have leaves : ((wokenUp x d).modes.mode = mArmed && (wokenUp x d).modes.auxPresent && Nat.ble (awoken x).start ((wokenUp x d).now + startLead + wakeGuard)) = true := by
    rw [mode, show (wokenUp x d).modes.auxPresent = true from aux, Nat.ble_eq_true_of_le (show (awoken x).start ≤ (wokenUp x d).now + startLead + wakeGuard from near)]
    rfl
  rw [Schedule.toward, if_neg goes, if_neg (by rw [mode]; decide), if_pos leaves]
  rfl

theorem scheduledWake_effect (waits : d.modes.schedule = some x) (due : x.wakeAt ≤ d.now) : let e := scheduledWake d
    e.modes.schedule = some (awoken x) ∧ e.modes.mode = d.modes.mode ∧
    (d.unitHeld uMode = false → (d.modes.mode = mKeep ∨ d.modes.mode = mTimekeep) →
      e.modes.transition = some ⟨none, mArmed, d.now, 0, 0, stOk, 0⟩ ∧ e.phys.wake = true) ∧
    (d.unitHeld uMode = false → d.modes.mode = mArmed → d.modes.auxPresent = true → x.start ≤ d.now + startLead + wakeGuard →
      e.modes.transition = some ⟨none, x.mode, d.now + startLead, 0, 0, stOk, 0⟩) := by
  intro e
  have ran : e = _ := scheduledWake_eq waits due
  refine ⟨?_, ?_, fun free rests => ?_, fun free armed aux near => ?_⟩
  · rw [ran]
    split <;> rfl
  · rw [ran]
    split <;> rfl
  · rw [toward_of_resting free rests] at ran
    rw [ran]
    refine ⟨rfl, ?_⟩
    have up : (decide (mArmed = mArmed) && d.modes.mode != mMaintain) = true := by rcases rests with h | h <;> rw [h] <;> decide
    dsimp only
    rw [up, Bool.or_true]
  · rw [toward_of_armed free armed aux near] at ran
    rw [ran]

theorem scheduledStartTime_effect (waits : d.modes.schedule = some x) (due : x.start ≤ d.now) : let e := scheduledStartTime d
    e.modes.schedule = none ∧ e.modes.mode = d.modes.mode ∧ (d.liveMode = false → e.code = d.code) := by
  intro e
  have fires : ¬(!d.due x.start) = true := by simp [Device.due, due]
  have ran : e = scheduledStartTime d := rfl
  simp only [scheduledStartTime, waits] at ran
  rw [if_neg fires] at ran
  generalize started : (if Device.liveMode _ = true then _ else _ : Device) = d1 at ran
  have modes : d1.modes = { d.modes with schedule := none } := by
    rw [← started]
    split
    · exact startAll_modes ..
    · rfl
  rw [ran]
  refine ⟨(congrArg ModeState.schedule modes).trans rfl, (congrArg ModeState.mode modes).trans rfl, fun resting => ?_⟩
  have stays : ¬({ d with modes := { d.modes with schedule := none } } : Device).liveMode = true := by
    rw [show ({ d with modes := { d.modes with schedule := none } } : Device).liveMode = d.liveMode from rfl, resting]
    decide
  rw [if_neg stays] at started
  rw [← started]
  rfl

end Scheduled

/-! ### Islands and quiet windows (16 R463, R464) -/

section Islands
variable {d : Device}

/-- An island may take a state that is no deeper than its cap and that it wakes from in time. -/
def mayTake (cap : Sleep) (wait : Option Nat) (x : Sleep) : Bool := Nat.ble x.depth cap.depth && (match wait with
  | none => true
  | some w => Nat.ble (x.wake + 2 * usec) w)

theorem mayTake_iff {cap : Sleep} {wait : Option Nat} {x : Sleep} :
    mayTake cap wait x = true ↔ x.depth ≤ cap.depth ∧ ∀ w, wait = some w → x.wake + 2 * usec ≤ w := by
  cases wait <;> simp [mayTake]

theorem deepest_eq (cap : Sleep) (wait : Option Nat) : deepest cap wait =
    if mayTake cap wait .off = true then .off else if mayTake cap wait .sleep = true then .sleep
    else if mayTake cap wait .doze = true then .doze else if mayTake cap wait .nap = true then .nap else .awake := rfl

theorem deepest_takes (cap : Sleep) (wait : Option Nat) : deepest cap wait = .awake ∨ mayTake cap wait (deepest cap wait) = true := by
  rw [deepest_eq]
  split_ifs with off sleep doze nap
  · exact .inr off
  · exact .inr sleep
  · exact .inr doze
  · exact .inr nap
  · exact .inl rfl

theorem depth_le_deepest {cap : Sleep} {wait : Option Nat} {y : Sleep} (takes : mayTake cap wait y = true) : y.depth ≤ (deepest cap wait).depth := by
  rw [deepest_eq]
  cases y with
  | awake => exact Nat.zero_le _
  | off => rw [if_pos takes]
  | sleep => split_ifs <;> decide
  | doze => split_ifs <;> decide
  | nap => split_ifs <;> decide

theorem islandIdle_effect (i : Nat) (next : Option Nat) (d : Device) : ∃ x, Tab.find i (islandIdle i next d).modes.islands = some x ∧
    x.depth ≤ (d.islandCap i).depth ∧ (∀ n, next = some n → x ≠ .awake → x.wake + 2 * usec ≤ n - d.now) ∧
    (∀ y : Sleep, y.depth ≤ (d.islandCap i).depth → (∀ n, next = some n → y.wake + 2 * usec ≤ n - d.now) → y.depth ≤ x.depth) := by
  refine ⟨_, find_put_same .., ?_, fun n known asleep => ?_, fun y shallow wakes => ?_⟩
  · rcases deepest_takes (d.islandCap i) (next.map (· - d.now)) with awake | takes
    · rw [awake]
      exact Nat.zero_le _
    · exact (mayTake_iff.mp takes).1
  · rcases deepest_takes (d.islandCap i) (next.map (· - d.now)) with awake | takes
    · exact absurd awake asleep
    · exact (mayTake_iff.mp takes).2 _ (by rw [known]; rfl)
  · refine depth_le_deepest (mayTake_iff.mpr ⟨shallow, fun w known => ?_⟩)
    obtain ⟨n, here, rfl⟩ := Option.map_eq_some_iff.mp known
    exact wakes n here

theorem capIsland_depth (i : Nat) (x : Sleep) (d : Device) : (d.capIsland i x).depth ≤ (d.islandCap i).depth := by
  unfold Device.capIsland
  split
  · exact Nat.le_refl _
  · exact Nat.not_lt.mp ‹_›

theorem quietWindowEdge_effect {a b : Nat} (quiet : d.modes.quiet = some (a, b)) (due : b ≤ d.now) : let e := quietWindowEdge d
    e.modes.quiet = none ∧ (∀ x ∈ e.modes.islands, x.2.depth ≤ (e.islandCap x.1).depth) ∧ e.code = d.code := by
  intro e
  have over_ : d.due b = true := by simp [Device.due, due]
  have ran : e = quietWindowEdge d := rfl
  simp only [quietWindowEdge, quiet] at ran
  rw [if_pos over_] at ran
  refine ⟨by rw [ran], fun x mem => ?_, by rw [ran]⟩
  have capped (i : Nat) : e.islandCap i = ({ d with modes := { d.modes with quiet := none } } : Device).islandCap i := by
    rw [ran]
    rfl
  rw [ran] at mem
  obtain ⟨y, -, rfl⟩ := List.mem_map.mp mem
  rw [capped]
  exact capIsland_depth ..

end Islands

/-! ### MODE_SET (16 R454 to R458) -/

section Drain
variable {d : Device} {k : Nat} {x : Channel}

/-- Channel `k` is stopping, at its first open frame of `d`. -/
def StopsAtFirstOpen (k : Nat) (d e : Device) : Prop := (e.chan k).state = .stopping ∧ (e.chan k).stop = some ((d.chan k).firstOpen d.now)

theorem stopChannel_other {c : Nat} (other : k ≠ c) (f tag : Nat) (d : Device) : (d.stopChannel c f tag).chan k = d.chan k := read_put_other other ..

theorem stopChannel_same (c f tag : Nat) (d : Device) : (d.stopChannel c f tag).chan c = { d.chan c with state := .stopping, stop := some f } := read_put_same ..

/-- Stopping channels keeps where channel `k`'s first open frame lies, and a stop of it. -/
theorem stopAll_stops (tag : Nat) (cs : List Nat) : ∀ {d e : Device}, e.now = d.now → (e.chan k).firstOpen e.now = (d.chan k).firstOpen d.now →
    (k ∈ cs ∨ StopsAtFirstOpen k d e) → StopsAtFirstOpen k d (cs.foldl (fun d c => d.stopChannel c ((d.chan c).firstOpen d.now) tag) e) := by
  induction cs with
  | nil =>
    intro d e now first stops
    rcases stops with mem | stops
    · exact nomatch mem
    · exact stops
  | cons c cs ih =>
    intro d e now first stops
    by_cases here : k = c
    · subst here
      have stopped := stopChannel_same k ((e.chan k).firstOpen e.now) tag e
      refine ih now ?_ (.inr ⟨by rw [stopped], by rw [stopped, first]⟩)
      rw [stopped]
      exact first
    · have same := stopChannel_other here ((e.chan c).firstOpen e.now) tag e
      refine ih now ?_ ?_
      · rw [same]
        exact first
      · rcases stops with mem | ⟨state, stop⟩
        · exact .inl ((List.mem_cons.mp mem).resolve_left here)
        · exact .inr ⟨by rw [same, state], by rw [same, stop]⟩

theorem startDrain_stops (found : Tab.find k d.code.channels = some x) (live : x.state = .live) : StopsAtFirstOpen k d d.startDrain := by
  unfold Device.startDrain
  extract_lets tag lives d1
  have mem : k ∈ lives := List.mem_map.mpr ⟨(k, x), List.mem_filter.mpr ⟨mem_of_find found, by simp [live]⟩, rfl⟩
  exact stopAll_stops tag lives rfl rfl (.inl mem)

end Drain

section Moves
variable {d : Device}

/-- What stays of channel `k` while moves are arranged. -/
def Placing (k : Nat) (d : Device) : ChannelState × Nat × Nat := ((d.chan k).state, (d.chan k).rodA, (d.chan k).next)

theorem planMove_placing (k : Nat) (d : Device) (m : PlannedMove) : Placing k (d.planMove m) = Placing k d := by
  unfold Placing Device.planMove
  by_cases here : k = m.1
  · subst here
    rw [show (d.setChan m.1 { d.chan m.1 with planned := some m.2 }).chan m.1 = _ from read_put_same ..]
  · rw [show (d.setChan m.1 { d.chan m.1 with planned := some m.2 }).chan k = d.chan k from read_put_other here ..]

theorem planMoves_keep (ms : List PlannedMove) (d : Device) : let e := ms.foldl (fun d x => d.planMove x) d
    e.modes = d.modes ∧ e.code.rods = d.code.rods ∧ ∀ k, Placing k e = Placing k d :=
  ⟨foldl_keeps (part := fun d : Device => d.modes) (step := fun (d : Device) (x : PlannedMove) => d.planMove x) (fun _ _ => rfl) ms d,
    foldl_keeps (part := fun d : Device => d.code.rods) (step := fun (d : Device) (x : PlannedMove) => d.planMove x) (fun _ _ => rfl) ms d,
    fun k => foldl_keeps (part := Placing k) (step := fun (d : Device) (x : PlannedMove) => d.planMove x) (planMove_placing k) ms d⟩

theorem read_foldl_put {α : Type} (new : Nat → α) (z : α) {k : Nat} (ks : List Nat) (t : Tab α) (mem : k ∈ ks) :
    Tab.read (ks.foldl (fun t n => Tab.put n (new n) t) t) k z = new k := by
  have kept (ks : List Nat) (t : Tab α) (has : Tab.read t k z = new k) : Tab.read (ks.foldl (fun t n => Tab.put n (new n) t) t) k z = new k := by
    induction ks generalizing t with
    | nil => exact has
    | cons n ks ih =>
      refine ih _ ?_
      by_cases here : k = n
      · subst here
        exact read_put_same ..
      · exact (read_put_other here ..).trans has
  induction ks generalizing t with
  | nil => exact nomatch mem
  | cons n ks ih =>
    rcases List.mem_cons.mp mem with rfl | mem
    · exact kept ks _ (read_put_same ..)
    · exact ih _ mem

theorem exists_withRoles_rods (m : Nat) (d : Device) : ∃ new : Nat → Rod, (∀ n, (new n).role = d.roleIn m n) ∧
    (d.withRoles m).code.rods = rodNumbers.foldl (fun t n => Tab.put n (new n) t) d.code.rods := by
  unfold Device.withRoles
  extract_lets mhz new
  rw [raise_code]
  refine ⟨new, fun _ => rfl, ?_⟩
  dsimp only

theorem withRoles_channels (m : Nat) (d : Device) : (d.withRoles m).code.channels = d.code.channels := by
  unfold Device.withRoles
  extract_lets mhz new
  rw [raise_code]

theorem withRoles_modes (m : Nat) (d : Device) : (d.withRoles m).modes = d.modes := by
  unfold Device.withRoles
  extract_lets mhz new
  rw [raise_modes]

theorem withRoles_role (m : Nat) (d : Device) {n : Nat} (low : n < 24) : ((d.withRoles m).rod n).role = d.roleIn m n := by
  obtain ⟨new, role, rods⟩ := exists_withRoles_rods m d
  have mem : n ∈ rodNumbers := List.mem_range.mpr low
  unfold Device.rod CodingState.rod
  rw [rods, read_foldl_put new _ _ _ mem, role]

end Moves

section Set_
variable {c : Ctx} {d : Device}

/-- The moment that MODE_SET names. -/
def askedTime (c : Ctx) : Nat := if c.effect = 2 then c.effectTime else 0

/-- The final of a MODE_SET whose moment is `least` at the soonest. -/
def startedStatus (c : Ctx) (least : Nat) : Nat := if c.effect == 2 && Nat.blt (askedTime c) least then stStartedAt else stOk

/-- How far a MODE_SET's moment is moved. -/
def startedMoved (c : Ctx) (least : Nat) : Nat := if c.effect == 2 && Nat.blt (askedTime c) least then usMoved (askedTime c) least else 0

/-- A moment that is moved is moved to the soonest. -/
theorem startedMoved_eq (c : Ctx) (least : Nat) :
    (if c.effect == 2 && Nat.blt (askedTime c) least then usMoved (askedTime c) (Nat.max (askedTime c) least) else 0) = startedMoved c least := by
  unfold startedMoved
  split
  · have near : askedTime c < least := by simp_all
    rw [show Nat.max (askedTime c) least = least from Nat.max_eq_right near.le]
  · rfl

def setTransition (t : Transition) (d : Device) : Device := { d with modes := { d.modes with transition := some t } }

theorem modeSet_fromArmed (armed : d.modes.mode = mArmed) (live : isLive (c.p 0 1) = true) : (modeSet.apply c d).dev =
    setTransition ⟨some c, c.p 0 1, Nat.max (askedTime c) (d.now + startLead), 0, c.p 8 8,
      startedStatus c (d.now + startLead), startedMoved c (d.now + startLead)⟩ d := by
  have both : (decide (d.modes.mode = mArmed) && isLive (c.p 0 1)) = true := by simp [armed, live]
  rw [← startedMoved_eq]
  simp only [modeSet, both, if_true]
  rfl

/-- The transition of a MODE_SET whose moment is its acceptance at the soonest. -/
def setNow (c : Ctx) (d : Device) : Transition :=
  ⟨some c, c.p 0 1, Nat.max (askedTime c) d.now, c.p 1 1, 0, startedStatus c d.now, startedMoved c d.now⟩

theorem modeSet_elsewhere (other : ¬(d.modes.mode = mArmed ∧ isLive (c.p 0 1) = true)) : (modeSet.apply c d).dev =
    if c.p 0 1 = mDrain then (if askedTime c ≤ d.now then (setTransition (setNow c d) d).startDrain else setTransition (setNow c d) d)
    else if (isLive d.modes.mode && isLive (c.p 0 1)) = true then
      ((d.modeMoves (c.p 0 1)).getD []).foldl (fun d x => d.planMove x) ((setTransition (setNow c d) d).withRoles (c.p 0 1))
    else setTransition (setNow c d) d := by
  have neither : (decide (d.modes.mode = mArmed) && isLive (c.p 0 1)) = false := by
    rw [Bool.and_eq_false_iff]
    by_cases armed : d.modes.mode = mArmed
    · exact .inr (Bool.eq_false_iff.mpr fun live => other ⟨armed, live⟩)
    · exact .inl (decide_eq_false armed)
  rw [setNow, ← startedMoved_eq]
  simp only [modeSet, neither, Bool.false_eq_true, if_false, Nat.add_zero]
  split
  · rfl
  · split <;> rfl

end Set_

/-- Between live modes channels stay as they are, and rods take their roles (R457). -/
theorem modeSet_betweenLive {c : Ctx} {d : Device} (from_ : isLive d.modes.mode = true) (live : isLive (c.p 0 1) = true) : let e := (modeSet.apply c d).dev
    e.modes = (setTransition (setNow c d) d).modes ∧ (∀ k, Placing k e = Placing k d) ∧ ∀ n < 24, (e.rod n).role = d.roleIn (c.p 0 1) n := by
  have goes : (isLive d.modes.mode && isLive (c.p 0 1)) = true := by simp [from_, live]
  have away : ¬(d.modes.mode = mArmed ∧ isLive (c.p 0 1) = true) := fun both => by rw [both.1] at from_; exact absurd from_ (by decide)
  have other : ¬c.p 0 1 = mDrain := fun drains => by rw [drains] at live; exact absurd live (by decide)
  intro e
  have ran : e = _ := modeSet_elsewhere away
  rw [if_neg other, if_pos goes] at ran
  generalize setNow c d = t at ran ⊢
  generalize (d.modeMoves (c.p 0 1)).getD [] = moves at ran
  obtain ⟨modes, rods, placing⟩ := planMoves_keep moves ((setTransition t d).withRoles (c.p 0 1))
  rw [← ran] at modes rods placing
  refine ⟨modes.trans (withRoles_modes ..), fun k => (placing k).trans ?_, fun n low => ?_⟩
  · unfold Placing Device.chan CodingState.chan
    rw [withRoles_channels]
    rfl
  · have role := withRoles_role (c.p 0 1) (setTransition t d) low
    unfold Device.rod CodingState.rod at role ⊢
    rw [rods, role]
    rfl

section Effects
variable {t : Nat} {ring : Fin 4} {entry : Bytes} {s : State}

theorem modeSet_ok (c : Ctx) (d : Device) : (modeSet.apply c d).final.map (·.1) ≠ some stBusy := by
  by_cases leaves : d.modes.mode = mArmed ∧ isLive (c.p 0 1) = true
  · have both : (decide (d.modes.mode = mArmed) && isLive (c.p 0 1)) = true := by simp [leaves]
    simp only [modeSet, both, if_true]
    exact nofun
  · have neither : (decide (d.modes.mode = mArmed) && isLive (c.p 0 1)) = false := by simpa using leaves
    simp only [modeSet, neither, Bool.false_eq_true, if_false]
    split
    · exact nofun
    · split <;> exact nofun

theorem startedStatus_iff {c : Ctx} {least : Nat} : startedStatus c least = stStartedAt ↔ c.effect = 2 ∧ c.effectTime < least := by
  have apart : stOk ≠ stStartedAt := by decide
  unfold startedStatus askedTime
  by_cases timed : c.effect = 2 <;> by_cases near : c.effectTime < least <;> simp [timed, near, apart]

theorem modeSet_effect (ok : passes modeSet t ring entry s = true) (atOnce : modeSet.atOnce (ctxAt modeSet t ring entry s) (takenAt t ring entry s) = true) :
    let c := ctxAt modeSet t ring entry s
    let d := takenAt t ring entry s
    let m := c.p 0 1
    ∃ d', exec (.modeSet t ring entry) s = .next { s with dev := d' } ∧
       (d.modes.mode = mArmed → isLive m = true → d'.modes.mode = mArmed ∧ d'.code = d.code ∧
         ∃ x, d'.modes.transition = some x ∧ x.ctx = some c ∧ x.target = m ∧ x.effect = Nat.max (askedTime c) (d.now + startLead) ∧ x.startMask = c.p 8 8 ∧
           (x.status = stStartedAt ↔ c.effect = 2 ∧ c.effectTime < d.now + startLead)) ∧
       (d.modes.mode = mArmed ∨ isLive d.modes.mode = false → isLive m = false → m ≠ mDrain →
         d'.modes = { d.modes with transition := some (setNow c d) } ∧ d'.code = d.code) ∧
       (isLive d.modes.mode = true → isLive m = true → d'.modes.mode = d.modes.mode ∧ d'.modes.transition = some (setNow c d) ∧
         (∀ k, (d'.chan k).state = (d.chan k).state ∧ (d'.chan k).rodA = (d.chan k).rodA ∧ (d'.chan k).next = (d.chan k).next) ∧
         ∀ n < 24, (d'.rod n).role = d.roleIn m n) ∧
       (m = mDrain → isLive d.modes.mode = true → askedTime c ≤ d.now → d'.modes.mode = mDrain ∧
         (∃ x, d'.modes.transition = some x ∧ x.target = mDrain ∧ x.nextMode = c.p 1 1) ∧
         (∀ k x, Tab.find k d.code.channels = some x → x.state = .live → (d'.chan k).state = .stopping ∧ (d'.chan k).stop = some ((d.chan k).firstOpen d.now))) := by
  intro c d m
  obtain ⟨d', ran, accounts⟩ := answers_of_passes (i := .modeSet t ring entry) rfl modeSet_ok ok atOnce
  have modes : d'.modes = (modeSet.apply c d).dev.modes := AccountsOnly.same accounts (·.modes)
  have code : d'.code = (modeSet.apply c d).dev.code := AccountsOnly.same accounts (·.code)
  refine ⟨d', ran, fun armed live => ?_, fun from_ resting other => ?_, fun from_ live => ?_, fun drains from_ now => ?_⟩
  · rw [modeSet_fromArmed armed live] at modes code
    rw [modes, code]
    exact ⟨armed, rfl, _, rfl, rfl, rfl, rfl, rfl, startedStatus_iff⟩
  · have goes : ¬(isLive d.modes.mode && isLive m) = true := by simp [resting]
    rw [modeSet_elsewhere (fun both => by rw [both.2] at resting; exact nomatch resting), if_neg other, if_neg goes] at modes code
    rw [modes, code]
    exact ⟨rfl, rfl⟩
  · obtain ⟨sameModes, samePlace, roles⟩ := modeSet_betweenLive from_ live
    rw [sameModes] at modes
    refine ⟨by rw [modes]; rfl, by rw [modes]; rfl, fun k => ?_, fun n low => ?_⟩
    · have same : Placing k d' = Placing k (modeSet.apply c d).dev := AccountsOnly.same accounts (Placing k ·)
      have here := same.trans (samePlace k)
      simp only [Placing, Prod.mk.injEq] at here
      exact here
    · have rod : d'.rod n = (modeSet.apply c d).dev.rod n := congrArg (CodingState.rod · n) code
      rw [rod]
      exact roles n low
  · have away : ¬(d.modes.mode = mArmed ∧ isLive m = true) := fun both => by rw [both.1] at from_; exact absurd from_ (by decide)
    rw [modeSet_elsewhere away, if_pos drains, if_pos now] at modes code
    refine ⟨by rw [modes, startDrain_modes], ⟨setNow c d, by rw [modes, startDrain_modes]; rfl, drains, rfl⟩, fun k x found live => ?_⟩
    obtain ⟨state, stop⟩ := startDrain_stops (d := setTransition (setNow c d) d) found live
    have chan : d'.chan k = ((setTransition (setNow c d) d).startDrain).chan k := congrArg (CodingState.chan · k) code
    rw [chan]
    exact ⟨state, stop⟩

end Effects

/-! ### SCHEDULED_START_SET (16 R461) -/

section Rest
variable {deepest_ mask start : Nat} {d : Device}

/-- Mode `m` is no deeper than allowed, and can be left in time. -/
def restOk (deepest_ mask start : Nat) (d : Device) (m : Nat) : Bool := Nat.ble deepest_ m && Nat.ble (d.now + d.wakeTime m mask + wakeGuard) start

theorem restOk_iff {m : Nat} : restOk deepest_ mask start d m = true ↔ deepest_ ≤ m ∧ d.now + d.wakeTime m mask + wakeGuard ≤ start := by
  simp [restOk]

theorem restFor_eq (deepest_ mask start : Nat) (d : Device) : d.restFor deepest_ mask start =
    if restOk deepest_ mask start d mKeep = true then mKeep else if restOk deepest_ mask start d mTimekeep = true then mTimekeep else mArmed := rfl

theorem restFor_mode : let r := d.restFor deepest_ mask start
    (r = mKeep ∨ r = mTimekeep ∨ r = mArmed) ∧ (r ≠ mArmed → restOk deepest_ mask start d r = true) := by
  intro r
  have ran : r = _ := restFor_eq deepest_ mask start d
  split_ifs at ran with keep timekeep <;> rw [ran]
  · exact ⟨.inl rfl, fun _ => keep⟩
  · exact ⟨.inr (.inl rfl), fun _ => timekeep⟩
  · exact ⟨.inr (.inr rfl), fun other => absurd rfl other⟩

/-- A deeper mode than the one taken is not allowed, or cannot be left in time. -/
theorem not_restOk_of_deeper {r : Nat} (least : mKeep ≤ r) (deeper : r < d.restFor deepest_ mask start) : restOk deepest_ mask start d r = false := by
  rw [restFor_eq] at deeper
  split_ifs at deeper with keep timekeep
  · exact absurd deeper (Nat.not_lt.mpr least)
  · have here : r = mKeep := Nat.le_antisymm (Nat.lt_succ_iff.mp deeper) least
    rw [here]
    exact Bool.eq_false_iff.mpr keep
  · have here : r = mKeep ∨ r = mTimekeep := by
      simp only [mKeep, mTimekeep, mArmed] at *
      omega
    rcases here with rfl | rfl
    · exact Bool.eq_false_iff.mpr keep
    · exact Bool.eq_false_iff.mpr timekeep

end Rest

section Command
variable {c : Ctx} {d : Device} {t : Nat} {ring : Fin 4} {entry : Bytes} {s : State}

/-- The schedule that a SCHEDULED_START_SET leaves, before a move to its rest mode begins. -/
def newSchedule (c : Ctx) (d : Device) : Schedule :=
  let rest := d.restFor (c.p 2 1) (c.p 8 8) (c.timeAt 16)
  ⟨c.p 0 1, c.p 2 1, c.p 8 8, c.timeAt 16, rest, c.timeAt 16 - d.wakeTime rest (c.p 8 8) - wakeGuard, false, rest != d.modes.mode⟩

theorem scheduledStartSet_on (on : natBit (c.p 1 1) 0 = true) :
    scheduledStartSet.apply c d = Done.ok { d with modes := { d.modes with schedule := some (newSchedule c d) } }.beginRest := if_pos on

theorem scheduledStartSet_off (off : natBit (c.p 1 1) 0 = false) :
    scheduledStartSet.apply c d = Done.ok { d with modes := { d.modes with schedule := none } } := if_neg (by rw [off]; decide)

theorem scheduledStartSet_ok (c : Ctx) (d : Device) : (scheduledStartSet.apply c d).final.map (·.1) ≠ some stBusy := by
  cases on : natBit (c.p 1 1) 0
  · rw [scheduledStartSet_off on]
    exact nofun
  · rw [scheduledStartSet_on on]
    exact nofun

/-- A rest that begins is owed no more. -/
theorem beginRest_schedule {d : Device} {x : Schedule} (waits : d.modes.schedule = some x) : ∃ owed, d.beginRest.modes.schedule = some { x with owed := owed } := by
  unfold Device.beginRest
  rw [waits]
  dsimp only
  split
  · exact ⟨false, rfl⟩
  · exact ⟨x.owed, waits⟩

theorem scheduledStartSet_effect (ok : passes scheduledStartSet t ring entry s = true) :
    let c := ctxAt scheduledStartSet t ring entry s
    let d := takenAt t ring entry s
    let mask := c.p 8 8
    ∃ d', exec (.scheduledStartSet t ring entry) s = .next { s with dev := d' } ∧ d'.modes.mode = d.modes.mode ∧
      (natBit (c.p 1 1) 0 = false → d'.modes.schedule = none ∧ d'.modes.transition = d.modes.transition) ∧
      (natBit (c.p 1 1) 0 = true → ∃ x, d'.modes.schedule = some x ∧ x.mode = c.p 0 1 ∧ x.mask = mask ∧ x.start = c.timeAt 16 ∧ x.woken = false ∧
        x.wakeAt = x.start - d.wakeTime x.rest mask - wakeGuard ∧ (x.rest = mKeep ∨ x.rest = mTimekeep ∨ x.rest = mArmed) ∧
        (x.rest ≠ mArmed → c.p 2 1 ≤ x.rest ∧ d.now + d.wakeTime x.rest mask + wakeGuard ≤ x.start) ∧
        (∀ r, mKeep ≤ r → r < x.rest → r < c.p 2 1 ∨ x.start < d.now + d.wakeTime r mask + wakeGuard)) := by
  intro c d mask
  obtain ⟨d', ran, accounts⟩ := answers_of_passes (i := .scheduledStartSet t ring entry) rfl scheduledStartSet_ok ok rfl
  have modes : d'.modes = (scheduledStartSet.apply c d).dev.modes := AccountsOnly.same accounts (·.modes)
  refine ⟨d', ran, ?_, fun off => ?_, fun on => ?_⟩
  · cases on : natBit (c.p 1 1) 0
    · rw [modes, scheduledStartSet_off on]
      rfl
    · rw [modes, scheduledStartSet_on on]
      exact beginRest_mode _
  · rw [modes, scheduledStartSet_off off]
    exact ⟨rfl, rfl⟩
  · obtain ⟨owed, schedule⟩ := beginRest_schedule (d := { d with modes := { d.modes with schedule := some (newSchedule c d) } }) rfl
    obtain ⟨rests, wakes⟩ := restFor_mode (deepest_ := c.p 2 1) (mask := mask) (start := c.timeAt 16) (d := d)
    rw [modes, scheduledStartSet_on on]
    refine ⟨_, schedule, rfl, rfl, rfl, rfl, rfl, rests, fun other => restOk_iff.mp (wakes other), fun r least deeper => ?_⟩
    have refused := not_restOk_of_deeper least deeper
    have apart : ¬(c.p 2 1 ≤ r ∧ d.now + d.wakeTime r mask + wakeGuard ≤ c.timeAt 16) := fun both => by rw [restOk_iff.mpr both] at refused; exact nomatch refused
    rcases not_and_or.mp apart with h | h
    · exact .inl (Nat.not_le.mp h)
    · exact .inr (Nat.not_le.mp h)

end Command

/-- Settles O57: the commands by what `apply` makes of them, transitions by what entering a mode leaves of the mode records. -/
theorem modesTakeEffect : Obligations.ModesTakeEffect := by
  unfold Obligations.ModesTakeEffect
  refine ⟨fun t ring entry s => ⟨modeSet_effect, scheduledStartSet_effect, commandDoes_of_ok rfl fun _ _ => rfl, commandDoes_of_ok rfl fun _ _ => rfl,
    commandDoes_of_ok rfl fun _ _ => rfl⟩, fun t s => ⟨?_, ?_, ?_, ?_, ?_, ?_, ?_⟩⟩
  · exact fun x waits ready => ⟨_, rfl, modeTransitionDone_effect waits ready⟩
  · exact fun x waits drains mode over_ => ⟨_, rfl, drainDone_effect waits drains mode over_⟩
  · exact fun x waits due => ⟨_, rfl, scheduledWake_effect waits due⟩
  · exact fun x waits due => ⟨_, rfl, scheduledStartTime_effect waits due⟩
  · intro i next
    obtain ⟨x, found, shallow, wakes, deepest_⟩ := islandIdle_effect i next (s.dev.at_ t)
    exact ⟨_, x, rfl, found, shallow, wakes, deepest_, rfl⟩
  · exact fun i => ⟨_, rfl, find_del_same .., fun k other => find_del_other other ..⟩
  · exact fun a b quiet due => ⟨_, rfl, quietWindowEdge_effect quiet due⟩

end Sys2Proof.Proofs

/-!
PROOF. Chapter 17: an activation in RESCUE (O59).
-/
namespace Sys2Proof.Proofs

open Sys2Proof Sys2Proof.Machine Sys2Proof.Laws

/-! ### FW_ACTIVATE of a boot image in RESCUE (17 R479, R481, R493) -/

/-- FW_ACTIVATE of kind 2, the boot image. -/
def activateEntry : Bytes := wrLE 2 0x0C03 ++ wrLE 22 0 ++ wrLE 1 2 ++ wrLE 39 0

/-- The module in RESCUE, with a boot image staged. -/
def rescueStaged : Device :=
  { Device.reset with
    modes := { ModeState.reset with mode := mRescue }
    serv := { ServState.reset with images := [(2, { ImageKind.reset with staged := true })] } }

theorem fwActivate_ok (c : Ctx) (d : Device) : (fwActivate.apply c d).final.map (·.1) ≠ some stBusy := by
  simp only [fwActivate]
  split
  · exact nofun
  · split <;> exact nofun

/-- In RESCUE, where no firmware is restarted, an activation switches the slots of its kind at once and nothing is left to do. -/
theorem fwActivate_rescue {c : Ctx} {d : Device} (rescue : d.rescue = true) (other : c.p 0 1 ≠ 4) :
    (fwActivate.apply c d).dev.serv.activating = d.serv.activating := by
  simp only [fwActivate, rescue, Bool.not_true, Bool.false_and, Bool.false_eq_true, if_false, if_neg other]
  rfl

/-- Refutes O59: its clause on FW_ACTIVATE leaves the slots of kinds 2 and 3 to a restart that is arranged. In RESCUE, which carries FW_ACTIVATE out, the activation
switches the slot of the boot image at its answer, and no restart is arranged. -/
theorem not_serviceTakesEffect : ¬ Obligations.ServiceTakesEffect := by
  unfold Obligations.ServiceTakesEffect
  intro effects
  obtain ⟨commands, -⟩ := effects
  obtain ⟨-, -, activates, -⟩ := commands 0 2 activateEntry ⟨rescueStaged, []⟩
  have passes_ : passes fwActivate 0 2 activateEntry ⟨rescueStaged, []⟩ = true := by decide
  have kind : (ctxAt fwActivate 0 2 activateEntry ⟨rescueStaged, []⟩).p 0 1 = 2 := by decide
  obtain ⟨d', ran, arranged, -⟩ := activates passes_ (by decide)
  obtain ⟨-, -, activating⟩ := arranged (.inl kind)
  obtain ⟨e, answered, accounts⟩ := answers_of_passes (i := .fwActivate 0 2 activateEntry) rfl fwActivate_ok passes_ (by decide)
  obtain rfl : d' = e := congrArg State.dev (Host.Outcome.next.inj (ran.symm.trans answered))
  have none_ := (AccountsOnly.same accounts (·.serv.activating)).trans (fwActivate_rescue (by decide) (by rw [kind]; decide))
  exact nomatch none_.symm.trans activating

end Sys2Proof.Proofs
